-- ==== Sys2Proof/Word.lean ====
section
/-! DEFINITION. The word types of the NX-4816: 48-bit words, 8-byte slots, 64-byte lines, bytes. -/

namespace Sys2Proof

/-- A word is 48 bits (R9). -/
abbrev Word := BitVec 48

/-- The data of one 64-byte line (R60); byte `n` of the line is bits `8n+7..8n`. -/
abbrev Line := BitVec 512

/-- One byte. -/
abbrev Byte := BitVec 8

end Sys2Proof
end

