-- ==== Sys2Proof/Syntax.lean ====
section
/-! DEFINITION. The commands of the NX-4816, one constructor per row of the opcode table, with the operands the
block cannot know of itself: what stands on its pins, what a measurement reads, what a message carries. -/

namespace Sys2Proof

/-- Energy module ports (R311). -/
inductive PortId where
  | a | b
deriving DecidableEq, Repr

/-- One installed module as its SPD describes it (R79, R80, R101). -/
structure Dimm where
  channel : Nat
  slot : Nat
  /-- Code of Table 3-12: 0 = 32, 1 = 64, 2 = 128, 3 = 256 GiB. -/
  cap : Nat
  /-- RDMM type, rank count and device density as SPD codes. -/
  type : Nat
  ranks : Nat
  density : Nat
  serial : Nat
  /-- Rate steps supported, MT/s. -/
  rates : List Nat
deriving DecidableEq, Repr

/-- A flash target as identification finds it (R245). -/
structure Target where
  port : Nat
  jedec : Nat
  unique : Nat
  luns : Nat
  /-- It answers and trains. -/
  answers : Bool := true
deriving DecidableEq, Repr

/-- A vendor command packet as it arrives (R422, R423, Table 14-2). `carried` is the number of bytes carried after
the header; `mailbox` is the mailbox opcode on a CXL mailbox; `fm` marks the fabric manager's packets. -/
structure Pkt where
  transport : Nat
  ld : Nat
  fm : Bool := false
  opcode : Nat
  tag : Nat := 0
  flags : Nat := 0
  length : Nat
  carried : Nat
  mailbox : Nat
  /-- Parameter slots, 64 bits each (R9). -/
  slots : List Nat
  /-- Fewer than the 8 bytes of a header arrived. -/
  short : Bool := false
  /-- SRC and MSEQ of the CMD message that carried it, on transport 4 (Table 15-3). -/
  member : Nat := 0
  mseq : Nat := 0
deriving DecidableEq, Repr

/-- The header of a Mirsen message (R453, Table 15-3) and the port it arrived on or leaves by. -/
structure MHdr where
  port : Nat := 0
  toRole : Bool := false
  flood : Bool := false
  reply : Bool := false
  src : Nat := 0
  dst : Nat := 0
  epoch : Nat := 0
  hops : Nat := 0
  mseq : Nat := 0
  domain : Nat := 0
deriving DecidableEq, Repr

/-- A valid module ID record (R312, Table 10-2). -/
structure ModId where
  tableId : Nat
  serial : Nat
deriving DecidableEq, Repr

/-- What the parity check of a wheel shows (Table 9-8a). -/
inductive ParityFind where
  | none | p | q | data | other
deriving DecidableEq, Repr

/-- Who sends a standard CXL command or an FM API command (R422): mailbox 0 or 1, or 2 or 3 for MCTP; the logical device;
whether the fabric manager sends it. -/
structure Cxl where
  transport : Nat
  ld : Nat
  fm : Bool := false
deriving DecidableEq, Repr

/-- Transports of SPDM (R73): DOE on PF0, MCTP on PCIe VDM, MCTP on I3C. -/
inductive SpdmVia where
  | doe | vdm | i3c
deriving DecidableEq, Repr

/-- Messages of CXL_IDE_KM and IDE_KM (R70): a key programmed, a stream started or stopped. `mem` is the CXL.mem stream;
otherwise `stream` is CXL.io's link stream, 0, or a selective one. -/
inductive IdeMsg where
  | query
  | keyProg (mem : Bool) (stream : Nat)
  | setGo (mem : Bool) (stream : Nat) (skid : Bool)
  | setStop (mem : Bool) (stream : Nat)
deriving DecidableEq, Repr

/-- An error found on the way of a DST access (R85, R92): in the entry's words, or in its bitmap slot. -/
inductive DstErr where
  | none
  | entry
  | bitmap
deriving DecidableEq, Repr

/-- An error a host's read finds in its line (R86, R88): none; one corrected, in a rank and row of the line's module; or one
that is not corrected. -/
inductive ReadErr where
  | none
  | corrected (rank row : Nat)
  | uncorrected
deriving DecidableEq, Repr

/-- What a patrol scrub's line shows (R85 to R88): nothing; a correctable error with its row; an uncorrectable line at a
DPA; or, in the Basin's own areas of the reserve, a bitmap slot of a segment, a line of the overflow bitmap or of the
heat record by its first segment, a line of the DST shadow by its first entry. -/
inductive ScrubFind where
  | clean
  | corrected (channel slot rank row : Nat)
  | badLine (dpa : Nat)
  | bitmap (seg : Nat)
  | overflow (first : Nat)
  | heat (first : Nat)
  | shadow (first : Nat)
deriving DecidableEq, Repr

/-- The commands (opcode_table.json), in two groups, each in the table's order. -/
inductive Instr where
  /-- The governing input reading has stood at or above RECOVERY_THRESHOLD for RECOVERY_TIME; the input counts
  as present for the vault, a hold, SEALED or AON_ONLY (R195). `mvA` and `mvB` are the readings of the two
  chains, mV. -/
  | inputPresent (mvA mvB : Nat)
  /-- The input has been below EW_THRESHOLD for EW_DEGLITCH: the ride-through timer starts, the converter goes
  to assist, and PRE_SPILL is entered when a dirty set exists (R168). `mvA` and `mvB` are the readings of the
  two chains, mV. -/
  | earlyWarning (mvA mvB : Nat)
  /-- After an early warning, the input has stood at or above RECOVERY_THRESHOLD for RECOVERY_TIME: the device
  returns to its previous state and the pre-spill undo begins (R168). `mvA` and `mvB` are the readings of the
  two chains, mV. -/
  | recovery (mvA mvB : Nat)
  /-- The input has been below COMMIT_THRESHOLD for 2 µs, which raises commit cause 0x1 (R168). `mvA` and
  `mvB` are the readings of the two chains, mV. -/
  | undervoltageCommit (mvA mvB : Nat)
  /-- The two input chains have differed by more than 120 mV for 100 µs: the lower reading governs and an
  INPUT_MON fault is raised (R500). `mvA` and `mvB` are the readings of the two chains, mV. -/
  | chainDisagreement (mvA mvB : Nat)
  /-- An input chain reads outside 0 V to 16 V or stops sampling: the other chain governs, and when both have
  failed a FATAL commit follows (R171). `a` says that it is chain A. -/
  | chainFailure (a : Bool)
  /-- The GPF window ends at the earliest of GPF_WINDOW, a host GPF Phase 2 timeout, or completion of Phase 2
  to every host that started GPF (R24). `tFlash` is the hottest flash package, °C. -/
  | gpfWindowEnd (tFlash : Int)
  /-- A CXL.mem full-line write: the dirty bit is set or the segment goes to overflow, the write completes and
  is accepted, or is answered under R57 (R13). `ld` is the logical device, `poison` that the data is poisoned,
  `err` an error found in the segment's DST entry or bitmaps. -/
  | memwr (ld hpa tag : Nat) (data : Line) (poison : Bool) (err : DstErr)
  /-- A CXL.mem partial write, handled as a write to its page and completed (R13). `en` enables bytes, `poison`
  says that the data is poisoned, `err` is an error found in the segment's DST entry or bitmaps. -/
  | memwrptl (ld hpa tag : Nat) (data : Line) (en : BitVec 64) (err : DstErr) (poison : Bool := false)
  /-- A CXL.mem read, answered within the latency bound, or with poisoned data for a DPA that is not served
  (R67). `lat` is the read's latency in ns, `err` the error found in the line. -/
  | memrd (ld hpa tag lat : Nat) (err : ReadErr)
  /-- A CXL.mem MemRdData request, served as a read (R60). `lat` is the read's latency in ns, `err` the
  error found in the line. -/
  | memrddata (ld hpa tag lat : Nat) (err : ReadErr)
  /-- A CXL.mem request of another opcode, answered as unsupported and counted as a LOG fault (R60). -/
  | unsupportedMemRequest (tag : Nat)
  /-- A host's GPF Phase 1 request is completed with no flush work, and that host has started GPF (R25). -/
  | gpfPhase1 (ld : Nat)
  /-- A host's GPF Phase 2 request is completed, which may end the GPF window (R25). `tFlash` is the hottest
  flash package, °C. -/
  | gpfPhase2 (ld : Nat) (tFlash : Int)
  /-- The link trains at an allowed width and rate, and CXL.mem is enabled only at 16 GT/s or more (R41).
  `rate` is in GT/s, 2 for 2.5. -/
  | linkTrained (width rate : Nat) (flit256 lowLat : Bool)
  /-- The link goes to Recovery or down: requests not completed are not accepted, and every control-plane
  activity continues (R43). `down` is the link down, otherwise Recovery. -/
  | linkDown (down : Bool)
  /-- FLR of PF1: mailboxes, direct registers and MSI-X reset; journalled commands run on with their replies
  discarded (R45). -/
  | flrPf1 (ld : Nat)
  /-- CXL Reset: every function returns to defaults, decoders are uncommitted, and the volatile partition is
  cleared under Mem Clr Enable (R46). `memClr` is Mem Clr Enable. -/
  | cxlReset (memClr : Bool)
  /-- A CXL_IDE_KM or IDE_KM key programming message in a secured SPDM session (R70). `via` is the transport. -/
  | cxlIdeKm (session : Nat) (m : IdeMsg) (via : SpdmVia := .doe)
  /-- SPDM NEGOTIATE_ALGORITHMS request (R73). `offered` says that the requester offers the algorithms of
  Table 2-10. -/
  | negotiateAlgorithms (offered : Bool) (via : SpdmVia := .doe)
  /-- SPDM GET_CERTIFICATE request (R73). -/
  | getCertificate (slot : Nat) (via : SpdmVia := .doe)
  /-- SPDM CHALLENGE request (R73). -/
  | challenge (slot : Nat) (via : SpdmVia := .doe)
  /-- SPDM GET_MEASUREMENTS request for the five measurements (R73). -/
  | getMeasurements (index : Nat) (via : SpdmVia := .doe)
  /-- SPDM KEY_EXCHANGE request, opening one of up to 4 sessions (R73). -/
  | keyExchange (slot : Nat) (via : SpdmVia := .doe)
  /-- SPDM FINISH request (R73). -/
  | finish (session : Nat) (via : SpdmVia := .doe)
  /-- SPDM HEARTBEAT request (R73). -/
  | heartbeat (session : Nat) (via : SpdmVia := .doe)
  /-- SPDM KEY_UPDATE request (R73). -/
  | keyUpdate (session : Nat) (via : SpdmVia := .doe)
  /-- SPDM END_SESSION request (R73). -/
  | endSession (session : Nat) (via : SpdmVia := .doe)
  /-- CXL Identify Memory Device status command (R508). -/
  | identifyMemoryDevice (c : Cxl)
  /-- CXL Get Partition Info status command (R508). -/
  | getPartitionInfo (c : Cxl)
  /-- CXL Get Health Info, reporting Life Used from ENDUR_LIFE_USED capped at 100 (R162). -/
  | getHealthInfo (c : Cxl)
  /-- CXL Get Alert Configuration status command (R508). -/
  | getAlertConfiguration (c : Cxl)
  /-- CXL Get Shutdown State, returning the stored state unchanged (R31). -/
  | getShutdownState (c : Cxl)
  /-- CXL Set Shutdown State, stored persistently, with no effect on the Dirty Shutdown Count (R31). -/
  | setShutdownState (c : Cxl) (dirty : Bool)
  /-- CXL Get Security State command (R74). -/
  | getSecurityState (c : Cxl)
  /-- CXL Set Passphrase for the user or master passphrase (R74). -/
  | setPassphrase (c : Cxl) (master : Bool) (cur new : BitVec 256)
  /-- CXL Disable Passphrase command (R74). -/
  | disablePassphrase (c : Cxl) (master : Bool) (cur : BitVec 256)
  /-- CXL Unlock: on success the persistent partition comes online and a waiting restore proceeds; after five
  failures the passphrase is blocked (R235). -/
  | unlock (c : Cxl) (pass : BitVec 256)
  /-- CXL Freeze Security State command (R74). -/
  | freezeSecurityState (c : Cxl)
  /-- CXL Passphrase Secure Erase, a whole-device erase run in MAINTENANCE with no decoder committed (R76). -/
  | passphraseSecureErase (c : Cxl) (master : Bool) (pass : BitVec 256)
  /-- CXL Sanitize, a whole-device erase accepted only with no decoder committed, or in a population, flash or
  NV hold (R76). -/
  | sanitize (c : Cxl)
  /-- CXL Secure Erase, a whole-device erase run in MAINTENANCE (R76). -/
  | secureErase (c : Cxl)
  /-- Sanitize or an erase finishes: flash is erased, an empty checkpoint is written, and the NV Store group
  sets SHUTDOWN_RECORD to NONE (R506). `bw` is the flash bandwidth where it ends a FLASH_HOLD. -/
  | sanitizeComplete (bw : Nat)
  /-- CXL Get Event Records from one of the event logs (R64). `log` is CXL's number, 0 Informational to 4
  Dynamic Capacity. -/
  | getEventRecords (c : Cxl) (log : Nat)
  /-- CXL Clear Event Records command (R64). The `n` oldest records are named, or all. -/
  | clearEventRecords (c : Cxl) (log n : Nat) (all : Bool)
  /-- CXL Get Event Interrupt Policy command (R508). -/
  | getEventInterruptPolicy (c : Cxl)
  /-- CXL Set Event Interrupt Policy, which may move the log vectors 2 to 6 (R380). `vs` are the vectors of
  the five logs. -/
  | setEventInterruptPolicy (c : Cxl) (vs : List Nat)
  /-- CXL Get FW Info, reporting two slots and the active slot (R483). -/
  | getFwInfo (c : Cxl)
  /-- CXL Transfer FW, which returns Unsupported (R483). -/
  | transferFw (c : Cxl)
  /-- CXL Activate FW, which returns Unsupported (R483). -/
  | activateFw (c : Cxl)
  /-- CXL Get Supported Logs command (R508). -/
  | getSupportedLogs (c : Cxl)
  /-- CXL Get Log command (R508). -/
  | getLog (c : Cxl)
  /-- CXL Get Timestamp command (R508). -/
  | getTimestamp (c : Cxl)
  /-- CXL Get Poison List, returning merged ranges up to POISON_LIST_MAX with an overflow flag (R62). `start`
  and `len` are the range asked for, bytes of the logical device. -/
  | getPoisonList (c : Cxl) (start len : Nat)
  /-- CXL Inject Poison, accepted in ONLINE only, which marks the line and dirties its page (R63). -/
  | injectPoison (c : Cxl) (dpa : Nat)
  /-- CXL Clear Poison, which clears the line's poison and dirties its page (R63). -/
  | clearPoison (c : Cxl) (dpa : Nat) (data : Line)
  /-- CXL Get Scan Media Capabilities command (R61). -/
  | getScanMediaCapabilities (c : Cxl)
  /-- CXL Scan Media, which finds every poisoned line (R61). -/
  | scanMedia (c : Cxl) (start len : Nat)
  /-- CXL Get Scan Media Results command (R61). -/
  | getScanMediaResults (c : Cxl)
  /-- CXL Get Dynamic Capacity Configuration command (R508). -/
  | getDynamicCapacityConfiguration (c : Cxl)
  /-- CXL Get Dynamic Capacity Extent List command (R508). -/
  | getDynamicCapacityExtentList (c : Cxl)
  /-- The host accepts, declines or wrongly requests offered extents; an accepted extent is served from that
  moment (R54). Extents by number. -/
  | addDynamicCapacityResponse (c : Cxl) (accepted declined : List Nat)
  /-- The host releases an accepted extent; it stays persistent and is offered again at the next RESTORING
  (R55). Extents by number. -/
  | releaseDynamicCapacity (c : Cxl) (es : List Nat)
  /-- FM API Set LD Allocations over MCTP, accepted only while SHUTDOWN_RECORD reads NONE (R58). `l` gives
  volatile (64 GiB) and persistent (GiB) allocations from logical device `start` on. -/
  | setLdAllocations (c : Cxl) (start : Nat) (l : List (Nat × Nat))
  /-- Patrol scrub reads the next line, writes back corrected data, and counts row and rank errors (R87). `f`
  is what the line shows. -/
  | patrolScrubStep (f : ScrubFind)
  /-- A soft post-package repair of a row that reached ROW_CE_THRESHOLD finishes, and the row is recorded in
  the NV Store (R88). `row` is the row's key, `left` says that the rank has spare rows left. -/
  | softPprComplete (row : Nat) (left : Bool)
  /-- An uncorrectable line of a clean page is re-read from the flash image and rewritten within 1 ms (R86).
  `line` is the line's number in the DPA range. -/
  | cleanLineRepair (line : Nat)
  /-- A module stops answering commands, which raises a FATAL BASIN_CHn fault (R103). -/
  | dramCommandTimeout (channel slot : Nat)
  /-- A write of DST_DIAG_INDEX latches that entry into DST_DIAG_WORD0 and DST_DIAG_WORD1 (R104). -/
  | dstDiagIndexWrite (v : Nat)
  /-- SPD is read and every channel trained in BRINGUP; the population is accepted or put in POPULATION_HOLD
  under Table 3-9 (R101). `dimms` are the modules SPD shows, `failed` the channels and slots whose training
  failed. -/
  | dramTrainingComplete (dimms : List Dimm) (failed : List (Nat × Nat))
  /-- The Weir's first re-plan in BRINGUP takes any accepted measurement and enters PLANNING, or redundant
  mode (R129). `temp` (°C) is T_now of R115, `differs` says that the duplicate
  computation disagrees, `dup` is its raw ceiling (MiB) then, `readable` says that the latest manifest reads. -/
  | firstReplan (temp : Int) (differs : Bool) (dup : Nat) (readable : Bool)
  /-- WEIR_PERIOD expires: the ceiling, target fill, eviction demand, margin and ride-through are recomputed
  (R118). As for FIRST_REPLAN. -/
  | periodicReplan (temp : Int) (differs : Bool) (dup : Nat)
  /-- A re-plan within 1 ms of a module, E_use, L_now, cap, parameter or PRE_SPILL-exit trigger (R118). As for
  FIRST_REPLAN. -/
  | triggeredReplan (temp : Int) (differs : Bool) (dup : Nat)
  /-- The Rill captures a write-back candidate as a large, fold or fine capture, updates the DST and issues
  its strips (R136). `e` is an error found in the candidate's entry or bitmap slot, `ue` the lines, by device
  address, whose reading shows an uncorrectable error (R98). -/
  | rillCapture (e : DstErr) (ue : List Nat := [])
  /-- A flash strip program completes; a slow program counts as a slow event (R147). `us` is the program's
  time, `syndrome` says that the encoder's output had a syndrome other than zero (R246). -/
  | stripProgramDone (wheel column us : Nat) (syndrome : Bool := false)
  /-- A strip program reports failure: the block is retired and the open wheel is voided or handled under R189
  to R191 (R148). -/
  | stripProgramFailed (wheel column : Nat)
  /-- A wheel's P and Q are programmed and its CLOSE descriptor journalled, which completes the captures whose
  wheels are all closed (R147). `n` is the wheel. -/
  | wheelClosed (n : Nat)
  /-- An open wheel has received no unit for RILL_WHEEL_IDLE, so it is filled with fill units and closed
  (R147). `n` is the wheel. -/
  | wheelIdleTimeout (n : Nat)
  /-- CKPT_PERIOD or CKPT_BYTES is reached, and a full or delta checkpoint with the heat record is written
  (R155). `period` says that CKPT_PERIOD is what was reached, `failed` that a program at the first position
  failed. -/
  | checkpointWrite (failed : Bool) (period : Bool := true)
  /-- In LOADING, the maps are loaded by Table 5-6, units replayed under R158, WRITE_SEQ resumed and valid
  counts rebuilt (R157). `badC` are checkpoints that do not verify, `badU` units whose CRC fails. -/
  | mapLoad (badC : List Nat) (badU : List (Nat × Nat))
  /-- An uncorrectable map line in DRAM causes the whole map to be reloaded while completions and relocations
  are held (R159). `done` says that the reload ends, otherwise an uncorrectable line starts one. -/
  | mapReload (done : Bool) (badC : List Nat) (badU : List (Nat × Nat))
  /-- REFORMAT command: an orderly shutdown, then a rewrite of the image under a new format epoch (R142). -/
  | reformat (p : Pkt)
  /-- The next run of the drain, in slot set and heat order, is written to stream V; close-out is judged
  before each strip (R186). `cut` is the number of the run's pages issued when close-out arrives within it, `err` an error found in
  the segment's entry or bitmap slot, `ue` the lines whose reading shows an uncorrectable error (R98). -/
  | drainRun (cut : Option Nat) (err : DstErr := .none) (ue : List Nat := [])
  /-- Every wheel holding a slot set's pages has closed: the set enters self-refresh, and the Basin gives slot
  power-off leave (R99). `k` is the slot set. -/
  | slotSetDrained (k : Nat)
  /-- In PRE_SPILL or VAULTING, a strip has not finished within SLOW_SPOKE_FACTOR times nominal: it becomes an
  erasure and its target is dropped (R189). -/
  | slowSpokeTimeout (wheel column : Nat)
  /-- Step 3 completes: the bitmaps, heat, index, shortfall and erasure lists are programmed, and the highest
  slot set is reported drained (R196). `tMed` is the drain's median SLC program time, µs. -/
  | vaultMetadataWritten (tMed : Nat)
  /-- Step 4 completes; step 5 begins, with the hold energy check and E_CLOSE (R196). The copies of the
  journal strip that were programmed. -/
  | journalDescriptorsWritten (copyA copyB : Bool)
  /-- The manifest copies reach their journal spokes or exhaust four attempts, and step 6 begins (R198). `failA`
  and `failB` say that the first attempt at a copy fails, `again` are the numbers, from 0, of the attempts made again that
  fail. -/
  | manifestWritten (failA failB : Bool) (again : List Nat)
  /-- The rehearsal's wheels are programmed, medians are recorded, slow marks are set or cleared, and its
  blocks are erased (R205). The median time in µs, the ports found slow, and those that failed SLC-mode entry.
  -/
  | rehearsalComplete (tMed : Nat) (slow noSlc : List Nat)
  /-- After population and map load, the Siphon validates the hold and the manifests, chooses a path by Table
  7-4, and advances the DSC (R217). `badA` and `badB` are the MANIFEST_SEQs whose first and second copy are
  not valid as read, `bitmaps` that extents 0 to 2 read back, `token` that the hold token line does. -/
  | startPathChoice (badA badB : List Nat) (bitmaps token : Bool)
  /-- An extent's fetch completes; in order it comes online, is offered, and the next fetch is issued (R229).
  `bad` are the pages (segment, page) unreadable after reconstruction, `rebuilt` that some page was
  reconstructed. -/
  | extentFetchComplete (e : Nat) (bad : List (Nat × Nat)) (rebuilt : Bool)
  /-- A settle of a segment, by large entry, fine entries or fold, is mapped (R231). `seg` is the segment. -/
  | settleComplete (seg : Nat)
  /-- Flash parts are identified and trained and the block table loaded; the population is accepted or put in
  FLASH_HOLD (R245). `found` are the targets found, `failed` the channels whose calibration or training
  failed, `bad` factory bad blocks of parts not seen before, `bw` (MB/s) the flash bandwidth of the population. -/
  | flashIdentify (found : List Target) (failed bad : List Nat) (bw : Nat)
  /-- A codeword read completes through tracking, retries and soft decode, or reports unreadable, and updates
  read counts (R248). `erased` says that 98 % of the bits read 1, `hit` is the step whose hard decode succeeds
  (0 the tracked levels), `soft` what soft decode gives, `crcBad` that the decoded unit fails its CRC (R143),
  `low` and `high` the corrected bits of R249. -/
  | codewordRead (wheel column unit : Nat) (erased : Bool) (hit : Option Nat) (soft : Bool) (low high : Nat)
      (crcBad : Bool := false)
  /-- A block due under RETENTION_PERIOD is read in full and queued for refresh when needed (R251). `key` is
  the block, `rber` its highest raw bit error rate × 10⁶, `soft` says that a codeword needed soft decode,
  `bad` are unreadable units, row and position. -/
  | retentionScrub (key rber soft : Nat) (bad : List (Nat × Nat))
  /-- A block erase ends: the block is ERASED, or RETIRED on failure (R262). `key` is the block. -/
  | eraseComplete (key : Nat) (ok : Bool)
  /-- A LUN or target misses TARGET_TIMEOUT; repeated misses retire it, or disable the channel (R256). With
  `lun` none every LUN of the target is concerned. -/
  | targetTimeout (port : Nat) (lun : Option Nat)
  /-- 1,024 descriptors are pending, JOURNAL_BATCH has passed, or a manifest is due, so a journal strip is
  issued in two copies (R281). `failA` and `failB` are failed attempts of the two copies, four at most. -/
  | journalStripIssue (failA failB : Nat)
  /-- In LOADING, each stream's wheels are recovered from the journal or by parity_test (R287). `head` says
  that the journal head was found, `badA` and `badB` are strips (JSEQ) whose copies do not read, `void` wheels
  parity_test voids, `bad` wheels and columns with unreadable units. -/
  | wheelRecovery (head : Bool) (badA badB void : List Nat) (bad : List (Nat × Nat))
  /-- A band column is trued onto a spare block, and its SUBST record switches reads to it (R294). `bad` are
  units found unreadable, row and column × 16 + position. -/
  | trueColumn (bad : List (Nat × Nat))
  /-- Every fold for a lost wheel has closed, so its LOST record becomes FOLDED (R296). `n` is the wheel. -/
  | lostFoldsComplete (n : Nat)
  /-- SCRUB_DEEP reads every strip of a closed wheel and applies the refresh rules (R253). `n` is the wheel,
  `weak` columns whose blocks fail R251, `bad` unreadable units as column × 16 + position, `find` what the
  parity check shows. -/
  | scrubDeepWheel (n : Nat) (weak bad : List Nat) (find : ParityFind) (soft : Nat := 0)
  /-- At a BRINGUP from OFF, the module tables and learned records are loaded from the NV Store (R310). `torn`
  names the ports whose newest learned record is torn. -/
  | cisternTableLoad (torn : List PortId)
  /-- A port's voltage and temperature sample, with states, E_use and E_rem recomputed and end of discharge
  and faults judged (R315). `v` is the reading in 0.5 mV steps, `temp` the NTC's °C, `moved` whether the sense
  bias moved the reading, `iChg` the programmed charge limit in mA, `differs` that the duplicate computation
  differs, `dup` its E_use and E_rem then. -/
  | cisternSample (x : PortId) (v temp : Int) (moved differs : Bool) (dup : Nat × Nat)
  /-- The IWAKE comparator trips, waking the estimator and marking a discharge (R317). -/
  | iwakeTrip (x : PortId)
  /-- 1 s after no discharge condition holds, the port's discharge ends (R316). -/
  | dischargeEnd (x : PortId)
  /-- A port at rest for RELAX_TIME becomes relaxed and CONFLICT clears (R316). -/
  | relaxTimeExpiry (x : PortId)
  /-- HOLDUP_CHGDONE reports charge termination at V_FULL for a port (R321). -/
  | chargeTermination (x : PortId)
  /-- The module ID read completes and identity resolves by Table 10-7b (R332). `id` is the ID record when it
  is valid. -/
  | moduleIdRead (x : PortId) (id : Option ModId)
  /-- Current limit with low voltage persists for SHORT_TIME, so the port is LATCHED_OFF (R333). -/
  | shortTimeExpiry (x : PortId)
  /-- LEARN_PERIOD has passed since a port's last accepted learn, so LEARN is requested (R326). -/
  | learnPeriodExpiry (x : PortId)
  /-- LEARN_START command, requesting a learn cycle for a port (R326). -/
  | learnStart (p : Pkt)
  /-- A learn rest of LEARN_REST ends; the learn load switches on, or the result is judged, or the final check
  follows (R327). -/
  | learnRestExpiry (x : PortId)
  /-- RES_CHECK_PERIOD has passed, so a relaxed READY port starts a 50 ms resistance pulse (R329). -/
  | resCheckPeriodExpiry (x : PortId)
  /-- The 50 ms pulse ends; r_step updates RES_FACTOR (R329). -/
  | resCheckPulseEnd (x : PortId)
  /-- 60 s after switch-off, τ is taken and compared with TAU_RELAX (R329). `tau` is τ in 0.1 s. -/
  | resCheckReboundEnd (x : PortId) (tau : Nat)
  /-- The one-second retry appends a pending learned record when the input is healthy and quiet (R330). -/
  | learnedRecordRetry (x : PortId)
  /-- PACK_REPLACED command: the port's record is set aside and a learn is requested (R332). -/
  | packReplaced (p : Pkt)
  /-- PORT_CLEAR command, clearing a LATCHED_OFF port to IDENTIFYING (R333). -/
  | portClear (p : Pkt)
  /-- POWER_ON command over MCTP in AON_ONLY, starting POWER_UP (R347). -/
  | powerOn (p : Pkt)
  /-- A deglitched PG of an on-step rises, and the stability timer starts or restarts (R344). -/
  | pgRise (slot : Nat)
  /-- The step's stability timer expires, so the step completes and its slots are running (R344). `slot` names
  a retry's or a restart's step by a slot of it; none is the sequence's step. -/
  | stabilityTimerExpiry (slot : Option Nat)
  /-- A PG misses its PG_TIMEOUT: an on-step fails, or an off-step raises RAIL_STUCK_ON and continues (R344).
  -/
  | pgTimeout (slot : Nat)
  /-- A deglitched PG low: a chatter event during a step, or a drop on a running slot handled by its REACTION
  (R350). -/
  | pgDrop (slot : Nat)
  /-- A retried slot's off time ends and it is raised again as a one-slot on-step (R350). -/
  | retryOffTimeExpiry (slot : Nat)
  /-- GROUP_RESTART command, raising a shut-down group as an on-step (R350). -/
  | groupRestart (p : Pkt)
  /-- RST_PULSE command, asserting a reset output for its STRETCH (R356). -/
  | rstPulse (p : Pkt)
  /-- A reset output's STRETCH ends, and it is released (R356). `n` is the output. -/
  | resetStretchExpiry (n : Nat)
  /-- ORDERLY_SHUTDOWN command: the Rill enters FLUSHING under FLUSH_TIMEOUT (R348). -/
  | orderlyShutdown (p : Pkt)
  /-- PMBUS_POLL expires and each slave's status and telemetry are read (R353). `vals` gives for each slave
  that answered STATUS_WORD, READ_VIN, READ_VOUT, READ_IOUT and READ_TEMPERATURE_1. -/
  | pmbusPollExpiry (vals : List (Nat × List Nat)) (modes : List (Nat × Nat) := [])
  /-- PMB_ALERT_N asserts, and STATUS_WORD is read (R353). `words` gives the STATUS_WORD of each slave. -/
  | pmbusAlert (words : List (Nat × Nat))
  /-- A PMBus transaction ends, with retries on NAK, PEC error or stretch timeout (R354). `ok` is whether the
  attempt succeeded, `pec` that a failed one was a PEC error. -/
  | pmbusTransactionDone (slave : Nat) (ok pec : Bool)
  /-- A VDD_CORE target is written to VOUT_COMMAND in a clamped step, at least 1 ms apart (R355). `mv` is the
  target in mV. -/
  | vcoreTargetPosted (mv : Nat)
  /-- 2 ms after a VOUT_COMMAND write, READ_VOUT is checked against the value written (R355). `mv` is what
  READ_VOUT shows, mV. -/
  | voutReadback (mv : Nat)
  /-- HOLDUP_FAULT_N or HOLDUP_PG indicates a failed converter: ports go ZERO and a fault is raised (R359).
  `faultN` and `pg` are the levels of HOLDUP_FAULT_N and HOLDUP_PG. -/
  | holdupFault (faultN pg : Bool)
  /-- A fault report reaches the collector: status, severity, first fault, counter, event, record, ALIVE and,
  for FATAL, the commit (R372). `sev` is the 3-bit severity code, `chk` the checker, `inj` the INJECTED flag.
  -/
  | faultReport (src sev chk : Nat) (inj : Bool)
  /-- A write of 1s to FC_STATUS clears those bits and their severity fields (R366). -/
  | fcStatusWrite (v : Nat)
  /-- FAULT_RESTART command, leaving the fault state as an exit under R375 (R376). -/
  | faultRestart (p : Pkt)
  /-- A write of FI_CTRL arms fault injection on a chosen checker (R377). -/
  | fiCtrlWrite (v : Nat)
  /-- A write of 1s to an EV_STATUS word clears those event bits (R379). `k` is the word. -/
  | evStatusWrite (k v : Nat)
  /-- Delivery becomes possible and held MSI-X messages are sent, one per vector (R381). MSI-X of
  logical device `ld`'s PF1 is enabled and not function-masked, `masked` are the vectors masked in its table. -/
  | heldMsixDelivery (masked : List Nat) (ld : Nat := 0)
  /-- EV_ALERT_MIN ends for an event that recurred, so one MCTP alert with a recurrence count is sent (R383).
  `n` is the event. -/
  | evAlertIntervalExpiry (n : Nat)
  /-- A write of REC_CURSOR loads the record of lowest SEQ at or above it into the window (R389). -/
  | recCursorWrite (v : Nat)
  /-- EVREC_READ command, returning a checked copy of the record at or above a SEQ (R391). -/
  | evrecRead (p : Pkt)
  /-- The NV layer resolves the vault area, CKPT_LOC, LAYOUT, populations and FW_BOOT under R402 and R403
  (R477). `ownA` and `ownB` say whether each device holds a valid header with this part's ID. -/
  | earlyMount (ownA ownB : Bool)
  /-- The NV layer resolves every other record, applies the configuration image and deltas, and resumes the
  recorder (R403). `imgOk` is whether the governing configuration image reads on A or B, `torn` names the
  counters whose next cell was cut. -/
  | fullMount (imgOk : Bool) (torn : List Nat)
  /-- A record program on device A or B ends; the update becomes durable or complete, or is retried (R399).
  `ok` is whether the program succeeded. -/
  | nvRecordProgramDone (ok : Bool)
  /-- A NOR device has not answered for 100 ms, so it is marked FAILED and the layer runs SINGLE (R400).
  `devA` says that it is device A. -/
  | nvDeviceTimeout (devA : Bool)
  /-- Once per NV_SCRUB_PERIOD, live records, image areas and firmware slots are read and weak ones rewritten
  (R406). `weak` are the NSEQs of the records found weak. -/
  | nvScrub (weak : List Nat)
  /-- PARAM_GET command, returning values in force and clearing RC values read (R428). -/
  | paramGet (p : Pkt)
  /-- PARAM_SET command: a private stage and commit of one or more parameters (R415). -/
  | paramSet (p : Pkt)
  /-- PARAM_STAGE command, adding or replacing entries of the originator's stage (R413). -/
  | paramStage (p : Pkt)
  /-- PARAM_COMMIT command: checks, a durable CFG_DELTA group, and the switch of bank at the boundary (R414).
  -/
  | paramCommit (p : Pkt)
  /-- PARAM_DISCARD command, emptying the originator's stage (R413). -/
  | paramDiscard (p : Pkt)
  /-- PARAM_STAGE_READ command, returning the originator's stage (R426). -/
  | paramStageRead (p : Pkt)
  /-- IDENTIFY command, returning the identity slots (R427). -/
  | identify (p : Pkt)
  /-- GET_STATUS command, returning the state, protection, shutdown, fault and journal slots (R427). -/
  | getStatus (p : Pkt)
  /-- JOURNAL_READ command, returning entries from a CSEQ with a GAP flag (R431). -/
  | journalRead (p : Pkt)
  /-- JOURNAL_FIND command, returning the newest matching journal entry or NONE (R431). -/
  | journalFind (p : Pkt)
  /-- A write of JOURNAL_CURSOR loads a journal entry into JOURNAL_WINDOW_0 to 5 (R431). -/
  | journalCursorWrite (v : Nat)
  /-- MAINT_START command: a token check in the order energy, redundancy, bandwidth, then a domain grant
  (R439). -/
  | maintStart (p : Pkt)
  /-- MAINT_STOP command, stopping an activity and releasing its tokens (R439). -/
  | maintStop (p : Pkt)
  /-- MAINT_STATUS command, returning each activity's state and tokens (R439). -/
  | maintStatus (p : Pkt)
  /-- A packet with an unassigned vendor opcode, answered UNSUPPORTED (R426). -/
  | reservedOpcode (p : Pkt)
  /-- A diagnostic opcode of 0xC800 to 0xCFFF, whose format is not specified (R426). -/
  | camubDiagnostic (p : Pkt)
  /-- A PF1 BAR write to an RWP direct register acts as a journalled PARAM_SET and sets CMD_LAST_STATUS
  (R435). -/
  | barParamWrite (offset v : Nat) (ld : Nat := 0)
  /-- A write to a register with no row of its own, applied by its access code (R11). -/
  | registerWrite (id v : Nat)
  /-- A Mirsen port has 1 ms of symbol lock and a HELLO each way: the link is up and cable flight is measured
  (R444). Serial, MEMBER_NO and DEPTH of the neighbour, cable flight in ns; `links` are the domain's links
  that are up, as a manager knows them: child, parent, the child's port, flight. -/
  | mirsenLinkUp (port serial member depth flight : Nat) (links : List (Nat × Nat × Nat × Nat))
  /-- Loss of symbol lock, or eight failed retries, takes a Mirsen link down (R444). `links` are the links
  still up, as a manager knows them. -/
  | mirsenLinkDown (port : Nat) (links : List (Nat × Nat × Nat × Nat))
  /-- A valid FAIL_NOTICE arrives: it is forwarded by hardware and, under ALL_OR_NONE in effect, commits with
  cause 0x3 (R448). `crcOk` says that the copy's CRC is correct. -/
  | failNotice (port origin cgen domain : Nat) (crcOk : Bool)
  /-- A frame is unacknowledged after 20 µs and is retried (R453). `acked` of the port's outstanding frames,
  oldest first, have been acknowledged; the next one has not. -/
  | frameAckTimeout (port acked : Nat)
  /-- HELLO message from a link neighbour (R444). The neighbour's serial, MEMBER_NO and DEPTH. -/
  | hello (h : MHdr) (serial member depth : Nat)
  /-- A member's HEARTBEAT reaches the manager (R452). The member's DEVICE_STATE, PROTECTION_STATUS and CGEN.
  -/
  | memberHeartbeat (h : MHdr) (dev prot cgen : Nat)
  /-- A manager's MGR_BEAT flood arrives at a member (R455). -/
  | mgrBeat (h : MHdr) (epoch cgen policy state : Nat)
  /-- ROLE_ASSIGN arrives: roles and epoch are updated, and the member sends REPORT (R454). 0x7FF names no
  member; `cands` are the members with ROLE_CFG 2 reached, for a unit that becomes manager. -/
  | roleAssign (h : MHdr) (epoch mgr alt : Nat) (cands : List Nat)
  /-- SYNC arrives with CGEN and policy, and the member becomes SYNCED (R450). -/
  | sync (h : MHdr) (cgen policy domain : Nat) (limits : List Nat)
  /-- A member's REPORT arrives, and the manager re-derives the domain shutdown state (R456). -/
  | report (h : MHdr) (record commitId manifestSeq : Nat)
  /-- The manager's STATE flood of the domain state arrives (R456). -/
  | state (h : MHdr) (v size reported : Nat)
  /-- GRANT_REQ at the manager, granted under the domain limit or refused (R457). `unprotected` marks a LEARN
  under the second form of Table 10-6. -/
  | grantReq (h : MHdr) (activity cseq : Nat) (unprotected : Bool)
  /-- The manager's grant or refusal reaches the requesting member's arbiter (R457). -/
  | grant (h : MHdr) (activity cseq : Nat) (granted : Bool) (holders : Nat)
  /-- GRANT_RELEASE ends a domain grant at the manager (R457). -/
  | grantRelease (h : MHdr) (activity cseq : Nat)
  /-- REPLICA of roster, grants and CGEN reaches the alternate manager (R446). Roster entries: member, serial,
  record with REPORTED in bit 3 and MISSING in bit 4, COMMIT_ID; grants: activity, member. -/
  | replica (h : MHdr) (cgen : Nat) (roster : List (Nat × Nat × Nat × Nat)) (grants : List (Nat × Nat))
  /-- A member's EVENT message is collected in the manager's ring (R459). Bytes 0 to 63 of Table 12-10 as
  words. -/
  | event (h : MHdr) (slots : List Nat)
  /-- A relayed command packet arrives on transport 4 and is executed (R453). -/
  | cmd (h : MHdr) (p : Pkt)
  /-- A relayed command's reply arrives and answers the pending DOMAIN_RELAY (R453). -/
  | cmdReply (h : MHdr) (opcode tag status cseq detail : Nat) (slots : List Nat)
  /-- TAKEOVER_QUERY flood arrives; a member that also misses MGR_BEAT answers TAKEOVER_ACK (R455). -/
  | takeoverQuery (h : MHdr) (epoch : Nat)
  /-- TAKEOVER_ACK reaches the alternate; a quorum lets it take over (R455). `cands` are the members with
  ROLE_CFG 2 reached. -/
  | takeoverAck (h : MHdr) (cands : List Nat)
  /-- STALE reply arrives, and the sender re-resolves the role and resends (R454). The receiver's epoch and
  roles. -/
  | stale (h : MHdr) (epoch mgr alt : Nat) (cands : List Nat)
  /-- RESOLVE arrives from a neighbour and is answered by STALE (R454). -/
  | resolve (h : MHdr)
  /-- A roster member has sent no HEARTBEAT for MEMBER_TIMEOUT, so it is MISSING and, under ALL_OR_NONE, the
  manager commits (R452). `cands` are the members with ROLE_CFG 2 reached. -/
  | memberTimeoutExpiry (member : Nat) (cands : List Nat)
  /-- A GRANT_REQ unanswered for GRANT_WAIT is refused with DOMAIN_REFUSED (R457). -/
  | grantWaitExpiry (activity : Nat)
  /-- DOMAIN_STATUS command (R460). -/
  | domainStatus (p : Pkt)
  /-- DOMAIN_ROSTER_READ command at the manager (R460). -/
  | domainRosterRead (p : Pkt)
  /-- DOMAIN_EVENT_READ command, returning collected events (R459). -/
  | domainEventRead (p : Pkt)
  /-- DOMAIN_FORM command: DOMAIN_ID is assigned, members admitted and the roster written (R460). `reached`
  are the members reached: MEMBER_NO and serial; `cands` those with ROLE_CFG 2. -/
  | domainForm (p : Pkt) (reached : List (Nat × Nat)) (cands : List Nat)
  /-- DOMAIN_ADMIT command, adding one member (R460). -/
  | domainAdmit (p : Pkt)
  /-- DOMAIN_REMOVE command, removing one member from the roster (R460). `cands` are the members with ROLE_CFG
  2 reached. -/
  | domainRemove (p : Pkt) (cands : List Nat)
  /-- DOMAIN_RELAY command, sending a packet to a member as CMD (R460). -/
  | domainRelay (p : Pkt)
  /-- DOMAIN_HANDOVER command, moving the manager role to the alternate (R455). -/
  | domainHandover (p : Pkt)
  /-- A double-bit error in management SRAM restarts the core, or drops journal entries (R467). `journal`
  names the entries of the affected line when it lies in the journal region, by CSEQ. -/
  | mgmtSramDoubleBitError (journal : Option (List Nat))
  /-- A restarted or activated management core reaches RUNNING, and firmware-served paths resume (R467).
  `genuine` says that digest and signature of the image started verify. -/
  | mgmtRunning (genuine : Bool)
  /-- The boot ROM checks and starts the FW_BOOT slot, falls back to the other slot, or enters recovery mode
  (R478). `okA` and `okB` say whether digest and signature of each slot verify. -/
  | bootRomStart (okA okB : Bool)
  /-- Each 100 µs window counts every clock against the RC oscillator, and a lost clock is handled by Table
  16-2 (R473). `lost` holds a bit for each clock found lost, numbered as CLOCK_STATUS numbers them. -/
  | clockCheckWindow (lost : Nat)
  /-- The 1 ms die sensor read updates TJ_NOW and judges TJ_WARN and TJ_CRIT (R475). `t` holds the eight
  sensors, °C. -/
  | thermalSample (t : List Int)
  /-- AGE_PERIOD expires: the path-delay monitors are read and VCORE_TARGET is set (R479). `slacks` holds the
  12 path-delay monitors, ps. -/
  | agePeriodExpiry (slacks : List Nat)
  /-- A write of COUNTER_LATCH latches every counter view in one management cycle (R474). -/
  | counterLatch (v : Nat)
  /-- A write of WHEEL_DIAG_INDEX latches that wheel's state into WHEEL_DIAG (R309). -/
  | wheelDiagIndexWrite (v : Nat)
  /-- FW_INFO command, returning slot versions, SVNs and the last result (R483). -/
  | fwInfo (p : Pkt)
  /-- FW_WRITE command, writing image bytes into the inactive slot (R483). -/
  | fwWrite (p : Pkt)
  /-- FW_VERIFY command, checking a slot under R482 (R482). `genuine` says that the slot's digest and
  signature verify. -/
  | fwVerify (p : Pkt) (genuine : Bool)
  /-- FW_ACTIVATE command: a token and domain grant, a TRIAL FW_BOOT, and a restart into the new image (R484).
  -/
  | fwActivate (p : Pkt)
  /-- PLDM QueryDeviceIdentifiers request (R483). -/
  | queryDeviceIdentifiers (transport : Nat)
  /-- PLDM GetFirmwareParameters request (R483). -/
  | getFirmwareParameters (transport : Nat)
  /-- PLDM RequestUpdate request (R483). `max` is the largest transfer, in bytes. -/
  | requestUpdate (transport max : Nat)
  /-- PLDM PassComponentTable request (R483). `id` is the component identifier, `last` says that the table
  ends. -/
  | passComponentTable (transport id : Nat) (last : Bool)
  /-- PLDM UpdateComponent request for component 0x4816 (R483). `id` is the component identifier, `size` the
  image's bytes. -/
  | updateComponent (transport id size : Nat)
  /-- The response to the device's PLDM RequestFirmwareData arrives with image data (R483). `cc` is the
  completion code, `data` the image bytes. -/
  | requestFirmwareData (transport cc : Nat) (data : List Nat)
  /-- The response to PLDM TransferComplete arrives (R483). `genuine` says that the image's digest and
  signature verify. -/
  | transferComplete (transport : Nat) (genuine : Bool)
  /-- The response to PLDM VerifyComplete arrives (R483). -/
  | verifyComplete (transport : Nat)
  /-- The response to PLDM ApplyComplete arrives (R483). -/
  | applyComplete (transport : Nat)
  /-- PLDM ActivateFirmware request, running the activation of R484 (R484). `now` says that self-contained
  activation is requested. -/
  | activateFirmware (transport : Nat) (now : Bool)
  /-- PLDM GetStatus request (R483). -/
  | pldmGetStatus (transport : Nat)
  /-- PLDM CancelUpdateComponent request (R483). -/
  | cancelUpdateComponent (transport : Nat)
  /-- PLDM CancelUpdate request (R483). -/
  | cancelUpdate (transport : Nat)
  /-- BIST_RUN command: an on-line run as BIST_ONLINE, or an offline run after an orderly shutdown in
  MAINTENANCE (R487). -/
  | bistRun (p : Pkt)
  /-- BIST_STATUS command, returning state, pass and fail masks and signatures (R485). -/
  | bistStatus (p : Pkt)
  /-- A BIST partition finishes, and its MISR signature is compared with the golden value (R485). `sig` is the
  partition's MISR signature. -/
  | bistPartitionDone (sig : Nat)
  /-- Host software commits or uncommits an HDM decoder in PF0's component registers, in order and with Lock
  on Commit (R52). `on` commits, otherwise uncommits; sizes in bytes; `hdmH` says that the target type is
  host-only coherent. -/
  | hdmDecoderCommit (ld : Nat) (on : Bool) (base size skip ways gran : Nat) (lock : Bool) (hdmH : Bool := true)
  /-- The HOLDUP_ILIM_x input reports current limit on a port, which starts the SHORT_TIME qualification for a
  short (R333). `on` is the report's beginning or end. -/
  | currentLimit (x : PortId) (on : Bool)
  /-- A failed input supervision chain samples within range again and governs once more (R171). `a` says that
  it is chain A, `mv` is its reading in mV. -/
  | chainRestored (a : Bool) (mv : Nat)
  /-- A module's estimate has not advanced for 25 s, so the Weir excludes it and re-plans within 1 ms (R110).
  -/
  | estimateStale (x : PortId)
  /-- The BMC assigns the device's I3C dynamic address with the ENTDAA command (R471). -/
  | entdaa (addr : Nat)
  /-- A Table Access DOE request on PF0 reads the CDAT, including the DSLBIS latency entries (R44). -/
  | cdatTableAccess (ld : Nat)
  /-- A DOE Discovery request on PF0, PF1 or PF2 lists the supported DOE protocols (R44). `fn` is the
  function, 0 to 2. -/
  | doeDiscovery (ld fn : Nat)
  /-- A standard CXL mailbox command outside the listed set returns Media Disabled in the restricted states
  (R508). -/
  | otherStandardCxlCommand (c : Cxl) (op : Nat)
  /-- The fabric manager sets a logical device's QoS Limit Fraction or QoS Allocation Fraction, which the
  device then honours (R59). -/
  | qosFractionSet (ld : Nat) (limit : Bool) (v : Nat)
  /-- VAON has stayed at or above 1.65 V for 1 ms, so the AON domain is released from reset and the sequencer
  starts supervising (R470). -/
  | aonPowerUp
  /-- VAON falls below 1.62 V: the AON domain resets, every AON output goes low, and AON-held state, any hold
  and any queued records are lost (R470). -/
  | aonPowerLoss
  /-- The ride-through timer started at the early warning expires, which raises commit cause 0x2 (R168). -/
  | rideThroughExpiry
  /-- A CXL.mem speculative read, treated as a hint that may be dropped (R60). -/
  | memspecrd
  /-- Hot reset: every function returns to defaults and decoders are uncommitted, with the volatile partition
  kept (R45). -/
  | hotReset
  /-- FLR of PF0: PF0 configuration resets while CXL.mem service continues (R45). -/
  | flrPf0
  /-- FLR of PF2: the diagnostic windows close (R45). -/
  | flrPf2
  /-- The background clearing of the volatile partition zeroes one further page (R47). -/
  | volatilePageCleared
  /-- A CXL.mem IDE MAC check fails: writes not yet completed are discarded, the stream goes Insecure, and a
  CONTAINED fault is raised (R72). -/
  | ideIntegrityFailure
  /-- SPDM GET_VERSION request (R73). -/
  | getVersion (via : SpdmVia := .doe)
  /-- SPDM GET_CAPABILITIES request (R73). -/
  | getCapabilities (via : SpdmVia := .doe)
  /-- SPDM GET_DIGESTS request (R73). -/
  | getDigests (via : SpdmVia := .doe)
  /-- The DIMM_SPARE copy of a failing rank to its channel's spare completes (R89). -/
  | dimmSpareComplete
  /-- Cached counts are flushed, and every heat value becomes heat minus heat div 8 (R95). -/
  | heatDecayPeriodExpiry
  /-- Every DST entry's AGE advances by 1, saturating at 511 (R95). -/
  | ageTickExpiry
  /-- A re-plan has not completed within 10 ms: its result is discarded and CEILING is halved (R130). -/
  | replanTimeout
  /-- The 1 ms evaluation of the Weir's DevLoad level under Table 4-4 (R122). -/
  | devloadEvaluation
  /-- While fine map occupancy is at or above FINE_MAP_HIGH, a segment is merged into one large unit (R139).
  -/
  | fineMapMerge
  /-- The oldest closed landing wheel's valid units are relocated to stream G, and the wheel is erased (R151).
  -/
  | migration
  /-- A native wheel of low valid ratio is collected: its valid units are relocated and its blocks erased
  (R154). -/
  | garbageCollection
  /-- A relocated copy is mapped only if the entry still points to its source (R153). -/
  | relocationComplete
  /-- In FLUSHING, DIRTY_BYTES reaches 0 with every wheel closed: a full checkpoint is written and the
  indivisible seal test is made (R160). -/
  | flushReport
  /-- The endurance governor's daily computation of life projection, life used and wear pressure (R162). -/
  | enduranceDaily
  /-- The rewrite ends: a full checkpoint, the switch group in the NV Store, and a restart into BRINGUP
  (R142). -/
  | reformatRewriteComplete
  /-- In PRE_SPILL, or from commit to seal, the next cold eligible entry is captured and its run issued to
  stream V (R176). `ue` are the lines, by device address, whose reading shows an uncorrectable error (R98). -/
  | speculativeCapture (ue : List Nat := [])
  /-- Stream V wheels have closed, and the pre-spill runs are mapped or abandoned and handed to the Rill
  (R179). -/
  | undoComplete
  /-- DAMP_QUIET has passed with no early warning, so damped operation ends and damping_cap returns to 512 GiB
  (R182). -/
  | dampQuietExpiry
  /-- No strip has completed for 50 ms in DRAINING, which raises a FATAL fault and takes close-out at once
  (R208). -/
  | drainStallTimeout
  /-- Step 6 is written: the device enters FAULT, SEALED, KICKSTAND or AON_ONLY under Table 6-10, and held
  records are written (R204). -/
  | closingPointerWritten
  /-- REHEARSE_PERIOD has passed, so management firmware requests the REHEARSE activity (R205). -/
  | rehearsePeriodExpiry
  /-- The Rill moves or erases blocks to bring RESERVE_ERASED to RESERVE_TARGET, or returns erased sets above
  the target (R181). -/
  | reserveReplenish
  /-- RESERVE_ERASED has been below RESERVE_TARGET for 10 min in ARMED, which raises a DEGRADED fault (R208).
  -/
  | reserveLowTimeout
  /-- HOLD_ELAPSED reaches KICK_HOLD_MAX: slot power goes off, AON_ONLY is entered, and HOLD_RESULT reads 2
  (R214). -/
  | holdTimeLimit
  /-- The input has stood above RECOVERY_THRESHOLD for SEALED_RESTART_DELAY in SEALED, so the core domain
  restarts into BRINGUP (R215). -/
  | sealedRestartDelayExpiry
  /-- The input falls below COMMIT_THRESHOLD in SEALED, so POWER_DOWN runs to AON_ONLY (R215). -/
  | sealedInputLoss
  /-- The device leaves BRINGUP: the volatile partition is zeroed, the restore record written, and resume or
  restore starts (R229). -/
  | bringupExit
  /-- Every extent is online and every settle closed: a full checkpoint, the restore record, a wheel handover,
  and ONLINE (R233). -/
  | chainRetire
  /-- No extent has come online for 5 s in FETCHING, which raises a DEGRADED fault (R238). -/
  | restoreStall
  /-- A queued block's wheels are relocated through stream G, and the block is erased (R252). -/
  | blockRefresh
  /-- BT_PERIOD expires and the block table is written to the checkpoint region (R254). -/
  | blockTableSnapshot
  /-- Journal strips held in one copy after a retirement are copied to new journal positions (R282). -/
  | journalRemirror
  /-- Reshape relocates the next old-geometry wheel, with a boundary record every 256 wheels (R299). -/
  | reshapeWheel
  /-- Reshape erases and lays out another reserve set of the new geometry, or releases one of the old (R301). -/
  | reserveBuildStep
  /-- The new reserve reaches RESERVE_TARGET with the Spillway ARMED, so the flip record makes it active
  (R301). `torn` says that the record is torn (R302). -/
  | reserveFlip (torn : Bool := false)
  /-- No port has been in a discharge or charging for HIBERNATE_DELAY, so the estimator hibernates (R317). -/
  | hibernateDelayExpiry
  /-- A step's DELAY ends, and the next step of the sequence starts, or rails good (R343). -/
  | stepDelayExpiry
  /-- POWERUP_RETRY_DELAY after a failed step ends, and POWER_UP starts again (R349). -/
  | powerupRetryDelayExpiry
  /-- After a system reset in BRINGUP, SYSRESET_OFF_TIME ends and POWER_UP runs (R350). -/
  | sysresetOffTimeExpiry
  /-- The flush deadline passes, so the shutdown is abandoned and the device stays online (R348). -/
  | flushTimeout
  /-- SDA low for 35 ms, so nine SCL pulses and a STOP clear the bus (R354). -/
  | pmbusBusStuck
  /-- 10 ms of STANDBY after a recovery ends, and the mode becomes CHARGE or STANDBY (R358). -/
  | converterStandbyExpiry
  /-- The sequencer counters are appended as counter records, at most every 60 s (R360). -/
  | seqCounterFlush
  /-- Writing 1 to FC_FIRST VALID clears FC_FIRST and FC_OVERFLOW (R370). -/
  | fcFirstClear
  /-- FC_QUIET passes with no stopping report: the fault state is left and the device restarts into BRINGUP
  when the input allows (R375). -/
  | fcQuietExpiry
  /-- FI_REMAINING reaches 0: an INJECTION record is written and the event raised (R377). -/
  | injectionDone
  /-- A queued record is written to the circulating and pinned areas on both NOR devices, within REC_RATE_MAX
  (R387). -/
  | recordQueueWrite
  /-- Writing 1 to REC_ADVANCE loads the record after REC_SEQ_FOUND (R389). -/
  | recAdvance
  /-- A blank or foreign NOR device has been erased and the whole store copied to it (R397). -/
  | nvResyncComplete
  /-- Fewer than NV_COMPACT_LOW sectors are erased, so the oldest sector's live records are copied and the
  sector erased (R404). -/
  | logCompaction
  /-- CFG_DELTAS reaches CFG_REWRITE_AT, so a full image of GEN + 1 is written and named by CFG_IMAGE (R411).
  -/
  | cfgImageRewrite
  /-- HOST_DOORBELL RESEND sends one MSI-X message for each unmasked set event bit (R435). -/
  | hostDoorbellResend (ld : Nat := 0)
  /-- HOST_DOORBELL LATCH latches every PF1 counter view in one cycle (R435). -/
  | hostDoorbellLatch
  /-- HEARTBEAT_PERIOD ends, so a member sends HEARTBEAT and a manager floods MGR_BEAT (R453). -/
  | heartbeatPeriodExpiry
  /-- No upstream link has been up for ORPHAN_TIME, so the member enters ORPHAN and, under ALL_OR_NONE,
  commits (R452). -/
  | orphanTimeExpiry
  /-- The alternate misses MGR_BEAT and queries takeover, or a manager lacking quorum demotes itself (R455).
  -/
  | mgrTimeoutExpiry
  /-- The 20 ms for TAKEOVER_ACKs ends and the takeover is judged (R455). -/
  | takeoverWindowExpiry
  /-- The lockstep comparator detects a mismatch, so the management core restarts, or FATAL on a second
  restart within 10 s (R467). -/
  | lockstepMismatch
  /-- MGMT_WDT expires unserviced, so the management core restarts (R467). -/
  | watchdogExpiry
  /-- The daily projection of each rank's correctable-error trend, which may request DIMM_SPARE (R481). -/
  | dramTrendDaily
  /-- DAY_OF_SERVICE advances by one whole day on the 32.768 kHz oscillator (R470). -/
  | dayOfServiceTick
  /-- The new image has not reached RUNNING within 50 ms, so the old slot is started and FW_LAST_RESULT reads
  4 (R484). -/
  | activationTimeout
  /-- A NOR sector erase on device A or B ends, and the erase on B or the next program may proceed (R404). -/
  | norSectorEraseDone
deriving DecidableEq, Repr

end Sys2Proof
end

