-- ==== Sys2Proof/Decode.lean ====
section
/-! DEFINITION. The commands that words of the opcode table spell. The table gives no row any bits: a command of this
block is an event, a message or a register access, and what it carries is its constructor's operands. -/

namespace Sys2Proof

/-- The command a word spells by the table's bits. No row has bits, so no word spells a command. -/
def decodeTableWord (_nbits _w : Nat) : Option Instr := none

end Sys2Proof
end

