-- ==== Sys2Proof/Config.lean ====
section
/-! DEFINITION. What an implementation fixes and the spec leaves open: free values. None has a body, so nothing
can be proved of the value of any of them. -/

namespace Sys2Proof.Config

/-- A value the spec leaves open altogether: chosen by the counter of the step and by what asks for it
(DESIGN CHOICE, log entry 3). -/
opaque freeValue : Nat → Nat → Nat

/-- What a counter of the given ID holds after it has counted past its width (DESIGN CHOICE, log entry 3). -/
opaque counterPastWidth : Nat → Nat → Nat

/-- Random hold token of a vault; 0 is not a token (R212). -/
opaque holdToken : Nat → Nat

/-- RES of a module table below its lowest power point (DESIGN CHOICE, log entry 13). -/
opaque resBelowLowestPower : Rat → Nat → Rat

/-- The value of an unindexed counter or of a diagnostic ID whose layout the spec leaves open, by ID
(PRESUMED, log entry 15). -/
opaque unindexed : Nat → Nat

/-- Content of a checker list word (R377, 0x27A0 + source). -/
opaque checkerList : Nat → Nat

/-- Days until RANK_CE_LIMIT by the 30-day slope of daily counts, newest first, and the limit (R481). -/
opaque trendProjection : List Nat → Nat → Nat

/-- The Ubnan vendor record identifier of a vendor record in a CXL event log (R64). -/
opaque vendorRecordId : Nat

/-- Digest of the certificate chain in a slot (R73). -/
opaque certDigest : Nat → Nat

/-- Golden BIST signatures in the boot ROM (R485), by partition. -/
opaque goldenSignature : Nat → Nat

end Sys2Proof.Config
end

