-- ==== Sys2Proof/Machine/Store.lean ====
section
/-! DEFINITION. Sparse stores: lists of (key, value) pairs with strictly rising keys and no entry equal to the
default, so that equal stores are equal lists; and the byte memory built on the same form. -/

namespace Sys2Proof.Machine

/-- The value at key `k`, or the default. -/
def mget {α : Type} (d : α) : List (Nat × α) → Nat → α
  | [], _ => d
  | (j, v) :: m, k => if j = k then v else mget d m k

/-- Put `v` at key `k`, keeping the keys rising. -/
def mput {α : Type} (k : Nat) (v : α) : List (Nat × α) → List (Nat × α)
  | [] => [(k, v)]
  | (j, w) :: m =>
    if k < j then (k, v) :: (j, w) :: m
    else if k = j then (k, v) :: m
    else (j, w) :: mput k v m

/-- Remove key `k`. -/
def mdel {α : Type} (k : Nat) : List (Nat × α) → List (Nat × α)
  | [] => []
  | (j, w) :: m => if j = k then mdel k m else (j, w) :: mdel k m

/-- Write `v` at key `k`; writing the default removes the entry. -/
def mset {α : Type} [DecidableEq α] (d : α) (m : List (Nat × α)) (k : Nat) (v : α) : List (Nat × α) :=
  if v = d then mdel k m else mput k v m

/-- Drop every entry whose key lies from `lo` up to but not at `hi`. -/
def mclear {α : Type} (m : List (Nat × α)) (lo hi : Nat) : List (Nat × α) :=
  m.filter fun p => decide (p.1 < lo) || decide (hi ≤ p.1)

/-- Whether the keys of `m` rise strictly, every one above `lo` (if given). -/
def risingFrom {α : Type} : Option Nat → List (Nat × α) → Bool
  | _, [] => true
  | none, (k, _) :: m => risingFrom (some k) m
  | some j, (k, _) :: m => decide (j < k) && risingFrom (some k) m

/-- The canonical form of a store with default `d`: keys strictly rising, no default listed. -/
def mwf {α : Type} [DecidableEq α] (d : α) (m : List (Nat × α)) : Bool :=
  risingFrom none m && m.all fun p => decide (p.2 ≠ d)

/-- What a byte of DRAM that nothing has written reads as: zero. Blank flash restores zeros (R138), and
the volatile partition is zeroed at every start (R27, R218). -/
def unlistedByte : Byte := 0

/-- One byte of memory. -/
def readByte (m : List Host.Cell) (a : Nat) : Byte := mget unlistedByte m a

/-- Write one byte of memory, keeping the canonical form. -/
def writeByte (m : List Host.Cell) (a : Nat) (b : Byte) : List Host.Cell := mset unlistedByte m a b

/-- Byte `n` of a line. -/
def lineByte (x : Line) (n : Nat) : Byte := (x >>> (8 * n)).setWidth 8

/-- Read `n` bytes from `a` on, as a number with the lowest byte first. -/
def readBytes (m : List Host.Cell) (a : Nat) : Nat → Nat
  | 0 => 0
  | n + 1 => (readByte m a).toNat + 256 * readBytes m (a + 1) n

/-- Read the line at byte address `a`. -/
def readLine (m : List Host.Cell) (a : Nat) : Line := BitVec.ofNat 512 (readBytes m a 64)

/-- Write the first `n` bytes of the number `x` from `a` on, each only where its bit of `en` is set. -/
def writeBytes (m : List Host.Cell) (a : Nat) (en x : Nat) : Nat → List Host.Cell
  | 0 => m
  | n + 1 =>
    writeBytes (if en % 2 = 1 then writeByte m a (BitVec.ofNat 8 (x % 256)) else m)
      (a + 1) (en / 2) (x / 256) n

/-- Write the enabled bytes of a line at byte address `a`; bit `n` of `en` enables byte `n`. -/
def writeLine (m : List Host.Cell) (a : Nat) (en : BitVec 64) (x : Line) : List Host.Cell :=
  writeBytes m a en.toNat x.toNat 64

/-- The canonical form of byte memory. -/
def memWf (m : List Host.Cell) : Bool := mwf unlistedByte m

end Sys2Proof.Machine
end

