-- ==== Sys2Proof/Machine/State.lean ====
section
/-! DEFINITION. The state of the NX-4816 as plain data, one structure per block, each field's default being its
value after reset; the reasons a step can stop; and State.reset. -/

namespace Sys2Proof.Machine

/-! ### Device level -/

/-- Device states (R4, Table 0-3). -/
inductive Dev where
  | off | aonOnly | bringup | restoring | online | preSpill | vaulting | kickstand | sealed
  | maintenance | fault
deriving DecidableEq, Repr

/-- The 4-bit code of a device state (Table 0-3). -/
def Dev.code : Dev → Nat
  | .off => 0x0 | .aonOnly => 0x1 | .bringup => 0x2 | .restoring => 0x3 | .online => 0x4
  | .preSpill => 0x5 | .vaulting => 0x6 | .kickstand => 0x7 | .sealed => 0x8
  | .maintenance => 0x9 | .fault => 0xA

/-- Shutdown record values (R7, Table 0-4). -/
inductive Shut where
  | none | clean | vaultedComplete | vaultedShort | vaultLost
deriving DecidableEq, Repr

/-- The 3-bit code of a shutdown record value (Table 0-4). -/
def Shut.code : Shut → Nat
  | .none => 0 | .clean => 1 | .vaultedComplete => 2 | .vaultedShort => 3 | .vaultLost => 4

/-- Fault severities (R367, Table 12-2); a reserved code counts as FATAL. -/
inductive Sev where
  | log | corrected | degraded | contained | fatal
deriving DecidableEq, Repr

/-- The 3-bit code of a severity (Table 12-2). -/
def Sev.code : Sev → Nat
  | .log => 0 | .corrected => 1 | .degraded => 2 | .contained => 3 | .fatal => 4

/-- The severity of a code; a reserved code is treated as FATAL (R367). -/
def Sev.ofCode : Nat → Sev
  | 0 => .log | 1 => .corrected | 2 => .degraded | 3 => .contained | _ => .fatal

/-! ### Cistern (10_cistern_energy.md) -/

/-- Port states (R334, Table 10-9). -/
inductive CistState where
  | absent | identifying | charging | ready | discharging | learning | learnRecharge | disabled
  | latchedOff | zero
deriving DecidableEq, Repr

/-- Codes of Table 10-9. -/
def CistState.code : CistState → Nat
  | .absent => 0 | .identifying => 1 | .charging => 2 | .ready => 3 | .discharging => 4
  | .learning => 5 | .learnRecharge => 6 | .disabled => 7 | .latchedOff => 8 | .zero => 9

/-- A module table (R314, Table 10-3). -/
structure ModTable where
  tableId : Nat := 0x0101
  version : Nat := 1
  kind : Nat := 1
  flat : Bool := false
  vFull : Nat := 16200
  vEmpty : Nat := 8000
  vEodMin : Nat := 8000
  qNom : Nat := 82000
  selfDis : Nat := 300
  plateauLo : Nat := 0
  plateauHi : Nat := 0
  /-- TEMP[0..4], °C. -/
  temp : List Int := [-20, 0, 25, 45, 65]
  /-- RATE[0..2], W. -/
  rate : List Nat := [10, 50, 200]
  /-- OCV[21][5], mV: row i is state i × 5 %, column t the temperature point. -/
  ocv : List (List Nat) := (List.range 21).map fun i => List.replicate 5 (8000 + 410 * i)
  /-- RES[21][5][3], 10 µΩ units. Table 10-3 gives the reference module's values at 25 °C alone;
  the other temperatures take the same (DESIGN CHOICE, log entry 9). -/
  res : List (List (List Nat)) := List.replicate 21 (List.replicate 5 (List.replicate 3 1200))
  /-- The CRC of bytes 1,020 to 1,023 is correct. -/
  crcOk : Bool := true
deriving DecidableEq, Repr

/-- A learned record (R330, Table 10-7a). -/
structure Learned where
  port : PortId := .a
  idBound : Bool := false
  tableId : Nat := 0
  serial : Nat := 0
  /-- mC, exact. -/
  qLearn : Rat := 0
  resFactor : Rat := 1
  /-- 0.1 s. -/
  tauRelax : Nat := 0
  learnDay : Nat := 0
  learnCount : Nat := 0
  /-- mJ. -/
  eLearn : Nat := 0
deriving DecidableEq, Repr

/-- The record as the NV Store holds it: Q_LEARN in whole mC, cut down, and RES_FACTOR in 1,024ths, up (Table 10-7a;
DEDUCED, log entry 246: every estimate errs towards less energy). -/
def Learned.stored (l : Learned) : Learned :=
  { l with qLearn := (l.qLearn.floor.toNat : Rat), resFactor := ((l.resFactor * 1024).ceil.toNat : Rat) / 1024 }

/-- Phases of a learn cycle (R327). -/
inductive LearnPhase where
  | none | chargeFull | restFull | discharge | restEnd | recharge | restCheck | pulse | rebound
deriving DecidableEq, Repr

/-- Phases of a periodic resistance check (R329). -/
inductive CheckPhase where
  | none | pulse | rebound
deriving DecidableEq, Repr

/-- Why a port reads ZERO (R333, Table 10-8; R359). -/
inductive ZeroCause where
  | openSense | ntc | cold | noTable | converter
deriving DecidableEq, Repr

/-- One Cistern port (R311 to R337). The estimator states survive AON_ONLY and KICKSTAND (R310). -/
structure CPort where
  state : CistState := .absent
  /-- Table in use (R313). -/
  table : Option ModTable := none
  /-- Last sample, in 0.5 mV steps (Table 10-1). -/
  v : Int := 0
  /-- Last temperature, °C. -/
  temp : Int := 0
  /-- s_v (R320), s_m (R321), SOC (R322), each 0 to 1. -/
  sv : Rat := 0
  sm : Rat := 0
  soc : Rat := 0
  /-- mJ (R323), as posted. -/
  eUse : Nat := 0
  eRem : Nat := 0
  /-- E_use of the last estimate, which bounds the next in a discharge (R322): what the posted figure reads 0 for
  (a low reading, EMPTY, a duplicate that disagrees) does not lower it. -/
  eEst : Nat := 0
  estSeq : Nat := 0
  swapSuspect : Bool := false
  relearnRec : Bool := false
  conflict : Bool := false
  /-- CONFLICT was already reported in this discharge (R325). -/
  conflictSeen : Bool := false
  ackLearn : Bool := false
  empty : Bool := false
  /-- Learned record in use, and whether it was set aside (R318, R332). -/
  learned : Option Learned := none
  /-- RES_FACTOR of resistance checks since adoption when no learned record is in use (Table 10-4). -/
  checkRes : Rat := 1
  /-- RES_FACTOR of the last learned record appended or pending (R330's 1/64 test). -/
  savedRes : Rat := 1
  /-- Record pending in AON memory (R330). -/
  pendingRec : Option Learned := none
  discharge : Bool := false
  relaxed : Bool := false
  iwake : Bool := false
  learnLoad : Bool := false
  /-- The converter reports current limit on the port (Table 10-8). -/
  currentLimit : Bool := false
  overVoltage : Bool := false
  id : Option ModId := none
  /-- An insertion has been seen while AON was powered (Table 10-7b). -/
  inserted : Bool := false
  /-- Samples in a row below PORT_ABSENT_V (R331) and below −500 mV (Table 10-8). -/
  absentRun : Nat := 0
  reverseRun : Nat := 0
  zeroCause : Option ZeroCause := none
  /-- Samples in a row without the ZERO condition (Table 10-8). -/
  goodRun : Nat := 0
  /-- Samples in a row in which the duplicate estimate disagreed, and agreed again (Table 10-11). -/
  disagreeRun : Nat := 0
  agreeRun : Nat := 0
  /-- E_use 0 until 10 samples agree (Table 10-11). -/
  distrusted : Bool := false
  learn : LearnPhase := .none
  check : CheckPhase := .none
  /-- Voltage (mV) before the load step of a learn or check, none once taken. -/
  vBefore : Option Rat := none
  s0 : Rat := 0
  /-- mΩ. -/
  rStep : Rat := 0
  /-- Charge counted, mC, and energy into the load, mJ (R327). -/
  q : Rat := 0
  e : Rat := 0
  /-- This learn was accepted: its final check stores TAU_RELAX (R329). -/
  learnOk : Bool := false
  /-- This learn runs under the second form of Table 10-6. -/
  learnAck : Bool := false
  /-- The learn ended without a result: its recharge alone remains (R327). -/
  learnCut : Bool := false
  /-- Identified during a hold and not READY since: no part of the hold's energy (Table 10-10). -/
  newcomer : Bool := false
  learnCount : Nat := 0
deriving DecidableEq, Repr

/-- The Cistern (R310 to R337). -/
structure Cistern where
  a : CPort := {}
  b : CPort := {}
  /-- The estimator hibernates (R317). -/
  hibernating : Bool := false
  /-- Tables and learned records were loaded since AON power-up (R310). -/
  loaded : Bool := false
  /-- Time (ms) of the last early warning (R330). -/
  lastEw : Option Nat := none
deriving DecidableEq, Repr

/-! ### Basin (03_basin.md) -/

/-- Basin states (R100, Table 3-8). -/
inductive BasinState where
  | down | training | populationHold | serving | frozen | held
deriving DecidableEq, Repr

/-- DST entry states (R93, Table 3-6); FREE entries are not listed. -/
inductive DstState where
  | dirty | writing | spilling | saved
deriving DecidableEq, Repr

/-- Codes of Table 3-6. -/
def DstState.code : DstState → Nat
  | .dirty => 1 | .writing => 2 | .spilling => 3 | .saved => 4

/-- A DST entry that is not FREE (R92, Table 3-5); the segment index is its key. DCOUNT is the number of
set bits of `d`. -/
structure DstEntry where
  /-- Dirty bits and rewrite bits (R91). -/
  d : BitVec 512 := 0
  w : BitVec 512 := 0
  heat : Nat := 0
  age : Nat := 0
  state : DstState := .dirty
  /-- BITMAP_PTR, which the model also takes as the entry's index (DESIGN CHOICE, log entry 14). -/
  ptr : Nat := 0
  admitted : Bool := false
  residue : Nat := 0
  /-- Pages of the capture in progress, the argument c of R94. -/
  c : BitVec 512 := 0
deriving DecidableEq, Repr

/-- The hold token line of the metadata reserve (Table 7-1); all zeros when overwritten. -/
structure TokenLine where
  magic : Nat := 0
  token : Nat := 0
  inv : Nat := 0
  manifestSeq : Nat := 0
  crc : Nat := 0
deriving DecidableEq, Repr

/-- A slot set's progress through R99. -/
inductive SlotPower where
  | on | selfRefresh | leave
deriving DecidableEq, Repr

/-- The Basin's state beyond its registers (R79 to R103). -/
structure Basin where
  state : BasinState := .down
  /-- Population found at the last training; population recorded with the image (R101). -/
  found : List Dimm := []
  /-- Row of Table 3-9 the last comparison took, 1 to 5; 0 before one (R225 check 2). -/
  row : Nat := 0
  /-- The DST: entries by segment index (R92). -/
  dst : List (Nat × DstEntry) := []
  /-- The DST shadow by BITMAP_PTR: word 0 bits [20:0] and word 1 bits [21:0] of each entry, as its allocation wrote them;
  a FREE entry is not listed (R92). -/
  shadow : List (Nat × (Nat × Nat)) := []
  /-- Segments in the overflow bitmap, ascending (R96). -/
  overflow : List Nat := []
  /-- Heat record by segment: HEAT byte and residue byte (R95). -/
  heat : List (Nat × (Nat × Nat)) := []
  /-- Access counts cached for segments outside the DST, oldest first, at most 4,096 (R95). -/
  cache : List (Nat × Nat) := []
  /-- Next line of the patrol scrub (R87). -/
  scrubAt : Nat := 0
  /-- (row key, time) and (rank key, time) of correctable errors in the last 24 h (R88). -/
  rowErrs : List (Nat × Nat) := []
  rankErrs : List (Nat × Nat) := []
  /-- (line, time) of uncorrectable lines in the last second, each line once (R103). -/
  ueTimes : List (Nat × Nat) := []
  /-- Rows under soft repair, served from the row buffer (R88). -/
  softRows : List Nat := []
  /-- Rows recorded for hard repair (R88). -/
  pprRows : List Nat := []
  /-- Ranks with no spare rows left (R88). -/
  noSpareRows : List Nat := []
  /-- Rank being copied by DIMM_SPARE, ranks that wait for their copy, and ranks replaced by the spare (R88, R89). -/
  spareCopy : Option Nat := none
  spareQ : List Nat := []
  spared : List Nat := []
  /-- Power of slot sets 0 and 1 (R99). -/
  slot0 : SlotPower := .on
  slot1 : SlotPower := .on
  /-- RANK_SPARE_ENABLE in force since the last BRINGUP (R89). -/
  spare : Bool := false
  /-- The DST is frozen (R98). -/
  frozen : Bool := false
  /-- Hold token line of the reserve (R212). -/
  token : TokenLine := {}
  /-- Uncorrectable lines of clean pages awaiting repair, by line address (R86). -/
  repair : List Nat := []
deriving DecidableEq, Repr

/-! ### Weir (04_weir.md) -/

/-- Weir states (R128, Table 4-5). -/
inductive WeirState where
  | dormant | planning | latched
deriving DecidableEq, Repr

/-- The Weir's state beyond its registers (R106 to R131). -/
structure Weir where
  state : WeirState := .dormant
  /-- Single mode under N_MINUS_1 (R112, R129). -/
  single : Bool := true
  /-- Re-plans in a row with the rise excess (R119). -/
  riseCount : Nat := 0
  /-- A module is excluded for a learn cycle, and e_pol at the re-plan before it began (R112). -/
  ePolBefore : Option Nat := none
  /-- A module's estimate has not advanced for 25 s (R110). -/
  staleA : Bool := false
  staleB : Bool := false
  /-- LUNs eligible at the last re-plan (R115). -/
  lNow : Nat := 0
  /-- Disagreements of the duplicate computation in a row, agreements since (Table 4-6). -/
  disagreeRun : Nat := 0
  agreeRun : Nat := 0
  distrusted : Bool := false
  /-- DevLoad evaluations in a row that found a lower level (R122). -/
  lowerRun : Nat := 0
  /-- Net growth of DIRTY_BYTES over the millisecond before the last evaluation, bytes (R122). -/
  growth : Int := 0
  /-- DIRTY_BYTES at the last DevLoad evaluation and at the last re-plan (R121, R122). -/
  dirtyAtEval : Nat := 0
  dirtyAtReplan : Nat := 0
  /-- R_in of the last WEIR_PERIOD, bytes per second (R121). -/
  rIn : Nat := 0
  /-- Bytes cleaned since the last periodic re-plan, and before it (R121). -/
  cleaned : Nat := 0
  cleanedBefore : Nat := 0
  /-- What has become dirty since the start (bytes), as each millisecond of the last WEIR_PERIOD ended, newest first (R121). -/
  inflow : List (Nat × Nat) := []
  /-- The comparison of R109: the dirty set is above the ceiling. -/
  above : Bool := false
  /-- R_dem of the last re-plan in bytes per second; above the ceiling the Rill's full rate stands in its place (R121). -/
  demand : Nat := 0
  /-- What the last re-plan used, which R118's triggers are judged against: E_use of each module it included, reserve_cap and
  damping_cap; and a commit of a Weir parameter or an exit from PRE_SPILL since. -/
  useA : Option Nat := none
  useB : Option Nat := none
  caps : Nat × Nat := (0, 0)
  due : Bool := false
  /-- The zero ceiling of R123 has been reported. -/
  zeroReported : Bool := false
deriving DecidableEq, Repr

/-! ### Rill and the flash image (05_rill_image.md) -/

/-- Rill states (R164, Table 5-7). -/
inductive RillState where
  | down | loading | running | held | flushing | stopped
deriving DecidableEq, Repr

/-- Codes of RILL_STATE (Table 5-9). -/
def RillState.code : RillState → Nat
  | .down => 0 | .loading => 1 | .running => 2 | .held => 3 | .flushing => 4 | .stopped => 5

/-- Streams: L, F, G, C of the Rill and V of the Spillway (R145, R186). -/
inductive Stream where
  | l | f | g | c | v
deriving DecidableEq, Repr

/-- Unit kinds (Table 5-2); fill units are not recorded. -/
inductive UnitKind where
  | fine | large | vault
deriving DecidableEq, Repr

/-- A location: wheel number and data unit in the wheel (Table 5-3). -/
structure Loc where
  wheel : Nat := 0
  unit : Nat := 0
deriving DecidableEq, Repr

/-- The units of one capture or relocation of one segment as they stand on flash: the header fields they
share (Table 5-2), the pages they hold, and each page's location, poison mask and data. -/
structure Run where
  /-- SEQ of the header (R141). -/
  seq : Nat
  seg : Nat
  kind : UnitKind
  /-- Pages held, in ascending page order in consecutive data units. -/
  pages : BitVec 512
  /-- Consecutive stretches of units: wheel, first unit, count (R143). -/
  spans : List (Nat × Nat × Nat)
  epoch : Nat := 0
  /-- RELOC, and for a relocated copy the source run's first location (SRC_LOC). -/
  reloc : Bool := false
  src : List (Nat × Loc) := []
  /-- Pages whose header's SEQ is not `seq`: a merge keeps each unit's own (R139). -/
  seqs : List (Nat × Nat) := []
  /-- A copy that a merge made: its units have a source each, and it stands for the whole segment (R139, R153). -/
  merged : Bool := false
  /-- Poisoned lines by DPA line index (POISON_MASK). -/
  poison : List Nat := []
  /-- DRAM bytes of the pages at the capture that differ from zero. -/
  data : List Host.Cell := []
deriving DecidableEq, Repr

/-- A large map entry with LARGE_VALID at 1 (Table 5-3): where page 0 of the segment lies. FINE_COUNT is the number
of fine entries of the segment. -/
structure LargeEntry where
  loc : Loc
deriving DecidableEq, Repr

/-- A fine map entry in use (Table 5-3): the page's location and the slot's bucket and PROBE. -/
structure FineEntry where
  loc : Loc
  bucket : Nat
  probe : Nat
deriving DecidableEq, Repr

/-- A capture in flight (R94, R147). -/
structure Capture where
  seg : Nat
  seq : Nat
  kind : UnitKind
  /-- c of R94. -/
  pages : BitVec 512
  /-- Wheels holding its units that are not closed yet. -/
  waits : List Nat
  /-- Fine slots reserved at capture: page, bucket, probe (R136). -/
  slots : List (Nat × Nat × Nat) := []
deriving DecidableEq, Repr

/-- Why a relocation runs (R139, R151, R154, R252, R299). -/
inductive RelocKind where
  | merge | migration | collection | refresh | reshape
deriving DecidableEq, Repr

/-- A relocation in flight: the copy's SEQ and segment, the pages, and each page's source (R153). -/
structure Reloc where
  kind : RelocKind
  seg : Nat
  /-- The new run on media. -/
  copy : Run
  /-- Source location by page of the segment. -/
  src : List (Nat × Loc)
  waits : List Nat
deriving DecidableEq, Repr

/-- A checkpoint on media (R155, R156): a delta is kept with the maps that its lines give on its base. -/
structure Ckpt where
  seq : Nat
  full : Bool
  /-- CKPT_SEQ of the full checkpoint it builds on. -/
  base : Nat
  writeSeq : Nat
  epoch : Nat
  /-- K (Table 5-5). -/
  k : Nat := 0
  /-- Cursor wheels of streams L, F, G, C, and their places in the order of opening. -/
  cursors : List Nat
  orders : List Nat := []
  large : List (Nat × LargeEntry)
  fine : List (Nat × FineEntry)
  heat : List (Nat × (Nat × Nat))
  /-- Wheels of stream C that hold it. -/
  wheels : List Nat := []
deriving DecidableEq, Repr

/-- The Rill and the flash image (R133 to R165). -/
structure Rill where
  state : RillState := .down
  /-- Every run on media, oldest first (R140). -/
  runs : List Run := []
  /-- Large map by segment; fine map by host page index (R144). -/
  large : List (Nat × LargeEntry) := []
  fine : List (Nat × FineEntry) := []
  captures : List Capture := []
  relocs : List Reloc := []
  /-- Checkpoints on media, oldest first (R155). -/
  ckpts : List Ckpt := []
  /-- Host bytes mapped since the last checkpoint (R155), and whether the next checkpoint must be full. -/
  mapped : Nat := 0
  /-- Flash bytes, captures and dirty bytes captured since the last periodic re-plan (R134). -/
  taken : Nat := 0
  takenN : Nat := 0
  takenDirty : Nat := 0
  /-- Completions and relocations held by a map reload (R159). -/
  reloading : Bool := false
  /-- WHEEL_CLOSED completions held by a map reload, by wheel (R159). -/
  heldClosed : List Nat := []
  /-- A re-format is running: the epoch it writes, and the CSEQ of its command (R142). -/
  reformat : Option Nat := none
  reformatCseq : Nat := 0
  /-- Merges, migration and garbage collection run: between their start and stop levels (R139, R151, R154). -/
  merging : Bool := false
  migrating : Bool := false
  collecting : Bool := false
  /-- ENDUR_PE_AVG of the last days, newest first, at most 31 (R162). -/
  peHistory : List Nat := []
  /-- Native bytes programmed and host bytes migrated today, and on the 29 days before, newest first (R154). -/
  gcNative : Nat := 0
  gcHost : Nat := 0
  gcDays : List (Nat × Nat) := []
deriving DecidableEq, Repr

/-! ### Spillway (06_spillway_vault.md) -/

/-- Spillway states (R207, Table 6-12). -/
inductive SpillState where
  | unarmed | armed | rehearsing | preSpilling | undoing | window | draining | closing | done
deriving DecidableEq, Repr

/-- Codes of SPILL_STATE. -/
def SpillState.code : SpillState → Nat
  | .unarmed => 0 | .armed => 1 | .rehearsing => 2 | .preSpilling => 3 | .undoing => 4
  | .window => 5 | .draining => 6 | .closing => 7 | .done => 8

/-- A speculative run (R176, R178). -/
structure SpecRun where
  seg : Nat
  seq : Nat
  pages : BitVec 512
  /-- Wheels holding its units not closed yet; empty once saved. -/
  waits : List Nat
  slots : List (Nat × Nat × Nat) := []
  kind : UnitKind
deriving DecidableEq, Repr

/-- A shortfall record with its unsaved pages (R202, Table 6-8). -/
structure Short where
  seg : Nat
  first : Nat
  overflow : Bool
  pages : BitVec 512
deriving DecidableEq, Repr

/-- A vault index record (R201, Table 6-7). -/
structure IndexRec where
  seg : Nat
  seq : Nat
  mask : BitVec 512
  whole : Bool
  spec : Bool
  overflow : Bool
  poison : Bool
  /-- Location of the run's first unit; COUNT is the number of set bits of MASK. -/
  loc : Loc := {}
deriving DecidableEq, Repr

/-- An extent descriptor (R200, Table 6-6): LOC and LENGTH; its CRC is that of the extent's bytes. -/
structure Extent where
  loc : Loc := {}
  length : Nat := 0
deriving DecidableEq, Repr

/-- A manifest (R199, Table 6-5), with the extents it names held as their contents. -/
structure Manifest where
  seq : Nat := 0
  prevSeq : Nat := 0
  /-- JLOCs of the two copies of the manifest it chains to; 0 if none. -/
  prevJlocA : Nat := 0
  prevJlocB : Nat := 0
  commitId : Nat := 0
  cause : Nat := 0
  outcome : Shut := .vaultedComplete
  prespill : Bool := false
  powerReturned : Bool := false
  holdChosen : Bool := false
  measValid : Bool := true
  damped : Bool := false
  chained : Bool := false
  closeout : Bool := false
  rewrites : Bool := false
  stateAtCommit : Nat := 0
  seqFirst : Nat := 0
  seqLast : Nat := 0
  wheelFirst : Nat := 0
  wheelLast : Nat := 0
  ceiling : Nat := 0
  capacity : Nat := 0
  breaches : Nat := 0
  eByte : Nat := 0
  eFixed : Nat := 0
  eCommit : Nat := 0
  eStart : Nat := 0
  eEnd : Nat := 0
  eClose : Nat := 0
  unitsDrained : Nat := 0
  unitsSpec : Nat := 0
  dirtyAtSeal : Nat := 0
  shortPages : Nat := 0
  tMed : Nat := 0
  tFlash : Int := 0
  lElig : Nat := 0
  tSeal : Nat := 0
  tEnd : Nat := 0
  evCommit : Nat := 0
  evClose : Nat := 0
  token : Nat := 0
  /-- Extent 0: the vaulted bitmaps by segment (D); the slots by BITMAP_PTR, D and W, and the DST shadow beside them, of
  entries not FREE (R84). -/
  bitmaps : List (Nat × BitVec 512) := []
  slots : List (Nat × (BitVec 512 × BitVec 512)) := []
  shadow : List (Nat × (Nat × Nat)) := []
  /-- Extent 1: overflow segments. -/
  overflow : List Nat := []
  /-- Extent 2: heat record (R510). -/
  heat : List (Nat × (Nat × Nat)) := []
  /-- Extent 3: vault index. -/
  index : List IndexRec := []
  /-- Extent 4: shortfall list. -/
  short : List Short := []
  /-- Extent 5: erasure list: wheel, erased columns, VOID. -/
  erasures : List (Nat × List Nat × Bool) := []
  /-- Descriptors of extents 0 to 5 (R200), and the segments of installed DRAM, which size extents 1 and 2. -/
  extents : List Extent := []
  installed : Nat := 0
  /-- Copies written to journal spokes, 0 to 2 (R198), and JLOCs. -/
  copies : Nat := 0
  jlocA : Nat := 0
  jlocB : Nat := 0
  /-- A copy is readable with a correct CRC, and every extent's CRC is correct (R219). -/
  valid : Bool := true
deriving DecidableEq, Repr

/-- The step of Table 6-4 a vault in CLOSING is at. -/
inductive VaultStep where
  | drain | metadata | journal | manifest | pointer
deriving DecidableEq, Repr

/-- The vault in progress (R185 to R204). -/
structure Vault where
  man : Manifest := {}
  step : VaultStep := .drain
  /-- Time (ms) of the commit and of the seal. -/
  committedAt : Nat := 0
  sealedAt : Nat := 0
  /-- Energy still to be taken from the first estimate posted after the moment (R335): at commit, at the
  seal, at the end of drain, at step 5. -/
  wantCommit : List PortId := []
  wantStart : List PortId := []
  wantEnd : List PortId := []
  wantClose : List PortId := []
  /-- Ports the converter drew from at the seal (R194). -/
  ports : List PortId := []
  /-- Slot sets already reported drained (R99). -/
  reported : List Nat := []
  /-- Units of metadata placed (Table 6-4 step 3). -/
  metaUnits : Nat := 0
  /-- Sanitize was running at the commit (Table 6-3). -/
  sanitize : Bool := false
deriving DecidableEq, Repr

/-- The Spillway's state beyond its registers (R168 to R208). -/
structure Spillway where
  state : SpillState := .unarmed
  /-- Input readings of the two chains, mV, and whether each has failed (R171). -/
  chainA : Nat := 0
  chainB : Nat := 0
  failA : Bool := false
  failB : Bool := false
  /-- The chains disagree: the lower reading governs (R171, R500). -/
  disagree : Bool := false
  /-- The input is present in the sense of R195. -/
  present : Bool := false
  /-- Ride-through timer running since an early warning, with the value it started with, ms (R170). -/
  timer : Option Nat := none
  /-- An early warning stands: no recovery and no commit since (R168). -/
  warned : Bool := false
  /-- Speculative runs in capture order, and bytes captured since the early warning (R176). -/
  runs : List SpecRun := []
  bytes : Nat := 0
  /-- Times (ms) of the recoveries in the last DAMP_WINDOW (R182). -/
  recoveries : List Nat := []
  /-- Ports dropped (targets) in this vault or pre-spill (R189), and whether a wheel was rewritten in it (R190). -/
  dropped : List Nat := []
  rewrote : Bool := false
  vault : Option Vault := none
  /-- RESERVE_ERASED (MiB) as the early warning or commit found it (R181). -/
  erasedAtEw : Option Nat := none
  /-- Manifests on media, oldest first (R198, R286). -/
  manifests : List Manifest := []
  /-- A sanitize cut by a commit is to resume at BRINGUP (Table 6-3). -/
  sanitizeIncomplete : Bool := false
  /-- Reserve sets released and waiting to be erased (R181). -/
  released : List Nat := []
  /-- Targets that failed SLC-mode entry in the last rehearsal: excluded from the vault (Table 6-11). -/
  noSlc : List Nat := []
  /-- The reserve set that the rehearsal in progress programs (R205). -/
  rehearse : Option Nat := none
  /-- A rehearsal cut by an early warning is to be requested again (R206). -/
  rehearseAgain : Bool := false
deriving DecidableEq, Repr

/-! ### Siphon and Kickstand (07_siphon_restore.md) -/

/-- Siphon states (R237, Table 7-10). -/
inductive SiphonState where
  | idle | evaluating | lockWait | fetching | settling | armedHold | holding
deriving DecidableEq, Repr

/-- Codes of SIPHON_STATE. -/
def SiphonState.code : SiphonState → Nat
  | .idle => 0 | .evaluating => 1 | .lockWait => 2 | .fetching => 3 | .settling => 4
  | .armedHold => 5 | .holding => 6

/-- The AON hold record's state, HOLD_STATE (Table 7-13). -/
inductive HoldState where
  | none | armed | holding | ended | broken
deriving DecidableEq, Repr

/-- Codes of HOLD_STATE. -/
def HoldState.code : HoldState → Nat
  | .none => 0 | .armed => 1 | .holding => 2 | .ended => 3 | .broken => 4

/-- The AON hold record (R212, R214). -/
structure Hold where
  state : HoldState := .none
  token : Nat := 0
  manifestSeq : Nat := 0
  /-- HOLD_ELAPSED, s. -/
  elapsed : Nat := 0
  pgLost : Bool := false
  /-- A result of Table 7-2 waiting to be recorded in HOLD_RESULT at the next BRINGUP. -/
  result : Nat := 0
deriving DecidableEq, Repr

/-- The Siphon's state beyond its registers (R211 to R239). -/
structure Siphon where
  state : SiphonState := .idle
  hold : Hold := {}
  /-- FLOOR_VAULT_ENERGY latched at commit (R211). -/
  floorAtCommit : Nat := 0
  /-- Path of Table 7-4 chosen in this BRINGUP; 0 before the choice. -/
  path : Nat := 0
  /-- This BRINGUP was entered from KICKSTAND (R216), and its hold was found invalid (R225). -/
  fromHold : Bool := false
  holdBad : Bool := false
  /-- Unretired links, newest first (R223). -/
  chain : List Manifest := []
  /-- Heat record the online order is taken from (R228). -/
  heat : List (Nat × (Nat × Nat)) := []
  /-- Extents in online order (R228), how many have been issued and have come online, and fetches complete. -/
  order : List Nat := []
  issued : Nat := 0
  online : Nat := 0
  fetched : List Nat := []
  /-- Segments whose settle is open (R231). -/
  settles : List Nat := []
  /-- Segments that must fold (Table 7-9 row 1). -/
  foldDue : List Nat := []
  /-- Folds in flight: captures of stream L by segment, with the wheels they wait for and the SEQ. -/
  folds : List (Nat × Nat × List Nat) := []
  /-- Time (ms) of rails good or of the Unlock, for RESTORE_TIME_LAST (Table 7-13). -/
  startedAt : Nat := 0
deriving DecidableEq, Repr

/-! ### Reservoir (08_reservoir_media.md) -/

/-- Reservoir states (R263, Table 8-8). -/
inductive ResState where
  | down | identifying | hold | running | quiet
deriving DecidableEq, Repr

/-- Codes of RES_STATE. -/
def ResState.code : ResState → Nat
  | .down => 0 | .identifying => 1 | .hold => 2 | .running => 3 | .quiet => 4

/-- Block states (R262, Table 8-6). -/
inductive BlockState where
  | erased | allocated | closed | refresh | erasing | retired
deriving DecidableEq, Repr

/-- Codes of Table 8-6. -/
def BlockState.code : BlockState → Nat
  | .erased => 0 | .allocated => 1 | .closed => 2 | .refresh => 3 | .erasing => 4 | .retired => 5

/-- Flash regions (R254, Table 8-4). -/
inductive Region where
  | pool | landing | reserve | journal | checkpoint | spare
deriving DecidableEq, Repr

/-- A block record (R254, Table 8-4). -/
structure BlockRec where
  /-- Native-equivalent erases × 1,000; Table 8-4 holds them × 10. -/
  erases : Nat := 0
  reads : Nat := 0
  progDay : Nat := 0
  state : BlockState := .erased
  slc : Bool := false
  region : Region := .pool
  entry : Nat := 0
  fine : Int := 0
  /-- BASE of the band it is planned in. -/
  band : Option Nat := none
  /-- Corrected bits since the last level change: 0 read where 1 was written, and the reverse (R249). -/
  low : Nat := 0
  high : Nat := 0
  /-- Day of service of the last erase (Table 8-5). -/
  eraseDay : Nat := 0
  /-- Retention scrubs done since the last program (R251). -/
  scrubs : Nat := 0
deriving DecidableEq, Repr

/-- A part descriptor (R244, Table 8-2), with the reference part's values; SLC_ADDR, SLC_VALUE and the retry table have none
there (DESIGN CHOICE, log entry 8). -/
structure PartDesc where
  descId : Nat := 1
  version : Nat := 1
  match_ : Nat := 0
  bits : Nat := 3
  luns : Nat := 4
  planes : Nat := 4
  levels : Nat := 7
  pageData : Nat := 16384
  pageSpare : Nat := 2048
  pagesPerBlock : Nat := 1536
  blocks : Nat := 1380
  goodMin : Nat := 1366
  flags : Nat := 0x1B
  slcAddr : Nat := 0
  slcValue : Nat := 0
  rateMax : Nat := 3600
  tRNative : Nat := 50
  tRSlc : Nat := 30
  tProgNative : Nat := 1800
  tProgMax : Nat := 3000
  tProgSlc : Nat := 400
  tBersMax : Nat := 10000
  tSuspMax : Nat := 100
  cycles : Nat := 3500
  slcWeight : Nat := 100
  disturb : Nat := 50000
  retainOff : Nat := 365
  retryN : Nat := 40
  /-- RETRY: the offsets of each entry by read level, in DAC steps. -/
  retry : List (List Int) := []
  /-- The CRC of bytes 252 to 255 is correct. -/
  crcOk : Bool := true
deriving DecidableEq, Repr

/-- The Reservoir's state beyond its registers (R241 to R265). -/
structure Reservoir where
  state : ResState := .down
  /-- Targets found at the last identification (R245). -/
  found : List Target := []
  /-- Targets per channel of the accepted population (R242). -/
  perChannel : Nat := 0
  /-- Part descriptor in use. -/
  part : PartDesc := {}
  /-- Rate the channels are trained to, MT/s (R241), and those whose calibration or training failed (R257). -/
  rate : Nat := 0
  failed : List Nat := []
  /-- Block records by block key (port × 4 + LUN) × 4096 + block; an unlisted block is erased, in the
  region its block number gives (R254, R259). -/
  blocks : List (Nat × BlockRec) := []
  /-- Snapshot of the table last written to the checkpoint region (R254). -/
  snapshot : List (Nat × BlockRec) := []
  /-- Retired LUNs (port × 4 + LUN), retired targets, disabled channels (R256, R257). -/
  retiredLuns : List Nat := []
  retired : List Nat := []
  disabled : List Nat := []
  /-- (unit, time) of missed TARGET_TIMEOUTs in the last 10 s: unit port × 4 + LUN (R256). -/
  misses : List (Nat × Nat) := []
  /-- Blocks queued for refresh, in order (R250 to R252). -/
  refreshQ : List Nat := []
  /-- Regions laid out: blocks per LUN of reserve, journal, checkpoint, spare (R259). -/
  reserveBpl : Nat := 0
  journalBpl : Nat := 0
  ckptBpl : Nat := 0
  spareBpl : Nat := 0
  /-- New parts found at ports whose targets are retired: they join the spare region once truing ends (Table 8-3). -/
  newParts : List Target := []
  /-- Ports of parts that joined so: their blocks lie in the spare region. -/
  spareParts : List Nat := []
  /-- Erases in progress that were suspended at an early warning (R260). -/
  eraseSuspended : List Nat := []
deriving DecidableEq, Repr

/-! ### Host port (02_host_port.md) -/

/-- An HDM decoder (R52, Table 2-4). -/
structure Decoder where
  base : Nat
  size : Nat
  dpaBase : Nat
  ways : Nat
  granularity : Nat
  lock : Bool
deriving DecidableEq, Repr

/-- How a logical device's host stands to an extent of Dynamic Capacity (R54, R55). -/
inductive ExtState where
  | offered | accepted | declined | released
deriving DecidableEq, Repr

/-- Sources of poison (Table 2-6). -/
inductive PoisonSrc where
  | internal | injected | external
deriving DecidableEq, Repr

/-- An SPDM session (R73, Table 2-10), over the transport that opened it. -/
structure SpdmSession where
  id : Nat
  via : SpdmVia := .doe
  /-- FINISH has completed it. -/
  established : Bool := false
  keyGen : Nat := 0
deriving DecidableEq, Repr

/-- How far a connection's negotiation stands: version, capabilities and algorithms agreed (R73). -/
structure SpdmConn where
  version : Bool := false
  capabilities : Bool := false
  algorithms : Bool := false
deriving DecidableEq, Repr

/-- The SPDM responder (R73): one connection on each transport, and the sessions of all. -/
structure Spdm where
  doe : SpdmConn := {}
  vdm : SpdmConn := {}
  i3c : SpdmConn := {}
  sessions : List SpdmSession := []
  nextId : Nat := 1
  /-- Slots that hold a certificate chain: slot 0 as Ubnan provisions it, slots 1 to 3 as the integrator loads them. -/
  certs : List Nat := [0]
deriving DecidableEq, Repr

/-- Media Status (Table 2-8). -/
inductive Media where
  | notReady | ready | disabled
deriving DecidableEq, Repr

/-- Codes of Media Status in the memory device status register of CXL 3.1 (PRESUMED, log entry 29). -/
def Media.code : Media → Nat
  | .notReady => 0 | .ready => 1 | .disabled => 3

/-- MSI-X of a function (R381): enabled, masked whole, vectors masked, and messages held as (vector, event). -/
structure Msix where
  enable : Bool := false
  funcMask : Bool := false
  masked : List Nat := []
  held : List (Nat × Nat) := []
deriving DecidableEq, Repr

/-- PF1 of one logical device, at the defaults that its FLR restores (R44, R45). -/
structure Pf1 where
  msix : Msix := {}
  /-- MSI-X vector of each event log (R380), by log code. -/
  logVectors : List (Nat × Nat) := [(1, 2), (2, 3), (3, 4), (4, 5), (5, 6)]
deriving DecidableEq, Repr

/-- PF2 (R44, R45): its diagnostic windows are open; MSI-X of its 4 vectors. -/
structure Pf2 where
  diagOpen : Bool := false
  msix : Msix := {}
deriving DecidableEq, Repr

/-- Overflow of an event log (R64): records lost, and CXL's timestamps of the first and the last loss. -/
structure LogOver where
  count : Nat := 0
  first : Nat := 0
  last : Nat := 0
deriving DecidableEq, Repr

/-- What PF0 reports of itself and nothing changes (R25, R46, R56, R77): bytes of each BAR by function and number, and the
fixed fields of its DVSECs and capabilities. -/
structure PortCaps where
  /-- Table 2-2: (function, BAR, bytes). -/
  bars : List (Nat × Nat × Nat) :=
    [(0, 0, 131072), (1, 0, 65536), (1, 2, 16384), (2, 0, 1048576), (2, 2, 4096)]
  /-- Vectors of PF1 and of PF2 (Table 2-2). -/
  vectors1 : Nat := 64
  vectors2 : Nat := 4
  cacheCapable : Bool := false
  backInvalidate : Bool := false
  tsp : Bool := false
  /-- Regions report sharing (Table 2-11). -/
  sharing : Bool := false
  memClrCapable : Bool := true
  /-- CXL Reset Timeout, ms (R46); Memory_Active_Timeout, s (R56); GPF Phase 2 duration, ms (R25). -/
  resetTimeout : Nat := 100
  memActiveTimeout : Nat := 64
  gpfPhase2 : Nat := 0
deriving DecidableEq, Repr

/-- Security state (R74, R75). -/
structure Security where
  user : Option (BitVec 256) := none
  master : Option (BitVec 256) := none
  locked : Bool := false
  frozen : Bool := false
  /-- Failed Unlock attempts since power-on; five block the passphrase. -/
  fails : Nat := 0
deriving DecidableEq, Repr

/-- A vendor record in a CXL event log: event, SEQ, device state, severity (Table 12-10). -/
structure LogRec where
  /-- 0 for a standard record of the given kind, see `kind`. -/
  event : Nat
  seq : Nat
  state : Nat
  sev : Nat
  /-- 0 vendor, 1 General Media, 2 DRAM, 3 Memory Module, 4 Dynamic Capacity. -/
  kind : Nat := 0
  /-- Address (DPA line) or extent of a standard record. -/
  addr : Nat := 0
  /-- More flag of a Dynamic Capacity sequence (R54). -/
  more : Bool := false
  handle : Nat := 0
deriving DecidableEq, Repr

/-- The host port's state beyond its registers (R41 to R78, R506 to R509). -/
structure HostPort where
  up : Bool := false
  width : Nat := 0
  /-- GT/s. -/
  rate : Nat := 0
  flit256 : Bool := false
  lowLat : Bool := false
  /-- Mem_Enable capability in the CXL DVSEC: CXL.mem enabled (R42). -/
  memCapable : Bool := false
  sealed : Bool := false
  /-- Hosts (logical devices) that have started GPF (R24). -/
  gpfStarted : List Nat := []
  windowOpen : Bool := false
  /-- What PF0 reports and nothing changes. -/
  caps : PortCaps := {}
  /-- Memory_Active in the CXL DVSEC, and Media Status (Table 2-8, R56). -/
  memActive : Bool := false
  media : Media := .notReady
  /-- Committed decoders by logical device, in order (R52). -/
  decoders : List (Nat × List Decoder) := []
  /-- Extents online, ascending (R53); host standing by (logical device × 8192 + extent). -/
  online : List Nat := []
  extents : List (Nat × ExtState) := []
  /-- Next extent handle/sequence of Dynamic Capacity records. -/
  dcTag : Nat := 0
  /-- Extents still to offer after every other (Table 2-5), by logical device. -/
  reoffer : List (Nat × List Nat) := []
  /-- First volatile byte not yet cleared by the background clearing, and its end; equal when done (R47). -/
  clearAt : Nat := 0
  clearEnd : Nat := 0
  /-- Poisoned lines by DPA line index (R61). -/
  poison : List (Nat × PoisonSrc) := []
  /-- Logical devices whose list has more ranges than POISON_LIST_MAX, with the event recorder's sequence when it came to
  that (R62). -/
  poisonOver : List (Nat × Nat) := []
  /-- Results of the last Scan Media of each logical device (R61). -/
  scans : List (Nat × List (Nat × PoisonSrc)) := []
  ideSecure : Bool := false
  /-- An integrity failure bars CXL.mem until the stream is established again (R72). -/
  ideFailed : Bool := false
  ideSkid : Bool := false
  ideKeys : Nat := 0
  /-- CXL.io streams with keys programmed, and streams started: 0 the link stream, 1 to 4 selective (Table 2-9). -/
  ioKeys : List Nat := []
  ioStreams : List Nat := []
  spdm : Spdm := {}
  sec : Security := {}
  /-- Shutdown State last set by host software: dirty (R31). -/
  shutdownDirty : Bool := false
  /-- CXL event logs by code: 1 Informational, 2 Warning, 3 Failure, 4 Fatal, and 5 + 8 × LD for the Dynamic Capacity log
  of a logical device (R59, R64). -/
  logs : List (Nat × List LogRec) := []
  logOver : List (Nat × LogOver) := []
  /-- Alert thresholds and supported logs are fixed; the CXL timestamp in ns. -/
  timestamp : Nat := 0
  qosLimit : List (Nat × Nat) := []
  qosAlloc : List (Nat × Nat) := []
  /-- Allocations by logical device: volatile (64 GiB units), persistent (GiB) (R58). -/
  allocs : List (Nat × (Nat × Nat)) := []
  /-- Allocations in force since the last BRINGUP (R51). -/
  allocsInForce : List (Nat × (Nat × Nat)) := []
  /-- VOLATILE_SIZE (GiB), HOST_CAP_MODE, MLD_ENABLE and LD_COUNT in force since the last BRINGUP (R50, R51). -/
  volGiB : Nat := 0
  whole : Bool := false
  mld : Bool := false
  ldCount : Nat := 1
  /-- PF1 of each logical device that differs from its defaults (R44), and PF2. -/
  pf1 : List (Nat × Pf1) := []
  pf2 : Pf2 := {}
  /-- Time + 1 of the last General Media record of R57; 0 before one. -/
  lastOffline : Nat := 0
  /-- A whole-device erase runs (R76): the CSEQ of its command, 0 for a sanitize resumed in BRINGUP (Table 7-4). -/
  erasing : Option Nat := none
  /-- The erase is a Passphrase Secure Erase. -/
  eraseUser : Bool := false
deriving DecidableEq, Repr

/-! ### Wheels (09_wheels.md) -/

/-- Wheel engine states (R306, Table 9-11). -/
inductive EngState where
  | down | recovering | serving
deriving DecidableEq, Repr

/-- Codes of WHEEL_STATE [2:0]. -/
def EngState.code : EngState → Nat
  | .down => 0 | .recovering => 1 | .serving => 2

/-- Wheel states (R280, Table 9-3); FREE wheels are not listed. -/
inductive WheelState where
  | open_ | closed | degraded | void | lost
deriving DecidableEq, Repr

/-- Codes of Table 9-3. -/
def WheelState.code : WheelState → Nat
  | .open_ => 1 | .closed => 2 | .degraded => 3 | .void => 4 | .lost => 5

/-- A wheel that is not FREE (R280, Table 9-5). -/
structure Wheel where
  state : WheelState := .open_
  stream : Stream
  slc : Bool := false
  /-- d, and the data strips n of a short wheel (R278). -/
  d : Nat := 14
  strips : Nat := 14
  /-- BASE of its band. -/
  band : Nat := 0
  /-- Data units written, fill included, and units other than fill. -/
  filled : Nat := 0
  units : Nat := 0
  seqMin : Nat := 0
  seqMax : Nat := 0
  /-- Erased columns (R279). -/
  erasures : List Nat := []
  /-- Unit positions found unreadable, as column × 16 + position (R279). -/
  badUnits : List Nat := []
  /-- Erasures at its worst unit position when last judged (Table 9-12). -/
  judged : Nat := 0
  successor : Option Nat := none
  short : Bool := false
  metaWheel : Bool := false
  rewrite : Bool := false
  /-- Every data strip has been issued. -/
  issued : Bool := false
  /-- P and Q are programmed (R277). -/
  parity : Bool := false
  /-- Its CLOSE (or VOID) descriptor is journalled (R284). -/
  journalled : Bool := false
  /-- Its place in the order in which wheels were opened, which each stream's plan and lanes give (R157, R273); a wheel handed
  to the Rill takes its place then. -/
  order : Nat := 0
deriving DecidableEq, Repr

/-- A spoke: target port, LUN, block (Table 9-1). -/
structure Spoke where
  port : Nat
  lun : Nat
  block : Nat
deriving DecidableEq, Repr

/-- A band with its plan record, END and SUBST records (R269, R275). -/
structure Band where
  base : Nat
  stream : Stream
  slc : Bool
  d : Nat
  lane : Nat
  planSeq : Nat
  spokes : List Spoke
  rows : Nat
  /-- Next row to open. -/
  next : Nat := 0
  /-- Opened by its lane. -/
  opened : Bool := false
  /-- END record: last row. -/
  ended : Option Nat := none
  /-- Columns replaced from a row on: column, FROM_ROW, the new block (R189, Table 9-1). -/
  subst : List (Nat × Nat × Spoke) := []
  /-- Its blocks are being erased (R270). -/
  erasing : Bool := false
  /-- Reserve set of a V band (R274). -/
  set : Nat := 0
deriving DecidableEq, Repr

/-- A band record of the NV Store (Table 9-1): TYPE 1 PLAN, 2 END, 3 SUBST, 4 RESERVE. -/
structure BandRec where
  type : Nat
  stream : Stream
  slc : Bool
  d : Nat
  base : Nat
  lane : Nat
  planSeq : Nat
  spokes : List Spoke := []
  lastRow : Nat := 0
  column : Nat := 0
  fromRow : Nat := 0
  newSpoke : Option Spoke := none
  reason : Nat := 0
deriving DecidableEq, Repr

/-- A stream's lanes and position (R273). -/
structure StreamPos where
  /-- Band of each lane, by lane. -/
  lanes : List (Nat × Nat) := []
  /-- Next lane in turn. -/
  turn : Nat := 0
  /-- The wheel being filled. -/
  cur : Option Nat := none
  /-- Next PLAN_SEQ. -/
  planSeq : Nat := 0
deriving DecidableEq, Repr

/-- Descriptor types of the wheel journal (Table 9-5). -/
inductive DescType where
  | open_ | close | void | lost | trued
deriving DecidableEq, Repr

/-- A wheel journal descriptor (Table 9-5); its other fields are the wheel's. -/
structure Desc where
  wheel : Nat
  type : DescType
  stream : Stream
  erasures : List Nat := []
deriving DecidableEq, Repr

/-- A journal strip of descriptors: JSEQ, the CKPT_SEQ it carries, copies on media (R281 to R286). -/
structure JStrip where
  jseq : Nat
  ckptSeq : Nat
  descs : List Desc
  copyA : Bool := true
  copyB : Bool := true
  /-- Where the two copies stand: key of the journal block, and strip in it (R281). -/
  placeA : Nat × Nat := (0, 0)
  placeB : Nat × Nat := (4194304, 0)
  /-- MANIFEST_SEQ of the manifest it holds, if it holds one (Table 9-4, KIND 1). -/
  man : Option Nat := none
deriving DecidableEq, Repr

/-- A column queued for truing (R292, R293). -/
structure TrueJob where
  base : Nat
  column : Nat
  slow : Bool
  /-- REASON of the SUBST record (Table 9-1). -/
  reason : Nat
deriving DecidableEq, Repr

/-- The state of a reserve descriptor being built (R301). -/
structure ReserveBuild where
  d : Nat
  /-- Reserve sets laid out. -/
  sets : Nat
deriving DecidableEq, Repr

/-- The wheels' state beyond their registers (R268 to R307). -/
structure Wheels where
  state : EngState := .down
  /-- Wheel table by wheel number (R280). -/
  table : List (Nat × Wheel) := []
  /-- Wheels opened so far. -/
  orders : Nat := 0
  /-- SLC-mode landing programs of the last 60 s: target port, µs, time (ms) (R115). -/
  landTimes : List (Nat × Nat × Nat) := []
  /-- Bands by BASE (R270). -/
  bands : List (Nat × Band) := []
  l : StreamPos := {}
  f : StreamPos := {}
  g : StreamPos := {}
  c : StreamPos := {}
  v : StreamPos := {}
  /-- Descriptors pending (R281). -/
  pending : List Desc := []
  /-- Journal strips on media, oldest first (R281). -/
  journal : List JStrip := []
  jseq : Nat := 0
  /-- Next strip positions of copy A, and of copy B in its own order (R281). -/
  jposA : Nat := 0
  jposB : Nat := 0
  slowSet : List Nat := []
  /-- (port, time in ms) of slow events within SLOW_WINDOW (R291). -/
  slowEvents : List (Nat × Nat) := []
  /-- Truing queue (R292, R293). -/
  trueQ : List TrueJob := []
  /-- Wheels with a LOST record, and the segments whose folds are open (R296). -/
  lost : List (Nat × List Nat) := []
  /-- LOST records that read FOLDED (R296). -/
  folded : List Nat := []
  /-- Old d, and wheels walked since the last reshape record (R299). -/
  reshapeWalked : Nat := 0
  /-- Last boundary held in a reshape record (R300). -/
  reshapeSaved : Nat := 0
  build : Option ReserveBuild := none
  /-- Reserve sets of the geometry before a flip whose blocks are not released yet: data spokes and sets (R301, R302). -/
  oldSets : Option (Nat × Nat) := none
  /-- Reserve sets of the active reserve: number, and whether any row has been programmed (R274). -/
  sets : List (Nat × Bool) := []
  /-- The set stream V is writing. -/
  setNow : Option Nat := none
  /-- d of the reserve before a flip whose geometry no vault has measured yet (R303). -/
  flipOldD : Option Nat := none
  /-- Wheels the SCRUB_DEEP in hand has read (R253). -/
  deepDone : List Nat := []
  /-- Geometry targets, pool and reserve, that the last RESHAPE request of this stay in ONLINE was made for (R299). -/
  geomAsked : Option (Nat × Nat) := none
deriving DecidableEq, Repr

/-! ### Fault collector and event recorder (12_faults_events.md) -/

/-- Collector states (Table 12-6). -/
inductive FcState where
  | clear | stopped | limited
deriving DecidableEq, Repr

/-- The fault collector's state beyond its registers (R366 to R383). -/
structure Collector where
  /-- Collector state (Table 12-6). -/
  state : FcState := .clear
  /-- AON copy of the FC_STATUS bits of sources 31 to 36 and 41 (R369). -/
  aonStatus : Nat := 0
  /-- AON copy of their severity fields: highest code by source (R369). -/
  aonSev : List (Nat × Nat) := []
  /-- First source at or above ALIVE_STOP_SEV in this fault state; none when it began by entry to
  FAULT alone (Table 12-12 RECOVERY). -/
  stopSrc : Option Nat := none
  /-- Times (ms) of exits from the fault state in the last 24 h (R376). -/
  exits : List Nat := []
  /-- FAULT_RESTART taken while the input was absent: the exit waits (Table 12-14). -/
  restartWaits : Bool := false
  /-- The quiet period has passed while the input was absent: the exit waits (R375). -/
  quietWaits : Bool := false
  /-- Reports counted without a record since the last record of the source (R373). -/
  suppressed : List (Nat × Nat) := []
  /-- (source, time) of the FAULT records written in the last second (R373). -/
  recTimes : List (Nat × Nat) := []
  /-- Reports produced by the armed injection (Table 12-12 INJECTION). -/
  injReports : Nat := 0
  /-- FI_CTRL as armed, for the INJECTION record; none when no injection is armed (R377). -/
  armed : Option Nat := none
  /-- Time + 1 of the last MCTP alert by event (R383). -/
  alertLast : List (Nat × Nat) := []
  /-- Recurrences of an event inside EV_ALERT_MIN by event (R383). -/
  alertRecur : List (Nat × Nat) := []
  /-- A BASIN_CHn source has reported FATAL since the last BRINGUP (R211). -/
  basinFatal : Bool := false
  /-- A FATAL report of this step whose device-state reaction (R372) is still to run. -/
  fatalPend : Bool := false
deriving DecidableEq, Repr

/-- Record types of the event recorder (Table 12-12). -/
inductive RecType where
  | fault | event | state | shutdown | snapshot | recordsLost | powerLoss | recovery | injection
deriving DecidableEq, Repr

/-- TYPE codes (Table 12-12). -/
def RecType.code : RecType → Nat
  | .fault => 1 | .event => 2 | .state => 3 | .shutdown => 4 | .snapshot => 5
  | .recordsLost => 6 | .powerLoss => 7 | .recovery => 8 | .injection => 9

/-- A record of the event recorder: the header fields that vary, and the payload as 64-bit
little-endian words (R385, Tables 12-11 and 12-12). -/
structure Rec where
  type : RecType
  seq : Nat
  /-- 0x1FF if none. -/
  event : Nat := 0x1FF
  state : Nat := 0
  payload : List Nat := [0]
deriving DecidableEq, Repr

/-- Where a record lies in the circulating area: sector 0 to 257, row 0 to 127, byte in row (R385). -/
structure RecLoc where
  sector : Nat := 0
  row : Nat := 0
  byte : Nat := 0
deriving DecidableEq, Repr

/-- What the reader window was loaded from (R389, R390). -/
inductive RecWin where
  | nothing
  | circ (l : RecLoc)
  | pin (slot : Nat)
deriving DecidableEq, Repr

/-- The event recorder (R384 to R391). -/
structure Recorder where
  /-- Records waiting to be written, oldest first, at most 1,024 (R387). -/
  queue : List Rec := []
  /-- The circulating area: (location, record), oldest first (R385). -/
  circ : List (RecLoc × Rec) := []
  /-- The writer's next position (R385). -/
  head : RecLoc := {}
  /-- The pinned area: records of SEQ 1 to 4,096, at most one each (R385). -/
  pinned : List Rec := []
  /-- Highest SEQ durable on the NV Store (R384). -/
  durable : Nat := 0
  /-- AON copy of REC_SEQ (R384). -/
  aonSeq : Nat := 1
  /-- First and last SEQ given but never written, not yet covered by a RECORDS_LOST record (R386). -/
  gap : Option (Nat × Nat) := none
  /-- Records lost without a SEQ since the previous RECORDS_LOST record (R384). -/
  lostNoSeq : Nat := 0
  /-- Times (ms) of the records written in the last second (R387). -/
  writes : List Nat := []
  /-- What the reader window shows (R390). -/
  window : RecWin := .nothing
deriving DecidableEq, Repr

/-! ### NV Store (13_nv_store_configuration.md) -/

/-- NV layer states (R417, Table 13-6). -/
inductive NvState where
  | down | aonRead | mounting | hold | running | quiet
deriving DecidableEq, Repr

/-- Codes of NV_STATE. -/
def NvState.code : NvState → Nat
  | .down => 0 | .aonRead => 1 | .mounting => 2 | .hold => 3 | .running => 4 | .quiet => 5

/-- A device header as BRINGUP finds it (R397). -/
inductive NvHeader where
  | own | blank | foreign
deriving DecidableEq, Repr

/-- A pointer record (R203, Table 6-9). -/
structure PointerRec where
  manifestSeq : Nat := 0
  closed : Bool := true
  shutdown : Shut := .none
  jlocA : Nat := 0
  jlocB : Nat := 0
  copies : Nat := 0
  sanitizeIncomplete : Bool := false
  wheelFirst : Nat := 0
  wheelLast : Nat := 0
deriving DecidableEq, Repr

/-- A restore record (Table 7-6). -/
structure RestoreRec where
  retiredSeq : Nat := 0
  activeSeq : Nat := 0
  jlocA : Nat := 0
  jlocB : Nat := 0
  poisonFloor : Nat := 0
  dscSeq : Nat := 0
  resumed : Bool := false
deriving DecidableEq, Repr

/-- A roster entry of a domain (15_mirsen_domain.md R446). -/
structure RosterRec where
  member : Nat
  serial : Nat
  record : Nat := 0
  commitId : Nat := 0
  reported : Bool := false
  missing : Bool := false
deriving DecidableEq, Repr

/-- A cell of a COUNTER record: blank, counted, or void (R407, R408). -/
inductive Cell where
  | blank | counted | torn | void
deriving DecidableEq, Repr

/-- A journal entry (R430, Table 14-7). -/
structure JEntry where
  cseq : Nat
  transport : Nat
  ld : Nat
  fm : Bool
  std : Bool
  state : Nat
  persist : Bool
  opcode : Nat
  tag : Nat
  digest : Nat
  status : Nat
  detail : Nat
  evDone : Nat
  flags : Nat
deriving DecidableEq, Repr

/-- Payloads of the record types of Table 13-4. -/
inductive NvData where
  | pointer (p : PointerRec)
  | restore (r : RestoreRec)
  | dsc (count manifestSeq : Nat)
  | cfgImage (gen area : Nat)
  | cfgDelta (id value gen : Nat)
  | layout (entries : List (Nat × Nat)) (regions : List Nat)
  | dramPop (p : List Dimm)
  | flashPop (p : List Target)
  | counter (index base : Nat) (cells : List Cell)
  | learned (l : Learned)
  | moduleTable (slot : Nat) (t : ModTable)
  | partDesc (slot : Nat) (d : PartDesc)
  | band (r : BandRec)
  | bandPack (l : List BandRec)
  | lost (wheel : Nat) (folded : Bool)
  | reshape (oldD newD boundary : Nat) (done : Bool)
  | reserveDesc (desc d sets : Nat) (active : Bool)
  | ckptLoc (newest second epoch : Nat)
  | ppr (moduleSlot : Nat) (rows : List Nat)
  | badBlocks (lun : Nat) (blocks : List Nat)
  | cmdJournal (e : JEntry)
  | fwBoot (slot : Nat) (trial : Bool)
  | cert (slot : Nat)
  | domain (member roleCfg id cgen epoch : Nat)
  | roster (part : Nat) (entries : List RosterRec)
  | shutdownState (dirty : Bool)
  | security (userSet masterSet locked frozen : Bool)
deriving DecidableEq, Repr

/-- A record of the NV Store (R398, Table 13-3). -/
structure NvRec where
  nseq : Nat
  data : NvData
  /-- First NSEQ of the record's group, if it is in one (R402). -/
  group : Option Nat := none
  groupEnd : Bool := false
  /-- Sector of the log (0 to 360) or vault area (0 to 7) it lies in. -/
  sector : Nat := 0
deriving DecidableEq, Repr

/-- An update in flight (R399). -/
structure NvUpdate where
  rec_ : NvRec
  onA : Bool := false
  /-- Failed program attempts on the device in turn (R400). -/
  tries : Nat := 0
deriving DecidableEq, Repr

/-- A configuration image area (R409). -/
structure CfgImage where
  gen : Nat := 0
  entries : List (Nat × Nat) := []
deriving DecidableEq, Repr

/-- The NV Store (R395 to R420). -/
structure NvStore where
  state : NvState := .down
  /-- The early mount has run in this start (R477). -/
  early : Bool := false
  /-- Records on device A and on device B, oldest first. -/
  a : List NvRec := []
  b : List NvRec := []
  /-- Updates in flight, in NSEQ order (R399). -/
  buf : List NvUpdate := []
  /-- Records held during a power event, in order (R416): payload and group size. -/
  held : List NvData := []
  nseq : Nat := 0
  failedA : Bool := false
  failedB : Bool := false
  headerA : NvHeader := .own
  headerB : NvHeader := .own
  /-- A resynchronisation of the other device runs: SINGLE meanwhile (R397). -/
  resync : Bool := false
  /-- Head sectors and bytes used in them; erased sectors of the log; erased vault sectors. -/
  logHead : Nat := 0
  logUsed : Nat := 0
  logFree : Nat := 360
  vaultHead : Nat := 0
  vaultUsed : Nat := 0
  vaultFree : Nat := 7
  /-- A compaction erase is in progress: sector, done on A; suspended by a power event (R404, R416). -/
  erasing : Option (Nat × Bool) := none
  eraseSuspended : Bool := false
  /-- The two image areas (R409) and the factory layout entries in force. -/
  image0 : CfgImage := {}
  image1 : CfgImage := {}
deriving DecidableEq, Repr

/-- A device that holds nothing of use: marked FAILED (R400), or without a header of this part (R397). -/
def NvStore.downA (v : NvStore) : Bool := v.failedA || decide (v.headerA ≠ .own)
/-- As `downA`, of device B. -/
def NvStore.downB (v : NvStore) : Bool := v.failedB || decide (v.headerB ≠ .own)

/-- The records of the device that governs: A's, or B's while A is of no use. -/
def NvStore.governing (v : NvStore) : List NvRec := if v.downA then v.b else v.a

/-! ### Commands, journal and arbiter (14_commands_journal.md) -/

/-- Activity states (R439, Table 14-11). -/
inductive ActState where
  | idle | waitPlan | waitDomain | running | suspended
deriving DecidableEq, Repr

/-- Codes of Table 14-11. -/
def ActState.code : ActState → Nat
  | .idle => 0 | .waitPlan => 1 | .waitDomain => 2 | .running => 3 | .suspended => 4

/-- Who sent a packet: a transport with one logical device (R422). -/
structure Origin where
  transport : Nat
  ld : Nat
deriving DecidableEq, Repr

/-- A reply still owed to an originator: its command's journal entry and header (R425). -/
structure Owed where
  origin : Origin
  fm : Bool
  tag : Nat
  opcode : Nat
  cseq : Nat
  /-- SRC and MSEQ of the CMD message that carried the command, on transport 4. -/
  member : Nat := 0
  mseq : Nat := 0
  /-- The reply is discarded: an FLR of PF1 came between (R45). -/
  discard : Bool := false
deriving DecidableEq, Repr

/-- One maintenance activity (R436, Table 14-9). -/
structure Activity where
  state : ActState := .idle
  /-- Tokens held: mJ, erasures, MB/s. -/
  energy : Nat := 0
  redundancy : Nat := 0
  bandwidth : Nat := 0
  /-- CSEQ of the command that started it. -/
  cseq : Nat := 0
  /-- Last refusal, the four slots of Table 14-10. -/
  refusal : List Nat := [0, 0, 0, 0]
  /-- The reply owed to its request while it waits. -/
  owed : Option Owed := none
  /-- Suspended by an overdraw, its tokens released (R438). -/
  overdrawn : Bool := false
  /-- A domain grant is held or asked for: REQ_ID (R457). -/
  grant : Option Nat := none
  /-- It has just begun to run: its work starts within this command. -/
  fresh : Bool := false
deriving DecidableEq, Repr

/-- Commands, journal, arbiter (R422 to R441). -/
structure Cmd where
  /-- The journal, oldest first, at most 8,192 entries (R431). -/
  journal : List JEntry := []
  /-- Last CSEQ given, and its AON copy (R430, R433). -/
  cseq : Nat := 0
  aonCseq : Nat := 0
  /-- Stages by originator (R413): (transport × 16 + ld, entries (ID, value)). -/
  stages : List (Nat × List (Nat × Nat)) := []
  /-- Replies owed: commands still running, by originator (R425). -/
  owed : List Owed := []
  learn : Activity := {}
  true_ : Activity := {}
  reshape : Activity := {}
  scrubDeep : Activity := {}
  rehearse : Activity := {}
  fwActivate : Activity := {}
  dimmSpare : Activity := {}
  bist : Activity := {}
  /-- Flash bandwidth of the population, MB/s; the Reservoir publishes it less the Rill's reservation (R135, R436). -/
  flashBw : Nat := 0
  /-- Port of the LEARN in hand or asked for, and ACK_UNPROTECTED (R326). -/
  learnPort : Option PortId := none
  learnAck : Bool := false
  /-- Activities management firmware has asked for in this stay in ONLINE (R440). -/
  asked : List Nat := []
  /-- JOURNAL_WINDOW: the CSEQ last loaded (R435). -/
  window : Nat := 0
  /-- Counter views as last latched by COUNTER_LATCH or HOST_DOORBELL LATCH (R474). -/
  latched : List (Nat × Nat) := []
deriving DecidableEq, Repr

/-! ### Sequencer (11_power_sequencing.md) -/

/-- Sequencer states (R362, Table 11-8). -/
inductive SeqState where
  | railsOff | rising | supervising | falling | holding
deriving DecidableEq, Repr

/-- Codes of SEQ_STATE. -/
def SeqState.code : SeqState → Nat
  | .railsOff => 0 | .rising => 1 | .supervising => 2 | .falling => 3 | .holding => 4

/-- Sequences (R346, Table 11-3). -/
inductive SeqKind where
  | none | powerUp | powerDown | vaultKeep | kickstand | restore
deriving DecidableEq, Repr

/-- Codes of SEQ_ACTIVE. -/
def SeqKind.code : SeqKind → Nat
  | .none => 0 | .powerUp => 1 | .powerDown => 2 | .vaultKeep => 3 | .kickstand => 4 | .restore => 5

/-- Where a step stands (R344). -/
inductive StepPhase where
  | waitPg | stable | delay
deriving DecidableEq, Repr

/-- A step being run: its slots, the chatter events it has seen. -/
structure Step where
  slots : List Nat
  /-- 0.1 ms. -/
  delay : Nat := 0
  phase : StepPhase := .waitPg
  chatter : Nat := 0
deriving DecidableEq, Repr

/-- A one-slot retry or a group restart, run beside the sequence (R350): its step and the steps after it. -/
structure SideStep where
  step : Step
  rest : List (List Nat) := []
  /-- A retry of this slot; none for a group restart. -/
  retry : Option Nat := none
  /-- EN is held low for RETRY_OFF_TIME. -/
  off : Bool := false
deriving DecidableEq, Repr

/-- Holdup converter modes (R358, Table 11-6). -/
inductive ConvMode where
  | off | standby | charge | assist | source
deriving DecidableEq, Repr

/-- Codes of HOLDUP_MODE. -/
def ConvMode.code : ConvMode → Nat
  | .off => 0 | .standby => 1 | .charge => 2 | .assist => 3 | .source => 4

/-- A PMBus slave (R353, R354). -/
structure PmSlave where
  /-- VOUT_MODE read at BRINGUP is ULINEAR16. -/
  used : Bool := true
  voutMode : Nat := 0
  /-- STATUS_WORD, READ_VIN, READ_VOUT, READ_IOUT, READ_TEMPERATURE_1 as last read. -/
  telemetry : List Nat := [0, 0, 0, 0, 0]
  stale : Bool := false
  /-- Failed attempts of the transaction in hand. -/
  tries : Nat := 0
deriving DecidableEq, Repr

/-- What a flush serves (R348, R142, R487). -/
inductive FlushFor where
  | shutdown | reformat | bist
deriving DecidableEq, Repr

/-- The sequencer, the converter, PMBus and the reset outputs (R340 to R363). -/
structure Seq where
  /-- The AON domain has power. -/
  aonUp : Bool := false
  /-- The core domain has power and clocks (rails good). -/
  coreUp : Bool := false
  state : SeqState := .railsOff
  active : SeqKind := .none
  /-- Number of the step in progress (SEQ_STEP), the step, and the steps after it with their delays. -/
  stepNo : Nat := 0
  step : Option Step := none
  todo : List (List Nat × Nat) := []
  /-- Slots with EN high, with deglitched PG high, running (R345). -/
  en : List Nat := []
  pg : List Nat := []
  running : List Nat := []
  side : List SideStep := []
  /-- Retries of a slot in this drop's handling (R350). -/
  tries : List (Nat × Nat) := []
  groupOff : List Nat := []
  /-- Failed POWER_UP or RESTORE steps in a row (R349). -/
  attempts : Nat := 0
  retryWaits : Bool := false
  sysResetWaits : Bool := false
  /-- A sequence to run when the present one ends: POWER_UP after a drop of the slots raised. -/
  stay : Bool := false
  mode : ConvMode := .off
  /-- Levels of HOLDUP_FAULT_N and HOLDUP_PG as last seen (R357). -/
  faultN : Bool := true
  holdupPg : Bool := true
  convFailed : Bool := false
  /-- The 10 ms of STANDBY after a recovery runs (R358). -/
  standby : Bool := false
  chgDone : List PortId := []
  /-- Reset outputs released, and stretches running (R356). -/
  released : List Nat := []
  stretch : List Nat := []
  slaves : List (Nat × PmSlave) := []
  /-- A VOUT_COMMAND write is in hand or its readback is due; value in mV. -/
  voutWrite : Option Nat := none
  avsStopped : Bool := false
  /-- Time (ms) + 1 of the last VOUT_COMMAND write. -/
  lastVout : Nat := 0
  /-- The flush in hand, with the reply owed (R348). -/
  flush : Option (FlushFor × Option Owed) := none
  /-- AON power was lost while the device served: its SERVICE_OPEN went with it, and no vault could start (Table 1-3; DEDUCED,
  log entry 229). -/
  lostOpen : Bool := false
  /-- Slot counters changed since they were appended; time (ms) + 1 of the last append (R360). -/
  countersDirty : Bool := false
  lastCounters : Nat := 0
deriving DecidableEq, Repr

/-! ### Mirsen domain (15_mirsen_domain.md) -/

/-- Mirsen unit states (R461, Table 15-7). -/
inductive MirState where
  | down | standalone | linking | unsynced | synced | orphan
deriving DecidableEq, Repr

/-- Codes of MIRSEN_STATE. -/
def MirState.code : MirState → Nat
  | .down => 0 | .standalone => 1 | .linking => 2 | .unsynced => 3 | .synced => 4 | .orphan => 5

/-- Domain roles (R454). -/
inductive Role where
  | none | worker | alternate | manager
deriving DecidableEq, Repr

/-- Codes of DOMAIN_ROLE. -/
def Role.code : Role → Nat
  | .none => 0 | .worker => 1 | .alternate => 2 | .manager => 3

/-- A Mirsen port (R444). -/
structure MPort where
  up : Bool := false
  serial : Nat := 0
  member : Nat := 0x7FF
  /-- ns. -/
  flight : Nat := 0
  depth : Nat := 0
  frames : Nat := 0
  retries : Nat := 0
deriving DecidableEq, Repr

/-- A frame sent on a port and not acknowledged yet (R453). -/
structure Unacked where
  port : Nat
  type : Nat
  hdr : MHdr
  payload : List Nat
  tries : Nat := 0
deriving DecidableEq, Repr

/-- A grant the manager holds for a member (R457). -/
structure Grant where
  activity : Nat
  member : Nat
deriving DecidableEq, Repr

/-- A collected event of the manager's ring (R459). -/
structure RingEv where
  seq : Nat
  member : Nat
  recSeq : Nat
  payload : List Nat
deriving DecidableEq, Repr

/-- The Mirsen unit (R444 to R463). -/
structure Mirsen where
  state : MirState := .down
  role : Role := .none
  /-- Epoch at which the present role was taken (R454). -/
  roleEpoch : Nat := 0
  manager : Option Nat := none
  alternate : Option Nat := none
  ports : List (Nat × MPort) := []
  /-- The eight latest notice identities, newest first (R448). -/
  notices : List (Nat × Nat) := []
  /-- Policy of the last SYNC: ALL_OR_NONE (R450). -/
  syncAll : Bool := false
  roster : List RosterRec := []
  /-- Roster size and members reported as the manager's STATE gave them (R456). -/
  members : Nat := 0
  reported : Nat := 0
  /-- CGEN of the last REPLICA (R446). -/
  replCgen : Option Nat := none
  /-- Codes of the roles held before: 0 manager, 1 alternate manager (R454). -/
  former : List Nat := []
  /-- Messages this unit addressed to a role, by MSEQ: type, role code, payload (R454). -/
  sent : List (Nat × Nat × Nat × List Nat) := []
  grants : List Grant := []
  /-- Takeover query running, with the members that acknowledged (R455). -/
  query : Option (List Nat) := none
  /-- Time (ms) of the last MGR_BEAT; of the last HEARTBEAT by member. -/
  lastBeat : Nat := 0
  heard : List (Nat × Nat) := []
  ring : List RingEv := []
  ringSeq : Nat := 0
  mseq : Nat := 0
  /-- (SRC, MSEQ) of floods seen, newest first. -/
  seen : List (Nat × Nat) := []
  /-- A REPORT that found no domain at the exit from BRINGUP, to go out once the unit has joined (R456; DEDUCED, log
  entry 249). -/
  reportOwed : Bool := false
  unacked : List Unacked := []
  /-- Port by which each member was last heard (DEDUCED, log entry 21). -/
  routes : List (Nat × Nat) := []
  /-- Relays pending: MSEQ of the CMD and the reply owed (R460). -/
  relays : List (Nat × Owed) := []
  /-- Grant requests pending: MSEQ and activity (R457). -/
  asks : List (Nat × Nat) := []
  /-- Times (ms) of the EVENT messages of the last second (R459). -/
  evTimes : List Nat := []
  /-- DOMAIN_EV_DROPPED (R459). -/
  evDropped : Nat := 0
deriving DecidableEq, Repr

/-! ### Management (16_management_lifecycle.md) -/

/-- MGMT_STATE (R490). -/
inductive MgmtState where
  | off | bootRom | running | restarting
deriving DecidableEq, Repr

/-- Codes of MGMT_STATE. -/
def MgmtState.code : MgmtState → Nat
  | .off => 0 | .bootRom => 1 | .running => 2 | .restarting => 3

/-- States of the PLDM update agent (DSP0267). -/
inductive PldmState where
  | idle | learn | ready | download | verify | apply | activate
deriving DecidableEq, Repr

/-- An activation in hand (R484). -/
structure Activation where
  slot : Nat
  /-- The core is restarting into the new image. -/
  started : Bool := false
  /-- PLDM ActivateFirmware asked for it: a refusal is answered there. -/
  pldm : Bool := false
deriving DecidableEq, Repr

/-- Bytes of the image header of Table 16-5 a commissioned slot A holds: MAGIC, VERSION 1.0.0, SVN 0, LENGTH 1, then
zeros (DESIGN CHOICE, log entry 11). -/
def factoryImage : List (Nat × Nat) :=
  [(0, 0x4E), (1, 0x58), (2, 0x46), (3, 0x57), (8, 1), (12, 1)]

/-- Firmware, PLDM, clocks, temperature, ageing and BIST (R466 to R488). -/
structure Mgmt where
  state : MgmtState := .off
  /-- Time (ms) + 1 of the last restart not caused by activation (R467). -/
  lastRestart : Nat := 0
  /-- Bytes of the firmware slots that are not 0, by offset (R482). -/
  slotA : List (Nat × Nat) := factoryImage
  slotB : List (Nat × Nat) := []
  /-- Slot whose image runs. -/
  active : Nat := 0
  recovery : Bool := false
  /-- The boot ROM has started a slot in this start (R478). -/
  started : Bool := false
  activation : Option Activation := none
  pldm : PldmState := .idle
  pldmPrev : PldmState := .idle
  /-- Offset of the next RequestFirmwareData, and component size (R483). -/
  pldmAt : Nat := 0
  pldmSize : Nat := 0
  /-- Bytes the update agent takes at most in one RequestFirmwareData. -/
  pldmMax : Nat := 0
  /-- TJ_WARN, AGE and k_rt conditions standing: reported until they clear. -/
  tjWarn : Bool := false
  tjCrit : Bool := false
  /-- Daily correctable counts of the last 30 days by rank, newest first (R481). -/
  ceDaily : List (Nat × List Nat) := []
  /-- Partitions of the BIST run still to finish, and whether it runs off line (R486, R487). -/
  bistLeft : List Nat := []
  bistOff : Bool := false
  /-- Dynamic address on I3C (R471); none before ENTDAA. -/
  i3c : Option Nat := none
deriving DecidableEq, Repr

/-! ### What the block sends out -/

/-- What a command sent out of the block. -/
inductive Out where
  /-- CXL.mem completion without data: tag, DevLoad (R65). -/
  | memCmp (tag devLoad : Nat)
  /-- CXL.mem data: tag, line, poison, DevLoad. -/
  | memData (tag : Nat) (line : Line) (poison : Bool) (devLoad : Nat)
  /-- CXL.mem request answered as unsupported (R60). -/
  | memUnsupported (tag : Nat)
  /-- A GPF phase completed to a host (R25). -/
  | gpfDone (phase ld : Nat)
  /-- MSI-X message of a logical device's PF1. -/
  | msix (ld vector : Nat)
  /-- MCTP alert: event, SEQ, device state, recurrences (R383). -/
  | alert (event seq state recur : Nat)
  /-- Reply packet of a vendor command (R423). -/
  | reply (o : Origin) (opcode tag status cseq detail : Nat) (slots : List Nat)
  /-- CXL mailbox return code with no reply packet (R422). -/
  | mailbox (opcode ret : Nat)
  /-- Completion of a standard CXL command or FM API command: opcode, return code, fields (R508). -/
  | cxl (opcode ret : Nat) (fields : List Nat)
  /-- SPDM response code and fields (R73). -/
  | spdm (code : Nat) (fields : List Nat)
  /-- DOE response: protocol and fields (R44). -/
  | doe (protocol : Nat) (fields : List Nat)
  /-- PLDM message: command, completion code, fields (R483). -/
  | pldm (cmd cc : Nat) (fields : List Nat)
  /-- FAIL_NOTICE on a Mirsen port (R447). -/
  | notice (port origin cgen domain : Nat)
  /-- Frame on a Mirsen port (R453). -/
  | frame (port type : Nat) (hdr : MHdr) (payload : List Nat)
  /-- PMBus transaction: slave, command, data (R353). -/
  | pmbus (slave cmd data : Nat)
  /-- Nine SCL pulses and a STOP (R354). -/
  | pmbusClear
deriving DecidableEq, Repr

/-- The machine. Every default below is the field's value after reset (see State.reset). -/
structure State where
  /-- Device state (R4), and the state held before PRE_SPILL (R168). -/
  dev : Dev := .off
  prev : Dev := .off
  /-- AON lost its power since the last exit from BRINGUP: the code of the device state it held then (Table 12-12). -/
  cold : Option Nat := some 0
  /-- Milliseconds since reset, the model's clock (DESIGN CHOICE, log entry 4). -/
  now : Nat := 0
  /-- Stored parameters that differ from their defaults (R429). -/
  regs : List (Nat × Nat) := []
  /-- The model's own counter of free values (DESIGN CHOICE, log entry 3). -/
  freeCtr : Nat := 0
  /-- Host data in DRAM, by DPA byte (R79). -/
  mem : List Host.Cell := []
  fc : Collector := {}
  rec_ : Recorder := {}
  nv : NvStore := {}
  cmd : Cmd := {}
  cist : Cistern := {}
  weir : Weir := {}
  basin : Basin := {}
  rill : Rill := {}
  res : Reservoir := {}
  whl : Wheels := {}
  spill : Spillway := {}
  sip : Siphon := {}
  seq : Seq := {}
  port : HostPort := {}
  mir : Mirsen := {}
  mgmt : Mgmt := {}
  /-- What the last command sent out. -/
  out : List Out := []
  /-- The commands that wait, first in first out. -/
  pending : List Instr := []
deriving DecidableEq, Repr


/-- Reasons a step stops with a fault. No command of this block stops with one: a fault of the part
is a report to its collector (R366), and the block goes on. -/
inductive Fault where
  /-- Nothing raises it: the spec gives every command an effect. Safe: no run reaches it. -/
  | unreachable
deriving DecidableEq, Repr

/-- Reasons a step is refused. -/
inductive Refusal where
  /-- A command not modelled yet, raised by its arm of exec alone. Safe: the machine stops. -/
  | notModelled (mnemonic : String)
deriving DecidableEq, Repr

/-- The machine right after reset: OFF, unpowered, a commissioned card with no image; every register
at its table's default (DESIGN CHOICE, log entry 1). -/
def State.reset : State := {}

end Sys2Proof.Machine
end

