-- ==== Sys2Proof/Machine/Energy.lean ====
section
/-! DEFINITION. The Cistern's module model: interpolation in a module table, the voltage state, the end of
discharge, and the energy a port delivers (R314, R318 to R324), in exact arithmetic. -/

namespace Sys2Proof.Machine

/-- Linear interpolation between (x0, y0) and (x1, y1). -/
def lerp (x0 y0 x1 y1 x : Rat) : Rat := if x1 = x0 then y0 else y0 + (y1 - y0) * (x - x0) / (x1 - x0)

/-- Interpolate a list of values at ascending points; beyond either end, the end's value. -/
def interpAt : List (Rat × Rat) → Rat → Rat
  | [], _ => 0
  | [(_, y)], _ => y
  | (x0, y0) :: (x1, y1) :: r, x =>
    if x ≤ x0 then y0 else if x ≤ x1 then lerp x0 y0 x1 y1 x else interpAt ((x1, y1) :: r) x

/-- The OCV (V) at each of the 21 states, at temperature `t` (R314). -/
def ocvAxis (m : ModTable) (t : Rat) : List Rat :=
  m.ocv.map fun row => interpAt ((m.temp.map fun x => (x : Rat)).zip (row.map fun y => (y : Rat))) t / 1000

/-- RES over power at one state and temperature point. Beyond the highest power point its value; below
the lowest the table gives no rule, and the value is left open (DESIGN CHOICE, log entry 13). -/
def resAtPower (rate : List Nat) (vals : List Nat) (p : Rat) : Rat :=
  if p < (rate.headD 0 : Nat) then Config.resBelowLowestPower p (vals.headD 0 : Nat)
  else interpAt ((rate.map fun x => (x : Rat)).zip (vals.map fun y => (y : Rat))) p

/-- RES (Ω) at each of the 21 states, at temperature `t` and power `p` (R314). -/
def resAxis (m : ModTable) (t p : Rat) : List Rat :=
  m.res.map fun plane =>
    interpAt ((m.temp.map fun x => (x : Rat)).zip (plane.map fun vals => resAtPower m.rate vals p)) t / 100000

/-- The value at state `st` of a quantity given at the 21 states. -/
def atState (axis : List Rat) (st : Rat) : Rat :=
  interpAt ((axis.mapIdx fun i y => ((i : Rat) / 20, y))) st

/-- The lowest state at which a non-decreasing axis reaches `y`, clamped to 0 to 1 (R320). -/
def stateAt (axis : List Rat) (y : Rat) : Rat := go 0 axis
where
  go (i : Nat) : List Rat → Rat
    | [] => 1
    | [a] => if y ≤ a then (i : Rat) / 20 else 1
    | a :: b :: r =>
      if y ≤ a then (i : Rat) / 20
      else if y ≤ b then ((i : Rat) + (y - a) / (b - a)) / 20
      else go (i + 1) (b :: r)

/-- Charge in use, mC (Table 10-4). `nomQ`, `susp` are NOMINAL_Q_DERATE and SUSPECT_DERATE in %. -/
def qUsed (c : CPort) (m : ModTable) (nomQ susp : Nat) : Rat :=
  let nominal : Rat := (nomQ : Rat) / 100 * m.qNom
  let learned : Rat := match c.learned with | some l => l.qLearn | none => nominal
  if c.swapSuspect then (susp : Rat) / 100 * min learned nominal else learned

/-- Resistance factor in use (Table 10-4). `nomR` is NOMINAL_R_DERATE in %. -/
def resFactor (c : CPort) (nomR : Nat) : Rat :=
  match c.learned with
  | some l => if c.swapSuspect then max l.resFactor ((nomR : Rat) / 100) else l.resFactor
  | none => max c.checkRes ((nomR : Rat) / 100)

/-- The open-circuit and resistance axes a port's estimate uses. -/
structure Axes where
  ocv : List Rat
  x : List Rat

/-- The axes of a port at temperature `t` and power `p` (R318). -/
def axesOf (c : CPort) (m : ModTable) (t p : Rat) (nomR : Nat) : Axes :=
  { ocv := ocvAxis m t, x := (resAxis m t p).map fun r => r * resFactor c nomR }

/-- The terminal voltage of R323 above its load-compensated threshold, V, for an open-circuit voltage `o`, a resistance
`x` and a module-side power `w`: ocv - i x less v_eod_min + i x. -/
def overEod (w v o x : Rat) : Rat := (o - w / o * x) - (v + w / o * x)

/-- The root of a quantity that is below 0 at `lo` and not at `hi`, by `n` halvings; the upper end, which favours
protection (DESIGN CHOICE, log entry 39: R323 states no precision). -/
def rootBetween (f : Rat → Rat) : Nat → Rat → Rat → Rat
  | 0, _, hi => hi
  | n + 1, lo, hi =>
    let u := (lo + hi) / 2
    if 0 ≤ f u then rootBetween f n lo u else rootBetween f n u hi

/-- s_end of R323 for card-side power `p` (W) and efficiency `eff`: the lowest state whose terminal voltage is at the
load-compensated threshold, with the open-circuit voltage and the resistance interpolated between table points. -/
def sEnd (ax : Axes) (eff p : Rat) (vEodMin : Nat) : Option Rat := go 0 (ax.ocv.zip ax.x)
where
  gap (o x : Rat) : Rat := overEod (p / eff) ((vEodMin : Rat) / 1000) o x
  go (i : Nat) : List (Rat × Rat) → Option Rat
    | [] => none
    | [(o, x)] => if 0 ≤ gap o x then some ((i : Rat) / 20) else none
    | (o, x) :: (o', x') :: r =>
      if 0 ≤ gap o x then some ((i : Rat) / 20)
      else if 0 ≤ gap o' x' then
        some (((i : Rat) + rootBetween (fun u => gap (lerp 0 o 1 o' u) (lerp 0 x 1 x' u)) 40 0 1) / 20)
      else go (i + 1) ((o', x') :: r)

/-- The sum of one step [a, b] of R323, mJ. -/
def stepEnergy (ax : Axes) (eff p q a b : Rat) : Rat :=
  let v := (atState ax.ocv a + atState ax.ocv b) / 2
  let y := (atState ax.x a + atState ax.x b) / 2
  q * (b - a) * (v - p / (eff * v) * y)

/-- The sums of consecutive steps of an ascending list of states. -/
def stepsEnergy (ax : Axes) (eff p q : Rat) : List Rat → Rat
  | [] => 0
  | [_] => 0
  | a :: b :: r => stepEnergy ax eff p q a b + stepsEnergy ax eff p q (b :: r)

/-- energy(s_from, p, t) of R323 in mJ, rounded down. -/
def energy (c : CPort) (m : ModTable) (sFrom p t : Rat) (effPm nomQ nomR susp : Nat) : Nat :=
  let eff : Rat := (effPm : Rat) / 1000
  let ax := axesOf c m t p nomR
  match sEnd ax eff p m.vEodMin with
  | none => 0
  | some e0 =>
    if sFrom ≤ e0 then 0
    else
      let mids := ((List.range 21).map fun i => ((i : Rat) / 20)).filter fun x => decide (e0 < x ∧ x < sFrom)
      (eff * stepsEnergy ax eff p (qUsed c m nomQ susp) (e0 :: mids ++ [sFrom])).floor.toNat

/-- A table is usable (R314): CRC correct, OCV non-decreasing in state at every temperature, RES above 0
everywhere. -/
def ModTable.usable (m : ModTable) : Bool :=
  m.crcOk
  && ((m.ocv.zip m.ocv.tail).all fun (r0, r1) => (r0.zip r1).all fun (x, y) => decide (x ≤ y))
  && (m.res.all fun pl => pl.all fun vs => vs.all fun r => decide (0 < r))

/-- A port accepts a module with this table (R311). -/
def ModTable.accepted (m : ModTable) : Bool :=
  decide (9000 ≤ m.vFull ∧ m.vFull ≤ 28000 ∧ 6000 ≤ m.vEodMin ∧ m.vEodMin ≤ m.vEmpty)

end Sys2Proof.Machine
end

