-- ==== Sys2Proof/Machine/Bits.lean ====
section
/-! DEFINITION. Bit fields of 48-bit words, and the checks CRC-16 and CRC-32C the spec names. -/

namespace Sys2Proof.Machine

/-- Field [hi:lo] of a word. -/
def field (x hi lo : Nat) : Nat := x / 2 ^ lo % 2 ^ (hi - lo + 1)

/-- A field value placed at bit `lo`. -/
def at' (v lo : Nat) : Nat := v * 2 ^ lo

/-- Replace field [hi:lo] of `x`. -/
def setField (x hi lo v : Nat) : Nat :=
  x - at' (field x hi lo) lo + at' (v % 2 ^ (hi - lo + 1)) lo

/-- Bit `n` as a Bool. -/
def bit (x n : Nat) : Bool := Nat.testBit x n

/-- 1 or 0. -/
def b2n (b : Bool) : Nat := if b then 1 else 0

/-- What a command tells where it tells anything. -/
def told {α : Type} (b : Bool) (x : α) : Option α := if b then some x else none

/-- Set bit `n`. -/
def setBit (x n : Nat) : Nat := x ||| 2 ^ n

/-- Clear in `x` every bit that is 1 in `m` (RW1C, R11). -/
def clearBits (x m : Nat) : Nat := x - (x &&& m)

/-- The numbers below `w` whose bit is set in `x`, lowest first. -/
def setBitsFrom (x : Nat) : Nat → Nat → List Nat
  | 0, _ => []
  | w + 1, n => if bit x n then n :: setBitsFrom x w (n + 1) else setBitsFrom x w (n + 1)

/-- The set bits of the low `w` bits of `x`. -/
def setBits (x w : Nat) : List Nat := setBitsFrom x w 0

/-- How many of the low `w` bits of `x` are set. -/
def popCount (x w : Nat) : Nat := (setBits x w).length

/-- The low `n` bytes of `x`, lowest first (R9). -/
def bytesOf (x : Nat) : Nat → List Nat
  | 0 => []
  | n + 1 => x % 256 :: bytesOf (x / 256) n

/-- Bytes, lowest first, as a number. -/
def ofBytes : List Nat → Nat
  | [] => 0
  | b :: bs => b + 256 * ofBytes bs

/-- One bit of a reflected CRC. -/
def crcBit (poly c : Nat) : Nat := if c % 2 = 1 then (c / 2) ^^^ poly else c / 2

/-- `n` bits of a reflected CRC. -/
def crcBits (poly : Nat) : Nat → Nat → Nat
  | 0, c => c
  | n + 1, c => crcBits poly n (crcBit poly c)

/-- CRC-32C (Castagnoli) over bytes, as the journal's DIGEST and the configuration image use it
(Table 14-7, R409). PRESUMED: the usual reflected form, initial value and final XOR all ones. -/
def crc32c (bs : List Nat) : Nat :=
  bs.foldl (fun c b => crcBits 0x82F63B78 8 (c ^^^ b)) 0xFFFFFFFF ^^^ 0xFFFFFFFF

/-- The larger of a list of numbers, 0 for none. -/
def maxOf (l : List Nat) : Nat := l.foldl Nat.max 0

/-- The smaller of a list of numbers, `d` for none. -/
def minOf (d : Nat) : List Nat → Nat
  | [] => d
  | x :: xs => xs.foldl Nat.min x

/-- Division rounding up. -/
def ceilDiv (a b : Nat) : Nat := (a + b - 1) / b

/-- The sum of a list of numbers. -/
def sumOf (l : List Nat) : Nat := l.foldl (· + ·) 0

/-- Insert into an ascending list. -/
def insertAsc (x : Nat) : List Nat → List Nat
  | [] => [x]
  | y :: ys => if x ≤ y then x :: y :: ys else y :: insertAsc x ys

/-- The list in ascending order. -/
def sortAsc (l : List Nat) : List Nat := l.foldr insertAsc []

/-- Median of a list of numbers: the middle of the sorted list, the upper middle of an even one. -/
def medianOf (l : List Nat) : Nat := (sortAsc l).getD (l.length / 2) 0

/-- Insert into a list ordered by `le`. -/
def insertBy {α : Type} (le : α → α → Bool) (x : α) : List α → List α
  | [] => [x]
  | y :: ys => if le x y then x :: y :: ys else y :: insertBy le x ys

/-- The list ordered by `le`, equal elements in their first order. -/
def sortBy {α : Type} (le : α → α → Bool) (l : List α) : List α := l.foldr (insertBy le) []

end Sys2Proof.Machine
end

