-- ==== Sys2Proof/Machine/Regs.lean ====
section
/-! DEFINITION. The parameter space: every ID of the spec's parameter tables with its width, access, default and
range (R429), and a name for each. -/

namespace Sys2Proof.Machine

/-- Access codes (R11, Table 0-7). -/
inductive Access where
  | ro | rw | rw1c | wo | rc | rws | rop | rwp | rwsp
deriving DecidableEq, Repr

/-- A row of a parameter table: first and last ID, width in bits, access, default, range. -/
structure ParamRow where
  first : Nat
  last : Nat
  width : Nat
  access : Access
  dflt : Nat
  lo : Nat
  hi : Nat
deriving DecidableEq, Repr

namespace Reg

/-- R12. -/
abbrev PART_ID : Nat := 0x0000
/-- R12. -/
abbrev DEVICE_REVISION : Nat := 0x0001
/-- R429. -/
abbrev DEVICE_SERIAL : Nat := 0x0002
/-- R429. -/
abbrev FW_VERSION_ACTIVE : Nat := 0x0003
/-- R12. -/
abbrev DEVICE_STATE : Nat := 0x0010
/-- R12. -/
abbrev SHUTDOWN_RECORD : Nat := 0x0011
/-- R22. -/
abbrev PROTECTION_STATUS : Nat := 0x0012
/-- R429. -/
abbrev DAY_OF_SERVICE : Nat := 0x0013
/-- R429. -/
abbrev DIRTY_SHUTDOWN_COUNT : Nat := 0x0014
/-- R429. -/
abbrev POWER_ON_COUNT : Nat := 0x0015
/-- R429. -/
abbrev PRODUCT_STRING : Nat := 0x0020
/-- R429. -/
abbrev CARD_STRING : Nat := 0x0028
/-- R429. -/
abbrev ASSET_TAG : Nat := 0x0030
/-- R429. -/
abbrev GLOBAL_COUNTER : Nat := 0x0040
/-- R78. -/
abbrev LINK_WIDTH_CAP : Nat := 0x0100
/-- R78. -/
abbrev LINK_RATE_CAP : Nat := 0x0101
/-- R78. -/
abbrev LINK_STATUS : Nat := 0x0102
/-- R78. -/
abbrev MLD_ENABLE : Nat := 0x0110
/-- R78. -/
abbrev LD_COUNT : Nat := 0x0111
/-- R78. -/
abbrev HOST_CAP_MODE : Nat := 0x0120
/-- R78. -/
abbrev VOLATILE_SIZE : Nat := 0x0121
/-- R78. -/
abbrev DC_OFFER_MAX : Nat := 0x0130
/-- R78. -/
abbrev DC_GROUP : Nat := 0x0131
/-- R78. -/
abbrev LAT_RD_PEAK : Nat := 0x0140
/-- R78. -/
abbrev OFFLINE_ACCESS_COUNT : Nat := 0x0141
/-- R78. -/
abbrev POISON_LIST_MAX : Nat := 0x0150
/-- R78. -/
abbrev UNINDEXED_02 : Nat := 0x0160
/-- R78. -/
abbrev LD_VIEW : Nat := 0x0200
/-- R78. -/
abbrev LANE_VIEW : Nat := 0x0300
/-- R105. -/
abbrev DRAM_INSTALLED : Nat := 0x0400
/-- R105. -/
abbrev DRAM_POPULATION : Nat := 0x0401
/-- R105. -/
abbrev DRAM_RATE : Nat := 0x0402
/-- R105. -/
abbrev META_RESERVE : Nat := 0x0403
/-- R105. -/
abbrev HOST_CAPACITY : Nat := 0x0404
/-- R105. -/
abbrev DIRTY_BYTES : Nat := 0x0410
/-- R105. -/
abbrev DST_USED : Nat := 0x0411
/-- R105. -/
abbrev DST_OVERFLOW_SEGS : Nat := 0x0412
/-- R105. -/
abbrev DST_FREE_TARGET : Nat := 0x0413
/-- R105. -/
abbrev DST_OVERFLOW_COUNT : Nat := 0x0414
/-- R105. -/
abbrev HEAT_QUANTUM : Nat := 0x0420
/-- R105. -/
abbrev HEAT_DECAY_PERIOD : Nat := 0x0421
/-- R105. -/
abbrev AGE_TICK : Nat := 0x0422
/-- R105. -/
abbrev SCRUB_PERIOD : Nat := 0x0430
/-- R105. -/
abbrev PPR_MODE : Nat := 0x0431
/-- R105. -/
abbrev ROW_CE_THRESHOLD : Nat := 0x0432
/-- R105. -/
abbrev RANK_CE_LIMIT : Nat := 0x0433
/-- R105. -/
abbrev RANK_SPARE_ENABLE : Nat := 0x0434
/-- R105. -/
abbrev DST_DIAG_INDEX : Nat := 0x0440
/-- R105. -/
abbrev DST_DIAG_WORD0 : Nat := 0x0441
/-- R105. -/
abbrev DST_DIAG_WORD1 : Nat := 0x0442
/-- R105. -/
abbrev UNINDEXED_03 : Nat := 0x0450
/-- R105. -/
abbrev BASIN_CHANNEL : Nat := 0x0500
/-- R105. -/
abbrev BASIN_MODULE : Nat := 0x0600
/-- R132. -/
abbrev CEILING : Nat := 0x0800
/-- R132. -/
abbrev CEILING_RAW : Nat := 0x0801
/-- R132. -/
abbrev TARGET_FILL : Nat := 0x0802
/-- R132. -/
abbrev VAULT_CAPACITY_EST : Nat := 0x0803
/-- R132. -/
abbrev CEILING_AT_COMMIT : Nat := 0x0804
/-- R132. -/
abbrev CEILING_LIMITER : Nat := 0x0805
/-- R132. -/
abbrev FLOOR_VAULT_ENERGY : Nat := 0x0806
/-- R132. -/
abbrev WEIR_ENERGY_POLICY : Nat := 0x0810
/-- R132. -/
abbrev WEIR_MARGIN : Nat := 0x0811
/-- R132. -/
abbrev WEIR_FILL : Nat := 0x0812
/-- R132. -/
abbrev WEIR_FLOOR : Nat := 0x0813
/-- R132. -/
abbrev WEIR_PERIOD : Nat := 0x0814
/-- R132. -/
abbrev WEIR_RISE_HYST : Nat := 0x0815
/-- R132. -/
abbrev WEIR_RISE_STEP : Nat := 0x0816
/-- R132. -/
abbrev WEIR_FILL_MAX : Nat := 0x0817
/-- R132. -/
abbrev WEIR_WEAR_POLICY : Nat := 0x0818
/-- R132. -/
abbrev WEIR_RISE_HOLD : Nat := 0x0819
/-- R132. -/
abbrev WEIR_CATCHUP : Nat := 0x081A
/-- R132. -/
abbrev E_POLICY : Nat := 0x0820
/-- R132. -/
abbrev E_FIXED : Nat := 0x0821
/-- R132. -/
abbrev E_FIXED_BASE : Nat := 0x0822
/-- R132. -/
abbrev E_BYTE : Nat := 0x0823
/-- R132. -/
abbrev E_BYTE_BASE : Nat := 0x0824
/-- R132. -/
abbrev E_BYTE_FLOOR : Nat := 0x0825
/-- R132. -/
abbrev E_BYTE_MEAS : Nat := 0x0826
/-- R132. -/
abbrev K_PROG : Nat := 0x0827
/-- R132. -/
abbrev K_TEMP : Nat := 0x0828
/-- R132. -/
abbrev K_POP : Nat := 0x0829
/-- R132. -/
abbrev P_RUN_CARD : Nat := 0x082A
/-- R132. -/
abbrev DEVLOAD_LEVEL : Nat := 0x0830
/-- R132. -/
abbrev DEVLOAD_MOD_FRAC : Nat := 0x0831
/-- R132. -/
abbrev DEVLOAD_MOD_TTC : Nat := 0x0832
/-- R132. -/
abbrev DEVLOAD_SEV_TTC : Nat := 0x0833
/-- R132. -/
abbrev BREACH_COUNT : Nat := 0x0840
/-- R132. -/
abbrev BREACH_PEAK : Nat := 0x0841
/-- R132. -/
abbrev BREACH_TIME : Nat := 0x0842
/-- R132. -/
abbrev EXPECTED_SHORTFALL : Nat := 0x0843
/-- R132. -/
abbrev ENERGY_MARGIN_AVAIL : Nat := 0x0844
/-- R132. -/
abbrev ENERGY_REDUNDANCY : Nat := 0x0845
/-- R132. -/
abbrev DIRTY_RATE : Nat := 0x0846
/-- R132. -/
abbrev REPLAN_INDEX : Nat := 0x0850
/-- R132. -/
abbrev T_MEAS : Nat := 0x0851
/-- R132. -/
abbrev T_MEAS_FLASH : Nat := 0x0852
/-- R132. -/
abbrev L_MEAS : Nat := 0x0853
/-- R132. -/
abbrev E_FIXED_MEAS : Nat := 0x0854
/-- R132. -/
abbrev UNINDEXED_04 : Nat := 0x0860
/-- R132. -/
abbrev REPLAN_HISTORY : Nat := 0x0900
/-- R132. -/
abbrev WEIR_PORT : Nat := 0x0980
/-- R132. -/
abbrev WEIR_CHANNEL : Nat := 0x0A00
/-- R167. -/
abbrev RILL_STATE : Nat := 0x0B00
/-- R167. -/
abbrev RILL_RATE_MAX : Nat := 0x0B01
/-- R167. -/
abbrev RILL_RATE : Nat := 0x0B02
/-- R167. -/
abbrev RILL_MIN_AGE : Nat := 0x0B03
/-- R167. -/
abbrev RILL_LARGE_MIN : Nat := 0x0B04
/-- R167. -/
abbrev RILL_FOLD_FINE : Nat := 0x0B05
/-- R167. -/
abbrev FINE_MAP_USED : Nat := 0x0B06
/-- R167. -/
abbrev FINE_MAP_HIGH : Nat := 0x0B07
/-- R167. -/
abbrev FINE_MAP_LOW : Nat := 0x0B08
/-- R167. -/
abbrev FINE_MAP_CAPACITY : Nat := 0x0B09
/-- R167. -/
abbrev WRITE_SEQ : Nat := 0x0B10
/-- R167. -/
abbrev CKPT_PERIOD : Nat := 0x0B11
/-- R167. -/
abbrev CKPT_BYTES : Nat := 0x0B12
/-- R167. -/
abbrev CKPT_FULL_EVERY : Nat := 0x0B13
/-- R167. -/
abbrev CKPT_SEQ : Nat := 0x0B14
/-- R167. -/
abbrev FORMAT_EPOCH : Nat := 0x0B15
/-- R167. -/
abbrev FORMAT_OLD_WHEELS : Nat := 0x0B16
/-- R167. -/
abbrev LAND_MAX : Nat := 0x0B21
/-- R167. -/
abbrev LAND_MIN : Nat := 0x0B22
/-- R167. -/
abbrev LAND_SIZE : Nat := 0x0B23
/-- R167. -/
abbrev MIG_START : Nat := 0x0B24
/-- R167. -/
abbrev MIG_STOP : Nat := 0x0B25
/-- R167. -/
abbrev GC_FREE_LOW : Nat := 0x0B30
/-- R167. -/
abbrev GC_FREE_HIGH : Nat := 0x0B31
/-- R167. -/
abbrev GC_VALID_MAX : Nat := 0x0B32
/-- R167. -/
abbrev POOL_OCCUPANCY : Nat := 0x0B33
/-- R167. -/
abbrev WA_GC : Nat := 0x0B34
/-- R167. -/
abbrev ENDUR_PE_AVG : Nat := 0x0B40
/-- R167. -/
abbrev ENDUR_PE_BUDGET : Nat := 0x0B41
/-- R167. -/
abbrev ENDUR_RESERVE : Nat := 0x0B42
/-- R167. -/
abbrev ENDUR_LIFE_PROJ : Nat := 0x0B43
/-- R167. -/
abbrev ENDUR_LIFE_TARGET : Nat := 0x0B44
/-- R167. -/
abbrev ENDUR_WEAR_PRESSURE : Nat := 0x0B45
/-- R167. -/
abbrev ENDUR_LIFE_USED : Nat := 0x0B46
/-- R167. -/
abbrev RILL_WB_WHEELS : Nat := 0x0B50
/-- R167. -/
abbrev RILL_GC_WHEELS : Nat := 0x0B51
/-- R167. -/
abbrev RILL_WHEEL_IDLE : Nat := 0x0B52
/-- R167. -/
abbrev UNINDEXED_05 : Nat := 0x0B60
/-- R167. -/
abbrev RILL_CHANNEL : Nat := 0x0C00
/-- R167. -/
abbrev RILL_STREAM : Nat := 0x0E00
/-- R210. -/
abbrev SPILL_STATE : Nat := 0x0F00
/-- R210. -/
abbrev EW_THRESHOLD : Nat := 0x0F01
/-- R210. -/
abbrev EW_DEGLITCH : Nat := 0x0F02
/-- R210. -/
abbrev RECOVERY_THRESHOLD : Nat := 0x0F03
/-- R210. -/
abbrev RECOVERY_TIME : Nat := 0x0F04
/-- R210. -/
abbrev COMMIT_THRESHOLD : Nat := 0x0F05
/-- R210. -/
abbrev RIDE_THROUGH_MAX : Nat := 0x0F06
/-- R210. -/
abbrev RIDE_THROUGH : Nat := 0x0F07
/-- R210. -/
abbrev GPF_WINDOW : Nat := 0x0F08
/-- R210. -/
abbrev INPUT_VOLTAGE : Nat := 0x0F09
/-- R210. -/
abbrev PRESPILL_MAX : Nat := 0x0F11
/-- R210. -/
abbrev DAMP_COUNT : Nat := 0x0F13
/-- R210. -/
abbrev DAMP_WINDOW : Nat := 0x0F14
/-- R210. -/
abbrev DAMP_QUIET : Nat := 0x0F15
/-- R210. -/
abbrev DAMP_FRAC : Nat := 0x0F16
/-- R210. -/
abbrev DAMPED : Nat := 0x0F17
/-- R210. -/
abbrev EW_COUNT : Nat := 0x0F18
/-- R210. -/
abbrev UNDO_COUNT : Nat := 0x0F19
/-- R210. -/
abbrev DAMP_ENTRIES : Nat := 0x0F1A
/-- R210. -/
abbrev RESERVE_TARGET : Nat := 0x0F20
/-- R210. -/
abbrev RESERVE_ERASED : Nat := 0x0F21
/-- R210. -/
abbrev RESERVE_CAP : Nat := 0x0F22
/-- R210. -/
abbrev DAMPING_CAP : Nat := 0x0F23
/-- R210. -/
abbrev RESERVE_META : Nat := 0x0F24
/-- R210. -/
abbrev SLOW_SPOKE_FACTOR : Nat := 0x0F30
/-- R210. -/
abbrev CLOSEOUT_ENERGY : Nat := 0x0F31
/-- R210. -/
abbrev E_TAIL : Nat := 0x0F32
/-- R210. -/
abbrev P_VAULT_CARD : Nat := 0x0F33
/-- R210. -/
abbrev T_META : Nat := 0x0F34
/-- R210. -/
abbrev VAULT_COUNT : Nat := 0x0F40
/-- R210. -/
abbrev VAULT_LAST_BYTES : Nat := 0x0F41
/-- R210. -/
abbrev VAULT_LAST_SHORT : Nat := 0x0F42
/-- R210. -/
abbrev VAULT_LAST_TIME : Nat := 0x0F43
/-- R210. -/
abbrev VAULT_SLOW_DROPS : Nat := 0x0F44
/-- R210. -/
abbrev MANIFEST_SEQ : Nat := 0x0F45
/-- R210. -/
abbrev REHEARSE_PERIOD : Nat := 0x0F50
/-- R210. -/
abbrev REHEARSE_LAST : Nat := 0x0F51
/-- R210. -/
abbrev REHEARSE_RESULT : Nat := 0x0F52
/-- R210. -/
abbrev REHEARSE_T_MED : Nat := 0x0F53
/-- R210. -/
abbrev UNINDEXED_06 : Nat := 0x0F60
/-- R210. -/
abbrev SPILL_CHANNEL : Nat := 0x1000
/-- R210. -/
abbrev MANIFEST_MIRROR : Nat := 0x1200
/-- R240. -/
abbrev SIPHON_STATE : Nat := 0x1300
/-- R240. -/
abbrev RESTORE_ONLINE : Nat := 0x1301
/-- R240. -/
abbrev RESTORE_TOTAL : Nat := 0x1302
/-- R240. -/
abbrev RESTORE_PATH : Nat := 0x1303
/-- R240. -/
abbrev SIPHON_AHEAD : Nat := 0x1304
/-- R240. -/
abbrev RESTORE_WB_RATE : Nat := 0x1305
/-- R240. -/
abbrev RESTORE_TIME_LAST : Nat := 0x1306
/-- R240. -/
abbrev FIRST_ONLINE_LAST : Nat := 0x1307
/-- R240. -/
abbrev POISON_FLOOR : Nat := 0x1308
/-- R240. -/
abbrev RETIRED_SEQ : Nat := 0x1309
/-- R240. -/
abbrev ACTIVE_SEQ : Nat := 0x130A
/-- R240. -/
abbrev CHAIN_LEN : Nat := 0x130B
/-- R240. -/
abbrev RESTORE_POISON_PAGES : Nat := 0x130C
/-- R240. -/
abbrev RESTORE_FOLDS : Nat := 0x130D
/-- R240. -/
abbrev KICK_ENABLE : Nat := 0x1310
/-- R240. -/
abbrev KICK_HOLD_MAX : Nat := 0x1311
/-- R240. -/
abbrev KICK_HOLD_MIN : Nat := 0x1312
/-- R240. -/
abbrev KICK_P_HOLD : Nat := 0x1313
/-- R240. -/
abbrev KICK_RESERVE : Nat := 0x1314
/-- R240. -/
abbrev HOLD_STATE : Nat := 0x1315
/-- R240. -/
abbrev HOLD_ELAPSED : Nat := 0x1317
/-- R240. -/
abbrev HOLD_RESULT : Nat := 0x1318
/-- R240. -/
abbrev HOLD_COUNT : Nat := 0x1319
/-- R240. -/
abbrev SEALED_RESTART_DELAY : Nat := 0x131A
/-- R240. -/
abbrev UNINDEXED_07 : Nat := 0x1340
/-- R240. -/
abbrev LD_EXTENTS : Nat := 0x1400
/-- R240. -/
abbrev CHAIN_VIEW : Nat := 0x1500
/-- R267. -/
abbrev RES_STATE : Nat := 0x1600
/-- R267. -/
abbrev FLASH_POPULATION : Nat := 0x1601
/-- R267. -/
abbrev CHANNEL_RATE : Nat := 0x1602
/-- R267. -/
abbrev LUNS_ELIGIBLE : Nat := 0x1603
/-- R267. -/
abbrev CHANNEL_ENABLE : Nat := 0x1604
/-- R267. -/
abbrev READ_DISTURB_LIMIT : Nat := 0x1610
/-- R267. -/
abbrev READ_DISTURB_SLC : Nat := 0x1611
/-- R267. -/
abbrev READ_RETRY_MAX : Nat := 0x1612
/-- R267. -/
abbrev READ_CNT_SLACK : Nat := 0x1613
/-- R267. -/
abbrev RETENTION_PERIOD : Nat := 0x1614
/-- R267. -/
abbrev REFRESH_RBER : Nat := 0x1615
/-- R267. -/
abbrev SCRUB_RATE_MAX : Nat := 0x1616
/-- R267. -/
abbrev SOFT_ENABLE : Nat := 0x1617
/-- R267. -/
abbrev SOFT_STEP : Nat := 0x1618
/-- R267. -/
abbrev BT_PERIOD : Nat := 0x1620
/-- R267. -/
abbrev LUN_RETIRE_FRAC : Nat := 0x1621
/-- R267. -/
abbrev TARGET_TIMEOUT : Nat := 0x1622
/-- R267. -/
abbrev RESERVE_BPL : Nat := 0x1630
/-- R267. -/
abbrev JOURNAL_BPL : Nat := 0x1631
/-- R267. -/
abbrev CKPT_BPL : Nat := 0x1632
/-- R267. -/
abbrev SPARE_BPL : Nat := 0x1633
/-- R267. -/
abbrev LDPC_RETRIED : Nat := 0x1640
/-- R267. -/
abbrev LDPC_SOFT : Nat := 0x1641
/-- R267. -/
abbrev LDPC_UNREADABLE : Nat := 0x1642
/-- R267. -/
abbrev REFRESH_COUNT : Nat := 0x1643
/-- R267. -/
abbrev BLOCKS_GROWN_BAD : Nat := 0x1644
/-- R267. -/
abbrev UNINDEXED_08 : Nat := 0x1660
/-- R267. -/
abbrev RES_CHANNEL : Nat := 0x1700
/-- R267. -/
abbrev RES_TARGET : Nat := 0x1900
/-- R267. -/
abbrev DESC_VIEW : Nat := 0x1B00
/-- R309. -/
abbrev WHEEL_STATE : Nat := 0x1C00
/-- R309. -/
abbrev POOL_DATA_SPOKES : Nat := 0x1C01
/-- R309. -/
abbrev RESERVE_DATA_SPOKES : Nat := 0x1C02
/-- R309. -/
abbrev POOL_GEOM_TARGET : Nat := 0x1C03
/-- R309. -/
abbrev RESERVE_GEOM_TARGET : Nat := 0x1C04
/-- R309. -/
abbrev RESHAPE_FROM : Nat := 0x1C05
/-- R309. -/
abbrev RESHAPE_BOUNDARY : Nat := 0x1C06
/-- R309. -/
abbrev RESHAPE_STATE : Nat := 0x1C07
/-- R309. -/
abbrev ACCUM_FREE : Nat := 0x1C08
/-- R309. -/
abbrev SLOW_EVENTS_MAX : Nat := 0x1C10
/-- R309. -/
abbrev SLOW_WINDOW : Nat := 0x1C11
/-- R309. -/
abbrev SLOW_SET_COUNT : Nat := 0x1C12
/-- R309. -/
abbrev TRUE_RATE : Nat := 0x1C20
/-- R309. -/
abbrev TRUE_PENDING : Nat := 0x1C21
/-- R309. -/
abbrev TRUE_DONE : Nat := 0x1C22
/-- R309. -/
abbrev WHEELS_DEGRADED : Nat := 0x1C23
/-- R309. -/
abbrev WHEELS_CRITICAL : Nat := 0x1C24
/-- R309. -/
abbrev WHEELS_LOST : Nat := 0x1C25
/-- R309. -/
abbrev LOST_FOLDS_PENDING : Nat := 0x1C26
/-- R309. -/
abbrev REDUNDANCY_MARGIN : Nat := 0x1C27
/-- R309. -/
abbrev SPARE_FREE : Nat := 0x1C28
/-- R309. -/
abbrev JOURNAL_SEQ : Nat := 0x1C30
/-- R309. -/
abbrev JOURNAL_BATCH : Nat := 0x1C31
/-- R309. -/
abbrev JOURNAL_SINGLE : Nat := 0x1C32
/-- R309. -/
abbrev RECOVERY_LAST : Nat := 0x1C33
/-- R309. -/
abbrev RECOVERY_TESTED : Nat := 0x1C34
/-- R309. -/
abbrev RESHAPE_RATE : Nat := 0x1C40
/-- R309. -/
abbrev PARITY_MISMATCH : Nat := 0x1C50
/-- R309. -/
abbrev RECON_UNITS : Nat := 0x1C51
/-- R309. -/
abbrev WHEEL_DIAG_INDEX : Nat := 0x1C52
/-- R309. -/
abbrev WHEEL_DIAG : Nat := 0x1C53
/-- R309. -/
abbrev UNINDEXED_09 : Nat := 0x1C60
/-- R309. -/
abbrev WHEEL_TARGET : Nat := 0x1D00
/-- R309. -/
abbrev WHEEL_STREAM : Nat := 0x1F00
/-- R339. -/
abbrev CIST_STATE_A : Nat := 0x2000
/-- R339. -/
abbrev CIST_STATE_B : Nat := 0x2001
/-- R339. -/
abbrev E_USE_A : Nat := 0x2002
/-- R339. -/
abbrev E_USE_B : Nat := 0x2003
/-- R339. -/
abbrev E_REM_A : Nat := 0x2004
/-- R339. -/
abbrev E_REM_B : Nat := 0x2005
/-- R339. -/
abbrev SOC_A : Nat := 0x2006
/-- R339. -/
abbrev SOC_B : Nat := 0x2007
/-- R339. -/
abbrev EST_SEQ_A : Nat := 0x2008
/-- R339. -/
abbrev EST_SEQ_B : Nat := 0x2009
/-- R339. -/
abbrev CIST_FLAGS_A : Nat := 0x200A
/-- R339. -/
abbrev CIST_FLAGS_B : Nat := 0x200B
/-- R339. -/
abbrev TABLE_SLOT_A : Nat := 0x2010
/-- R339. -/
abbrev TABLE_SLOT_B : Nat := 0x2011
/-- R339. -/
abbrev LEARN_LOAD_A : Nat := 0x2012
/-- R339. -/
abbrev LEARN_LOAD_B : Nat := 0x2013
/-- R339. -/
abbrev CONV_EFF : Nat := 0x2020
/-- R339. -/
abbrev AWAKE_PERIOD : Nat := 0x2021
/-- R339. -/
abbrev HIBERNATE_PERIOD : Nat := 0x2022
/-- R339. -/
abbrev HIBERNATE_DELAY : Nat := 0x2023
/-- R339. -/
abbrev IWAKE_THRESHOLD : Nat := 0x2024
/-- R339. -/
abbrev RELAX_TIME : Nat := 0x2025
/-- R339. -/
abbrev LEARN_PERIOD : Nat := 0x2030
/-- R339. -/
abbrev LEARN_REST : Nat := 0x2031
/-- R339. -/
abbrev LEARN_ACCEPT_MIN : Nat := 0x2032
/-- R339. -/
abbrev LEARN_ACCEPT_MAX : Nat := 0x2033
/-- R339. -/
abbrev LEARN_WB_V : Nat := 0x2034
/-- R339. -/
abbrev LEARN_WB_QUIET : Nat := 0x2035
/-- R339. -/
abbrev LEARN_RESULT_A : Nat := 0x2036
/-- R339. -/
abbrev LEARN_RESULT_B : Nat := 0x2037
/-- R339. -/
abbrev NOMINAL_Q_DERATE : Nat := 0x2040
/-- R339. -/
abbrev NOMINAL_R_DERATE : Nat := 0x2041
/-- R339. -/
abbrev SUSPECT_DERATE : Nat := 0x2042
/-- R339. -/
abbrev RELAX_SIG_TOL : Nat := 0x2043
/-- R339. -/
abbrev CONFLICT_MARGIN : Nat := 0x2044
/-- R339. -/
abbrev WORN_FRAC : Nat := 0x2045
/-- R339. -/
abbrev RES_CHECK_PERIOD : Nat := 0x2050
/-- R339. -/
abbrev SHORT_TIME : Nat := 0x2051
/-- R339. -/
abbrev PORT_ABSENT_V : Nat := 0x2052
/-- R339. -/
abbrev MOD_TEMP_A : Nat := 0x2053
/-- R339. -/
abbrev MOD_TEMP_B : Nat := 0x2054
/-- R339. -/
abbrev MOD_VOLT_A : Nat := 0x2055
/-- R339. -/
abbrev MOD_VOLT_B : Nat := 0x2056
/-- R339. -/
abbrev UNINDEXED_10 : Nat := 0x2060
/-- R339. -/
abbrev CIST_PORT : Nat := 0x2100
/-- R339. -/
abbrev CIST_TABLE : Nat := 0x2200
/-- R365. -/
abbrev SEQ_STATE : Nat := 0x2300
/-- R365. -/
abbrev SEQ_ACTIVE : Nat := 0x2301
/-- R365. -/
abbrev SEQ_STEP : Nat := 0x2302
/-- R365. -/
abbrev RAIL_EN : Nat := 0x2303
/-- R365. -/
abbrev RAIL_PG : Nat := 0x2304
/-- R365. -/
abbrev GROUP_OFF : Nat := 0x2305
/-- R365. -/
abbrev SERVICE_OPEN : Nat := 0x2306
/-- R365. -/
abbrev CHATTER_MAX : Nat := 0x2310
/-- R365. -/
abbrev RETRY_OFF_TIME : Nat := 0x2311
/-- R365. -/
abbrev FLUSH_TIMEOUT : Nat := 0x2312
/-- R365. -/
abbrev POWERUP_ATTEMPTS : Nat := 0x2313
/-- R365. -/
abbrev POWERUP_RETRY_DELAY : Nat := 0x2314
/-- R365. -/
abbrev SYSRESET_OFF_TIME : Nat := 0x2315
/-- R365. -/
abbrev AVS_ENABLE : Nat := 0x2320
/-- R365. -/
abbrev VCORE_MIN : Nat := 0x2321
/-- R365. -/
abbrev VCORE_MAX : Nat := 0x2322
/-- R365. -/
abbrev VCORE_STEP : Nat := 0x2323
/-- R365. -/
abbrev VCORE_NOW : Nat := 0x2324
/-- R365. -/
abbrev VCORE_SLOT : Nat := 0x2325
/-- R365. -/
abbrev HOLDUP_MODE : Nat := 0x2330
/-- R365. -/
abbrev HOLDUP_ICHG : Nat := 0x2331
/-- R365. -/
abbrev PMBUS_CLOCK : Nat := 0x2340
/-- R365. -/
abbrev PMBUS_POLL : Nat := 0x2341
/-- R365. -/
abbrev UNINDEXED_11 : Nat := 0x2350
/-- R343. -/
abbrev STEP_UP : Nat := 0x2500
/-- R343. -/
abbrev STEP_DOWN : Nat := 0x2520
/-- R356. -/
abbrev RST_CFG : Nat := 0x2580
/-- R365. -/
abbrev PMBUS_SLAVE : Nat := 0x2600
/-- R394. -/
abbrev FC_STATUS : Nat := 0x2700
/-- R394. -/
abbrev FC_SEV : Nat := 0x2701
/-- R394. -/
abbrev FC_FIRST : Nat := 0x2704
/-- R394. -/
abbrev FC_OVERFLOW : Nat := 0x2705
/-- R394. -/
abbrev FC_LAST_FATAL : Nat := 0x2706
/-- R394. -/
abbrev FC_IN_FAULT : Nat := 0x2707
/-- R394. -/
abbrev FC_RECOVERIES : Nat := 0x2708
/-- R394. -/
abbrev FC_LATCH_SEV : Nat := 0x2710
/-- R394. -/
abbrev FC_RECORD_SEV : Nat := 0x2711
/-- R394. -/
abbrev FC_EVENT_SEV : Nat := 0x2712
/-- R394. -/
abbrev ALIVE_STOP_SEV : Nat := 0x2713
/-- R394. -/
abbrev FC_QUIET : Nat := 0x2714
/-- R394. -/
abbrev FC_RECOVERY_LIMIT : Nat := 0x2715
/-- R394. -/
abbrev FC_RECORD_RATE : Nat := 0x2716
/-- R394. -/
abbrev FI_CTRL : Nat := 0x2720
/-- R394. -/
abbrev FI_SEV_CAP : Nat := 0x2721
/-- R394. -/
abbrev FI_REMAINING : Nat := 0x2722
/-- R373. -/
abbrev FC_COUNT : Nat := 0x2730
/-- R394. -/
abbrev EV_STATUS : Nat := 0x2780
/-- R394. -/
abbrev EV_MASK : Nat := 0x2788
/-- R394. -/
abbrev EV_ALERT_MIN : Nat := 0x2790
/-- R377. -/
abbrev CHECKER_LIST : Nat := 0x27A0
/-- R380. -/
abbrev EV_ROUTE : Nat := 0x2800
/-- R394. -/
abbrev UNINDEXED_12 : Nat := 0x2920
/-- R394. -/
abbrev REC_SEQ : Nat := 0x2A00
/-- R394. -/
abbrev REC_CURSOR : Nat := 0x2A01
/-- R394. -/
abbrev REC_SEQ_FOUND : Nat := 0x2A02
/-- R394. -/
abbrev REC_INFO : Nat := 0x2A03
/-- R394. -/
abbrev REC_LOC_SEQ : Nat := 0x2A04
/-- R394. -/
abbrev REC_ADVANCE : Nat := 0x2A05
/-- R394. -/
abbrev REC_OLDEST : Nat := 0x2A06
/-- R394. -/
abbrev REC_PINNED_COUNT : Nat := 0x2A07
/-- R394. -/
abbrev REC_LOST : Nat := 0x2A08
/-- R394. -/
abbrev REC_RATE_MAX : Nat := 0x2A09
/-- R388. -/
abbrev SNAP_TRIGGER : Nat := 0x2A10
/-- R388. -/
abbrev SNAP_IDS : Nat := 0x2A20
/-- R389. -/
abbrev REC_WINDOW : Nat := 0x2A40
/-- R421. -/
abbrev NV_STATE : Nat := 0x2A80
/-- R421. -/
abbrev NV_DEV_STATUS : Nat := 0x2A81
/-- R421. -/
abbrev NV_LOG_FREE : Nat := 0x2A82
/-- R421. -/
abbrev NV_NSEQ : Nat := 0x2A83
/-- R421. -/
abbrev NV_SCRUB_PERIOD : Nat := 0x2A84
/-- R421. -/
abbrev NV_WEAK_BITS : Nat := 0x2A85
/-- R421. -/
abbrev NV_COMPACT_LOW : Nat := 0x2A86
/-- R421. -/
abbrev NV_WEAK_REWRITES : Nat := 0x2A87
/-- R421. -/
abbrev CFG_GEN : Nat := 0x2A8A
/-- R421. -/
abbrev CFG_STATUS : Nat := 0x2A8B
/-- R421. -/
abbrev CFG_DELTAS : Nat := 0x2A8C
/-- R421. -/
abbrev CFG_REWRITE_AT : Nat := 0x2A8D
/-- R421. -/
abbrev NV_SHORT : Nat := 0x2A90
/-- R421. -/
abbrev PARAM_GEN : Nat := 0x2AA1
/-- R421. -/
abbrev UNINDEXED_13 : Nat := 0x2AB0
/-- R407. -/
abbrev COUNTER_CATALOGUE : Nat := 0x2B00
/-- R443. -/
abbrev CMD_PAYLOAD_MAX : Nat := 0x2C00
/-- R443. -/
abbrev JOURNAL_HEAD : Nat := 0x2C01
/-- R443. -/
abbrev JOURNAL_OLDEST : Nat := 0x2C02
/-- R443. -/
abbrev JOURNAL_CURSOR : Nat := 0x2C03
/-- R443. -/
abbrev CMD_LAST_STATUS : Nat := 0x2C04
/-- R443. -/
abbrev MAINT_BW_MAX : Nat := 0x2C10
/-- R443. -/
abbrev MAINT_BW_AVAIL : Nat := 0x2C11
/-- R443. -/
abbrev MAINT_E_HELD : Nat := 0x2C12
/-- R443. -/
abbrev MAINT_R_HELD : Nat := 0x2C13
/-- R443. -/
abbrev MAINT_B_HELD : Nat := 0x2C14
/-- R443. -/
abbrev MAINT_ACTIVE : Nat := 0x2C15
/-- R443. -/
abbrev MAINT_SUSPENDED : Nat := 0x2C16
/-- R443. -/
abbrev E_TOKEN_FW_ACTIVATE : Nat := 0x2C18
/-- R443. -/
abbrev E_TOKEN_BIST_ONLINE : Nat := 0x2C19
/-- R443. -/
abbrev SCRUB_DEEP_RATE : Nat := 0x2C1A
/-- R443. -/
abbrev REHEARSE_BW : Nat := 0x2C1B
/-- R443. -/
abbrev MARGIN_CONFLICTS : Nat := 0x2C20
/-- R443. -/
abbrev ACTIVITY : Nat := 0x2C48
/-- R443. -/
abbrev TRANSPORT_COUNT : Nat := 0x2C90
/-- R435. -/
abbrev JOURNAL_WINDOW : Nat := 0x2D00
/-- R465. -/
abbrev MIRSEN_STATE : Nat := 0x2E00
/-- R465. -/
abbrev DOMAIN_ROLE : Nat := 0x2E01
/-- R465. -/
abbrev ROLE_EPOCH : Nat := 0x2E02
/-- R465. -/
abbrev MEMBER_NO : Nat := 0x2E03
/-- R465. -/
abbrev DOMAIN_ID : Nat := 0x2E04
/-- R465. -/
abbrev CGEN : Nat := 0x2E05
/-- R465. -/
abbrev DEPTH : Nat := 0x2E06
/-- R465. -/
abbrev PORTS_UP : Nat := 0x2E07
/-- R465. -/
abbrev ROLE_CFG : Nat := 0x2E08
/-- R465. -/
abbrev DOMAIN_POLICY : Nat := 0x2E10
/-- R465. -/
abbrev ORPHAN_TIME : Nat := 0x2E11
/-- R465. -/
abbrev HEARTBEAT_PERIOD : Nat := 0x2E12
/-- R465. -/
abbrev MGR_TIMEOUT : Nat := 0x2E13
/-- R465. -/
abbrev MEMBER_TIMEOUT : Nat := 0x2E14
/-- R465. -/
abbrev DOMAIN_PATH_MAX : Nat := 0x2E15
/-- R465. -/
abbrev DOMAIN_PATH_LIMIT : Nat := 0x2E16
/-- R465. -/
abbrev GRANT_WAIT : Nat := 0x2E17
/-- R465. -/
abbrev DOMAIN_STATE : Nat := 0x2E20
/-- R465. -/
abbrev DOMAIN_MEMBERS : Nat := 0x2E21
/-- R465. -/
abbrev DOMAIN_REPORTED : Nat := 0x2E22
/-- R465. -/
abbrev DOMAIN_MAX_LEARN : Nat := 0x2E30
/-- R465. -/
abbrev DOMAIN_UNPROT_ALLOW : Nat := 0x2E34
/-- R465. -/
abbrev DOMAIN_EV_FWD : Nat := 0x2E40
/-- R465. -/
abbrev DOMAIN_EV_RATE : Nat := 0x2E46
/-- R464. -/
abbrev MIR_PORT : Nat := 0x2E80
/-- R464. -/
abbrev MIR_GRANTS : Nat := 0x2F00
/-- R464. -/
abbrev UNINDEXED_15 : Nat := 0x2F80
/-- R490. -/
abbrev MGMT_STATE : Nat := 0x3000
/-- R490. -/
abbrev MGMT_RESTARTS : Nat := 0x3001
/-- R490. -/
abbrev MGMT_WDT : Nat := 0x3002
/-- R490. -/
abbrev CLOCK_STATUS : Nat := 0x3010
/-- R490. -/
abbrev COUNTER_LATCH : Nat := 0x3011
/-- R490. -/
abbrev TJ_NOW : Nat := 0x3020
/-- R490. -/
abbrev TJ_PEAK : Nat := 0x3021
/-- R490. -/
abbrev TJ_WARN : Nat := 0x3022
/-- R490. -/
abbrev TJ_CRIT : Nat := 0x3023
/-- R490. -/
abbrev RT_BUDGET : Nat := 0x3030
/-- R490. -/
abbrev VCORE_REF : Nat := 0x3031
/-- R490. -/
abbrev K_RT : Nat := 0x3032
/-- R490. -/
abbrev AGE_SLACK_MIN : Nat := 0x3040
/-- R490. -/
abbrev AGE_SLACK_LOW : Nat := 0x3041
/-- R490. -/
abbrev AGE_SLACK_HIGH : Nat := 0x3042
/-- R490. -/
abbrev AGE_SLACK_FATAL : Nat := 0x3043
/-- R490. -/
abbrev VCORE_TARGET : Nat := 0x3044
/-- R490. -/
abbrev AGE_PERIOD : Nat := 0x3045
/-- R490. -/
abbrev DRAM_TREND_DAYS : Nat := 0x3048
/-- R490. -/
abbrev FW_ACTIVE_SLOT : Nat := 0x3060
/-- R490. -/
abbrev FW_VERSION_A : Nat := 0x3062
/-- R490. -/
abbrev FW_VERSION_B : Nat := 0x3063
/-- R490. -/
abbrev FW_SVN_MIN : Nat := 0x3064
/-- R490. -/
abbrev FW_LAST_RESULT : Nat := 0x3065
/-- R490. -/
abbrev BIST_STATE : Nat := 0x3080
/-- R490. -/
abbrev BIST_PASS : Nat := 0x3081
/-- R490. -/
abbrev BIST_FAIL_MASK : Nat := 0x3082
/-- R490. -/
abbrev PATH_DELAY : Nat := 0x3100
/-- R490. -/
abbrev DIE_SENSOR : Nat := 0x3110
/-- R485. -/
abbrev BIST_SIG : Nat := 0x3120
/-- R485. -/
abbrev BIST_GOLDEN : Nat := 0x3130
/-- R490. -/
abbrev DRAM_TREND : Nat := 0x3140
/-- R490. -/
abbrev UNINDEXED_16 : Nat := 0x31C0
/-- R340. -/
abbrev SLOT_CFG : Nat := 0x2400
/-- R360. -/
abbrev SLOT_COUNTERS : Nat := 0x2404

end Reg

/-- Rows 0x0000 to 0x004A. -/
def identityRows : List ParamRow :=
  [⟨0x0000, 0x0000, 48, .ro, 18454, 0, 281474976710655⟩,
   ⟨0x0001, 0x0001, 8, .ro, 176, 0, 255⟩,
   ⟨0x0002, 0x0002, 48, .ro, 0, 0, 281474976710655⟩,
   ⟨0x0003, 0x0003, 48, .ro, 0, 0, 281474976710655⟩,
   ⟨0x0010, 0x0010, 4, .ro, 0, 0, 10⟩,
   ⟨0x0011, 0x0011, 3, .rop, 0, 0, 4⟩,
   ⟨0x0012, 0x0012, 3, .ro, 4, 0, 4⟩,
   ⟨0x0013, 0x0013, 16, .rop, 0, 0, 65535⟩,
   ⟨0x0014, 0x0014, 32, .rop, 0, 0, 4294967295⟩,
   ⟨0x0015, 0x0015, 32, .rop, 0, 0, 4294967295⟩,
   ⟨0x0020, 0x0027, 48, .ro, 0, 0, 281474976710655⟩,
   ⟨0x0028, 0x002F, 48, .rwp, 0, 0, 281474976710655⟩,
   ⟨0x0030, 0x0037, 48, .rwp, 0, 0, 281474976710655⟩,
   ⟨0x0040, 0x004A, 32, .rc, 0, 0, 4294967295⟩]

/-- Rows 0x0100 to 0x03FF. -/
def hostRows : List ParamRow :=
  [⟨0x0100, 0x0100, 5, .rwp, 16, 4, 16⟩,
   ⟨0x0101, 0x0101, 7, .rwp, 64, 16, 64⟩,
   ⟨0x0102, 0x0102, 16, .ro, 0, 0, 65535⟩,
   ⟨0x0110, 0x0110, 1, .rwp, 0, 0, 1⟩,
   ⟨0x0111, 0x0111, 4, .rwp, 1, 1, 8⟩,
   ⟨0x0120, 0x0120, 1, .rwp, 0, 0, 1⟩,
   ⟨0x0121, 0x0121, 8, .rwp, 0, 0, 62⟩,
   ⟨0x0130, 0x0130, 8, .rw, 64, 1, 255⟩,
   ⟨0x0131, 0x0131, 5, .rw, 16, 1, 16⟩,
   ⟨0x0140, 0x0140, 16, .rc, 0, 0, 65535⟩,
   ⟨0x0141, 0x0141, 32, .rc, 0, 0, 4294967295⟩,
   ⟨0x0150, 0x0150, 16, .ro, 4096, 0, 65535⟩,
   ⟨0x0160, 0x01FF, 48, .ro, 0, 0, 281474976710655⟩,
   ⟨0x0200, 0x027F, 48, .ro, 0, 0, 281474976710655⟩,
   ⟨0x0300, 0x03FF, 48, .ro, 0, 0, 281474976710655⟩]

/-- Rows 0x0400 to 0x0432. -/
def basinRows0 : List ParamRow :=
  [⟨0x0400, 0x0400, 13, .ro, 0, 64, 4096⟩,
   ⟨0x0401, 0x0401, 16, .ro, 0, 0, 65535⟩,
   ⟨0x0402, 0x0402, 13, .ro, 0, 4800, 6400⟩,
   ⟨0x0403, 0x0403, 16, .ro, 0, 512, 32768⟩,
   ⟨0x0404, 0x0404, 23, .ro, 0, 65024, 4161536⟩,
   ⟨0x0410, 0x0410, 48, .ro, 0, 0, 281474976710655⟩,
   ⟨0x0411, 0x0411, 19, .ro, 0, 0, 262144⟩,
   ⟨0x0412, 0x0412, 21, .ro, 0, 0, 2080768⟩,
   ⟨0x0413, 0x0413, 18, .rw, 16384, 1024, 131072⟩,
   ⟨0x0414, 0x0414, 32, .rc, 0, 0, 4294967295⟩,
   ⟨0x0420, 0x0420, 10, .rwp, 64, 1, 1023⟩,
   ⟨0x0421, 0x0421, 16, .rwp, 1000, 100, 60000⟩,
   ⟨0x0422, 0x0422, 16, .rwp, 1000, 10, 60000⟩,
   ⟨0x0430, 0x0430, 8, .rwp, 24, 1, 168⟩,
   ⟨0x0431, 0x0431, 2, .rwp, 2, 0, 2⟩,
   ⟨0x0432, 0x0432, 16, .rwp, 16, 1, 65535⟩]

/-- Rows 0x0433 to 0x07FF. -/
def basinRows1 : List ParamRow :=
  [⟨0x0433, 0x0433, 16, .rwp, 1024, 1, 65535⟩,
   ⟨0x0434, 0x0434, 1, .rwp, 0, 0, 1⟩,
   ⟨0x0440, 0x0440, 18, .rw, 0, 0, 262143⟩,
   ⟨0x0441, 0x0441, 48, .ro, 0, 0, 281474976710655⟩,
   ⟨0x0442, 0x0442, 48, .ro, 0, 0, 281474976710655⟩,
   ⟨0x0450, 0x04FF, 48, .ro, 0, 0, 281474976710655⟩,
   ⟨0x0500, 0x05FF, 48, .ro, 0, 0, 281474976710655⟩,
   ⟨0x0600, 0x07FF, 48, .ro, 0, 0, 281474976710655⟩]

/-- The rows of this owner (Table 14-5). -/
def basinRows : List ParamRow := basinRows0 ++ basinRows1

/-- Rows 0x0800 to 0x0818. -/
def weirRows0 : List ParamRow :=
  [⟨0x0800, 0x0800, 20, .ro, 0, 0, 524288⟩,
   ⟨0x0801, 0x0801, 20, .ro, 0, 0, 524288⟩,
   ⟨0x0802, 0x0802, 20, .ro, 0, 0, 524288⟩,
   ⟨0x0803, 0x0803, 20, .ro, 0, 0, 1048575⟩,
   ⟨0x0804, 0x0804, 20, .rop, 0, 0, 524288⟩,
   ⟨0x0805, 0x0805, 3, .ro, 0, 0, 4⟩,
   ⟨0x0806, 0x0806, 32, .ro, 0, 0, 4294967295⟩,
   ⟨0x0810, 0x0810, 1, .rwp, 0, 0, 1⟩,
   ⟨0x0811, 0x0811, 8, .rwp, 50, 20, 200⟩,
   ⟨0x0812, 0x0812, 7, .rwp, 80, 50, 95⟩,
   ⟨0x0813, 0x0813, 17, .rwp, 16384, 4096, 65536⟩,
   ⟨0x0814, 0x0814, 10, .rwp, 100, 20, 1000⟩,
   ⟨0x0815, 0x0815, 17, .rwp, 2048, 0, 65536⟩,
   ⟨0x0816, 0x0816, 18, .rwp, 4096, 2, 131072⟩,
   ⟨0x0817, 0x0817, 7, .rwp, 90, 50, 95⟩,
   ⟨0x0818, 0x0818, 1, .rwp, 0, 0, 1⟩]

/-- Rows 0x0819 to 0x0832. -/
def weirRows1 : List ParamRow :=
  [⟨0x0819, 0x0819, 6, .rwp, 10, 1, 63⟩,
   ⟨0x081A, 0x081A, 16, .rwp, 5000, 500, 60000⟩,
   ⟨0x0820, 0x0820, 32, .ro, 0, 0, 4294967295⟩,
   ⟨0x0821, 0x0821, 32, .ro, 0, 0, 4294967295⟩,
   ⟨0x0822, 0x0822, 32, .rwp, 40000, 5000, 400000⟩,
   ⟨0x0823, 0x0823, 16, .ro, 0, 0, 65535⟩,
   ⟨0x0824, 0x0824, 16, .rwp, 2150, 500, 20000⟩,
   ⟨0x0825, 0x0825, 16, .rwp, 1900, 250, 20000⟩,
   ⟨0x0826, 0x0826, 16, .rop, 0, 0, 65535⟩,
   ⟨0x0827, 0x0827, 12, .ro, 1024, 1024, 4095⟩,
   ⟨0x0828, 0x0828, 12, .ro, 1024, 1024, 4095⟩,
   ⟨0x0829, 0x0829, 12, .ro, 1024, 1024, 4095⟩,
   ⟨0x082A, 0x082A, 10, .rwp, 320, 50, 1000⟩,
   ⟨0x0830, 0x0830, 2, .ro, 0, 0, 3⟩,
   ⟨0x0831, 0x0831, 7, .rwp, 90, 50, 99⟩,
   ⟨0x0832, 0x0832, 16, .rwp, 1000, 10, 60000⟩]

/-- Rows 0x0833 to 0x09FF. -/
def weirRows2 : List ParamRow :=
  [⟨0x0833, 0x0833, 16, .rwp, 100, 1, 10000⟩,
   ⟨0x0840, 0x0840, 32, .rc, 0, 0, 4294967295⟩,
   ⟨0x0841, 0x0841, 20, .rc, 0, 0, 1048575⟩,
   ⟨0x0842, 0x0842, 32, .rc, 0, 0, 4294967295⟩,
   ⟨0x0843, 0x0843, 20, .ro, 0, 0, 1048575⟩,
   ⟨0x0844, 0x0844, 32, .ro, 0, 0, 4294967295⟩,
   ⟨0x0845, 0x0845, 1, .ro, 0, 0, 1⟩,
   ⟨0x0846, 0x0846, 32, .ro, 0, 0, 4294967295⟩,
   ⟨0x0850, 0x0850, 7, .ro, 0, 0, 127⟩,
   ⟨0x0851, 0x0851, 16, .rop, 0, 0, 65535⟩,
   ⟨0x0852, 0x0852, 8, .rop, 0, 0, 255⟩,
   ⟨0x0853, 0x0853, 12, .rop, 0, 0, 2048⟩,
   ⟨0x0854, 0x0854, 32, .rop, 0, 0, 4294967295⟩,
   ⟨0x0860, 0x08FF, 48, .ro, 0, 0, 281474976710655⟩,
   ⟨0x0900, 0x097F, 48, .ro, 0, 0, 281474976710655⟩,
   ⟨0x0980, 0x09FF, 48, .ro, 0, 0, 281474976710655⟩]

/-- Rows 0x0A00 to 0x0AFF. -/
def weirRows3 : List ParamRow :=
  [⟨0x0A00, 0x0AFF, 48, .ro, 0, 0, 281474976710655⟩]

/-- The rows of this owner (Table 14-5). -/
def weirRows : List ParamRow := weirRows0 ++ weirRows1 ++ weirRows2 ++ weirRows3

/-- Rows 0x0B00 to 0x0B15. -/
def rillRows0 : List ParamRow :=
  [⟨0x0B00, 0x0B00, 3, .ro, 0, 0, 5⟩,
   ⟨0x0B01, 0x0B01, 16, .rwp, 24000, 1000, 33000⟩,
   ⟨0x0B02, 0x0B02, 16, .ro, 0, 0, 65535⟩,
   ⟨0x0B03, 0x0B03, 6, .rwp, 2, 0, 63⟩,
   ⟨0x0B04, 0x0B04, 10, .rwp, 128, 32, 512⟩,
   ⟨0x0B05, 0x0B05, 9, .rwp, 256, 64, 448⟩,
   ⟨0x0B06, 0x0B06, 27, .ro, 0, 0, 134217727⟩,
   ⟨0x0B07, 0x0B07, 7, .rwp, 90, 50, 98⟩,
   ⟨0x0B08, 0x0B08, 7, .rwp, 80, 40, 95⟩,
   ⟨0x0B09, 0x0B09, 27, .ro, 0, 0, 134217727⟩,
   ⟨0x0B10, 0x0B10, 48, .ro, 0, 0, 281474976710655⟩,
   ⟨0x0B11, 0x0B11, 14, .rwp, 2000, 500, 10000⟩,
   ⟨0x0B12, 0x0B12, 15, .rwp, 4096, 512, 16384⟩,
   ⟨0x0B13, 0x0B13, 13, .rwp, 256, 16, 4096⟩,
   ⟨0x0B14, 0x0B14, 48, .ro, 0, 0, 281474976710655⟩,
   ⟨0x0B15, 0x0B15, 8, .rop, 0, 0, 255⟩]

/-- Rows 0x0B16 to 0x0B44. -/
def rillRows1 : List ParamRow :=
  [⟨0x0B16, 0x0B16, 29, .ro, 0, 0, 536870911⟩,
   ⟨0x0B21, 0x0B21, 11, .rwp, 600, 50, 1500⟩,
   ⟨0x0B22, 0x0B22, 11, .rwp, 50, 10, 600⟩,
   ⟨0x0B23, 0x0B23, 20, .ro, 0, 0, 1048575⟩,
   ⟨0x0B24, 0x0B24, 7, .rwp, 50, 10, 95⟩,
   ⟨0x0B25, 0x0B25, 7, .rwp, 25, 0, 90⟩,
   ⟨0x0B30, 0x0B30, 7, .rwp, 10, 2, 50⟩,
   ⟨0x0B31, 0x0B31, 7, .rwp, 12, 3, 60⟩,
   ⟨0x0B32, 0x0B32, 7, .rwp, 75, 10, 95⟩,
   ⟨0x0B33, 0x0B33, 14, .ro, 0, 0, 10000⟩,
   ⟨0x0B34, 0x0B34, 12, .ro, 1024, 0, 4095⟩,
   ⟨0x0B40, 0x0B40, 20, .ro, 0, 0, 1048575⟩,
   ⟨0x0B41, 0x0B41, 20, .ro, 0, 0, 1048575⟩,
   ⟨0x0B42, 0x0B42, 5, .rwp, 10, 0, 30⟩,
   ⟨0x0B43, 0x0B43, 16, .ro, 65535, 0, 65535⟩,
   ⟨0x0B44, 0x0B44, 12, .rwp, 1826, 365, 3652⟩]

/-- Rows 0x0B45 to 0x0EFF. -/
def rillRows2 : List ParamRow :=
  [⟨0x0B45, 0x0B45, 11, .ro, 0, 0, 1024⟩,
   ⟨0x0B46, 0x0B46, 8, .ro, 0, 0, 255⟩,
   ⟨0x0B50, 0x0B50, 6, .rwp, 32, 8, 40⟩,
   ⟨0x0B51, 0x0B51, 5, .rwp, 8, 2, 16⟩,
   ⟨0x0B52, 0x0B52, 10, .rwp, 50, 5, 1000⟩,
   ⟨0x0B60, 0x0BFF, 48, .ro, 0, 0, 281474976710655⟩,
   ⟨0x0C00, 0x0DFF, 48, .ro, 0, 0, 281474976710655⟩,
   ⟨0x0E00, 0x0EFF, 48, .ro, 0, 0, 281474976710655⟩]

/-- The rows of this owner (Table 14-5). -/
def rillRows : List ParamRow := rillRows0 ++ rillRows1 ++ rillRows2

/-- Rows 0x0F00 to 0x0F17. -/
def spillwayRows0 : List ParamRow :=
  [⟨0x0F00, 0x0F00, 4, .ro, 0, 0, 8⟩,
   ⟨0x0F01, 0x0F01, 14, .rwp, 11200, 10800, 11800⟩,
   ⟨0x0F02, 0x0F02, 9, .rwp, 20, 2, 500⟩,
   ⟨0x0F03, 0x0F03, 14, .rwp, 11600, 11000, 12500⟩,
   ⟨0x0F04, 0x0F04, 14, .rwp, 1000, 100, 10000⟩,
   ⟨0x0F05, 0x0F05, 14, .rwp, 10600, 9000, 11400⟩,
   ⟨0x0F06, 0x0F06, 5, .rwp, 4, 1, 20⟩,
   ⟨0x0F07, 0x0F07, 5, .ro, 4, 1, 20⟩,
   ⟨0x0F08, 0x0F08, 14, .rwp, 2000, 0, 10000⟩,
   ⟨0x0F09, 0x0F09, 14, .ro, 0, 0, 16383⟩,
   ⟨0x0F11, 0x0F11, 19, .rwp, 65536, 0, 262144⟩,
   ⟨0x0F13, 0x0F13, 4, .rwp, 3, 1, 15⟩,
   ⟨0x0F14, 0x0F14, 12, .rwp, 60, 1, 3600⟩,
   ⟨0x0F15, 0x0F15, 16, .rwp, 300, 10, 65535⟩,
   ⟨0x0F16, 0x0F16, 7, .rwp, 75, 25, 100⟩,
   ⟨0x0F17, 0x0F17, 1, .ro, 0, 0, 1⟩]

/-- Rows 0x0F18 to 0x0F42. -/
def spillwayRows1 : List ParamRow :=
  [⟨0x0F18, 0x0F18, 32, .rc, 0, 0, 4294967295⟩,
   ⟨0x0F19, 0x0F19, 32, .rc, 0, 0, 4294967295⟩,
   ⟨0x0F1A, 0x0F1A, 32, .rc, 0, 0, 4294967295⟩,
   ⟨0x0F20, 0x0F20, 20, .rwp, 557056, 532480, 786432⟩,
   ⟨0x0F21, 0x0F21, 20, .ro, 0, 0, 1048575⟩,
   ⟨0x0F22, 0x0F22, 20, .ro, 0, 0, 1048575⟩,
   ⟨0x0F23, 0x0F23, 20, .ro, 524288, 0, 1048575⟩,
   ⟨0x0F24, 0x0F24, 14, .rwp, 8192, 1024, 16383⟩,
   ⟨0x0F30, 0x0F30, 4, .rwp, 3, 2, 8⟩,
   ⟨0x0F31, 0x0F31, 32, .ro, 32380, 0, 4294967295⟩,
   ⟨0x0F32, 0x0F32, 32, .rwp, 9580, 1000, 100000⟩,
   ⟨0x0F33, 0x0F33, 10, .rwp, 190, 20, 1000⟩,
   ⟨0x0F34, 0x0F34, 8, .rwp, 80, 10, 250⟩,
   ⟨0x0F40, 0x0F40, 32, .rop, 0, 0, 4294967295⟩,
   ⟨0x0F41, 0x0F41, 20, .rop, 0, 0, 1048575⟩,
   ⟨0x0F42, 0x0F42, 20, .rop, 0, 0, 1048575⟩]

/-- Rows 0x0F43 to 0x12FF. -/
def spillwayRows2 : List ParamRow :=
  [⟨0x0F43, 0x0F43, 16, .rop, 0, 0, 65535⟩,
   ⟨0x0F44, 0x0F44, 16, .rop, 0, 0, 65535⟩,
   ⟨0x0F45, 0x0F45, 48, .rop, 0, 0, 281474976710655⟩,
   ⟨0x0F50, 0x0F50, 7, .rwp, 30, 1, 90⟩,
   ⟨0x0F51, 0x0F51, 16, .rop, 0, 0, 65535⟩,
   ⟨0x0F52, 0x0F52, 3, .rop, 0, 0, 4⟩,
   ⟨0x0F53, 0x0F53, 16, .rop, 0, 0, 65535⟩,
   ⟨0x0F60, 0x0FFF, 48, .ro, 0, 0, 281474976710655⟩,
   ⟨0x1000, 0x11FF, 48, .ro, 0, 0, 281474976710655⟩,
   ⟨0x1200, 0x12FF, 48, .ro, 0, 0, 281474976710655⟩]

/-- The rows of this owner (Table 14-5). -/
def spillwayRows : List ParamRow := spillwayRows0 ++ spillwayRows1 ++ spillwayRows2

/-- Rows 0x1300 to 0x1311. -/
def siphonRows0 : List ParamRow :=
  [⟨0x1300, 0x1300, 3, .ro, 0, 0, 6⟩,
   ⟨0x1301, 0x1301, 13, .ro, 0, 0, 4064⟩,
   ⟨0x1302, 0x1302, 13, .ro, 0, 0, 4064⟩,
   ⟨0x1303, 0x1303, 4, .rop, 0, 0, 9⟩,
   ⟨0x1304, 0x1304, 6, .rwp, 8, 1, 63⟩,
   ⟨0x1305, 0x1305, 15, .rwp, 8000, 1000, 24000⟩,
   ⟨0x1306, 0x1306, 20, .rop, 0, 0, 1048575⟩,
   ⟨0x1307, 0x1307, 16, .rop, 0, 0, 65535⟩,
   ⟨0x1308, 0x1308, 48, .rop, 0, 0, 281474976710655⟩,
   ⟨0x1309, 0x1309, 48, .rop, 0, 0, 281474976710655⟩,
   ⟨0x130A, 0x130A, 48, .rop, 0, 0, 281474976710655⟩,
   ⟨0x130B, 0x130B, 8, .ro, 0, 0, 255⟩,
   ⟨0x130C, 0x130C, 32, .rop, 0, 0, 4294967295⟩,
   ⟨0x130D, 0x130D, 32, .rc, 0, 0, 4294967295⟩,
   ⟨0x1310, 0x1310, 1, .rwp, 0, 0, 1⟩,
   ⟨0x1311, 0x1311, 14, .rwp, 1800, 10, 14400⟩]

/-- Rows 0x1312 to 0x15FF. -/
def siphonRows1 : List ParamRow :=
  [⟨0x1312, 0x1312, 10, .rwp, 10, 1, 600⟩,
   ⟨0x1313, 0x1313, 8, .rwp, 20, 2, 200⟩,
   ⟨0x1314, 0x1314, 32, .ro, 0, 0, 4294967295⟩,
   ⟨0x1315, 0x1315, 3, .ro, 0, 0, 4⟩,
   ⟨0x1317, 0x1317, 14, .ro, 0, 0, 16383⟩,
   ⟨0x1318, 0x1318, 3, .rop, 0, 0, 7⟩,
   ⟨0x1319, 0x1319, 32, .rop, 0, 0, 4294967295⟩,
   ⟨0x131A, 0x131A, 16, .rwp, 1000, 100, 60000⟩,
   ⟨0x1340, 0x13FF, 48, .ro, 0, 0, 281474976710655⟩,
   ⟨0x1400, 0x14FF, 48, .ro, 0, 0, 281474976710655⟩,
   ⟨0x1500, 0x15FF, 48, .ro, 0, 0, 281474976710655⟩]

/-- The rows of this owner (Table 14-5). -/
def siphonRows : List ParamRow := siphonRows0 ++ siphonRows1

/-- Rows 0x1600 to 0x1621. -/
def reservoirRows0 : List ParamRow :=
  [⟨0x1600, 0x1600, 3, .ro, 0, 0, 4⟩,
   ⟨0x1601, 0x1601, 16, .ro, 0, 0, 65535⟩,
   ⟨0x1602, 0x1602, 12, .rwp, 3600, 1600, 3600⟩,
   ⟨0x1603, 0x1603, 12, .ro, 0, 0, 2048⟩,
   ⟨0x1604, 0x1604, 32, .ro, 0, 0, 4294967295⟩,
   ⟨0x1610, 0x1610, 24, .rwp, 50000, 1000, 1000000⟩,
   ⟨0x1611, 0x1611, 24, .rwp, 200000, 1000, 4000000⟩,
   ⟨0x1612, 0x1612, 6, .rwp, 48, 1, 48⟩,
   ⟨0x1613, 0x1613, 16, .rwp, 5000, 0, 65535⟩,
   ⟨0x1614, 0x1614, 8, .rwp, 30, 1, 180⟩,
   ⟨0x1615, 0x1615, 16, .rwp, 1500, 100, 10000⟩,
   ⟨0x1616, 0x1616, 12, .rwp, 400, 50, 4000⟩,
   ⟨0x1617, 0x1617, 1, .rwp, 1, 0, 1⟩,
   ⟨0x1618, 0x1618, 4, .rwp, 4, 1, 15⟩,
   ⟨0x1620, 0x1620, 12, .rwp, 60, 10, 3600⟩,
   ⟨0x1621, 0x1621, 5, .rwp, 2, 1, 20⟩]

/-- Rows 0x1622 to 0x1BFF. -/
def reservoirRows1 : List ParamRow :=
  [⟨0x1622, 0x1622, 10, .rwp, 50, 5, 1000⟩,
   ⟨0x1630, 0x1630, 12, .ro, 0, 0, 4095⟩,
   ⟨0x1631, 0x1631, 4, .rwp, 2, 2, 8⟩,
   ⟨0x1632, 0x1632, 4, .rwp, 1, 1, 8⟩,
   ⟨0x1633, 0x1633, 7, .rwp, 8, 2, 64⟩,
   ⟨0x1640, 0x1640, 32, .rc, 0, 0, 4294967295⟩,
   ⟨0x1641, 0x1641, 32, .rc, 0, 0, 4294967295⟩,
   ⟨0x1642, 0x1642, 32, .rc, 0, 0, 4294967295⟩,
   ⟨0x1643, 0x1643, 32, .rc, 0, 0, 4294967295⟩,
   ⟨0x1644, 0x1644, 24, .rop, 0, 0, 16777215⟩,
   ⟨0x1660, 0x16FF, 48, .ro, 0, 0, 281474976710655⟩,
   ⟨0x1700, 0x18FF, 48, .ro, 0, 0, 281474976710655⟩,
   ⟨0x1900, 0x1AFF, 48, .ro, 0, 0, 281474976710655⟩,
   ⟨0x1B00, 0x1BFF, 48, .ro, 0, 0, 281474976710655⟩]

/-- The rows of this owner (Table 14-5). -/
def reservoirRows : List ParamRow := reservoirRows0 ++ reservoirRows1

/-- Rows 0x1C00 to 0x1C23. -/
def wheelsRows0 : List ParamRow :=
  [⟨0x1C00, 0x1C00, 6, .ro, 0, 0, 63⟩,
   ⟨0x1C01, 0x1C01, 4, .ro, 14, 6, 14⟩,
   ⟨0x1C02, 0x1C02, 4, .ro, 14, 6, 14⟩,
   ⟨0x1C03, 0x1C03, 4, .rwp, 14, 6, 14⟩,
   ⟨0x1C04, 0x1C04, 4, .rwp, 14, 6, 14⟩,
   ⟨0x1C05, 0x1C05, 4, .ro, 0, 0, 14⟩,
   ⟨0x1C06, 0x1C06, 29, .rop, 0, 0, 536870911⟩,
   ⟨0x1C07, 0x1C07, 3, .ro, 0, 0, 4⟩,
   ⟨0x1C08, 0x1C08, 7, .ro, 64, 0, 64⟩,
   ⟨0x1C10, 0x1C10, 8, .rwp, 8, 1, 255⟩,
   ⟨0x1C11, 0x1C11, 16, .rwp, 3600, 60, 65535⟩,
   ⟨0x1C12, 0x1C12, 10, .ro, 0, 0, 512⟩,
   ⟨0x1C20, 0x1C20, 16, .rwp, 16000, 1000, 60000⟩,
   ⟨0x1C21, 0x1C21, 20, .ro, 0, 0, 1048575⟩,
   ⟨0x1C22, 0x1C22, 32, .rop, 0, 0, 4294967295⟩,
   ⟨0x1C23, 0x1C23, 32, .ro, 0, 0, 4294967295⟩]

/-- Rows 0x1C24 to 0x1CFF. -/
def wheelsRows1 : List ParamRow :=
  [⟨0x1C24, 0x1C24, 32, .ro, 0, 0, 4294967295⟩,
   ⟨0x1C25, 0x1C25, 32, .rop, 0, 0, 4294967295⟩,
   ⟨0x1C26, 0x1C26, 20, .ro, 0, 0, 1048575⟩,
   ⟨0x1C27, 0x1C27, 2, .ro, 2, 0, 2⟩,
   ⟨0x1C28, 0x1C28, 20, .ro, 0, 0, 1048575⟩,
   ⟨0x1C30, 0x1C30, 48, .ro, 0, 0, 281474976710655⟩,
   ⟨0x1C31, 0x1C31, 10, .rwp, 200, 20, 1000⟩,
   ⟨0x1C32, 0x1C32, 20, .ro, 0, 0, 1048575⟩,
   ⟨0x1C33, 0x1C33, 2, .rop, 0, 0, 2⟩,
   ⟨0x1C34, 0x1C34, 32, .rop, 0, 0, 4294967295⟩,
   ⟨0x1C40, 0x1C40, 16, .rwp, 4000, 500, 30000⟩,
   ⟨0x1C50, 0x1C50, 32, .rc, 0, 0, 4294967295⟩,
   ⟨0x1C51, 0x1C51, 32, .rc, 0, 0, 4294967295⟩,
   ⟨0x1C52, 0x1C52, 29, .rw, 0, 0, 536870911⟩,
   ⟨0x1C53, 0x1C53, 48, .ro, 0, 0, 281474976710655⟩,
   ⟨0x1C60, 0x1CFF, 48, .ro, 0, 0, 281474976710655⟩]

/-- Rows 0x1D00 to 0x1FFF. -/
def wheelsRows2 : List ParamRow :=
  [⟨0x1D00, 0x1EFF, 48, .ro, 0, 0, 281474976710655⟩,
   ⟨0x1F00, 0x1FFF, 48, .ro, 0, 0, 281474976710655⟩]

/-- The rows of this owner (Table 14-5). -/
def wheelsRows : List ParamRow := wheelsRows0 ++ wheelsRows1 ++ wheelsRows2

/-- Rows 0x2000 to 0x2013. -/
def cisternRows0 : List ParamRow :=
  [⟨0x2000, 0x2000, 4, .ro, 0, 0, 9⟩,
   ⟨0x2001, 0x2001, 4, .ro, 0, 0, 9⟩,
   ⟨0x2002, 0x2002, 32, .ro, 0, 0, 4294967295⟩,
   ⟨0x2003, 0x2003, 32, .ro, 0, 0, 4294967295⟩,
   ⟨0x2004, 0x2004, 32, .ro, 0, 0, 4294967295⟩,
   ⟨0x2005, 0x2005, 32, .ro, 0, 0, 4294967295⟩,
   ⟨0x2006, 0x2006, 10, .ro, 0, 0, 1000⟩,
   ⟨0x2007, 0x2007, 10, .ro, 0, 0, 1000⟩,
   ⟨0x2008, 0x2008, 32, .ro, 0, 0, 4294967295⟩,
   ⟨0x2009, 0x2009, 32, .ro, 0, 0, 4294967295⟩,
   ⟨0x200A, 0x200A, 8, .ro, 0, 0, 255⟩,
   ⟨0x200B, 0x200B, 8, .ro, 0, 0, 255⟩,
   ⟨0x2010, 0x2010, 3, .rwp, 0, 0, 7⟩,
   ⟨0x2011, 0x2011, 3, .rwp, 0, 0, 7⟩,
   ⟨0x2012, 0x2012, 16, .rwp, 8000, 1000, 60000⟩,
   ⟨0x2013, 0x2013, 16, .rwp, 8000, 1000, 60000⟩]

/-- Rows 0x2020 to 0x2041. -/
def cisternRows1 : List ParamRow :=
  [⟨0x2020, 0x2020, 10, .rwp, 960, 800, 990⟩,
   ⟨0x2021, 0x2021, 7, .rwp, 10, 1, 100⟩,
   ⟨0x2022, 0x2022, 15, .rwp, 10000, 1000, 20000⟩,
   ⟨0x2023, 0x2023, 10, .rwp, 60, 10, 1000⟩,
   ⟨0x2024, 0x2024, 11, .rwp, 200, 50, 2000⟩,
   ⟨0x2025, 0x2025, 12, .rwp, 600, 30, 3600⟩,
   ⟨0x2030, 0x2030, 9, .rwp, 90, 0, 365⟩,
   ⟨0x2031, 0x2031, 10, .rwp, 60, 10, 1000⟩,
   ⟨0x2032, 0x2032, 7, .rwp, 50, 20, 95⟩,
   ⟨0x2033, 0x2033, 8, .rwp, 110, 100, 150⟩,
   ⟨0x2034, 0x2034, 14, .rwp, 11800, 11000, 12500⟩,
   ⟨0x2035, 0x2035, 14, .rwp, 1000, 100, 10000⟩,
   ⟨0x2036, 0x2036, 3, .rop, 0, 0, 5⟩,
   ⟨0x2037, 0x2037, 3, .rop, 0, 0, 5⟩,
   ⟨0x2040, 0x2040, 7, .rwp, 80, 50, 100⟩,
   ⟨0x2041, 0x2041, 9, .rwp, 125, 100, 400⟩]

/-- Rows 0x2042 to 0x22FF. -/
def cisternRows2 : List ParamRow :=
  [⟨0x2042, 0x2042, 7, .rwp, 50, 10, 100⟩,
   ⟨0x2043, 0x2043, 7, .rwp, 30, 5, 100⟩,
   ⟨0x2044, 0x2044, 8, .rwp, 50, 10, 250⟩,
   ⟨0x2045, 0x2045, 7, .rwp, 70, 30, 95⟩,
   ⟨0x2050, 0x2050, 10, .rwp, 24, 1, 720⟩,
   ⟨0x2051, 0x2051, 7, .rwp, 5, 1, 100⟩,
   ⟨0x2052, 0x2052, 12, .rwp, 1000, 500, 4000⟩,
   ⟨0x2053, 0x2053, 8, .ro, 0, 0, 255⟩,
   ⟨0x2054, 0x2054, 8, .ro, 0, 0, 255⟩,
   ⟨0x2055, 0x2055, 16, .ro, 0, 0, 65535⟩,
   ⟨0x2056, 0x2056, 16, .ro, 0, 0, 65535⟩,
   ⟨0x2060, 0x20FF, 48, .ro, 0, 0, 281474976710655⟩,
   ⟨0x2100, 0x21FF, 48, .ro, 0, 0, 281474976710655⟩,
   ⟨0x2200, 0x22FF, 48, .ro, 0, 0, 281474976710655⟩]

/-- The rows of this owner (Table 14-5). -/
def cisternRows : List ParamRow := cisternRows0 ++ cisternRows1 ++ cisternRows2

/-- Rows 0x2300 to 0x2322. -/
def sequencerRows0 : List ParamRow :=
  [⟨0x2300, 0x2300, 3, .ro, 0, 0, 4⟩,
   ⟨0x2301, 0x2301, 3, .ro, 0, 0, 5⟩,
   ⟨0x2302, 0x2302, 5, .ro, 0, 0, 24⟩,
   ⟨0x2303, 0x2303, 24, .ro, 0, 0, 16777215⟩,
   ⟨0x2304, 0x2304, 24, .ro, 0, 0, 16777215⟩,
   ⟨0x2305, 0x2305, 8, .ro, 0, 0, 255⟩,
   ⟨0x2306, 0x2306, 1, .ro, 0, 0, 1⟩,
   ⟨0x2310, 0x2310, 6, .rwp, 8, 1, 63⟩,
   ⟨0x2311, 0x2311, 10, .rwp, 10, 1, 1000⟩,
   ⟨0x2312, 0x2312, 10, .rwp, 60, 5, 600⟩,
   ⟨0x2313, 0x2313, 2, .rwp, 3, 1, 3⟩,
   ⟨0x2314, 0x2314, 8, .rwp, 10, 1, 255⟩,
   ⟨0x2315, 0x2315, 12, .rwp, 500, 100, 4000⟩,
   ⟨0x2320, 0x2320, 1, .rwp, 1, 0, 1⟩,
   ⟨0x2321, 0x2321, 10, .rwp, 720, 650, 800⟩,
   ⟨0x2322, 0x2322, 10, .rwp, 850, 700, 900⟩]

/-- Rows 0x2323 to 0x26FF. -/
def sequencerRows1 : List ParamRow :=
  [⟨0x2323, 0x2323, 5, .rwp, 5, 1, 20⟩,
   ⟨0x2324, 0x2324, 10, .ro, 750, 0, 1023⟩,
   ⟨0x2325, 0x2325, 5, .rwp, 16, 0, 23⟩,
   ⟨0x2330, 0x2330, 3, .ro, 0, 0, 4⟩,
   ⟨0x2331, 0x2331, 14, .rwp, 4000, 500, 16000⟩,
   ⟨0x2340, 0x2340, 1, .rwp, 1, 0, 1⟩,
   ⟨0x2341, 0x2341, 10, .rwp, 100, 10, 1000⟩,
   ⟨0x2350, 0x23FF, 48, .ro, 0, 0, 281474976710655⟩,
   ⟨0x2500, 0x251F, 48, .rwp, 0, 0, 281474976710655⟩,
   ⟨0x2520, 0x253F, 48, .rwp, 0, 0, 281474976710655⟩,
   ⟨0x2580, 0x2587, 48, .rwp, 0, 0, 281474976710655⟩,
   ⟨0x2600, 0x26FF, 48, .ro, 0, 0, 281474976710655⟩]

/-- The rows of this owner (Table 14-5). -/
def sequencerRows : List ParamRow := sequencerRows0 ++ sequencerRows1

/-- Rows 0x2700 to 0x2721. -/
def faultsRows0 : List ParamRow :=
  [⟨0x2700, 0x2700, 48, .rw1c, 0, 0, 281474976710655⟩,
   ⟨0x2701, 0x2703, 48, .ro, 0, 0, 281474976710655⟩,
   ⟨0x2704, 0x2704, 48, .rw1c, 0, 0, 281474976710655⟩,
   ⟨0x2705, 0x2705, 1, .ro, 0, 0, 1⟩,
   ⟨0x2706, 0x2706, 48, .ro, 0, 0, 281474976710655⟩,
   ⟨0x2707, 0x2707, 1, .ro, 0, 0, 1⟩,
   ⟨0x2708, 0x2708, 32, .rop, 0, 0, 4294967295⟩,
   ⟨0x2710, 0x2710, 3, .rwp, 2, 0, 4⟩,
   ⟨0x2711, 0x2711, 3, .rwp, 1, 0, 4⟩,
   ⟨0x2712, 0x2712, 3, .rwp, 1, 0, 4⟩,
   ⟨0x2713, 0x2713, 3, .rwp, 4, 1, 4⟩,
   ⟨0x2714, 0x2714, 12, .rwp, 60, 1, 3600⟩,
   ⟨0x2715, 0x2715, 4, .rwp, 3, 1, 15⟩,
   ⟨0x2716, 0x2716, 8, .rwp, 10, 1, 255⟩,
   ⟨0x2720, 0x2720, 48, .rw, 0, 0, 281474976710655⟩,
   ⟨0x2721, 0x2721, 3, .rw, 2, 0, 4⟩]

/-- Rows 0x2722 to 0x29FF. -/
def faultsRows1 : List ParamRow :=
  [⟨0x2722, 0x2722, 16, .ro, 0, 0, 65535⟩,
   ⟨0x2730, 0x275F, 32, .rc, 0, 0, 4294967295⟩,
   ⟨0x2780, 0x2785, 48, .rw1c, 0, 0, 281474976710655⟩,
   ⟨0x2788, 0x278D, 48, .rwp, 0, 0, 281474976710655⟩,
   ⟨0x2790, 0x2790, 12, .rwp, 100, 10, 4000⟩,
   ⟨0x27A0, 0x27CF, 48, .ro, 0, 0, 281474976710655⟩,
   ⟨0x2800, 0x291F, 48, .rwp, 0, 0, 281474976710655⟩,
   ⟨0x2920, 0x29FF, 48, .ro, 0, 0, 281474976710655⟩]

/-- The rows of this owner (Table 14-5). -/
def faultsRows : List ParamRow := faultsRows0 ++ faultsRows1

/-- Rows 0x2A00 to 0x2A82. -/
def nvRows0 : List ParamRow :=
  [⟨0x2A00, 0x2A00, 48, .ro, 1, 0, 281474976710655⟩,
   ⟨0x2A01, 0x2A01, 48, .rw, 0, 0, 281474976710655⟩,
   ⟨0x2A02, 0x2A02, 48, .ro, 0, 0, 281474976710655⟩,
   ⟨0x2A03, 0x2A03, 48, .ro, 0, 0, 281474976710655⟩,
   ⟨0x2A04, 0x2A04, 48, .ro, 0, 0, 281474976710655⟩,
   ⟨0x2A05, 0x2A05, 1, .wo, 0, 0, 1⟩,
   ⟨0x2A06, 0x2A06, 48, .ro, 0, 0, 281474976710655⟩,
   ⟨0x2A07, 0x2A07, 13, .ro, 0, 0, 4096⟩,
   ⟨0x2A08, 0x2A08, 32, .rc, 0, 0, 4294967295⟩,
   ⟨0x2A09, 0x2A09, 10, .rwp, 100, 10, 1000⟩,
   ⟨0x2A10, 0x2A13, 11, .rwp, 0, 0, 2047⟩,
   ⟨0x2A20, 0x2A37, 48, .rwp, 0, 0, 281474976710655⟩,
   ⟨0x2A40, 0x2A6A, 48, .ro, 0, 0, 281474976710655⟩,
   ⟨0x2A80, 0x2A80, 3, .ro, 0, 0, 5⟩,
   ⟨0x2A81, 0x2A81, 4, .ro, 0, 0, 15⟩,
   ⟨0x2A82, 0x2A82, 9, .ro, 0, 0, 361⟩]

/-- Rows 0x2A83 to 0x2BFF. -/
def nvRows1 : List ParamRow :=
  [⟨0x2A83, 0x2A83, 48, .ro, 0, 0, 281474976710655⟩,
   ⟨0x2A84, 0x2A84, 7, .rwp, 7, 1, 90⟩,
   ⟨0x2A85, 0x2A85, 3, .rwp, 2, 1, 4⟩,
   ⟨0x2A86, 0x2A86, 8, .rwp, 32, 8, 128⟩,
   ⟨0x2A87, 0x2A87, 32, .rc, 0, 0, 4294967295⟩,
   ⟨0x2A8A, 0x2A8A, 32, .ro, 0, 0, 4294967295⟩,
   ⟨0x2A8B, 0x2A8B, 2, .ro, 0, 0, 3⟩,
   ⟨0x2A8C, 0x2A8C, 11, .ro, 0, 0, 2047⟩,
   ⟨0x2A8D, 0x2A8D, 11, .rwp, 64, 8, 1024⟩,
   ⟨0x2A90, 0x2A93, 48, .rw1c, 0, 0, 281474976710655⟩,
   ⟨0x2AA1, 0x2AA1, 32, .ro, 0, 0, 4294967295⟩,
   ⟨0x2AB0, 0x2AFF, 48, .ro, 0, 0, 281474976710655⟩,
   ⟨0x2B00, 0x2BFF, 48, .ro, 0, 0, 281474976710655⟩]

/-- The rows of this owner (Table 14-5). -/
def nvRows : List ParamRow := nvRows0 ++ nvRows1

/-- Rows 0x2C00 to 0x2C1B. -/
def commandsRows0 : List ParamRow :=
  [⟨0x2C00, 0x2C00, 13, .ro, 4096, 0, 8191⟩,
   ⟨0x2C01, 0x2C01, 48, .ro, 0, 0, 281474976710655⟩,
   ⟨0x2C02, 0x2C02, 48, .ro, 0, 0, 281474976710655⟩,
   ⟨0x2C03, 0x2C03, 48, .rw, 0, 0, 281474976710655⟩,
   ⟨0x2C04, 0x2C04, 48, .ro, 0, 0, 281474976710655⟩,
   ⟨0x2C10, 0x2C10, 17, .rwp, 40000, 0, 120000⟩,
   ⟨0x2C11, 0x2C11, 17, .ro, 0, 0, 131071⟩,
   ⟨0x2C12, 0x2C12, 32, .ro, 0, 0, 4294967295⟩,
   ⟨0x2C13, 0x2C13, 2, .ro, 0, 0, 2⟩,
   ⟨0x2C14, 0x2C14, 17, .ro, 0, 0, 131071⟩,
   ⟨0x2C15, 0x2C15, 8, .ro, 0, 0, 255⟩,
   ⟨0x2C16, 0x2C16, 8, .ro, 0, 0, 255⟩,
   ⟨0x2C18, 0x2C18, 32, .rwp, 9500, 0, 100000⟩,
   ⟨0x2C19, 0x2C19, 32, .rwp, 1900, 0, 100000⟩,
   ⟨0x2C1A, 0x2C1A, 16, .rwp, 4000, 500, 30000⟩,
   ⟨0x2C1B, 0x2C1B, 16, .rwp, 8000, 1000, 30000⟩]

/-- Rows 0x2C20 to 0x2D05. -/
def commandsRows1 : List ParamRow :=
  [⟨0x2C20, 0x2C20, 32, .rc, 0, 0, 4294967295⟩,
   ⟨0x2C48, 0x2C87, 48, .ro, 0, 0, 281474976710655⟩,
   ⟨0x2C90, 0x2CC7, 48, .ro, 0, 0, 281474976710655⟩,
   ⟨0x2D00, 0x2D05, 48, .ro, 0, 0, 281474976710655⟩]

/-- The rows of this owner (Table 14-5). -/
def commandsRows : List ParamRow := commandsRows0 ++ commandsRows1

/-- Rows 0x2E00 to 0x2E16. -/
def mirsenRows0 : List ParamRow :=
  [⟨0x2E00, 0x2E00, 3, .ro, 0, 0, 5⟩,
   ⟨0x2E01, 0x2E01, 2, .ro, 0, 0, 3⟩,
   ⟨0x2E02, 0x2E02, 24, .rop, 0, 0, 16777215⟩,
   ⟨0x2E03, 0x2E03, 11, .rwp, 2047, 0, 2047⟩,
   ⟨0x2E04, 0x2E04, 13, .rop, 0, 0, 8191⟩,
   ⟨0x2E05, 0x2E05, 24, .rop, 0, 0, 16777215⟩,
   ⟨0x2E06, 0x2E06, 3, .ro, 0, 0, 5⟩,
   ⟨0x2E07, 0x2E07, 6, .ro, 0, 0, 63⟩,
   ⟨0x2E08, 0x2E08, 2, .rwp, 0, 0, 2⟩,
   ⟨0x2E10, 0x2E10, 1, .rwp, 0, 0, 1⟩,
   ⟨0x2E11, 0x2E11, 10, .rwp, 5, 1, 1000⟩,
   ⟨0x2E12, 0x2E12, 8, .rwp, 10, 2, 255⟩,
   ⟨0x2E13, 0x2E13, 10, .rwp, 50, 6, 1000⟩,
   ⟨0x2E14, 0x2E14, 11, .rwp, 100, 10, 2000⟩,
   ⟨0x2E15, 0x2E15, 16, .ro, 0, 0, 65535⟩,
   ⟨0x2E16, 0x2E16, 11, .rwp, 1000, 200, 2000⟩]

/-- Rows 0x2E17 to 0x2FFF. -/
def mirsenRows1 : List ParamRow :=
  [⟨0x2E17, 0x2E17, 10, .rwp, 100, 10, 1000⟩,
   ⟨0x2E20, 0x2E20, 3, .ro, 3, 0, 4⟩,
   ⟨0x2E21, 0x2E21, 11, .ro, 0, 0, 1024⟩,
   ⟨0x2E22, 0x2E22, 11, .ro, 0, 0, 1024⟩,
   ⟨0x2E30, 0x2E33, 11, .rwp, 0, 1, 1024⟩,
   ⟨0x2E34, 0x2E34, 1, .rwp, 0, 0, 1⟩,
   ⟨0x2E40, 0x2E45, 48, .rwp, 0, 0, 281474976710655⟩,
   ⟨0x2E46, 0x2E46, 8, .rwp, 20, 1, 255⟩,
   ⟨0x2E80, 0x2EDF, 48, .ro, 0, 0, 281474976710655⟩,
   ⟨0x2F00, 0x2F47, 48, .ro, 0, 0, 281474976710655⟩,
   ⟨0x2F80, 0x2FFF, 48, .ro, 0, 0, 281474976710655⟩]

/-- The rows of this owner (Table 14-5). -/
def mirsenRows : List ParamRow := mirsenRows0 ++ mirsenRows1

/-- Rows 0x3000 to 0x3043. -/
def managementRows0 : List ParamRow :=
  [⟨0x3000, 0x3000, 2, .ro, 0, 0, 3⟩,
   ⟨0x3001, 0x3001, 32, .rop, 0, 0, 4294967295⟩,
   ⟨0x3002, 0x3002, 7, .rwp, 20, 5, 100⟩,
   ⟨0x3010, 0x3010, 28, .ro, 0, 0, 268435455⟩,
   ⟨0x3011, 0x3011, 1, .wo, 0, 0, 1⟩,
   ⟨0x3020, 0x3020, 8, .ro, 0, 0, 255⟩,
   ⟨0x3021, 0x3021, 8, .rc, 0, 0, 255⟩,
   ⟨0x3022, 0x3022, 7, .rwp, 100, 85, 105⟩,
   ⟨0x3023, 0x3023, 7, .rwp, 110, 100, 120⟩,
   ⟨0x3030, 0x3030, 15, .rwp, 1280, 100, 20000⟩,
   ⟨0x3031, 0x3031, 10, .rwp, 750, 650, 900⟩,
   ⟨0x3032, 0x3032, 12, .ro, 1024, 1024, 4095⟩,
   ⟨0x3040, 0x3040, 10, .ro, 0, 0, 1023⟩,
   ⟨0x3041, 0x3041, 9, .rwp, 40, 10, 200⟩,
   ⟨0x3042, 0x3042, 9, .rwp, 80, 20, 400⟩,
   ⟨0x3043, 0x3043, 6, .rwp, 5, 0, 50⟩]

/-- Rows 0x3044 to 0x31BF. -/
def managementRows1 : List ParamRow :=
  [⟨0x3044, 0x3044, 10, .ro, 750, 0, 1023⟩,
   ⟨0x3045, 0x3045, 12, .rwp, 1000, 100, 4000⟩,
   ⟨0x3048, 0x3048, 9, .rwp, 30, 1, 365⟩,
   ⟨0x3060, 0x3060, 1, .ro, 0, 0, 1⟩,
   ⟨0x3062, 0x3062, 48, .ro, 0, 0, 281474976710655⟩,
   ⟨0x3063, 0x3063, 48, .ro, 0, 0, 281474976710655⟩,
   ⟨0x3064, 0x3064, 16, .rop, 0, 0, 65535⟩,
   ⟨0x3065, 0x3065, 3, .rop, 0, 0, 5⟩,
   ⟨0x3080, 0x3080, 3, .ro, 0, 0, 4⟩,
   ⟨0x3081, 0x3081, 16, .ro, 0, 0, 65535⟩,
   ⟨0x3082, 0x3082, 16, .rop, 0, 0, 65535⟩,
   ⟨0x3100, 0x310B, 10, .ro, 0, 0, 1023⟩,
   ⟨0x3110, 0x3117, 8, .ro, 0, 0, 255⟩,
   ⟨0x3120, 0x312F, 48, .ro, 0, 0, 281474976710655⟩,
   ⟨0x3130, 0x313F, 48, .ro, 0, 0, 281474976710655⟩,
   ⟨0x3140, 0x31BF, 48, .ro, 0, 0, 281474976710655⟩]

/-- Rows 0x31C0 to 0x31FF. -/
def managementRows2 : List ParamRow :=
  [⟨0x31C0, 0x31FF, 48, .ro, 0, 0, 281474976710655⟩]

/-- The rows of this owner (Table 14-5). -/
def managementRows : List ParamRow := managementRows0 ++ managementRows1 ++ managementRows2

/-- The rows of the owner of an ID (Table 14-5). -/
def rowsOf (id : Nat) : List ParamRow :=
  if id < 0x0100 then identityRows
  else if id < 0x0400 then hostRows
  else if id < 0x0800 then basinRows
  else if id < 0x0B00 then weirRows
  else if id < 0x0F00 then rillRows
  else if id < 0x1300 then spillwayRows
  else if id < 0x1600 then siphonRows
  else if id < 0x1C00 then reservoirRows
  else if id < 0x2000 then wheelsRows
  else if id < 0x2300 then cisternRows
  else if id < 0x2700 then sequencerRows
  else if id < 0x2A00 then faultsRows
  else if id < 0x2C00 then nvRows
  else if id < 0x2E00 then commandsRows
  else if id < 0x3000 then mirsenRows
  else if id < 0x3200 then managementRows
  else []

/-- The row of a rail slot's ID: +0 SLOT_CFG, +1 its status, +4 to +7 its counters (R365). -/
def slotRow (id : Nat) : Option ParamRow :=
  if id % 8 = 0 then some ⟨id, id, 48, .rwp, 0, 0, 281474976710655⟩
  else if id % 8 = 1 then some ⟨id, id, 48, .ro, 0, 0, 281474976710655⟩
  else if 4 ≤ id % 8 then some ⟨id, id, 16, .rwp, 0, 0, 65535⟩
  else none

/-- The row of an ID, none for a reserved ID. -/
def rowOf (id : Nat) : Option ParamRow :=
  if 0x2400 ≤ id ∧ id < 0x24C0 then slotRow id
  else (rowsOf id).find? fun r => decide (r.first ≤ id) && decide (id ≤ r.last)

/-- Values of a parameter whose range is not one interval: the intervals allowed. -/
def valueSets : List (Nat × List (Nat × Nat)) :=
  [(0x0100, [(4, 4), (8, 8), (16, 16)]),
   (0x0101, [(16, 16), (32, 32), (64, 64)]),
   (0x1602, [(1600, 1600), (2400, 2400), (3200, 3200), (3600, 3600)]),
   (0x1C05, [(0, 0), (6, 14)]),
   (0x2E03, [(0, 1023), (2047, 2047)])]

end Sys2Proof.Machine
end

