-- ==== Sys2Proof/Machine/View.lean ====
section
/-! DEFINITION. The register file: stored parameters with their defaults, and writes that keep each within its
width. -/

namespace Sys2Proof.Machine

/-- Default of an event's route word (R380). -/
def routeDefault (n : Nat) : Nat :=
  let log :=
    if n = 83 then 3
    else if n = 50 ∨ n = 51 ∨ n = 53 ∨ n = 56 ∨ n = 57 ∨ n = 64 ∨ n = 70 ∨ n = 73 ∨ n = 76 ∨ n = 77 ∨ n = 78
    then 2 else 0
  let rcd := if n ≤ 48 ∨ n = 54 then 0 else 1
  let mctp := if n ≤ 95 then 1 else 0
  (16 + n / 6) + at' 1 6 + at' log 7 + at' mctp 10 + at' rcd 11

/-- SLOT_CFG of the reference card (Tables 11-1, 11-2 and the worked example of 11; PRESUMED, log entry 19). -/
def slotDefault (n : Nat) : Nat :=
  let common := at' 20 12 + at' 10 20 + at' 10 28
  let reset := at' 3 36 + at' 1 39 + at' 1 41
  if n < 16 then 1 + at' (3 + n % 2) 3 + common + reset
  else if n = 16 then 2 + at' 1 11 + common + reset
  else if n < 19 then 2 + common + reset
  else if n < 22 then 2 + at' 1 3 + common + reset
  else if n < 24 then 3 + at' 2 3 + common + at' 1 36 + at' 3 39
  else 0

/-- The POWER_UP list of the reference card (Table 11-2; PRESUMED, log entry 19). -/
def stepDefault (n : Nat) : Nat :=
  ([2 ^ 16, 2 ^ 17 + 2 ^ 18, 2 ^ 19, 2 ^ 20 + 2 ^ 21, 2 ^ 22, 2 ^ 23, 2 ^ 16 - 1] : List Nat).getD n 0

/-- The default of a parameter: its table's Default column, with the defaults a rule gives word by word
(R380, R465). -/
def paramDefault (id : Nat) : Nat :=
  if 0x2800 ≤ id ∧ id ≤ 0x291F then routeDefault (id - 0x2800)
  else if 0x2400 ≤ id ∧ id < 0x24C0 then (if id % 8 = 0 then slotDefault ((id - 0x2400) / 8) else 0)
  else if 0x2500 ≤ id ∧ id < 0x2520 then stepDefault (id - 0x2500)
  else if id = 0x2580 then 23 + at' 1 5 + at' 20 6
  else if id = 0x2E30 then 8
  else if id = 0x2E31 then 16
  else if id = 0x2E32 then 64
  else if id = 0x2E33 then 1
  else if id = 0x2E40 ∨ id = 0x2E41 then 2 ^ 48 - 1
  else match rowOf id with
    | some r => r.dflt
    | none => 0

/-- Width of a parameter in bits (R429). -/
def paramWidth (id : Nat) : Nat := match rowOf id with | some r => r.width | none => 48

/-- The stored value of a parameter. -/
def State.reg (s : State) (id : Nat) : Nat := mget (paramDefault id) s.regs id

/-- Store a value in a parameter, cut to its width; a value equal to the default is not listed. -/
def State.setReg (s : State) (id v : Nat) : State :=
  { s with regs :=
      if v % 2 ^ paramWidth id = paramDefault id then mdel id s.regs
      else mput id (v % 2 ^ paramWidth id) s.regs }

/-- Add to a counter. Past its width the spec states no value: a free one (DESIGN CHOICE, log entry 3). -/
def State.addReg (s : State) (id n : Nat) : State :=
  if s.reg id + n < 2 ^ paramWidth id then s.setReg id (s.reg id + n)
  else { s.setReg id (Config.counterPastWidth id s.freeCtr) with freeCtr := s.freeCtr + 1 }

/-- Publish a figure. One that outgrows its register's width has no stated reading: a free one (DESIGN CHOICE, log entry 3). -/
def State.putReg (s : State) (id v : Nat) : State :=
  if v < 2 ^ paramWidth id then s.setReg id v
  else { s.setReg id (Config.freeValue s.freeCtr id) with freeCtr := s.freeCtr + 1 }

/-- Raise a register to a value if that is higher. -/
def State.maxReg (s : State) (id v : Nat) : State := if s.reg id < v then s.setReg id v else s

/-! ### One block changed, the others kept -/

/-- Change the fault collector alone. -/
def State.onFc (s : State) (f : Collector → Collector) : State := { s with fc := f s.fc }

/-- Change the event recorder alone. -/
def State.onRec (s : State) (f : Recorder → Recorder) : State := { s with rec_ := f s.rec_ }

/-- Change the NV Store alone. -/
def State.onNv (s : State) (f : NvStore → NvStore) : State := { s with nv := f s.nv }

/-- Change commands, journal and arbiter alone. -/
def State.onCmd (s : State) (f : Cmd → Cmd) : State := { s with cmd := f s.cmd }

/-- Change the Cistern alone. -/
def State.onCist (s : State) (f : Cistern → Cistern) : State := { s with cist := f s.cist }

/-- Change the Weir alone. -/
def State.onWeir (s : State) (f : Weir → Weir) : State := { s with weir := f s.weir }

/-- Change the Basin alone. -/
def State.onBasin (s : State) (f : Basin → Basin) : State := { s with basin := f s.basin }

/-- Change the Rill alone. -/
def State.onRill (s : State) (f : Rill → Rill) : State := { s with rill := f s.rill }

/-- Change the Reservoir alone. -/
def State.onRes (s : State) (f : Reservoir → Reservoir) : State := { s with res := f s.res }

/-- Change the wheels alone. -/
def State.onWhl (s : State) (f : Wheels → Wheels) : State := { s with whl := f s.whl }

/-- Change the Spillway alone. -/
def State.onSpill (s : State) (f : Spillway → Spillway) : State := { s with spill := f s.spill }

/-- Change the Siphon alone. -/
def State.onSip (s : State) (f : Siphon → Siphon) : State := { s with sip := f s.sip }

/-- Change the sequencer alone. -/
def State.onSeq (s : State) (f : Seq → Seq) : State := { s with seq := f s.seq }

/-- Change the host port alone. -/
def State.onPort (s : State) (f : HostPort → HostPort) : State := { s with port := f s.port }

/-- Change the Mirsen unit alone. -/
def State.onMir (s : State) (f : Mirsen → Mirsen) : State := { s with mir := f s.mir }

/-- Change management alone. -/
def State.onMgmt (s : State) (f : Mgmt → Mgmt) : State := { s with mgmt := f s.mgmt }

end Sys2Proof.Machine
end

