-- ==== Sys2Proof/Machine/BasinCalc.lean ====
section
/-! DEFINITION. The Basin's address map, capacities, dirty totals and operations on DST entries (03_basin.md),
as functions of its own state. -/

namespace Sys2Proof.Machine

/-- Bytes in a GiB, a MiB. -/
abbrev GiB : Nat := 2 ^ 30
/-- Bytes in a MiB. -/
abbrev MiB : Nat := 2 ^ 20

/-- Capacity in GiB of a code of Table 3-12. -/
def capGiB (c : Nat) : Nat := 32 * 2 ^ c

/-- Modules of a slot set. -/
def Basin.inSlot (b : Basin) (s : Nat) : List Dimm := b.found.filter fun d => d.slot == s

/-- Populated channels N (R80). -/
def Basin.channels (b : Basin) : Nat := (b.inSlot 0).length

/-- The highest populated slot set. -/
def Basin.topSet (b : Basin) : Nat := if (b.inSlot 1).isEmpty then 0 else 1

/-- Bytes of one module of a slot set the map is built on: the spare rank of the highest set is left out (R89). -/
def Basin.moduleBytes (b : Basin) (s : Nat) : Nat :=
  match b.inSlot s with
  | [] => 0
  | d :: _ =>
    let full := capGiB d.cap * GiB
    if b.spare && s == b.topSet then full - full / Nat.max 1 d.ranks else full

/-- Installed DRAM less spare ranks, bytes. -/
def Basin.installed (b : Basin) : Nat := b.channels * (b.moduleBytes 0 + b.moduleBytes 1)

/-- Metadata reserve: one part in 128 (R82). -/
def Basin.reserve (b : Basin) : Nat := b.installed / 128

/-- Host capacity (R48). -/
def Basin.host (b : Basin) : Nat := b.installed - b.reserve

/-- Whole 4 GiB host blocks of one slot of a channel (R81, R82). -/
def Basin.wholeBlocks (b : Basin) (s : Nat) : Nat :=
  (b.moduleBytes s - (if s == b.topSet then b.reserve / Nat.max 1 b.channels else 0)) / (4 * GiB)

/-- Slot of a channel block and its position among the slot's blocks (R81). -/
def Basin.block (b : Basin) (n : Nat) : Nat × Nat :=
  let w0 := b.wholeBlocks 0
  let w1 := b.wholeBlocks 1
  let m := Nat.min w0 w1
  if n < 2 * m then (n % 2, n / 2)
  else if n < w0 + w1 then (if w1 < w0 then 0 else 1, n - m)
  else (b.topSet, b.wholeBlocks b.topSet)

/-- Channel, slot and module address of a DPA (R81). -/
def Basin.map (b : Basin) (dpa : Nat) : Nat × Nat × Nat :=
  let n := Nat.max 1 b.channels
  let o := dpa / 256 / n * 256 + dpa % 256
  let (s, k) := b.block (o / (4 * GiB))
  (dpa / 256 % n, s, k * (4 * GiB) + o % (4 * GiB))

/-- Segment index of a DPA; page in its segment. -/
def segOf (dpa : Nat) : Nat := dpa / 2 ^ 21
/-- Page in its segment of a DPA. -/
def pageOf (dpa : Nat) : Nat := dpa / 4096 % 512

/-- Slot set holding a segment (R83). -/
def Basin.setOf (b : Basin) (seg : Nat) : Nat := (b.map (seg * 2 ^ 21)).2.1

/-- Number of set bits of a page map. -/
def pages (x : BitVec 512) : Nat := popCount x.toNat 512

/-- The pages of a page map in ascending order. -/
def pageList (x : BitVec 512) : List Nat := setBits x.toNat 512

/-- The page map of a list of pages. -/
def pageMap (l : List Nat) : BitVec 512 := l.foldl (fun x p => x ||| BitVec.twoPow 512 p) 0

/-- DCOUNT of an entry (R92). -/
def DstEntry.dcount (e : DstEntry) : Nat := pages e.d

/-- DIRTY_BYTES (R97). -/
def Basin.dirtyBytes (b : Basin) : Nat :=
  4096 * sumOf (b.dst.map fun p => p.2.dcount) + 2 ^ 21 * b.overflow.length

/-- Word 0 of a DST entry (Table 3-5). -/
def DstEntry.word0 (e : DstEntry) (seg : Nat) : Nat :=
  seg + at' e.dcount 21 + at' e.heat 31 + at' e.age 39

/-- Word 1 of a DST entry (Table 3-5). -/
def DstEntry.word1 (e : DstEntry) (set : Nat) : Nat :=
  e.state.code + at' set 3 + at' e.ptr 4 + at' (b2n e.admitted) 22 + at' e.residue 23

/-- A residue as the heat record's second byte holds it, and read back (R95). -/
def residueByte (q r : Nat) : Nat := 256 * r / q
/-- The residue a second byte reads back as (R95). -/
def residueOf (q x : Nat) : Nat := ceilDiv (x * q) 256

/-- Add a count of accesses to a segment's heat record (R95). -/
def Basin.heatAdd (b : Basin) (q seg n : Nat) : Basin :=
  let (h, r) := mget (0, 0) b.heat seg
  let t := residueOf q r + n
  { b with heat := mset (0, 0) b.heat seg (Nat.min 255 (h + t / q), residueByte q (t % q)) }

/-- Flush the cached count of a segment (R95). -/
def Basin.flushSeg (b : Basin) (q seg : Nat) : Basin :=
  let n := mget 0 b.cache seg
  if n = 0 then b else { b.heatAdd q seg n with cache := b.cache.filter fun p => p.1 != seg }

/-- Flush every cached count (R95). -/
def Basin.flushAll (b : Basin) (q : Nat) : Basin :=
  { b.cache.foldl (fun b p => b.heatAdd q p.1 p.2) b with cache := [] }

/-- Count one 64-byte access to a segment (R95). The cache keeps its segments oldest first and evicts the oldest
(DESIGN CHOICE, log entry 17). A RESIDUE above a HEAT_QUANTUM that has been lowered gives one step and starts at 0 (DESIGN
CHOICE, log entry 232). -/
def Basin.access (b : Basin) (q seg : Nat) : Basin :=
  match b.dst.find? fun p => p.1 == seg with
  | some (_, e) =>
    let r := e.residue + 1
    let e := if q ≤ r then { e with heat := Nat.min 255 (e.heat + 1), residue := 0 } else { e with residue := r }
    { b with dst := mput seg e b.dst }
  | none =>
    if b.cache.any fun p => p.1 == seg then
      { b with cache := b.cache.map fun p => if p.1 == seg then (seg, p.2 + 1) else p }
    else
      let b := if b.cache.length < 4096 then b else match b.cache with
        | [] => b
        | (o, _) :: _ => b.flushSeg q o
      { b with cache := b.cache ++ [(seg, 1)] }

/-- Bytes 0 to 59 of a token line (Table 7-1). -/
def TokenLine.body (l : TokenLine) : List Nat :=
  bytesOf l.magic 4 ++ bytesOf l.token 6 ++ bytesOf l.inv 6 ++ bytesOf l.manifestSeq 6 ++ bytesOf 0 38

/-- The line of a token and a manifest (Table 7-1). -/
def TokenLine.of (t mseq : Nat) : TokenLine :=
  let l : TokenLine := { magic := 0x4B484C44, token := t, inv := 2 ^ 48 - 1 - t, manifestSeq := mseq }
  { l with crc := crc32c l.body }

/-- What check 5 of Table 7-7 asks of the line: it is the one written for a token and a manifest. -/
def TokenLine.holds (l : TokenLine) (t mseq : Nat) : Bool :=
  l.magic == 0x4B484C44 && l.crc == crc32c l.body && l.token == t && l.inv + l.token == 2 ^ 48 - 1
    && l.manifestSeq == mseq

/-- The lowest bitmap slot no entry uses (DESIGN CHOICE, log entry 14). -/
def Basin.freePtr (b : Basin) : Nat :=
  ((List.range (b.dst.length + 1)).find? fun n => !(b.dst.any fun p => p.2.ptr == n)).getD 0

/-- A new entry of a segment with the given maps: heat and residue from the heat record, age 0 (R95, R96). -/
def Basin.newEntry (b : Basin) (q seg : Nat) (d : BitVec 512) (admitted : Bool) : DstEntry :=
  let (h, r) := mget (0, 0) b.heat seg
  { d := d, w := if admitted then d else 0, heat := h, residue := residueOf q r, ptr := b.freePtr,
    admitted := admitted }

/-- The words of an entry that the shadow holds (R92). -/
def DstEntry.shadowWords (e : DstEntry) (seg set : Nat) : Nat × Nat := (e.word0 seg % 2 ^ 21, e.word1 set % 2 ^ 22)

/-- Allocate an entry: the DST and its shadow (R92, R96). -/
def Basin.allocate (b : Basin) (seg : Nat) (e : DstEntry) : Basin :=
  { b with dst := mput seg e b.dst, shadow := mput e.ptr (e.shadowWords seg (b.setOf seg)) b.shadow }

/-- Set the dirty bit of a page (R91, R94, R96); the Bool says that the segment went to overflow. A segment's cached count
is flushed as it gets an entry (DESIGN CHOICE, log entry 233). -/
def Basin.dirty (b : Basin) (q seg page : Nat) : Basin × Bool :=
  match b.dst.find? fun p => p.1 == seg with
  | some (_, e) =>
    let m := BitVec.twoPow 512 page
    let w := if e.state = .writing ∨ e.state = .spilling then e.w ||| m else e.w
    ({ b with dst := mput seg { e with d := e.d ||| m, w := w } b.dst }, false)
  | none =>
    if b.overflow.contains seg then (b, false)
    else if b.dst.length < 262144 then
      let b := b.flushSeg q seg
      (b.allocate seg (b.newEntry q seg (BitVec.twoPow 512 page) false), false)
    else ({ b with overflow := insertAsc seg b.overflow }, true)

/-- Admit the overflow segment of lowest index into a released entry (R96). One that has an entry already, after a failed
line of the overflow bitmap (R85), has that entry's maps set to all ones. -/
def Basin.takeIn (b : Basin) (q : Nat) : Basin :=
  match b.overflow with
  | [] => b
  | seg :: rest =>
    let b := { b.flushSeg q seg with overflow := rest }
    match b.dst.find? fun p => p.1 == seg with
    | some (_, e) => { b with dst := mput seg { e with d := BitVec.allOnes 512, w := BitVec.allOnes 512, admitted := true } b.dst }
    | none => b.allocate seg (b.newEntry q seg (BitVec.allOnes 512) true)

/-- Release an entry: heat and residue back to the record, its shadow free, then admission (R92, R94, R96). -/
def Basin.release (b : Basin) (q seg : Nat) (e : DstEntry) : Basin :=
  Basin.takeIn { b with
    heat := mset (0, 0) b.heat seg (e.heat, residueByte q e.residue), dst := mdel seg b.dst
    shadow := mdel e.ptr b.shadow } q

/-- finish of R94. -/
def Basin.finish (b : Basin) (q seg : Nat) (e : DstEntry) : Basin :=
  if e.dcount = 0 then b.release q seg e
  else { b with dst := mput seg { e with state := .dirty, c := 0 } b.dst }

/-- The entry of a segment. -/
def Basin.entry (b : Basin) (seg : Nat) : Option DstEntry := (b.dst.find? fun p => p.1 == seg).map (·.2)

/-- capture of R94; refused for an entry that is not DIRTY. -/
def Basin.capture (b : Basin) (seg : Nat) (c : BitVec 512) (spill : Bool) : Option Basin :=
  match b.entry seg with
  | some e =>
    if e.state = .dirty then
      let e := { e with w := 0, c := c, state := if spill then .spilling else .writing }
      some { b with dst := mput seg e b.dst }
    else none
  | none => none

/-- complete of R94 on the pages of a capture; ignored while the DST is frozen unless the Spillway issues it
(R98). -/
def Basin.complete (b : Basin) (q seg : Nat) (c : BitVec 512) (spillway : Bool := false) : Basin :=
  if b.frozen && !spillway then b
  else match b.entry seg with
    | some e => b.finish q seg { e with d := e.d &&& ~~~(c &&& ~~~e.w) }
    | none => b

/-- abandon of R94 (R98). -/
def Basin.abandon (b : Basin) (q seg : Nat) (spillway : Bool := false) : Basin :=
  if b.frozen && !spillway then b
  else match b.entry seg with
    | some e => b.finish q seg e
    | none => b

/-- Set both bitmaps of an entry to all ones: its bitmap slot failed (R85). -/
def Basin.slotFailed (b : Basin) (seg : Nat) : Basin := match b.entry seg with
  | some e => { b with dst := mput seg { e with d := BitVec.allOnes 512, w := BitVec.allOnes 512 } b.dst }
  | none => b

/-- Rewrite the line of the shadow that holds entry `first`, eight entries, from the on-chip DST (R85). -/
def Basin.shadowLine (b : Basin) (first : Nat) : Basin :=
  let lo := first / 8 * 8
  let now := b.dst.filter fun p => decide (lo ≤ p.2.ptr) && decide (p.2.ptr < lo + 8)
  { b with shadow := now.foldl (fun m p => mput p.2.ptr (p.2.shadowWords p.1 (b.setOf p.1)) m) (mclear b.shadow lo (lo + 8)) }

/-- Mark an entry SAVED (Table 3-6). -/
def Basin.saved (b : Basin) (seg : Nat) : Basin :=
  match b.entry seg with
  | some e => { b with dst := mput seg { e with state := .saved } b.dst }
  | none => b

/-- The copy of the heat record that leaves DRAM: live heat for segments with an entry (R510). -/
def Basin.heatCopy (b : Basin) (q : Nat) : List (Nat × (Nat × Nat)) :=
  b.dst.foldl (fun h p => mset (0, 0) h p.1 (p.2.heat, residueByte q p.2.residue)) b.heat

/-- Heat of a segment: its entry's, else its record's. -/
def Basin.heatOf (b : Basin) (seg : Nat) : Nat := match b.entry seg with
  | some e => e.heat
  | none => (mget (0, 0) b.heat seg).1

/-- Volatile partition, bytes; the persistent partition starts there (R49). -/
def State.volBytes (s : State) : Nat := s.port.volGiB * GiB

/-- Extents of the persistent partition: whole GiB (R48). -/
def State.extents (s : State) : Nat := (s.basin.host - s.volBytes) / GiB

/-- A DPA lies in the persistent partition. -/
def State.persistent (s : State) (dpa : Nat) : Bool :=
  decide (s.volBytes ≤ dpa) && decide (dpa < s.volBytes + s.extents * GiB)

/-- Extent holding a persistent DPA (R53). -/
def State.extentOf (s : State) (dpa : Nat) : Nat := (dpa - s.volBytes) / GiB

/-- DRAM_POPULATION (Table 3-12). -/
def Basin.population (b : Basin) : Nat :=
  b.channels + at' (b2n (!(b.inSlot 1).isEmpty)) 4
    + at' (((b.inSlot 0).head?.map (·.cap)).getD 0) 5 + at' (((b.inSlot 1).head?.map (·.cap)).getD 0) 7

end Sys2Proof.Machine
end

