-- ==== Sys2Proof/Machine/FlashCalc.lean ====
section
/-! DEFINITION. Flash blocks, bands, wheels and maps as functions of their own state: what the registers of the
Reservoir, the wheels and the Rill show, and where the next block, band or fine slot lies (05, 08, 09). -/

namespace Sys2Proof.Machine

/-! ### Blocks (R254 to R262) -/

/-- The target at a port. -/
def Reservoir.target (r : Reservoir) (port : Nat) : Option Target := r.found.find? fun t => t.port == port

/-- A target port in service (R256, R257). -/
def Reservoir.serves (r : Reservoir) (port : Nat) : Bool :=
  !r.retired.contains port && !r.disabled.contains (port / 16)
    && (match r.target port with | some t => t.answers | none => false)

/-- LUNs in service, as port × 4 + LUN. -/
def Reservoir.luns (r : Reservoir) : List Nat :=
  r.found.flatMap fun t =>
    if r.serves t.port then
      ((List.range t.luns).map fun l => t.port * 4 + l).filter fun l => !r.retiredLuns.contains l
    else []

/-- Eligible LUNs, L of R115: in service and not on a target of the list. -/
def lunsEligible (r : Reservoir) (slow : List Nat) : Nat :=
  (r.luns.filter fun l => !slow.contains (l / 4)).length

/-- Targets that take no new band of a stream: the slow set (R291), and for stream V also those that failed SLC-mode entry
in a rehearsal (Table 6-11). -/
def State.barred (s : State) (st : Stream) : List Nat :=
  if st = .v then s.whl.slowSet ++ s.spill.noSlc else s.whl.slowSet

/-- Blocks per LUN laid out before the image pool. -/
def Reservoir.fixedBpl (r : Reservoir) : Nat := r.reserveBpl + r.journalBpl + r.ckptBpl + r.spareBpl

/-- Region of a block number as laid out (R259): reserve, journal, checkpoint, spare, then the pool (DESIGN CHOICE,
log entry 18). -/
def Reservoir.regionAt (r : Reservoir) (n : Nat) : Region :=
  if n < r.reserveBpl then .reserve
  else if n < r.reserveBpl + r.journalBpl then .journal
  else if n < r.reserveBpl + r.journalBpl + r.ckptBpl then .checkpoint
  else if n < r.fixedBpl then .spare
  else .pool

/-- First block number and count of a region as laid out. -/
def Reservoir.extent (r : Reservoir) : Region → Nat × Nat
  | .reserve => (0, r.reserveBpl)
  | .journal => (r.reserveBpl, r.journalBpl)
  | .checkpoint => (r.reserveBpl + r.journalBpl, r.ckptBpl)
  | .spare => (r.reserveBpl + r.journalBpl + r.ckptBpl, r.spareBpl)
  | .pool => (r.fixedBpl, r.part.blocks - r.fixedBpl)
  | .landing => (0, 0)

/-- First block number and count of a region on a LUN: as laid out; the blocks of a part that joined later all lie in the
spare region (Table 8-3). -/
def Reservoir.extentOn (r : Reservoir) (lun : Nat) (rg : Region) : Nat × Nat :=
  if r.spareParts.contains (lun / 4) then (match rg with
    | .spare => (0, r.part.blocks)
    | _ => (0, 0))
  else r.extent rg

/-- Key of a block. -/
def blockKey (lun n : Nat) : Nat := lun * 4096 + n

/-- Record of a block. -/
def Reservoir.blk (r : Reservoir) (key : Nat) : BlockRec :=
  match r.blocks.find? fun p => p.1 == key with
  | some (_, b) => b
  | none => { region := if r.spareParts.contains (key / 16384) then .spare else r.regionAt (key % 4096) }

/-- Write a block's record. -/
def Reservoir.setBlk (r : Reservoir) (key : Nat) (b : BlockRec) : Reservoir :=
  { r with blocks := mput key b r.blocks }

/-- ERASES of a block's record: native-equivalent erases × 10 (Table 8-4). -/
def BlockRec.count (b : BlockRec) : Nat := b.erases / 100

/-- An erased block of a region that no band has planned. -/
def BlockRec.usable (b : BlockRec) (rg : Region) : Bool :=
  decide (b.state = .erased) && decide (b.region = rg) && b.band.isNone

/-- Usable blocks of a region on a LUN. -/
def Reservoir.usableOn (r : Reservoir) (lun : Nat) (rg : Region) : Nat :=
  let (lo, n) := r.extentOn lun rg
  let mine := r.blocks.filter fun p => p.1 / 4096 == lun
  n - (mine.filter fun p => decide (lo ≤ p.1 % 4096 ∧ p.1 % 4096 < lo + n)).length
    + (mine.filter fun p => p.2.usable rg).length

/-- The usable block of a region on a LUN with the lowest ERASES, the lowest number among equals (R274). -/
def Reservoir.pick (r : Reservoir) (lun : Nat) (rg : Region) : Option Nat :=
  let (lo, n) := r.extentOn lun rg
  let mine := r.blocks.filter fun p => p.1 / 4096 == lun
  match (List.range n).find? fun i => !(mine.any fun p => p.1 == blockKey lun (lo + i)) with
  | some i => match mine.find? fun p => p.2.usable rg && p.2.count == 0 && decide (p.1 % 4096 < lo + i) with
    | some p => some (p.1 % 4096)
    | none => some (lo + i)
  | none =>
    let best := (mine.filter fun p => p.2.usable rg).foldl
      (fun acc p => match acc with
        | some (_, e) => if p.2.count < e then some (p.1 % 4096, p.2.count) else acc
        | none => some (p.1 % 4096, p.2.count)) none
    best.map (·.1)

/-- Erased blocks of a region over all LUNs. -/
def Reservoir.usable (r : Reservoir) (rg : Region) : Nat := sumOf (r.luns.map fun l => r.usableOn l rg)

/-- Blocks of the image pool, landing buffer included. -/
def Reservoir.poolBlocks (r : Reservoir) : Nat := r.luns.length * (r.part.blocks - r.fixedBpl)

/-- Blocks of the card's flash in service, every region's (R150). -/
def Reservoir.rawBlocks (r : Reservoir) : Nat := r.luns.length * r.part.blocks

/-- Strips of a block: pages, in SLC mode a BITS-th of them (R244, R269). -/
def PartDesc.rows (p : PartDesc) (slc : Bool) : Nat :=
  if slc then p.pagesPerBlock / p.bits else p.pagesPerBlock

/-- Listed pool blocks in native use (R150). -/
def Reservoir.nativeInUse (r : Reservoir) : Nat :=
  (r.blocks.filter fun p => decide (p.2.region = .pool) &&
    (decide (p.2.state = .allocated) || decide (p.2.state = .closed) || decide (p.2.state = .refresh))).length

/-- Landing blocks in use. -/
def Reservoir.landingInUse (r : Reservoir) : Nat :=
  (r.blocks.filter fun p => decide (p.2.region = .landing) && !decide (p.2.state = .erased)).length

/-- Landing blocks, planned ones included. -/
def Reservoir.landing (r : Reservoir) : Nat :=
  (r.blocks.filter fun p => decide (p.2.region = .landing)).length

/-- occ of R150, 0.01 %. -/
def Reservoir.occ (r : Reservoir) : Nat :=
  if r.poolBlocks = 0 then 0 else 10000 * r.nativeInUse / r.poolBlocks

/-- Mean of the pool's and the landing buffer's native-equivalent erase counts, in cycles (R161). -/
def Reservoir.peAvg (r : Reservoir) : Rat :=
  (sumOf ((r.blocks.filter fun p => decide (p.2.region = .pool) || decide (p.2.region = .landing)).map
    fun p => p.2.erases) : Nat) / (1000 * Nat.max 1 r.poolBlocks : Nat)

/-- Rated native cycles less the share held back (R161). -/
def State.peBudget (s : State) : Rat := (s.res.part.cycles * (100 - s.reg Reg.ENDUR_RESERVE) : Nat) / 100

/-- Bytes of a block in native mode. -/
def PartDesc.blockBytes (p : PartDesc) : Nat := p.pagesPerBlock * 65536

/-- FLASH_POPULATION (R267). -/
def Reservoir.population (r : Reservoir) : Nat :=
  r.perChannel + at' r.part.luns 5 + at' r.part.bits 8

/-- CHANNEL_ENABLE. -/
def Reservoir.channelEnable (r : Reservoir) : Nat :=
  (List.range 32).foldl (fun x c =>
    if (r.found.any fun t => t.port / 16 == c) && !r.disabled.contains c then setBit x c else x) 0

/-! ### Bands and wheels (R268 to R274) -/

/-- Lanes of a stream (R273). -/
def lanesOf (r : Reservoir) (st : Stream) (w : Nat) : Nat := match st with
  | .l => 16 | .f => 8 | .g => 8 | .c => 2 | .v => Nat.max 1 (32 * r.perChannel / w)

/-- Position of a stream. -/
def Wheels.pos (x : Wheels) : Stream → StreamPos
  | .l => x.l | .f => x.f | .g => x.g | .c => x.c | .v => x.v

/-- Set the position of a stream. -/
def Wheels.setPos (x : Wheels) (st : Stream) (p : StreamPos) : Wheels := match st with
  | .l => { x with l := p } | .f => { x with f := p } | .g => { x with g := p }
  | .c => { x with c := p } | .v => { x with v := p }

/-- A band at BASE. -/
def Wheels.band (x : Wheels) (base : Nat) : Option Band := (x.bands.find? fun p => p.1 == base).map (·.2)

/-- A wheel that is not FREE. -/
def Wheels.wheel (x : Wheels) (n : Nat) : Option Wheel := (x.table.find? fun p => p.1 == n).map (·.2)

/-- Change a wheel's record. -/
def Wheels.upd (x : Wheels) (n : Nat) (f : Wheel → Wheel) : Wheels :=
  match x.wheel n with
  | some w => { x with table := mput n (f w) x.table }
  | none => x

/-- Band slots a band of `rows` rows takes (R270). -/
def slotsOf (rows : Nat) : Nat := ceilDiv rows 512

/-- The lowest free BASE for a band of `k` slots (R270). -/
def Wheels.freeBase (x : Wheels) (k : Nat) : Option Nat :=
  let free := fun b => !(x.bands.any fun p => decide (p.1 < b + k) && decide (b < p.1 + slotsOf p.2.rows))
  ((List.range (4 * x.bands.length + 1)).find? fun i => free (i * k)).bind fun i =>
    if i * k + k ≤ 1048576 then some (i * k) else none

/-- Band and row of a wheel number (R270). -/
def Wheels.bandOf (x : Wheels) (n : Nat) : Option (Band × Nat) :=
  (x.bands.find? fun p => decide (p.1 * 512 ≤ n) && decide (n < p.1 * 512 + p.2.rows)).map fun p =>
    (p.2, n - p.1 * 512)

/-- Column of P, of Q and of data strip j in the wheel of row r (R272). -/
def colP (r w : Nat) : Nat := r % w
/-- Column of Q (R272). -/
def colQ (r w : Nat) : Nat := (r + 1) % w
/-- Column of data strip j (R272). -/
def colData (r w j : Nat) : Nat := (r + 2 + j) % w

/-- The LUN a new band's column takes on a channel: in service, not slow, most usable blocks of the region, the
lowest port and LUN among equals (R274). -/
def bandLun (r : Reservoir) (slow : List Nat) (ch : Nat) (rg : Region) : Option Nat :=
  ((r.luns.filter fun l => l / 4 / 16 == ch && !slow.contains (l / 4)).foldl
    (fun acc l =>
      let n := r.usableOn l rg
      if n = 0 then acc
      else match acc with
        | some (_, m) => if m < n then some (l, n) else acc
        | none => some (l, n)) none).map (·.1)

/-- Spokes of a new band: column c on channel (first + c) mod 32, or on the next channel that has a block when
that one has none (DESIGN CHOICE, log entry 18); each block is taken from `rg`. -/
def pickSpokes (r : Reservoir) (slow : List Nat) (first : Nat) (rg : Region) :
    Nat → Nat → List Nat → Option (List Spoke)
  | 0, _, _ => some []
  | n + 1, c, used =>
    let cand := ((List.range 32).map fun i => (first + c + i) % 32).filter fun ch => !used.contains ch
    match cand.findSome? fun ch => (bandLun r slow ch rg).bind fun l => (r.pick l rg).map fun b => (ch, l, b) with
    | some (ch, l, b) =>
      (pickSpokes r slow first rg n (c + 1) (ch :: used)).map fun t =>
        { port := l / 4, lun := l % 4, block := b } :: t
    | none => none

/-- The block a column's strip of a row lies in: the last one a SUBST record gives from that row or an earlier one, else
the planned one (Table 9-1). -/
def Band.spoke (b : Band) (row c : Nat) : Option Spoke :=
  match (b.subst.filter fun p => p.1 == c && decide (p.2.1 ≤ row)).getLast? with
  | some p => some p.2.2
  | none => b.spokes[c]?

/-- Every block of a band. -/
def Band.blocks (b : Band) : List Spoke := b.spokes ++ b.subst.map (·.2.2)

/-- Blocks a column has had. -/
def Band.column (b : Band) (c : Nat) : List Spoke :=
  (b.spokes[c]?).toList ++ (b.subst.filter fun p => p.1 == c).map (·.2.2)

/-- Key of a spoke's block. -/
def Spoke.key (p : Spoke) : Nat := blockKey (p.port * 4 + p.lun) p.block

/-- The channel, target and LUN of a spoke are out of service. -/
def spokeDown (r : Reservoir) (p : Spoke) : Bool :=
  r.retired.contains p.port || r.disabled.contains (p.port / 16) || r.retiredLuns.contains (p.port * 4 + p.lun)

/-- Erased columns of a wheel: those recorded, and those whose target is slow or out of service (R279, R304). -/
def Wheels.erasedCols (x : Wheels) (r : Reservoir) (n : Nat) (w : Wheel) : List Nat :=
  match x.bandOf n with
  | some (b, row) =>
    (List.range b.spokes.length).filter fun c =>
      w.erasures.contains c || (match b.spoke row c with
        | some p => spokeDown r p || x.slowSet.contains p.port
        | none => false)
  | none => w.erasures

/-- Erasures of a wheel at its worst unit position (R279). -/
def Wheels.erasureCount (x : Wheels) (r : Reservoir) (n : Nat) (w : Wheel) : Nat :=
  let cols := x.erasedCols r n w
  cols.length + maxOf ((List.range 16).map fun pos =>
    (w.badUnits.filter fun u => u % 16 == pos && !cols.contains (u / 16)).length)

/-- Open wheels, each holding an accumulator (R277). -/
def Wheels.openWheels (x : Wheels) (st : Stream) : List Nat :=
  (x.table.filter fun p => decide (p.2.state = .open_) && decide (p.2.stream = st)).map (·.1)

/-- The Spillway holds every accumulator that the Rill does not (R175, R184). -/
def Spillway.holdsAccum (x : Spillway) : Bool := match x.state with
  | .preSpilling | .window | .draining | .closing => true
  | _ => false

/-- Accumulators in use. -/
def Wheels.accum (x : Wheels) : Nat :=
  (x.table.filter fun p => decide (p.2.state = .open_) && !p.2.parity).length

/-! ### Maps (R137 to R145) -/

/-- Locations of a run's units, in page order. -/
def Run.locs (u : Run) : List Loc :=
  u.spans.flatMap fun (w, f, n) => (List.range n).map fun i => { wheel := w, unit := f + i }

/-- (page, location) pairs of a run. -/
def Run.at (u : Run) : List (Nat × Loc) := (pageList u.pages).zip u.locs

/-- Location of a page in a run. -/
def Run.locOf (u : Run) (p : Nat) : Option Loc := (u.at.find? fun x => x.1 == p).map (·.2)

/-- SEQ in the header of a run's unit at a location (Table 5-2). -/
def Run.seqLoc (u : Run) (l : Loc) : Nat :=
  if u.seqs.isEmpty then u.seq
  else match u.at.find? fun x => x.2 == l with
    | some (p, _) => mget u.seq u.seqs p
    | none => u.seq

/-- SEQ of a copy. -/
def copySeq (c : Run × Loc) : Nat := c.1.seqLoc c.2

/-- The run whose units include a location. -/
def Rill.runAt (x : Rill) (l : Loc) : Option Run :=
  x.runs.find? fun u => u.spans.any fun (w, f, n) => w == l.wheel && decide (f ≤ l.unit ∧ l.unit < f + n)

/-- Host page index of a page of a segment. -/
def pageIdx (seg p : Nat) : Nat := seg * 512 + p

/-- Fine entry of a page; large entry of a segment. -/
def Rill.fineOf (x : Rill) (pi : Nat) : Option FineEntry := (x.fine.find? fun p => p.1 == pi).map (·.2)
/-- Large entry of a segment. -/
def Rill.largeOf (x : Rill) (seg : Nat) : Option LargeEntry := (x.large.find? fun p => p.1 == seg).map (·.2)

/-- FINE_COUNT of a segment (Table 5-3). -/
def Rill.fineCount (x : Rill) (seg : Nat) : Nat := (x.fine.filter fun p => p.1 / 512 == seg).length

/-- The run and location that hold a page's mapped copy; none when it reads as zero (R138). -/
def Rill.copyOf (x : Rill) (seg p : Nat) : Option (Run × Loc) :=
  match x.fineOf (pageIdx seg p) with
  | some e => (x.runAt e.loc).map fun u => (u, e.loc)
  | none => (x.largeOf seg).bind fun e => (x.runAt e.loc).bind fun u => (u.locOf p).map fun l => (u, l)

/-- Every mapped page of a segment with its run and location. -/
def Rill.mappedOf (x : Rill) (seg : Nat) : List (Nat × Run × Loc) :=
  (List.range 512).filterMap fun p => (x.copyOf seg p).map fun c => (p, c.1, c.2)

/-- Segments with a map entry. -/
def Rill.segs (x : Rill) : List Nat :=
  let l : List Nat := (x.large.map fun p => p.1) ++ (x.fine.map fun p => p.1 / 512)
  sortAsc l.eraseDups

/-- The large entry of a segment points into a wheel. -/
def Rill.largeIn (x : Rill) (seg n : Nat) : Bool := (x.largeOf seg).any fun e => e.loc.wheel == n

/-- Valid units of a wheel (R145): segment and page of each. The unit of page 0 that a large entry points to is valid, though
a fine entry may hold that page's copy (DEDUCED, log entry 242). -/
def Rill.validIn (x : Rill) (n : Nat) : List (Nat × Nat) :=
  x.segs.flatMap fun seg =>
    let l := ((x.mappedOf seg).filter fun c => c.2.2.wheel == n).map fun c => (seg, c.1)
    if x.largeIn seg n && !l.contains (seg, 0) then (seg, 0) :: l else l

/-- Byte address of the first byte of a page of a segment. -/
def pageAddr (seg p : Nat) : Nat := (seg * 512 + p) * 4096

/-- The cells of a run that lie in a page. -/
def Run.cells (u : Run) (seg p : Nat) : List Host.Cell :=
  u.data.filter fun c => decide (pageAddr seg p ≤ c.1) && decide (c.1 < pageAddr seg p + 4096)

/-- Replace the bytes of memory from `lo` up to `hi` by cells. -/
def putCells (m : List Host.Cell) (lo hi : Nat) (cs : List Host.Cell) : List Host.Cell :=
  cs.foldl (fun m c => writeByte m c.1 c.2) (mclear m lo hi)

/-- k of the fine map geometry: 2^k buckets of 64 bytes within the area of Table 3-3 (R144). -/
def Basin.fineK (b : Basin) : Nat := Nat.log2 (Nat.max 1 (b.reserve / 64 / 64))

/-- Home bucket of a page index (R144). -/
def homeBucket (k pi : Nat) : Nat := (pi % 2 ^ k) ^^^ (pi / 2 ^ k * 0x5BD1F % 2 ^ k)

/-- Slots taken in a bucket, by entries and by reservations of captures in flight. -/
def Rill.inBucket (x : Rill) (b : Nat) : Nat :=
  (x.fine.filter fun p => p.2.bucket == b).length
    + sumOf (x.captures.map fun c => (c.slots.filter fun s => s.2.1 == b).length)

/-- A free slot for a page: bucket and PROBE; `more` are slots just reserved (R144). -/
def Rill.slotFor (x : Rill) (k pi : Nat) (more : List (Nat × Nat × Nat)) : Option (Nat × Nat) :=
  ((List.range 4).find? fun i =>
    let b := (homeBucket k pi + i) % 2 ^ k
    decide (x.inBucket b + (more.filter fun s => s.2.1 == b).length < 8)).map fun i =>
      ((homeBucket k pi + i) % 2 ^ k, i)

/-- Reserve slots for pages of a segment; none when one cannot be (Table 5-1). -/
def Rill.reserve (x : Rill) (k seg : Nat) : List Nat → List (Nat × Nat × Nat) → Option (List (Nat × Nat × Nat))
  | [], acc => some acc
  | p :: ps, acc => match x.slotFor k (pageIdx seg p) acc with
    | some (b, i) => x.reserve k seg ps (acc ++ [(p, b, i)])
    | none => none

/-- Wheels that are closed and hold only units of an earlier epoch (FORMAT_OLD_WHEELS, R142). -/
def oldWheels (x : Wheels) (r : Rill) (epoch : Nat) : Nat :=
  (x.table.filter fun p =>
    (decide (p.2.state = .closed) || decide (p.2.state = .degraded)) &&
    r.runs.any fun u => decide (u.epoch ≠ epoch) && u.spans.any fun s => s.1 == p.1).length

/-- REDUNDANCY_MARGIN (R304). -/
def redundancyMargin (x : Wheels) (r : Reservoir) (m : Rill) : Nat :=
  2 - maxOf ((x.table.filter fun p =>
    (decide (p.2.state = .closed) || decide (p.2.state = .degraded)) && !(m.validIn p.1).isEmpty).map
      fun p => x.erasureCount r p.1 p.2)

/-- Host-data bytes of one reserve set (R259, R274). -/
def setBytes (r : Reservoir) (d : Nat) : Nat := lanesOf r .v (d + 2) * r.part.rows true * d * 65536

/-- RESERVE_ERASED in MiB: the sets of which no row has been programmed (R181, R274). In PRE_SPILL and VAULTING it is what
the early warning or the commit found, less what drained runs and metadata have taken. -/
def State.reserveErased (s : State) : Nat :=
  match (if s.dev = .preSpill ∨ s.dev = .vaulting then s.spill.erasedAtEw else none) with
  | some n =>
    let taken := match s.spill.vault with
      | some v => v.man.unitsDrained + v.metaUnits
      | none => 0
    n - ceilDiv (4096 * taken) MiB
  | none =>
    (s.whl.sets.filter fun p => !p.2).length * setBytes s.res (s.reg Reg.RESERVE_DATA_SPOKES) / MiB

end Sys2Proof.Machine
end

