-- ==== Sys2Proof/Machine/Manifests.lean ====
section
/-! DEFINITION. A manifest and its extents as bytes (6 R199 to R202). -/

namespace Sys2Proof.Machine

/-- Bytes of extents 0 to 5: the bitmap slots and the DST shadow, the overflow bitmap and the heat record at their sizes of
Table 3-3, the vault index, the shortfall list and the erasure list (R84, R199 to R202). -/
def Manifest.lengths (m : Manifest) : List Nat :=
  [262144 * (128 + 8), ceilDiv m.installed 8, 2 * m.installed, 80 * m.index.length, 8 * m.short.length,
   8 * m.erasures.length]

/-- A location as the maps hold it: wheel number [28:0], data unit [36:29] (R144). -/
def Loc.word (l : Loc) : Nat := l.wheel + at' l.unit 29

/-- A vault index record (Table 6-7). -/
def IndexRec.bytes (r : IndexRec) : List Nat :=
  bytesOf (r.seg + at' (pages r.mask) 21 + at' (b2n r.whole) 31) 4 ++ bytesOf r.loc.word 5
    ++ bytesOf (b2n r.spec + at' (b2n r.overflow) 1 + at' (b2n r.poison) 2) 1 ++ bytesOf r.seq 6 ++ bytesOf r.mask.toNat 64

/-- A shortfall record (Table 6-8). -/
def Short.bytes (r : Short) : List Nat := bytesOf (r.seg + at' r.first 21 + at' (b2n r.overflow) 30) 8

/-- An erasure record: wheel, mask, VOID (R202). -/
def erasureBytes (e : Nat × List Nat × Bool) : List Nat :=
  bytesOf (e.1 + at' (e.2.1.foldl setBit 0) 29 + at' (b2n e.2.2) 45) 8

/-- The bytes of extent `i`. Slots and shadow entries that no DST entry uses count as zeros, and a shadow entry holds word 0's
bits in its first four bytes (DESIGN CHOICE, log entry 238). -/
def Manifest.extentBytes (m : Manifest) (i : Nat) : List Nat := match i with
  | 0 => ((List.range 262144).flatMap fun p =>
      let x := mget (0, 0) m.slots p
      bytesOf x.1.toNat 64 ++ bytesOf x.2.toNat 64) ++ (List.range 262144).flatMap fun p =>
      let x := mget (0, 0) m.shadow p
      bytesOf x.1 4 ++ bytesOf x.2 4
  | 1 => bytesOf (m.overflow.foldl setBit 0) (ceilDiv m.installed 8)
  | 2 => (List.range m.installed).flatMap fun g =>
      let x := mget (0, 0) m.heat g
      [x.1, x.2]
  | 3 => m.index.flatMap IndexRec.bytes
  | 4 => m.short.flatMap Short.bytes
  | 5 => m.erasures.flatMap erasureBytes
  | _ => []

/-- The descriptor of extent `i` (Table 6-6); one of length 0 is absent. -/
def Manifest.descBytes (m : Manifest) (i : Nat) : List Nat :=
  let e := m.extents.getD i {}
  if e.length = 0 then bytesOf 0 16
  else bytesOf e.loc.word 8 ++ bytesOf e.length 4 ++ bytesOf (crc32c (m.extentBytes i)) 4

/-- FLAGS (Table 6-5). -/
def Manifest.flags (m : Manifest) : Nat :=
  b2n m.prespill + at' (b2n m.powerReturned) 1 + at' (b2n m.holdChosen) 2 + at' (b2n m.measValid) 3
    + at' (b2n m.damped) 4 + at' (b2n m.chained) 5 + at' (b2n m.closeout) 6 + at' (b2n m.rewrites) 7

/-- Bytes 0 to 507 of a manifest with the hold token given (Table 6-5). -/
def Manifest.body (m : Manifest) (token : Nat) : List Nat :=
  bytesOf 0x4D56584E 4 ++ bytesOf 1 2 ++ bytesOf 512 2 ++ bytesOf m.seq 6 ++ bytesOf m.prevSeq 6
    ++ bytesOf m.prevJlocA 4 ++ bytesOf m.prevJlocB 4 ++ bytesOf m.commitId 6 ++ bytesOf m.cause 1
    ++ bytesOf m.outcome.code 1 ++ bytesOf m.flags 2 ++ bytesOf m.stateAtCommit 1 ++ bytesOf 0 1
    ++ bytesOf m.seqFirst 6 ++ bytesOf m.seqLast 6 ++ bytesOf m.wheelFirst 4 ++ bytesOf m.wheelLast 4
    ++ bytesOf m.ceiling 4 ++ bytesOf m.capacity 4 ++ bytesOf m.breaches 4 ++ bytesOf m.eByte 2 ++ bytesOf m.eFixed 4
    ++ bytesOf m.eCommit 4 ++ bytesOf m.eStart 4 ++ bytesOf m.eEnd 4 ++ bytesOf m.eClose 4
    ++ bytesOf m.unitsDrained 4 ++ bytesOf m.unitsSpec 4 ++ bytesOf m.dirtyAtSeal 4 ++ bytesOf m.shortPages 4
    ++ bytesOf m.tMed 2 ++ bytesOf (m.tFlash % 256).toNat 1 ++ bytesOf 0 1 ++ bytesOf m.lElig 2
    ++ bytesOf m.tSeal 4 ++ bytesOf m.tEnd 4 ++ bytesOf 0 4
    ++ (List.range 6).flatMap m.descBytes ++ bytesOf 0 32
    ++ bytesOf m.evCommit 6 ++ bytesOf m.evClose 6 ++ bytesOf token 6 ++ bytesOf 0 234

/-- The 512 bytes of a manifest (R199). -/
def Manifest.bytes (m : Manifest) (token : Nat) : List Nat :=
  let l := m.body token
  l ++ bytesOf (crc32c l) 4

/-- An ID of the mirror of the last manifest, 0x1200 + n: its n-th four bytes, with the hold token read as 0 (R210, R212);
past the 512 bytes it reads 0 (DEDUCED, log entry 237). -/
def State.manifestWord (s : State) (n : Nat) : Nat :=
  match s.spill.manifests.getLast? with
  | some m =>
    let l := m.bytes m.token
    ofBytes (((l.take 268 ++ bytesOf 0 6 ++ l.drop 274).drop (4 * n)).take 4)
  | none => 0

end Sys2Proof.Machine
end

