-- ==== Sys2Proof/Machine/Live.lean ====
section
/-! DEFINITION. What a read of each parameter returns: live values from the blocks' state, latched and stored values
otherwise (R429, R474). -/

namespace Sys2Proof.Machine

/-- A number in two's complement of the given width. -/
def twos (w : Nat) (z : Int) : Nat := (z % (2 : Int) ^ w).toNat

/-- A mask of the listed bits. -/
def maskOf (l : List Nat) : Nat := l.foldl setBit 0

/-- Port A or B of the Cistern. -/
def Cistern.port (c : Cistern) : PortId → CPort
  | .a => c.a | .b => c.b

/-- The policy in effect is ALL_OR_NONE (R450). -/
def State.allOrNone (s : State) : Bool := decide (s.mir.state = .synced) && s.mir.syncAll

/-- The state of an activity by its code of Table 14-9. -/
def Cmd.act (c : Cmd) (n : Nat) : Activity :=
  if n = 1 then c.learn else if n = 2 then c.true_ else if n = 3 then c.reshape
  else if n = 4 then c.scrubDeep else if n = 5 then c.rehearse else if n = 6 then c.fwActivate
  else if n = 7 then c.dimmSpare else c.bist

/-- The eight activities in code order. -/
def Cmd.acts (c : Cmd) : List (Nat × Activity) := (List.range 8).map fun i => (i + 1, c.act (i + 1))

/-- Tokens held in the three currencies (R436). -/
def Cmd.eHeld (c : Cmd) : Nat := sumOf (c.acts.map fun p => p.2.energy)
/-- Redundancy tokens held. -/
def Cmd.rHeld (c : Cmd) : Nat := sumOf (c.acts.map fun p => p.2.redundancy)
/-- Bandwidth tokens held. -/
def Cmd.bHeld (c : Cmd) : Nat := sumOf (c.acts.map fun p => p.2.bandwidth)

/-- Activities in a state, as bits code − 1. -/
def Cmd.inState (c : Cmd) (st : ActState) : Nat :=
  maskOf ((c.acts.filter fun p => decide (p.2.state = st)).map fun p => p.1 - 1)

/-- The flash bandwidth the Reservoir publishes: the population's less the Rill's reservation (R135, R436). -/
def State.bwPublished (s : State) : Nat := s.cmd.flashBw - s.reg Reg.RILL_RATE_MAX

/-- Bandwidth available now (R436). -/
def State.bwAvail (s : State) : Nat := Nat.min s.bwPublished (s.reg Reg.MAINT_BW_MAX) - s.cmd.bHeld

/-- A slot of MAINT_STATUS (R439). -/
def Activity.word (a : Activity) : Nat :=
  a.state.code + at' a.bandwidth 3 + at' a.redundancy 20 + at' (a.energy % 2 ^ 26) 22

/-- The 32 bytes of a journal entry as six 48-bit words, the last bytes first cut (Table 14-7). -/
def JEntry.bytes (e : JEntry) : List Nat :=
  let b := bytesOf e.cseq 6 ++ [e.transport + at' e.ld 3 + at' (b2n e.fm) 6 + at' (b2n e.std) 7,
    e.state + at' (b2n e.persist) 4] ++ bytesOf e.opcode 2 ++ bytesOf e.tag 2 ++ bytesOf e.digest 4
    ++ bytesOf e.status 2 ++ bytesOf e.detail 2 ++ bytesOf e.evDone 6 ++ bytesOf e.flags 2
  b ++ bytesOf (crc32c b) 4

/-- Word `i` of the bytes, six bytes each (R435). -/
def wordAt (l : List Nat) (i : Nat) : Nat := ofBytes ((l.drop (6 * i)).take 6)

/-- Byte `i` of a firmware slot. -/
def fwByte (img : List (Nat × Nat)) (i : Nat) : Nat := mget 0 img i

/-- A field of a firmware slot: `n` bytes from byte `i` (Table 16-5). -/
def fwField (img : List (Nat × Nat)) (i n : Nat) : Nat := ofBytes ((List.range n).map fun k => fwByte img (i + k))

/-- The image of a firmware slot. -/
def Mgmt.slot (m : Mgmt) (n : Nat) : List (Nat × Nat) := if n = 0 then m.slotA else m.slotB

/-- The 32 bytes before word order of the flags of a Cistern port (Table 10-13). -/
def CPort.flags (p : CPort) (hib : Bool) : Nat :=
  b2n p.learned.isNone + at' (b2n p.swapSuspect) 1 + at' (b2n p.relearnRec) 2 + at' (b2n p.conflict) 3
    + at' (b2n hib) 4 + at' (b2n p.pendingRec.isSome) 5 + at' (b2n p.ackLearn) 6 + at' (b2n p.empty) 7

/-- Views of the host port, the Basin, the Weir. -/
def State.viewA (s : State) (id : Nat) : Option Nat :=
  if id = Reg.DEVICE_STATE then some s.dev.code
  else if id = Reg.EXPECTED_SHORTFALL then
    some (ceilDiv (s.basin.dirtyBytes - s.reg Reg.VAULT_CAPACITY_EST * MiB) MiB)
  else if id = Reg.FW_VERSION_ACTIVE then some (fwField (s.mgmt.slot s.mgmt.active) 4 6)
  else if id = Reg.LINK_STATUS then
    some (s.port.width + at' s.port.rate 5 + at' (b2n s.port.flit256) 12 + at' (b2n s.port.lowLat) 13
      + at' (b2n s.port.memCapable) 14)
  else if id = Reg.DRAM_INSTALLED then some (s.basin.installed / GiB)
  else if id = Reg.DRAM_POPULATION then some s.basin.population
  else if id = Reg.META_RESERVE then some (s.basin.reserve / MiB)
  else if id = Reg.HOST_CAPACITY then some (s.basin.host / MiB)
  else if id = Reg.DIRTY_BYTES then some s.basin.dirtyBytes
  else if id = Reg.DST_USED then some s.basin.dst.length
  else if id = Reg.DST_OVERFLOW_SEGS then some s.basin.overflow.length
  else none

/-- Views of the Weir, the Rill, the Spillway, the Siphon. -/
def State.viewB (s : State) (id : Nat) : Option Nat :=
  if 0x1200 ≤ id ∧ id < 0x1300 then some (s.manifestWord (id - 0x1200))
  else if id = Reg.RILL_STATE then some s.rill.state.code
  else if id = Reg.FINE_MAP_USED then some s.rill.fine.length
  else if id = Reg.FINE_MAP_CAPACITY then some (2 ^ (s.basin.fineK + 3))
  else if id = Reg.FORMAT_OLD_WHEELS then some (oldWheels s.whl s.rill (s.reg Reg.FORMAT_EPOCH))
  else if id = Reg.POOL_OCCUPANCY then some s.res.occ
  else if id = Reg.ENDUR_PE_AVG then some (16 * s.res.peAvg).floor.toNat
  else if id = Reg.ENDUR_PE_BUDGET then some (16 * s.peBudget).floor.toNat
  else if id = Reg.SPILL_STATE then some s.spill.state.code
  else if id = Reg.INPUT_VOLTAGE then some ((if s.spill.failA then if s.spill.failB then 0 else s.spill.chainB
    else if s.spill.failB then s.spill.chainA else Nat.min s.spill.chainA s.spill.chainB) % 2 ^ 14)
  else if id = Reg.CLOSEOUT_ENERGY then
    some (3 * (s.reg Reg.P_VAULT_CARD * s.reg Reg.T_META) / 2 + s.reg Reg.E_TAIL)
  else if id = Reg.RESERVE_ERASED then some s.reserveErased
  else if id = Reg.RESERVE_CAP then some (s.reserveErased - s.reg Reg.RESERVE_META)
  else if id = Reg.SIPHON_STATE then some s.sip.state.code
  else if id = Reg.RESTORE_ONLINE then some s.port.online.length
  else if id = Reg.RESTORE_TOTAL then some s.extents
  else if id = Reg.KICK_RESERVE then some s.sip.floorAtCommit
  else if id = Reg.HOLD_STATE then some s.sip.hold.state.code
  else if id = Reg.HOLD_ELAPSED then some s.sip.hold.elapsed
  else none

/-- Views of the Reservoir and the wheels. -/
def State.viewC (s : State) (id : Nat) : Option Nat :=
  if id = Reg.RES_STATE then some s.res.state.code
  else if id = Reg.FLASH_POPULATION then some s.res.population
  else if id = Reg.LUNS_ELIGIBLE then some (lunsEligible s.res (s.barred .v))
  else if id = Reg.CHANNEL_ENABLE then some s.res.channelEnable
  else if id = Reg.RESERVE_BPL then
    some (ceilDiv (s.whl.sets.length * lanesOf s.res .v (s.reg Reg.RESERVE_DATA_SPOKES + 2)
      * (s.reg Reg.RESERVE_DATA_SPOKES + 2)) (Nat.max 1 s.res.luns.length))
  else if Reg.RES_TARGET ≤ id ∧ id < Reg.RES_TARGET + 512 then
    let p := id - Reg.RES_TARGET
    some ((if s.res.retired.contains p then 2 else if s.whl.slowSet.contains p then 1 else 0)
      + at' (maskOf ((s.res.retiredLuns.filter fun l => l / 4 == p).map fun l => l % 4)) 2
      + at' (s.res.blocks.filter fun b => b.1 / 4096 / 4 == p && decide (b.2.state = .retired)).length 6)
  else if id = Reg.WHEEL_STATE then
    some (s.whl.state.code + at' (b2n (decide (s.cmd.true_.state = .running))) 3
      + at' (b2n (decide (s.cmd.reshape.state = .running))) 4
      + at' (b2n (decide (s.cmd.true_.state = .suspended) || decide (s.cmd.reshape.state = .suspended))) 5)
  else if id = Reg.ACCUM_FREE then some (if s.spill.holdsAccum then 0 else 64 - s.whl.accum)
  else if id = Reg.SLOW_SET_COUNT then some s.whl.slowSet.length
  else if id = Reg.TRUE_PENDING then some s.whl.trueQ.length
  else if id = Reg.WHEELS_DEGRADED then
    some (s.whl.table.filter fun p => decide (p.2.state = .degraded) &&
      s.whl.erasureCount s.res p.1 p.2 == 1).length
  else if id = Reg.WHEELS_CRITICAL then
    some (s.whl.table.filter fun p => decide (p.2.state = .degraded) &&
      s.whl.erasureCount s.res p.1 p.2 == 2).length
  else if id = Reg.LOST_FOLDS_PENDING then some (sumOf (s.whl.lost.map fun p => p.2.length))
  else if id = Reg.REDUNDANCY_MARGIN then some (redundancyMargin s.whl s.res s.rill)
  else if id = Reg.SPARE_FREE then some (s.res.usable .spare)
  else if id = Reg.JOURNAL_SEQ then some s.whl.jseq
  else if id = Reg.JOURNAL_SINGLE then some (s.whl.journal.filter fun j => j.copyA != j.copyB).length
  else if Reg.WHEEL_TARGET ≤ id ∧ id < Reg.WHEEL_TARGET + 512 then
    some (Nat.min 255 (s.whl.slowEvents.filter fun e => e.1 == id - Reg.WHEEL_TARGET).length
      + at' (mget 0 s.regs id) 8)
  else none

/-- Views of the Cistern. -/
def State.viewD (s : State) (id : Nat) : Option Nat :=
  let p := if id % 2 = 0 then s.cist.a else s.cist.b
  let q := if id % 2 = 1 then s.cist.a else s.cist.b
  if id = Reg.CIST_STATE_A ∨ id = Reg.CIST_STATE_B then some p.state.code
  else if id = Reg.E_USE_A ∨ id = Reg.E_USE_B then some p.eUse
  else if id = Reg.E_REM_A ∨ id = Reg.E_REM_B then some p.eRem
  else if id = Reg.SOC_A ∨ id = Reg.SOC_B then some ((p.soc * 1000).floor.toNat)
  else if id = Reg.EST_SEQ_A ∨ id = Reg.EST_SEQ_B then some (p.estSeq % 2 ^ 32)
  else if id = Reg.CIST_FLAGS_A ∨ id = Reg.CIST_FLAGS_B then some (p.flags s.cist.hibernating)
  else if id = Reg.MOD_TEMP_A ∨ id = Reg.MOD_TEMP_B then some (twos 8 q.temp)
  else if id = Reg.MOD_VOLT_A ∨ id = Reg.MOD_VOLT_B then some (twos 16 (q.v / 2))
  else none

/-- Views of the sequencer, the faults, the recorder. -/
def State.viewE (s : State) (id : Nat) : Option Nat :=
  if id = Reg.SEQ_STATE then some s.seq.state.code
  else if id = Reg.SEQ_ACTIVE then some s.seq.active.code
  else if id = Reg.SEQ_STEP then some s.seq.stepNo
  else if id = Reg.RAIL_EN then some (maskOf s.seq.en)
  else if id = Reg.RAIL_PG then some (maskOf s.seq.pg)
  else if id = Reg.GROUP_OFF then some (maskOf s.seq.groupOff)
  else if id = Reg.HOLDUP_MODE then some s.seq.mode.code
  else if 0x2400 ≤ id ∧ id < 0x24C0 ∧ id % 8 = 1 then
    let n := (id - 0x2400) / 8
    some (b2n (s.seq.en.contains n) + at' (b2n (s.seq.pg.contains n)) 1 + at' (b2n (s.seq.running.contains n)) 2)
  else if Reg.PMBUS_SLAVE ≤ id ∧ id < Reg.PMBUS_SLAVE + 256 then
    let p := mget {} s.seq.slaves ((id - Reg.PMBUS_SLAVE) / 16)
    let i := id % 16
    if i = 2 then some p.voutMode else if 3 ≤ i ∧ i ≤ 7 then some (p.telemetry.getD (i - 3) 0) else none
  else if Reg.CHECKER_LIST ≤ id ∧ id < Reg.CHECKER_LIST + 48 then some (Config.checkerList (id - Reg.CHECKER_LIST) % 2 ^ 48)
  else if Reg.REC_WINDOW ≤ id ∧ id ≤ Reg.REC_WINDOW + 42 then
    some (match s.rec_.window with
      | .nothing => 0
      | .circ l => match s.rec_.circ.find? fun p => decide (p.1 = l) with
        | some (_, r) => wordAt (r.payload.flatMap fun w => bytesOf w 8) (id - Reg.REC_WINDOW)
        | none => 2 ^ 48 - 1
      | .pin k => match s.rec_.pinned.find? fun r => r.seq == k with
        | some r => wordAt (r.payload.flatMap fun w => bytesOf w 8) (id - Reg.REC_WINDOW)
        | none => 0)
  else if id = Reg.REC_LOC_SEQ then
    some (match s.rec_.window with
      | .nothing => 0
      | .circ l => match s.rec_.circ.find? fun p => decide (p.1 = l) with
        | some (_, r) => r.seq
        | none => 2 ^ 48 - 1
      | .pin k => k)
  else if id = Reg.REC_OLDEST then some ((s.rec_.circ.head?.map fun p => p.2.seq).getD 0)
  else if id = Reg.REC_PINNED_COUNT then some s.rec_.pinned.length
  else none

/-- Value and SHORT of a catalogue counter (R407, R408). -/
def State.catalogue (s : State) (i : Nat) : Nat :=
  s.nv.governing.foldl (fun acc r => match r.data with
    | .counter j base cells =>
      if j = i then (base + (cells.filter fun c => decide (c = .counted)).length) % 2 ^ 40 else acc
    | _ => acc) 0 + at' (b2n (bit (s.reg (Reg.NV_SHORT + i / 48)) (i % 48))) 47

/-- Views of the NV Store, the commands, Mirsen, management. -/
def State.viewF (s : State) (id : Nat) : Option Nat :=
  if id = Reg.NV_STATE then some s.nv.state.code
  else if id = Reg.NV_DEV_STATUS then
    some (b2n s.nv.failedA + at' (b2n s.nv.failedB) 1 + at' (b2n (s.nv.downA || s.nv.downB || s.nv.resync)) 2)
  else if id = Reg.NV_LOG_FREE then some s.nv.logFree
  else if id = Reg.NV_NSEQ then some s.nv.nseq
  else if Reg.COUNTER_CATALOGUE ≤ id ∧ id < Reg.COUNTER_CATALOGUE + 256 then some (s.catalogue (id - Reg.COUNTER_CATALOGUE))
  else if id = Reg.JOURNAL_HEAD then some ((s.cmd.journal.getLast?.map fun e => e.cseq).getD 0)
  else if id = Reg.JOURNAL_OLDEST then some ((s.cmd.journal.head?.map fun e => e.cseq).getD 0)
  else if Reg.JOURNAL_WINDOW ≤ id ∧ id < Reg.JOURNAL_WINDOW + 6 then
    -- The entry that now stands where the loaded one stood (R431).
    let loaded := s.cmd.window
    if loaded = 0 then some 0 else
    match s.cmd.journal.find? fun e => e.cseq == loaded || e.cseq == loaded + 8192 with
    | some e => some (wordAt e.bytes (id - Reg.JOURNAL_WINDOW))
    | none => some 0
  else if id = Reg.MAINT_BW_AVAIL then some s.bwAvail
  else if id = Reg.MAINT_E_HELD then some s.cmd.eHeld
  else if id = Reg.MAINT_R_HELD then some s.cmd.rHeld
  else if id = Reg.MAINT_B_HELD then some s.cmd.bHeld
  else if id = Reg.MAINT_ACTIVE then some (s.cmd.inState .running)
  else if id = Reg.MAINT_SUSPENDED then some (s.cmd.inState .suspended)
  else if Reg.ACTIVITY ≤ id ∧ id < Reg.ACTIVITY + 64 then
    let a := s.cmd.act ((id - Reg.ACTIVITY) / 8 + 1)
    some (match (id - Reg.ACTIVITY) % 8 with
      | 0 => a.state.code | 1 => a.word | 2 => a.cseq
      | 7 => 0 | k => a.refusal.getD (k - 3) 0)
  else if id = Reg.MIRSEN_STATE then some s.mir.state.code
  else if id = Reg.DOMAIN_ROLE then some s.mir.role.code
  else if id = Reg.PORTS_UP then some (maskOf ((s.mir.ports.filter fun p => p.2.up).map fun p => p.1))
  else if id = Reg.DOMAIN_POLICY then some (b2n s.allOrNone)
  else if id = Reg.DOMAIN_MEMBERS then some (if s.mir.role = .manager then s.mir.roster.length else s.mir.members)
  else if id = Reg.DOMAIN_REPORTED then
    some (if s.mir.role = .manager then (s.mir.roster.filter fun r => r.reported).length else s.mir.reported)
  else if Reg.MIR_PORT ≤ id ∧ id < Reg.MIR_PORT + 96 then
    let p := mget {} s.mir.ports ((id - Reg.MIR_PORT) / 16)
    some (match (id - Reg.MIR_PORT) % 16 with
      | 0 => b2n p.up | 1 => p.serial | 2 => p.member | 3 => p.flight | 4 => p.frames | 5 => p.retries | _ => 0)
  else if Reg.MIR_GRANTS ≤ id ∧ id < Reg.MIR_GRANTS + 72 then
    some (match (id - Reg.MIR_GRANTS) % 8 with
      | 0 => (s.mir.grants.filter fun g => g.activity == (id - Reg.MIR_GRANTS) / 8).length | _ => 0)
  else if id = Reg.MGMT_STATE then some s.mgmt.state.code
  else if id = Reg.FW_ACTIVE_SLOT then some s.mgmt.active
  else if id = Reg.FW_VERSION_A then some (fwField s.mgmt.slotA 4 6)
  else if id = Reg.FW_VERSION_B then some (fwField s.mgmt.slotB 4 6)
  else if Reg.BIST_GOLDEN ≤ id ∧ id < Reg.BIST_GOLDEN + 16 then
    some (Config.goldenSignature (id - Reg.BIST_GOLDEN) % 2 ^ 48)
  else none

/-- IDs of the counters and diagnostics whose contents the spec does not lay out (PRESUMED, log entry 15). -/
def unindexedIds : List (Nat × Nat) :=
  [(0x0160, 0x027F), (0x0300, 0x03FF), (0x0450, 0x07FF), (0x0860, 0x08FF), (0x0980, 0x0AFF), (0x0B60, 0x0EFF),
   (0x0F60, 0x11FF), (0x1340, 0x15FF), (0x1660, 0x18FF), (0x1B00, 0x1BFF), (0x1C60, 0x1CFF), (0x1F00, 0x1FFF),
   (0x2060, 0x22FF), (0x2350, 0x23FF), (0x2920, 0x29FF), (0x2AB0, 0x2AFF), (0x2F80, 0x2FFF), (0x3140, 0x31FF)]

/-- What a read of a parameter returns (R428, R474). -/
def State.view (s : State) (id : Nat) : Nat :=
  let own := if id < 0x0900 then s.viewA id else if id < 0x1600 then s.viewB id
    else if id < 0x2000 then s.viewC id else if id < 0x2300 then s.viewD id
    else if id < 0x2A80 then s.viewE id else s.viewF id
  match own with
  | some v => v % 2 ^ paramWidth id
  | none =>
    if unindexedIds.any (fun p => decide (p.1 ≤ id ∧ id ≤ p.2)) && !(s.regs.any fun p => p.1 == id) then
      Config.unindexed id % 2 ^ paramWidth id
    else s.reg id

end Sys2Proof.Machine
end

