-- ==== Sys2Proof/Machine/Ops.lean ====
section
/-! DEFINITION. The operations every block shares: what goes out, free values, the event recorder's queue, events,
fault reports to the collector, and updates of the NV Store. -/

namespace Sys2Proof.Machine

/-! ### Sources and events by name (Tables 12-1, 12-8) -/

namespace Src

/-- Source 0. -/
abbrev HOST_PHY : Nat := 0
/-- Source 1. -/
abbrev HOST_LINK : Nat := 1
/-- Source 2. -/
abbrev CXL_IO : Nat := 2
/-- Source 3. -/
abbrev CXL_MEM : Nat := 3
/-- Source 4. -/
abbrev MAILBOX : Nat := 4
/-- Source 5. -/
abbrev BASIN_CH0 : Nat := 5
/-- Source 13. -/
abbrev BASIN_MAP : Nat := 13
/-- Source 14. -/
abbrev DST : Nat := 14
/-- Source 15. -/
abbrev WEIR : Nat := 15
/-- Source 16. -/
abbrev RILL : Nat := 16
/-- Source 17. -/
abbrev SPILLWAY : Nat := 17
/-- Source 18. -/
abbrev SIPHON : Nat := 18
/-- Source 19. -/
abbrev RES_GRP0 : Nat := 19
/-- Source 27. -/
abbrev LDPC : Nat := 27
/-- Source 28. -/
abbrev WHEEL_PARITY : Nat := 28
/-- Source 29. -/
abbrev WHEEL_JOURNAL : Nat := 29
/-- Source 30. -/
abbrev MAP_ENGINE : Nat := 30
/-- Source 31. -/
abbrev CISTERN_A : Nat := 31
/-- Source 32. -/
abbrev CISTERN_B : Nat := 32
/-- Source 33. -/
abbrev HOLDUP_CTL : Nat := 33
/-- Source 34. -/
abbrev SEQUENCER : Nat := 34
/-- Source 35. -/
abbrev PMBUS : Nat := 35
/-- Source 36. -/
abbrev INPUT_MON : Nat := 36
/-- Source 37. -/
abbrev NV_STORE : Nat := 37
/-- Source 38. -/
abbrev EVENT_REC : Nat := 38
/-- Source 39. -/
abbrev MGMT_CPU : Nat := 39
/-- Source 40. -/
abbrev MGMT_SRAM : Nat := 40
/-- Source 41. -/
abbrev AON : Nat := 41
/-- Source 42. -/
abbrev CLOCKS : Nat := 42
/-- Source 43. -/
abbrev THERMAL : Nat := 43
/-- Source 44. -/
abbrev AGEING_MON : Nat := 44
/-- Source 45. -/
abbrev MIRSEN_LINK : Nat := 45
/-- Source 46. -/
abbrev MIRSEN_ROLE : Nat := 46
/-- Source 47. -/
abbrev BIST_CTL : Nat := 47

end Src

namespace Ev

/-- Event 48. -/
abbrev STATE_CHANGE : Nat := 48
/-- Event 49. -/
abbrev PROTECTION_CHANGE : Nat := 49
/-- Event 50. -/
abbrev PROTECTION_LOW : Nat := 50
/-- Event 51. -/
abbrev BREACH_START : Nat := 51
/-- Event 52. -/
abbrev BREACH_END : Nat := 52
/-- Event 53. -/
abbrev ENERGY_REDUNDANCY_LOST : Nat := 53
/-- Event 54. -/
abbrev SHUTDOWN_RECORDED : Nat := 54
/-- Event 55. -/
abbrev CAPACITY_ADJUSTED : Nat := 55
/-- Event 56. -/
abbrev POPULATION_MISMATCH : Nat := 56
/-- Event 57. -/
abbrev FLASH_MISMATCH : Nat := 57
/-- Event 58. -/
abbrev DST_OVERFLOW : Nat := 58
/-- Event 60. -/
abbrev SEQ_LOW : Nat := 60
/-- Event 61. -/
abbrev LANDING_FULL : Nat := 61
/-- Event 62. -/
abbrev CKPT_FALLBACK : Nat := 62
/-- Event 63. -/
abbrev MAP_SCAN : Nat := 63
/-- Event 64. -/
abbrev ENDURANCE_SHORT : Nat := 64
/-- Event 66. -/
abbrev EW_DAMPED : Nat := 66
/-- Event 67. -/
abbrev DOMAIN_FAIL_NOTICE : Nat := 67
/-- Event 70. -/
abbrev HOLD_INVALID : Nat := 70
/-- Event 71. -/
abbrev RESTORE_STALL : Nat := 71
/-- Event 72. -/
abbrev VAULT_AGEING : Nat := 72
/-- Event 73. -/
abbrev LOST_WHEEL : Nat := 73
/-- Event 75. -/
abbrev VOLTAGE_MODEL_CONFLICT : Nat := 75
/-- Event 76. -/
abbrev MODULE_WORN : Nat := 76
/-- Event 77. -/
abbrev MODULE_SWAPPED : Nat := 77
/-- Event 78. -/
abbrev SWAP_SUSPECT : Nat := 78
/-- Event 80. -/
abbrev SEQ_FAILED : Nat := 80
/-- Event 81. -/
abbrev RAIL_STUCK_ON : Nat := 81
/-- Event 82. -/
abbrev SHUTDOWN_ABANDONED : Nat := 82
/-- Event 83. -/
abbrev FLUSH_TIMEOUT : Nat := 83
/-- Event 85. -/
abbrev NV_DIVERGE : Nat := 85
/-- Event 86. -/
abbrev CFG_DEFAULTED : Nat := 86
/-- Event 88. -/
abbrev RECORDS_LOST : Nat := 88
/-- Event 89. -/
abbrev FAULT_RECOVERED : Nat := 89
/-- Event 90. -/
abbrev INJECTION_DONE : Nat := 90
/-- Event 96. -/
abbrev FLASH_CH_0 : Nat := 96
/-- Event 128. -/
abbrev DIMM_CH_0 : Nat := 128
/-- Event 136. -/
abbrev RAIL_0 : Nat := 136
/-- Event 160. -/
abbrev MIRSEN_PORT_0 : Nat := 160
/-- Event 166. -/
abbrev ROLE_CHANGE : Nat := 166
/-- Event 167. -/
abbrev DOMAIN_STATE_CHANGE : Nat := 167

end Ev

/-- Send something out of the block. -/
def State.emit (s : State) (o : Out) : State := { s with out := s.out ++ [o] }

/-- Forget what the previous command sent. -/
def State.begin (s : State) : State := { s with out := [] }

/-- The next free value for what `tag` asks (DESIGN CHOICE, log entry 3). -/
def State.free (s : State) (tag : Nat) : Nat × State :=
  (Config.freeValue s.freeCtr tag, { s with freeCtr := s.freeCtr + 1 })

/-- `n` free words. -/
def State.freeWords (s : State) (tag : Nat) : Nat → List Nat × State
  | 0 => ([], s)
  | n + 1 =>
    let (v, s) := s.free tag
    let (l, s) := s.freeWords tag n
    (v % 2 ^ 48 :: l, s)

/-- Bit `n` of a parameter. -/
def flag (s : State) (id n : Nat) : Bool := bit (s.reg id) n

/-- Whether the device is in service (Table 0-3): it can hold a dirty set that a commit vaults. -/
def Dev.serving : Dev → Bool
  | .restoring | .online | .preSpill | .maintenance => true
  | _ => false

/-- Governing input reading, mV; none while both chains have failed (R171, R500). -/
def State.inputMv (s : State) : Option Nat :=
  if s.spill.failA && s.spill.failB then none
  else if s.spill.failA then some s.spill.chainB
  else if s.spill.failB then some s.spill.chainA
  else some (Nat.min s.spill.chainA s.spill.chainB)

/-! ### Event recorder (R384 to R388) -/

/-- PLEN: payload words less one (Table 12-11). -/
def Rec.plen (r : Rec) : Nat := r.payload.length - 1

/-- Bytes of a record with its header (R385). -/
def Rec.size (r : Rec) : Nat := 16 + 8 * r.payload.length

/-- Note a SEQ given out whose record will never be written (R386). -/
def State.loseSeq (s : State) (seq : Nat) : State :=
  let gap := match s.rec_.gap with
    | none => some (seq, seq)
    | some (f, _) => some (f, seq)
  { s.addReg Reg.REC_LOST 1 with rec_ := { s.rec_ with gap := gap } }

/-- Queue a record of the given type, giving it the next SEQ; answers the SEQ, none when none is given
(R384) or 4,096 SEQs are not durable. A record at a full queue is lost (R386, R387). -/
def State.record (s : State) (t : RecType) (event : Nat) (payload : List Nat) : Option Nat × State :=
  let seq := s.reg Reg.REC_SEQ
  if s.rec_.durable + 4096 < seq then
    (none, { s.addReg Reg.REC_LOST 1 with rec_ := { s.rec_ with lostNoSeq := s.rec_.lostNoSeq + 1 } })
  else
    let s := (s.setReg Reg.REC_SEQ (seq + 1))
    let s := { s with rec_ := { s.rec_ with aonSeq := seq + 1 } }
    if 1024 ≤ s.rec_.queue.length then (some seq, s.loseSeq seq)
    else (some seq, { s with rec_ := { s.rec_ with queue := s.rec_.queue ++
            [{ type := t, seq := seq, event := event, state := s.dev.code, payload := payload }] } })

/-- Latch and queue the snapshots that event `n` triggers (R388). `readP` reads a parameter. -/
def State.snapshots (s : State) (n : Nat) (readP : State → Nat → Nat) : State :=
  (List.range 4).foldl (fun s k =>
    let w := s.reg (Reg.SNAP_TRIGGER + k)
    if bit w 9 && decide (field w 8 0 = n) then
      let words := (List.range 16).map fun i =>
        field (s.reg (Reg.SNAP_IDS + 6 * k + i / 3)) (16 * (i % 3) + 15) (16 * (i % 3))
      let ids := words.takeWhile (· ≠ 0xFFFF)
      let entries := ids.map fun id => id + readP s id * 2 ^ 16
      let pay := (k + n * 4) :: (entries ++ List.replicate (16 - entries.length) 0xFFFF)
      let s := (s.record .snapshot n pay).2
      if bit w 10 then s.setReg (Reg.SNAP_TRIGGER + k) (clearBits w (2 ^ 9)) else s
    else s) s

/-! ### Events (R379 to R383) -/

/-- Bit n mod 48 of EV_STATUS_k or EV_MASK_k, k = n div 48 (R379). -/
def evBit (s : State) (base n : Nat) : Bool := bit (s.reg (base + n / 48)) (n % 48)

/-- Event numbers Table 12-8 assigns. -/
def eventAssigned (n : Nat) : Bool :=
  decide (n < 48) || (decide (48 ≤ n ∧ n < 96) &&
    ([48, 49, 50, 51, 52, 53, 54, 55, 56, 57, 58, 60, 61, 62, 63, 64, 66, 67, 70, 71, 72, 73, 75, 76, 77, 78,
      80, 81, 82, 83, 85, 86, 88, 89, 90].contains n))
  || decide (96 ≤ n ∧ n ≤ 167)

/-- Events the AON sources raise: those of the Cistern, the converter, the sequencer, PMBus, the input monitor
and AON (R369, R383). -/
def aonEvent (n : Nat) : Bool :=
  [31, 32, 33, 34, 35, 36, 41, 75, 76, 77, 78, 80, 81].contains n || decide (136 ≤ n ∧ n < 160)

/-- Logical devices in operation (R58). -/
def State.lds (s : State) : List Nat := List.range (if s.port.mld then s.port.ldCount else 1)

/-- PF1 of a logical device (R44). -/
def HostPort.fn1 (h : HostPort) (ld : Nat) : Pf1 := mget {} h.pf1 ld

/-- Change PF1 of one logical device. -/
def State.onPf1 (s : State) (ld : Nat) (f : Pf1 → Pf1) : State :=
  s.onPort fun h => { h with pf1 := mset {} h.pf1 ld (f (h.fn1 ld)) }

/-- A message on vector `v` of a logical device's PF1 can be delivered (R381). -/
def canDeliver (s : State) (ld v : Nat) : Bool :=
  let x := (s.port.fn1 ld).msix
  s.port.up && x.enable && !x.funcMask && !x.masked.contains v

/-- Send or hold the MSI-X message of event `n` on one logical device's PF1 (R381). -/
def State.msixTo (s : State) (n ld : Nat) : State :=
  let v := field (s.reg (Reg.EV_ROUTE + n)) 5 0
  if canDeliver s ld v then s.emit (.msix ld v)
  else s.onPf1 ld fun p => { p with msix := { p.msix with held := p.msix.held ++ [(v, n)] } }

/-- Send or hold the MSI-X message of event `n`, on the PF1 of every logical device (R381; DEDUCED, log entry 67). -/
def State.msix (s : State) (n : Nat) : State := s.lds.foldl (fun s ld => s.msixTo n ld) s

/-- The message of an event log's own vector, on one logical device's PF1 (R380). -/
def State.logMsix (s : State) (log ld : Nat) : State :=
  let v := mget 0 (s.port.fn1 ld).logVectors log
  if canDeliver s ld v then s.emit (.msix ld v) else s

/-- Where a log's records are kept: the Dynamic Capacity log is one for each logical device (R59). -/
def logKey (log ld : Nat) : Nat := if log = 5 then 5 + 8 * ld else log

/-- Add a record to the log kept at `key`, at most 256 records, further ones counted as overflow (R64). -/
def State.logPut (s : State) (key : Nat) (x : LogRec) : State :=
  let cur := mget [] s.port.logs key
  if cur.length < 256 then s.onPort fun h => { h with logs := mput key (cur ++ [x]) h.logs }
  else
    let o := mget {} s.port.logOver key
    let t := s.port.timestamp
    let o' : LogOver := { count := o.count + 1, first := if o.count = 0 then t else o.first, last := t }
    s.onPort fun h => { h with logOver := mput key o' h.logOver }

/-- Add a record to a CXL event log that every logical device shows; the log's vector gets its message (R64, R380). -/
def State.cxlRecord (s : State) (log : Nat) (x : LogRec) : State :=
  s.lds.foldl (fun s ld => s.logMsix log ld) (s.logPut log x)

/-- Add a record to the Dynamic Capacity log of a logical device (R59, R64). -/
def State.dcRecord (s : State) (ld : Nat) (x : LogRec) : State := (s.logPut (logKey 5 ld) x).logMsix 5 ld

/-- Add the vendor record of an event to a CXL event log (R382, Table 12-10). -/
def State.cxlLog (s : State) (log n seq sev : Nat) : State :=
  s.cxlRecord log { event := n, seq := seq, state := s.dev.code, sev := if n < 48 then sev else 0 }

/-- The upstream port in use: the primary parent's, else the alternate's (R445). -/
def State.upPort (s : State) : Option Nat :=
  if (mget {} s.mir.ports 0).up then some 0 else if (mget {} s.mir.ports 1).up then some 1 else none

/-- Ports of Mirsen that are up. -/
def State.portsUp (s : State) : List Nat := (List.range 6).filter fun i => (mget {} s.mir.ports i).up

/-- Send a frame on a port; it waits for its acknowledgement (R453). -/
def State.sendFrame (s : State) (port type : Nat) (h : MHdr) (payload : List Nat) : State :=
  let p := mget {} s.mir.ports port
  { s.emit (.frame port type { h with port := port } payload) with
    mir := { s.mir with
      unacked := s.mir.unacked ++ [{ port := port, type := type, hdr := { h with port := port }, payload := payload }],
      ports := mput port { p with frames := p.frames + 1 } s.mir.ports } }

/-- Port a message to a member leaves by: a neighbour's, the one it was last heard on, else upstream (R453). -/
def State.routeTo (s : State) (member : Nat) : Option Nat :=
  match (s.portsUp.find? fun i => (mget {} s.mir.ports i).member == member) with
  | some i => some i
  | none =>
    let r := mget 6 s.mir.routes member
    if r < 6 && (mget {} s.mir.ports r).up then some r else s.upPort

/-- A new message of this unit: next MSEQ, own number, epoch and domain (Table 15-3). -/
def State.newMsg (s : State) (dst : Nat) (toRole flood reply : Bool) : MHdr × State :=
  let m := (s.mir.mseq + 1) % 65536
  ({ toRole := toRole, flood := flood, reply := reply, src := s.reg Reg.MEMBER_NO, dst := dst,
     epoch := s.reg Reg.ROLE_EPOCH, hops := 0, mseq := m, domain := s.reg Reg.DOMAIN_ID },
   { s with mir := { s.mir with mseq := m } })

/-- Send a message to a member or a role. -/
def State.sendTo (s : State) (type dst : Nat) (payload : List Nat) (toRole : Bool := false) : State :=
  let (h, s) := s.newMsg dst toRole false false
  let s := if toRole then { s with mir := { s.mir with
      sent := (h.mseq, type, dst, payload) :: s.mir.sent.filter fun q => q.1 != h.mseq } } else s
  let target := if toRole then (if dst = 0 then s.mir.manager else s.mir.alternate) else some dst
  match target.bind fun m => s.routeTo m with
  | some p => s.sendFrame p type h payload
  | none => match s.upPort with
    | some p => s.sendFrame p type h payload
    | none => s

/-- Answer a message: REPLY set, with the MSEQ of the message answered (Table 15-3). -/
def State.sendReplyMsg (s : State) (type member mseq : Nat) (payload : List Nat) : State :=
  let h : MHdr := { reply := true, src := s.reg Reg.MEMBER_NO, dst := member, epoch := s.reg Reg.ROLE_EPOCH,
                    mseq := mseq, domain := s.reg Reg.DOMAIN_ID }
  match s.routeTo member with
  | some p => s.sendFrame p type h payload
  | none => s

/-- Flood a message on every port that is up. -/
def State.flood (s : State) (type : Nat) (payload : List Nat) : State :=
  let (h, s) := s.newMsg 0 false true false
  s.portsUp.foldl (fun s p => s.sendFrame p type h payload) s

/-- Send an event to the manager as an EVENT message, within DOMAIN_EV_RATE (R459). -/
def State.forwardEvent (s : State) (n seq sev : Nat) : State :=
  if bit (s.reg (Reg.DOMAIN_EV_FWD + n / 48)) (n % 48) && decide (s.mir.role ≠ .manager)
      && (decide (s.mir.state = .synced) || decide (s.mir.state = .unsynced)) then
    let recent := s.mir.evTimes.filter fun t => decide (s.now < t + 1000)
    if recent.length < s.reg Reg.DOMAIN_EV_RATE then
      { s with mir := { s.mir with evTimes := recent ++ [s.now] } }.sendTo 0x0C 0
        [n + at' seq 16, s.dev.code + at' (if n < 48 then sev else 0) 8] (toRole := true)
    else { s with mir := { s.mir with evDropped := s.mir.evDropped + 1 } }
  else s

/-- Send the MCTP alert of event `n`, at most once per EV_ALERT_MIN; a recurrence inside it is counted
for the alert at the interval's end (R383). -/
def State.alert (s : State) (n seq : Nat) : State :=
  let last := mget 0 s.fc.alertLast n
  if last = 0 ∨ last - 1 + s.reg Reg.EV_ALERT_MIN ≤ s.now then
    { s.emit (.alert n seq s.dev.code 0) with
      fc := { s.fc with alertLast := mput n (s.now + 1) s.fc.alertLast } }
  else { s with fc := { s.fc with alertRecur := mset 0 s.fc.alertRecur n (mget 0 s.fc.alertRecur n + 1) } }

/-- Raise event `n`, described by the record of sequence `seq` when another record holds it (R379 to R383,
R459); `words` are diagnostic words of its EVENT record (Table 12-12). While the core domain is off only an alert of an
AON source goes out; `alerted` says that it has gone out already. -/
def State.raise (s : State) (n : Nat) (seq : Nat := 0) (sev : Nat := 0) (words : List Nat := []) (alerted : Bool := false) :
    State :=
  if !eventAssigned n then s
  else
    let route := s.reg (Reg.EV_ROUTE + n)
    let masked := evBit s Reg.EV_MASK n
    if !s.seq.coreUp then
      if bit route 10 && !masked && aonEvent n then s.alert n seq else s
    else
      let edge := !evBit s Reg.EV_STATUS n
      let s := s.setReg (Reg.EV_STATUS + n / 48) (setBit (s.reg (Reg.EV_STATUS + n / 48)) (n % 48))
      let (seq, s) :=
        if bit route 11 then
          let (q, s) := s.record .event n (n :: words)
          (q.getD 0, s)
        else (seq, s)
      let s := if edge && !masked && bit route 6 then s.msix n else s
      let s := if field route 9 7 ≠ 0 then s.cxlLog (field route 9 7) n seq sev else s
      let s := if bit route 10 && !masked && !alerted then s.alert n seq else s
      let s := s.forwardEvent n seq sev
      s.snapshots n fun s id => s.view id

/-! ### Fault reports (R366 to R374) -/

/-- Sources that run in the AON domain (R369). -/
def aonSource (src : Nat) : Bool := decide (31 ≤ src ∧ src ≤ 36) || src == 41

/-- The severity field of a source (R368). -/
def fcSev (s : State) (src : Nat) : Nat :=
  field (s.reg (Reg.FC_SEV + src / 16)) (3 * (src % 16) + 2) (3 * (src % 16))

/-- Set FC_STATUS and raise the severity field of a source (R366, R368). -/
def State.fcSet (s : State) (src sev : Nat) : State :=
  let s := s.setReg Reg.FC_STATUS (setBit (s.reg Reg.FC_STATUS) src)
  if fcSev s src < sev then
    s.setReg (Reg.FC_SEV + src / 16)
      (setField (s.reg (Reg.FC_SEV + src / 16)) (3 * (src % 16) + 2) (3 * (src % 16)) sev)
  else s

/-- Enter the fault state for a report of a source (R374). -/
def State.enterFault (s : State) (src : Option Nat) : State :=
  let s := s.setReg Reg.FC_IN_FAULT 1
  let st := match s.fc.state with | .clear => .stopped | x => x
  { s with fc := { s.fc with
      state := st, quietWaits := false, stopSrc := match s.fc.stopSrc with | some x => some x | none => src } }

/-- The severity a report is taken with: that of an injection is capped (R378). -/
def State.sevOf (s : State) (sv : Sev) (inj : Bool) : Sev :=
  if inj then Sev.ofCode (Nat.min sv.code (s.reg Reg.FI_SEV_CAP)) else sv

/-- Show a report: FC_STATUS and its severity field, or those the AON part holds for its sources while the core domain is
off (R366, R368, R369). -/
def State.faultShow (s : State) (src sev : Nat) : State :=
  if s.seq.coreUp then s.fcSet src sev
  else if aonSource src then
    { s with fc := { s.fc with
        aonStatus := setBit s.fc.aonStatus src,
        aonSev := mset 0 s.fc.aonSev src (Nat.max (mget 0 s.fc.aonSev src) sev) } }
  else s

/-- Count a report, and an injection's: the operation that made it is checked off (R367, R377, R378). -/
def State.faultCount (s : State) (src : Nat) (inj : Bool) : State :=
  let s := s.addReg (Reg.FC_COUNT + src) 1
  if inj then
    let s := { s with fc := { s.fc with injReports := s.fc.injReports + 1 } }
    s.setReg Reg.FI_REMAINING (s.reg Reg.FI_REMAINING - 1)
  else s

/-- Write a report's record, within FC_RECORD_RATE unless it is FATAL or latched; one over the rate is counted for the
next record (R370, R371). Answers the record's SEQ, 0 without one. -/
def State.faultRecord (s : State) (src sev chk : Nat) (inj fatal latch : Bool) : Nat × State :=
  let recent := s.fc.recTimes.filter fun p => decide (s.now < p.2 + 1000)
  let inRate := decide ((recent.filter fun p => p.1 == src).length < s.reg Reg.FC_RECORD_RATE)
  let wanted := fatal || latch || decide (s.reg Reg.FC_RECORD_SEV ≤ sev)
  if wanted && (fatal || latch || inRate) then
    let supp := mget 0 s.fc.suppressed src
    let (q, s) := s.record .fault 0x1FF
      [src + at' sev 6 + at' (chk % 64) 9 + at' (b2n inj) 15 + at' (supp % 65536) 16]
    (q.getD 0, { s with fc := { s.fc with
      suppressed := mset 0 s.fc.suppressed src 0, recTimes := recent ++ [(src, s.now)] } })
  else if wanted then
    (0, { s with fc := { s.fc with
      suppressed := mset 0 s.fc.suppressed src (mget 0 s.fc.suppressed src + 1), recTimes := recent } })
  else (0, s)

/-- Latch a report's word: the first fault, or that one was there before; the last FATAL one, whose reaction is then
pending (R366, R372). -/
def State.faultLatch (s : State) (word : Nat) (latch reaches fatal : Bool) : State :=
  let s := if latch then s.setReg Reg.FC_FIRST word
    else if reaches then s.setReg Reg.FC_OVERFLOW 1 else s
  if fatal then
    { s.setReg Reg.FC_LAST_FATAL word with fc := { s.fc with fatalPend := true } }
  else s

/-- Take a fault report (R366 to R374, R378): status and severity, first fault, counter, record, event,
fault state, and for FATAL the pending reaction of R372. `inj` marks a report of an injection; `words` are the block's
diagnostic data in the event's record. -/
def State.fault (s : State) (src : Nat) (sv : Sev) (chk : Nat := 0) (inj : Bool := false) (words : List Nat := []) :
    State :=
  let sv := s.sevOf sv inj
  let sev := sv.code
  let fatal := decide (sv = .fatal)
  let s := (s.faultShow src sev).faultCount src inj
  let reaches := decide (s.reg Reg.FC_LATCH_SEV ≤ sev) && s.seq.coreUp
  let latch := reaches && !flag s Reg.FC_FIRST 9
  let (seq, s) := s.faultRecord src sev chk inj fatal latch
  let s := s.faultLatch (src + at' sev 6 + at' 1 9 + at' (seq % 2 ^ 38) 10) latch reaches fatal
  let s := if decide (s.reg Reg.ALIVE_STOP_SEV ≤ sev) then s.enterFault (some src) else s
  let s := if fatal && decide (Src.BASIN_CH0 ≤ src ∧ src < Src.BASIN_CH0 + 8) then s.onFc fun x => { x with basinFatal := true }
    else s
  if fatal || decide (s.reg Reg.FC_EVENT_SEV ≤ sev) then s.raise src seq sev words else s

/-! ### Device state and records of it -/

/-- Media Status and Memory_Active on entry to a device state (Table 2-8). In whole-restore mode RESTORING, and PRE_SPILL
entered from it, keep Not Ready until the whole persistent partition is restored (R56; DEDUCED, log entry 222). -/
def HostPort.atState (h : HostPort) : Dev → HostPort
  | .restoring => if h.whole then h else { h with media := .ready, memActive := true }
  | .preSpill => if h.whole && decide (h.media = .notReady) then h else { h with media := .ready, memActive := true }
  | .online | .vaulting => { h with media := .ready, memActive := true }
  | .sealed | .fault => { h with media := .notReady, memActive := true }
  | .maintenance => { h with media := .disabled, memActive := false }
  | .off | .aonOnly | .bringup | .kickstand => { h with media := .notReady, memActive := false }

/-- The port's memory status becomes that of `h`; a change of Media Status gives a Memory Module record (R64; DESIGN
CHOICE, log entry 221). -/
def State.setMedia (s : State) (h : HostPort) : State :=
  let was := s.port.media
  let s := s.onPort fun x => { x with media := h.media, memActive := h.memActive }
  if h.media = was ∨ !s.seq.coreUp then s
  else s.cxlRecord 1 { event := 0, seq := 0, state := s.dev.code, sev := 0, kind := 3, addr := h.media.code }

/-- Enter a device state: its STATE record and the event STATE_CHANGE (R6, Table 12-12). `cause` is the
commit cause on the entry to VAULTING. -/
def State.setDev (s : State) (d : Dev) (cause : Nat := 0) : State :=
  if s.dev = d then s
  else
    let (q, s1) := s.record .state 0x1FF [s.dev.code + at' d.code 4 + at' cause 8]
    let s1 := { s1 with dev := d }
    let s1 := s1.setMedia (s1.port.atState d)
    let s1 := if d = .fault then s1.enterFault none else s1
    s1.raise 48 (q.getD 0)

/-! ### NV Store updates (R398 to R407, R416) -/

/-- Payload bytes of a record (Table 13-4), before padding. -/
def NvData.bytes : NvData → Nat
  | .pointer _ => 32 | .restore _ => 32 | .dsc _ _ => 16
  | .cfgImage _ _ => 8 | .cfgDelta _ _ _ => 8
  | .layout e r => 8 * (e.length + r.length)
  | .dramPop p => 16 * p.length | .flashPop p => 16 * p.length
  | .counter _ _ _ => 264 | .learned _ => 64 | .moduleTable _ _ => 1024 | .partDesc _ _ => 1024
  | .band _ => 64 | .bandPack l => 64 * l.length | .lost _ _ => 8 | .reshape _ _ _ _ => 16 | .reserveDesc _ _ _ _ => 16
  | .ckptLoc _ _ _ => 32 | .ppr _ r => 8 * (r.length + 1) | .badBlocks _ r => 8 * (r.length + 1)
  | .cmdJournal _ => 32 | .fwBoot _ _ => 8 | .cert _ => 8 | .domain _ _ _ _ _ => 16
  | .roster _ r => 16 * r.length | .shutdownState _ => 8 | .security _ _ _ _ => 80

/-- TYPE of a record (Table 13-4). -/
def NvData.type : NvData → Nat
  | .pointer _ => 0x01 | .restore _ => 0x02 | .dsc _ _ => 0x03
  | .cfgImage _ _ => 0x10 | .cfgDelta _ _ _ => 0x11 | .layout _ _ => 0x12
  | .dramPop _ => 0x13 | .flashPop _ => 0x14 | .counter _ _ _ => 0x20 | .learned _ => 0x30
  | .moduleTable _ _ => 0x31 | .partDesc _ _ => 0x32 | .band _ => 0x40 | .bandPack _ => 0x41 | .lost _ _ => 0x42
  | .reshape _ _ _ _ => 0x43 | .reserveDesc _ _ _ _ => 0x44 | .ckptLoc _ _ _ => 0x45 | .ppr _ _ => 0x46
  | .badBlocks _ _ => 0x47 | .cmdJournal _ => 0x50 | .fwBoot _ _ => 0x51 | .cert _ => 0x52
  | .domain _ _ _ _ _ => 0x58 | .roster _ _ => 0x59 | .shutdownState _ => 0x55 | .security _ _ _ _ => 0x56

/-- Code of a stream (Table 9-1). -/
def Stream.code : Stream → Nat
  | .l => 0 | .f => 1 | .g => 2 | .c => 3 | .v => 4

/-- KEY of a record (Table 13-4). A CFG_DELTA's key is its parameter ID; END and SUBST records of a band stand
beside its PLAN, so a band record's key carries its type and BASE too. -/
def NvData.key : NvData → Nat
  | .cfgDelta id _ _ => id
  | .counter i _ _ => i
  | .learned l => if l.port = .a then 0 else 1
  | .moduleTable i _ => i
  | .partDesc i _ => i
  | .band r => (r.stream.code * 256 + r.lane) + at' r.type 16 + at' r.base 20 + at' r.column 40
  | .bandPack l => maskOf (l.map fun r => r.base)
  | .lost w _ => w
  | .reserveDesc d _ _ _ => d
  | .ppr m _ => m
  | .badBlocks l _ => l
  | .cmdJournal e => e.cseq % 65536
  | .cert i => i
  | .roster k _ => k
  | _ => 0

/-- POINTER, RESTORE and DSC records lie in the vault area (R405). -/
def NvData.inVault (d : NvData) : Bool := decide (d.type ≤ 3)

/-- Bytes a record takes: header, padded payload and BCH parity (R396, R398); whole 64-byte slots in the vault
area (R405). -/
def NvData.space (d : NvData) : Nat :=
  let n := 16 + 8 * ceilDiv d.bytes 8
  let n := n + 8 * ceilDiv n 512
  if d.inVault then 64 * ceilDiv n 64 else n

/-- The layer runs on one device (R397, R400). -/
def NvStore.single (v : NvStore) : Bool := v.downA || v.downB || v.resync

/-- Take room for a record at the head of its area, opening the next erased sector when it does not fit
(R404, R405). -/
def NvStore.room (v : NvStore) (d : NvData) : NvStore :=
  if d.inVault then
    if v.vaultUsed + d.space ≤ 65536 then { v with vaultUsed := v.vaultUsed + d.space }
    else { v with vaultHead := (v.vaultHead + 1) % 8, vaultUsed := d.space, vaultFree := v.vaultFree - 1 }
  else if v.logUsed + d.space ≤ 65536 then { v with logUsed := v.logUsed + d.space }
  else { v with logHead := (v.logHead + 1) % 361, logUsed := d.space, logFree := v.logFree - 1 }

/-- Make a record at the head of its area; answers it with the new layer. -/
def NvStore.make (v : NvStore) (d : NvData) (group : Option Nat) (last : Bool) : NvRec × NvStore :=
  let v := v.room d
  ({ nseq := v.nseq + 1, data := d, group := group, groupEnd := last,
     sector := if d.inVault then v.vaultHead else v.logHead }, { v with nseq := v.nseq + 1 })

/-- Start an update: the record waits for its programs on A and then on B (R399). -/
def NvStore.start (v : NvStore) (d : NvData) : NvStore :=
  let (r, v) := v.make d none false
  { v with buf := v.buf ++ [{ rec_ := r }] }

/-- Make an update durable: on A (on B when A is of no use), its completion on B still to come (R399, R400). -/
def NvStore.durable (v : NvStore) (d : NvData) (group : Option Nat := none) (last : Bool := false) : NvStore :=
  let (r, v) := v.make d group last
  if v.downA then { v with b := v.b ++ [r] }
  else if v.downB then { v with a := v.a ++ [r] }
  else { v with a := v.a ++ [r], buf := v.buf ++ [{ rec_ := r, onA := true }] }

/-- Make a group durable: all its records, the last with GROUP_END (R402). -/
def NvStore.durableGroup (v : NvStore) (ds : List NvData) : NvStore :=
  let first := v.nseq + 1
  (ds.zipIdx).foldl (fun v (d, i) => v.durable d (some first) (i + 1 == ds.length)) v

/-- Records a reader sees: those of the device that governs whose update is complete (R399). -/
def NvStore.visible (v : NvStore) : List NvRec :=
  v.governing.filter fun r => !(v.buf.any fun u => u.rec_.nseq == r.nseq)

/-- The newest record for which `f` answers, from a list in NSEQ order. -/
def newest {α : Type} (l : List NvRec) (f : NvData → Option α) : Option α :=
  l.foldl (fun acc r => match f r.data with | some x => some x | none => acc) none

/-- The value a reader of the NV Store sees (R399, R401). -/
def State.nvGet {α : Type} (s : State) (f : NvData → Option α) : Option α := newest s.nv.visible f

/-- The newest value that is durable, which the blocks that append the POINTER and RESTORE records act on at once (R197,
R224, R352; DEDUCED, log entry 248). -/
def State.nvNewest {α : Type} (s : State) (f : NvData → Option α) : Option α := newest s.nv.governing f

/-- Replace the payload of the governing COUNTER record of an index in a device's records (R407). -/
def setCounter (l : List NvRec) (i : Nat) (d : NvData) (nseq : Nat) : List NvRec :=
  l.map fun r => match r.data with
    | .counter j _ _ => if j = i && r.nseq == nseq then { r with data := d } else r
    | _ => r

/-- The governing COUNTER record of an index: NSEQ, BASE and cells. -/
def counterRec (l : List NvRec) (i : Nat) : Option (Nat × Nat × List Cell) :=
  l.foldl (fun acc r => match r.data with
    | .counter j base cells => if j = i then some (r.nseq, base, cells) else acc
    | _ => acc) none

/-- The value of a counter: BASE plus the counted cells (R407). -/
def counterValue (base : Nat) (cells : List Cell) : Nat :=
  base + (cells.filter fun c => decide (c = .counted)).length

/-- Program the next blank cell. -/
def bumpCell : List Cell → List Cell
  | [] => []
  | .blank :: r => .counted :: r
  | c :: r => c :: bumpCell r

/-- The nearly full log takes no record of this type: fewer than 4 sectors are erased (R404). -/
def NvStore.refuses (v : NvStore) (d : NvData) : Bool :=
  decide (v.logFree < 4) && !d.inVault && !([0x20, 0x11, 0x12, 0x42, 0x30].contains d.type)

/-- Hold a record: while a power event bars it (R416), or until the log has room (R404). -/
def State.nvHold (s : State) (d : NvData) : State := { s with nv := { s.nv with held := s.nv.held ++ [d] } }

/-- Write an update by `go`, or hold it (R404, R416). In NV_HOLD both devices are left untouched (R397). -/
def State.nvPut (s : State) (d : NvData) (go : NvStore → NvData → NvStore) : State :=
  if s.nv.state = .hold then s
  else if s.nv.state = .quiet then
    match d with
    | .pointer _ => { s with nv := s.nv.durable d }
    | _ => s.nvHold d
  else if s.nv.refuses d then (s.nvHold d).fault Src.NV_STORE .degraded
  else { s with nv := go s.nv d }

/-- Write an update. -/
def State.nvWrite (s : State) (d : NvData) : State := s.nvPut d NvStore.start

/-- Write an update and make it durable before going on. -/
def State.nvDurable (s : State) (d : NvData) : State := s.nvPut d fun v d => v.durable d

/-- Write a group and make it durable; held whole during a power event (R402, R416), and not written in NV_HOLD
(R397). -/
def State.nvGroup (s : State) (ds : List NvData) : State :=
  match s.nv.state with
  | .hold => s
  | .quiet => { s with nv := { s.nv with held := s.nv.held ++ ds } }
  | _ => { s with nv := s.nv.durableGroup ds }

/-- Increment a catalogue counter (R407): the next blank cell on both devices, or a new record with every
cell blank. During a power event the increment is held as the record's new contents (R416). -/
def State.bumpCounter (s : State) (i : Nat) : State :=
  let blank := List.replicate 128 Cell.blank
  let held := s.nv.held.foldl (fun acc d => match d with
    | .counter j b c => if j = i then some (0, b, c) else acc
    | _ => acc) none
  match held.or (counterRec s.nv.visible i) with
  | none => s.nvWrite (.counter i 1 blank)
  | some (n, base, cells) =>
    if cells.contains .blank then
      let d := NvData.counter i base (bumpCell cells)
      if s.nv.state = .hold then s
      else if s.nv.state = .quiet ∨ held.isSome then s.nvHold d
      else { s with nv := { s.nv with a := setCounter s.nv.a i d n, b := setCounter s.nv.b i d n } }
    else s.nvWrite (.counter i (counterValue base cells + 1) blank)

/-- Increment a register whose value a catalogue counter holds (R407). -/
def State.count (s : State) (id i : Nat) : State := (s.addReg id 1).bumpCounter i

end Sys2Proof.Machine
end

