-- ==== Sys2Proof/Machine/WeirOps.lean ====
section
/-! DEFINITION. The Weir: factors, costs, the ceiling, hysteresis, target fill and a whole re-plan (04), and the
ride-through timer of R480. -/

namespace Sys2Proof.Machine

/-- k(T) of Table 4-3, × 1,024. -/
def kTemp (t : Int) : Nat :=
  if t < 0 then 1178 else if t < 25 then 1086 else if t < 70 then 1024 else if t < 85 then 1065 else 1127

/-- a / b as a factor × 1,024: rounded up, at least 1, saturating at 4,095 (R108, R115). -/
def factor (a b : Nat) : Nat := if b = 0 then 4095 else Nat.min 4095 (Nat.max 1024 (ceilDiv (1024 * a) b))

/-- L_now of R115: eligible LUNs, scaled after a flip to a new reserve geometry until a vault in it is measured
(R303), as a numerator and a denominator. -/
def State.lNow (s : State) : Nat × Nat :=
  let l := lunsEligible s.res (s.barred .v)
  match s.whl.flipOldD with
  | none => (l, 1)
  | some o =>
    let n := s.reg Reg.RESERVE_DATA_SPOKES
    (l * (n * (o + 2)), (n + 2) * o)

/-- K_PROG, K_TEMP and K_POP for a program time and a flash temperature (R115). While no measurement is accepted
the base costs stand for nominal conditions: T_PROG_SLC, k 1.00, every LUN of the card (DEDUCED, log entry 23). -/
def State.factors (s : State) (tNow : Nat) (temp : Int) : Nat × Nat × Nat :=
  let none' := s.reg Reg.T_MEAS = 0
  let tm := if none' then s.res.part.tProgSlc else s.reg Reg.T_MEAS
  let tf := s.reg Reg.T_MEAS_FLASH
  let km := if none' then 1024 else kTemp (if tf < 128 then tf else (tf : Int) - 256)
  let (n, d) := s.lNow
  let lm := if none' then sumOf (s.res.found.map (·.luns)) else s.reg Reg.L_MEAS
  (factor tNow tm, factor (kTemp temp) km, if n = 0 then 4095 else factor (lm * d) n)

/-- cost_per_gib() (R114). -/
def State.costPerGib (s : State) (k : Nat × Nat × Nat) : Nat :=
  let e := if s.reg Reg.E_BYTE_MEAS = 0 then s.reg Reg.E_BYTE_BASE else s.reg Reg.E_BYTE_MEAS
  Nat.max (s.reg Reg.E_BYTE_FLOOR) (ceilDiv (e * k.1 * k.2.1 * k.2.2) (1024 ^ 3))

/-- fixed_cost() (R113). -/
def State.fixedCost (s : State) (kt : Nat) : Nat :=
  let win := ceilDiv (s.reg Reg.P_RUN_CARD * (1000 * s.reg Reg.RIDE_THROUGH + s.reg Reg.GPF_WINDOW - 6000)) 1000
  Nat.max (s.reg Reg.E_FIXED_BASE + win) (ceilDiv (s.reg Reg.E_FIXED_MEAS * kt) 1024)

/-- The energy term of R106 in MiB, rounded down to 2 MiB (R108). -/
def energyCeiling (ePol eFix eb m : Nat) : Nat :=
  (ePol * 100 - eFix * (100 + m)) * 512 / ((100 + m) * Nat.max 1 eb) * 2

/-- The raw ceiling in MiB, rounded down to 2 MiB, and the limiting term: the lowest code among the terms that set it,
compared before rounding (R106 to R108). -/
def State.rawCeiling (s : State) (ePol eFix eb : Nat) : Nat × Nat :=
  let m := s.reg Reg.WEIR_MARGIN
  let den := (100 + m) * Nat.max 1 eb
  let e := (ePol * 100 - eFix * (100 + m)) * 1024
  let terms := [e, 524288 * den, (s.reserveErased - s.reg Reg.RESERVE_META) * den, s.reg Reg.DAMPING_CAP * den]
  let low := minOf e terms
  (low / den / 2 * 2, terms.idxOf low)

/-- A module is in a learn cycle or recharging after one (R110). -/
def CPort.learning (p : CPort) : Bool := decide (p.state = .learning) || decide (p.state = .learnRecharge)

/-- A module the Weir includes (R110). -/
def State.included (s : State) (i : PortId) : Bool :=
  let p := s.cist.port i
  let stale := match i with | .a => s.weir.staleA | .b => s.weir.staleB
  decide (p.eUse ≠ 0) && !p.learning && !stale && !(p.newcomer && decide (s.dev = .kickstand)) &&
    decide (p.state ≠ .disabled) && decide (p.state ≠ .latchedOff)

/-- E_use of the included modules. -/
def State.uses (s : State) : List Nat :=
  ([PortId.a, .b].filter fun i => s.included i).map fun i => (s.cist.port i).eUse

/-- Energy tokens that come off e_pol: those of every activity but LEARN (R126). -/
def State.tokensOff (s : State) : Nat := s.cmd.eHeld - s.cmd.learn.energy

/-- Set RIDE_THROUGH, K_RT as R480 states: a fault when t_min governs. -/
def State.rideThrough (s : State) : State :=
  let v := s.reg Reg.VCORE_NOW
  let kv := factor (v * v) (s.reg Reg.VCORE_REF * s.reg Reg.VCORE_REF)
  let res := ([PortId.a, .b].filter fun i => s.included i).map fun i =>
    let p := s.cist.port i
    Nat.min 4095 (((p.learned.elim p.checkRes (·.resFactor)) * 1024).ceil.toNat)
  let k := Nat.max kv (Nat.max (maxOf (1024 :: res)) (s.reg Reg.K_TEMP))
  let tMin := s.reg Reg.RECOVERY_TIME / 1000 + 1
  let byEnergy := s.reg Reg.RT_BUDGET * 1024 / Nat.max 1 (s.reg Reg.P_RUN_CARD * k)
  let s := (s.setReg Reg.K_RT k).setReg Reg.RIDE_THROUGH
    (Nat.min (s.reg Reg.RIDE_THROUGH_MAX) (Nat.max tMin byEnergy))
  if byEnergy < tMin then s.fault Src.AGEING_MON .degraded else s

/-- e_pol and single mode after a re-plan (R18, Table 4-1, R112, R129). `ceil` is the ceiling of an e_pol. -/
def State.policy (s : State) (first : Bool) (ceil : Nat → Nat) : Nat × Bool × Bool :=
  let us := s.uses
  let learnOut := s.cist.a.learning || s.cist.b.learning
  let bound := fun e => if learnOut then match s.weir.ePolBefore with
    | some b => Nat.min e b
    | none => e else e
  if s.reg Reg.WEIR_ENERGY_POLICY = 1 then (bound (sumOf us), false, false)
  else match us with
    | [a, b] =>
      let lo := Nat.min a b
      let hi := Nat.max a b
      if (first || s.weir.single) && decide (ceil lo * 100 < s.reg Reg.WEIR_FILL * ceil hi) then
        (hi, true, first)
      else (lo, false, false)
    | _ => (bound (sumOf us), true, first || !s.weir.single)

/-- Apply the rise rule (R119) to a raw ceiling: the ceiling in force and the rise count. -/
def State.hysteresis (s : State) (raw : Nat) : Nat × Nat :=
  let c := s.reg Reg.CEILING
  if raw < c then (raw, 0)
  else if c + s.reg Reg.WEIR_RISE_HYST < raw then
    let n := s.weir.riseCount + 1
    (if s.reg Reg.WEIR_RISE_HOLD ≤ n then Nat.min raw (c + s.reg Reg.WEIR_RISE_STEP) else c, n)
  else (c, 0)

/-- Target fill of a ceiling (R120). -/
def State.targetFill (s : State) (c : Nat) : Nat :=
  let f := s.reg Reg.WEIR_FILL
  let w := if s.reg Reg.WEIR_WEAR_POLICY = 1 then s.reg Reg.ENDUR_WEAR_PRESSURE else 0
  let f' := Nat.min (1024 * s.reg Reg.WEIR_FILL_MAX) (1024 * f + (s.reg Reg.WEIR_FILL_MAX - f) * w)
  f' * c / (1024 * 100 * 2) * 2

/-- Append to the re-plan history ring (Table 4-8, 0x0850, 0x0900). -/
def State.replanLog (s : State) : State :=
  let i := s.reg Reg.REPLAN_INDEX
  (s.setReg (Reg.REPLAN_HISTORY + i) (s.reg Reg.CEILING + at' (s.reg Reg.CEILING_LIMITER) 20)).setReg
    Reg.REPLAN_INDEX ((i + 1) % 128)

/-- Figures the Weir publishes from e_pol, the costs and the ceiling (R117, R125, R126). -/
def State.publish (s : State) (ePol eFix eb : Nat) : State :=
  let m := s.reg Reg.WEIR_MARGIN
  let cap := (ePol - eFix) * 1024 / Nat.max 1 eb
  let dirty := s.basin.dirtyBytes
  let t := Nat.max dirty (s.reg Reg.TARGET_FILL * MiB)
  let avail := (ePol * 100 * GiB - (eFix * GiB + eb * t) * (100 + m)) / ((100 + m) * GiB)
  let floorE := ceilDiv ((100 + m) * (eFix * 1024 + s.reg Reg.WEIR_FLOOR * eb)) (100 * 1024)
  (((s.putReg Reg.E_POLICY ePol).putReg Reg.VAULT_CAPACITY_EST cap).putReg Reg.ENERGY_MARGIN_AVAIL avail).putReg
    Reg.FLOOR_VAULT_ENERGY floorE

/-- Bytes that have become dirty since a time, `d` of them dirty or cleaned since the last periodic re-plan: against the figure
that stood when the millisecond before ended, else the oldest one kept (R121). -/
def Weir.lately (w : Weir) (d t : Nat) : Nat :=
  let old := ((w.inflow.find? fun p => decide (p.1 ≤ t)).orElse fun _ => w.inflow.getLast?).map (·.2)
  w.cleanedBefore + d - old.getD 0

/-- The median of a list of times, the upper of two (DESIGN CHOICE, log entry 245). -/
def median (l : List Nat) : Nat := (sortAsc l).getD (l.length / 2) 0

/-- t_now of R115: the median of the landing programs of the last 60 s on targets eligible for the vault, else the latest
rehearsal's. -/
def State.tNow (s : State) : Nat :=
  let ok := fun (port : Nat) => (s.res.luns.any fun l => l / 4 == port) && !(s.barred .v).contains port
  let l := (s.whl.landTimes.filter fun p => decide (s.now ≤ p.2.2 + 60000) && ok p.1).map fun p => p.2.1
  if l = [] then s.reg Reg.REHEARSE_T_MED else median l

/-- reserve_cap and damping_cap (R106). -/
def State.weirCaps (s : State) : Nat × Nat := (s.reserveErased - s.reg Reg.RESERVE_META, s.reg Reg.DAMPING_CAP)

/-- A re-plan is due beside the periodic ones (R118): a module included or excluded, E_use of one more than 2 % below what the
last re-plan used, another L_now, another reserve_cap or damping_cap, a commit of a Weir parameter, or the exit from
PRE_SPILL. -/
def State.replanDue (s : State) : Bool :=
  let moved := fun (i : PortId) (u : Option Nat) =>
    (s.included i != u.isSome) || u.any fun e => decide (100 * (s.cist.port i).eUse < 98 * e) && s.included i
  s.weir.due || moved .a s.weir.useA || moved .b s.weir.useB || lunsEligible s.res (s.barred .v) != s.weir.lNow
    || s.weirCaps != s.weir.caps

/-- One re-plan (R106 to R130). `temp` is T_now of R115; `dup` is the raw ceiling of the duplicate computation where it
disagrees. -/
def State.replan (s : State) (temp : Int) (dup : Option Nat) (first periodic : Bool) : State :=
  let k := s.factors s.tNow temp
  let eb := s.costPerGib k
  let eFix := s.fixedCost k.2.1
  let s := ((((s.setReg Reg.K_PROG k.1).setReg Reg.K_TEMP k.2.1).setReg Reg.K_POP k.2.2).putReg
    Reg.E_BYTE eb).putReg Reg.E_FIXED eFix
  let off := s.tokensOff
  let (e0, single, lost) := s.policy first fun e => (s.rawCeiling (e - off) eFix eb).1
  let ePol := e0 - off
  let (raw0, lim) := s.rawCeiling ePol eFix eb
  let raw := match dup with | some d => Nat.min raw0 (d / 2 * 2) | none => raw0
  let twice := dup.isSome && decide (1 ≤ s.weir.disagreeRun)
  let agree := if dup.isSome then 0 else s.weir.agreeRun + 1
  let distrusted := twice || (s.weir.distrusted && decide (agree < 2))
  let noLun := decide (lunsEligible s.res (s.barred .v) = 0)
  let s := if dup.isSome then s.fault Src.WEIR (if twice then .degraded else .corrected) else s
  let s := if noLun && decide (s.weir.lNow ≠ 0 ∨ first) then s.fault Src.WEIR .degraded else s
  let (c, rise) := if distrusted || noLun then (0, 0) else if first then (raw, 0) else s.hysteresis raw
  let s := ((s.setReg Reg.CEILING_RAW raw).setReg Reg.CEILING c).setReg Reg.CEILING_LIMITER
    (if distrusted || noLun then 4 else lim)
  let s := s.setReg Reg.TARGET_FILL (s.targetFill c)
  let s := s.setReg Reg.ENERGY_REDUNDANCY
    (b2n (decide (s.reg Reg.WEIR_ENERGY_POLICY = 0) && !single && decide (s.uses.length = 2)))
  let s := s.publish ePol eFix eb
  let dirty := s.basin.dirtyBytes
  let rIn := if periodic then
      (dirty + s.weir.cleaned - s.weir.dirtyAtReplan) * 1000 / Nat.max 1 (s.reg Reg.WEIR_PERIOD)
    else s.weir.lately (dirty + s.weir.cleaned) (s.now - s.reg Reg.WEIR_PERIOD) * 1000 / Nat.max 1 (s.reg Reg.WEIR_PERIOD)
  let s := if periodic then (s.putReg Reg.RILL_RATE
      (s.rill.taken / (1000 * Nat.max 1 (s.reg Reg.WEIR_PERIOD)))).onRill fun x =>
        { x with taken := 0, takenN := 0, takenDirty := 0 } else s
  let tgt := s.reg Reg.TARGET_FILL * MiB
  let catch' := Nat.max 1 (s.reg Reg.WEIR_CATCHUP)
  let dem := rIn + (dirty - tgt) * 1000 / catch' - (tgt - dirty) * 1000 / catch'
  let learnOut := s.cist.a.learning || s.cist.b.learning
  let s := s.onWeir fun w => { w with
    state := .planning, single := single, riseCount := rise,
    ePolBefore := if learnOut then w.ePolBefore else some e0
    lNow := lunsEligible s.res (s.barred .v)
    disagreeRun := if dup.isSome then w.disagreeRun + 1 else 0
    agreeRun := agree, distrusted := distrusted
    dirtyAtReplan := if periodic || first then dirty else w.dirtyAtReplan
    cleaned := if periodic || first then 0 else w.cleaned
    cleanedBefore := if first then 0 else if periodic then w.cleanedBefore + w.cleaned else w.cleanedBefore
    inflow := if first then [(s.now, dirty)] else w.inflow
    rIn := rIn, demand := dem
    useA := if s.included .a then some s.cist.a.eUse else none
    useB := if s.included .b then some s.cist.b.eUse else none
    caps := s.weirCaps, due := false }
  let s := if lost then s.raise Ev.ENERGY_REDUNDANCY_LOST else s
  s.rideThrough.replanLog

/-- The row of Table 4-4 that applies. -/
def State.devLoadRow (s : State) : Nat :=
  let c := s.reg Reg.CEILING * MiB
  let d := s.basin.dirtyBytes
  let g := s.weir.growth
  -- TTC below t ms: growth positive and what is left is less than it brings in t ms.
  let below := fun (t : Nat) => decide (0 < g) && decide (((c - d : Nat) : Int) < g * t)
  if c < d || below (s.reg Reg.DEVLOAD_SEV_TTC) then 3
  else if s.reg Reg.DEVLOAD_MOD_FRAC * c ≤ 100 * d || below (s.reg Reg.DEVLOAD_MOD_TTC) then 2
  else if s.reg Reg.TARGET_FILL * MiB ≤ d then 1
  else 0

/-- Set the DevLoad level: up at once, down one step at a 1 ms evaluation once two in a row have found a lower level
(R122). -/
def State.devLoad (s : State) (periodic : Bool) : State :=
  let n := s.devLoadRow
  let cur := s.reg Reg.DEVLOAD_LEVEL
  if cur < n then (s.setReg Reg.DEVLOAD_LEVEL n).onWeir fun w => { w with lowerRun := 0 }
  else if n < cur then
    if !periodic then s
    else
      let s' := s.onWeir fun w => { w with lowerRun := w.lowerRun + 1 }
      if s.weir.lowerRun = 0 then s' else s'.setReg Reg.DEVLOAD_LEVEL (cur - 1)
  else s.onWeir fun w => { w with lowerRun := 0 }

/-- The comparison of R109 with its breach accounting (R124): while PLANNING alone. -/
def State.compare (s : State) : State :=
  if s.weir.state ≠ .planning then s
  else
    let c := s.reg Reg.CEILING * MiB
    let d := s.basin.dirtyBytes
    if c < d then
      let s := if s.reg Reg.BREACH_PEAK < ceilDiv (d - c) MiB then s.putReg Reg.BREACH_PEAK (ceilDiv (d - c) MiB) else s
      if s.weir.above then s
      else
        let s := s.onWeir fun w => { w with above := true }
        -- A crossing re-evaluates the level within 10 µs (R122).
        ((s.addReg Reg.BREACH_COUNT 1).devLoad false).raise Ev.BREACH_START
    else if s.weir.above then
      ((s.onWeir fun w => { w with above := false }).devLoad false).raise Ev.BREACH_END
    else s

/-- What the Weir does at the commit (R127). -/
def State.weirLatch (s : State) : State :=
  (s.setReg Reg.CEILING_AT_COMMIT (s.reg Reg.CEILING)).onWeir fun w =>
    { w with state := .latched, demand := 0, above := false }

end Sys2Proof.Machine
end

