-- ==== Sys2Proof/Machine/RegOps.lean ====
section
/-! DEFINITION. Writes of registers by their access codes, with what a write starts: cleared bits, latched diagnostic
words, the recorder's and the journal's cursors (R11, R366, R370, R377, R379, R389, R431, R474). -/

namespace Sys2Proof.Machine

/-- Access code of an ID, none for a reserved ID. -/
def accessOf (id : Nat) : Option Access := (rowOf id).map (·.access)

/-- The value is held in the configuration image (R409). -/
def persistedId (id : Nat) : Bool := match accessOf id with
  | some .rwp | some .rwsp => true
  | _ => false

/-- A slot counter, held in AON memory and in its counter record (R360, R407). -/
def slotCounter (id : Nat) : Bool := decide (0x2400 ≤ id ∧ id < 0x24C0 ∧ 4 ≤ id % 8)

/-- The value stands in the configuration image and its deltas: every persisted one but the slot counters, which their
counter records persist (DEDUCED, log entry 227). -/
def imageId (id : Nat) : Bool := persistedId id && !slotCounter id

/-- The bits of a word of events that Table 12-8 assigns (R379). -/
def assignedBits (k : Nat) : Nat := maskOf ((List.range 48).filter fun i => eventAssigned (48 * k + i))

/-- A value as a write leaves it: the bits of reserved events in EV_MASK and DOMAIN_EV_FWD read 0 (R10, R379; log entry
228). -/
def cleanValue (id v : Nat) : Nat :=
  if Reg.EV_MASK ≤ id ∧ id < Reg.EV_MASK + 6 then v &&& assignedBits (id - Reg.EV_MASK)
  else if Reg.DOMAIN_EV_FWD ≤ id ∧ id < Reg.DOMAIN_EV_FWD + 6 then v &&& assignedBits (id - Reg.DOMAIN_EV_FWD)
  else v

/-- An ID a command may set: any access but RO, ROP and RC (R413). -/
def settable (id : Nat) : Bool := match accessOf id with
  | some .rw | some .rw1c | some .wo | some .rws | some .rwp | some .rwsp => true
  | _ => false

/-- Reserved bits and encodings of the words with fields (R10; Tables 4-7, 11-1, 12-7, 12-9, R356, R388). -/
def fieldsOk (id v : Nat) : Bool :=
  if Reg.EV_ROUTE ≤ id ∧ id < Reg.EV_ROUTE + 288 then decide (v < 2 ^ 12) && decide (field v 9 7 ≤ 4)
  else if Reg.SNAP_TRIGGER ≤ id ∧ id < Reg.SNAP_TRIGGER + 4 then decide (v < 2 ^ 11)
  else if Reg.SNAP_IDS ≤ id ∧ id < Reg.SNAP_IDS + 24 then
    if (id - Reg.SNAP_IDS) % 6 = 5 then decide (v < 2 ^ 16) else true
  else if id = Reg.FI_CTRL then decide (v < 2 ^ 30) && decide (field v 5 0 < 48)
  else if Reg.RST_CFG ≤ id ∧ id < Reg.RST_CFG + 8 then
    decide (v < 2 ^ 18) && decide (field v 4 0 < 24) && decide (1 ≤ field v 16 6 ∧ field v 16 6 ≤ 2000)
  else if 0x2400 ≤ id ∧ id < 0x24C0 ∧ id % 8 = 0 then
    decide (v < 2 ^ 43) && decide (field v 2 0 ≤ 4) && decide (field v 10 6 ≤ 15) && decide (field v 38 36 ≤ 3) &&
      (field v 2 0 == 0 || (decide (1 ≤ field v 19 12) && decide (1 ≤ field v 27 20) && decide (1 ≤ field v 35 28) &&
        (field v 38 36 != 1 || decide (1 ≤ field v 40 39))))
  else if Reg.STEP_UP ≤ id ∧ id < Reg.STEP_DOWN + 32 then decide (v < 2 ^ 32)
  else if id = Reg.WEIR_RISE_STEP then v % 2 == 0
  else true

/-- A value lies in its parameter's range and breaks no reserved bit (R10, R413). -/
def valueOk (id v : Nat) : Bool := match rowOf id with
  | none => false
  | some r => decide (v < 2 ^ r.width) && fieldsOk id v &&
    (match valueSets.find? fun p => p.1 == id with
     | some (_, l) => l.any fun p => decide (p.1 ≤ v ∧ v ≤ p.2)
     | none => decide (r.lo ≤ v ∧ v ≤ r.hi))

/-! ### The event recorder's reader (R389, R390) -/

/-- A pinned copy is cut to 128 bytes: 14 words of payload (R385). -/
def Rec.cut (r : Rec) : Rec := { r with payload := r.payload.take 14 }

/-- A pinned copy is truncated: the one record type longer than its slot (Table 12-12). -/
def Rec.truncated (r : Rec) : Bool := decide (r.type = .snapshot)

/-- The record of lowest SEQ at or above `c`, from the circulating area if it is held there (R389). -/
def Recorder.atOrAbove (x : Recorder) (c : Nat) : Option (RecWin × Rec) :=
  let best := ((x.circ.map fun p => p.2.seq) ++ x.pinned.map (·.seq)).filter fun q => decide (c ≤ q)
  match best with
  | [] => none
  | b :: bs =>
    let q := minOf b (b :: bs)
    match x.circ.find? fun p => p.2.seq == q with
    | some (l, r) => some (.circ l, r)
    | none => (x.pinned.find? fun r => r.seq == q).map fun r => (.pin q, r)

/-- REC_INFO of a loaded record (Table 12-13). -/
def recInfo (r : Rec) (pinned gap : Bool) : Nat :=
  r.type.code + at' r.plen 16 + at' (b2n (pinned && r.truncated)) 21 + at' r.event 22 + at' r.state 31
    + at' (b2n gap) 37 + at' (b2n pinned) 38

/-- Load the record a cursor selects (R389). With none to load, REC_INFO reads STATUS NONE. -/
def State.loadRec (s : State) (c : Nat) : State :=
  let s := s.setReg Reg.REC_CURSOR c
  match s.rec_.atOrAbove c with
  | none => s.setReg Reg.REC_INFO (at' 1 35)
  | some (w, r) =>
    let pinned := match w with | .pin _ => true | _ => false
    ((s.setReg Reg.REC_SEQ_FOUND r.seq).setReg Reg.REC_INFO
      (recInfo r pinned (decide (c ≠ 0 ∧ c < r.seq)))).onRec fun x => { x with window := w }

/-! ### Writes with an effect of their own -/

/-- Clear FC_STATUS bits and their severity fields (R366, R368). -/
def State.clearFc (s : State) (m : Nat) : State :=
  (setBits m 48).foldl (fun s n =>
    (s.setReg Reg.FC_STATUS (clearBits (s.reg Reg.FC_STATUS) (2 ^ n))).setReg (Reg.FC_SEV + n / 16)
      (setField (s.reg (Reg.FC_SEV + n / 16)) (3 * (n % 16) + 2) (3 * (n % 16)) 0)) s

/-- Write an event mask word: an unmasked event whose bit is set sends its message then (R381). -/
def State.writeMask (s : State) (k v : Nat) : State :=
  let old := s.reg (Reg.EV_MASK + k)
  let opened := (setBits old 48).filter fun i => !bit v i && bit (s.reg (Reg.EV_STATUS + k)) i
  opened.foldl (fun s i =>
    let n := 48 * k + i
    if bit (s.reg (Reg.EV_ROUTE + n)) 6 then s.msix n else s) (s.setReg (Reg.EV_MASK + k) v)

/-- Latch a DST entry into the diagnostic words (Table 3-5, Table 3-12); a FREE entry reads 0. -/
def State.dstDiag (s : State) (v : Nat) : State :=
  let s := s.setReg Reg.DST_DIAG_INDEX v
  match s.basin.dst.find? fun p => p.2.ptr == v with
  | some (seg, e) =>
    (s.setReg Reg.DST_DIAG_WORD0 (e.word0 seg)).setReg Reg.DST_DIAG_WORD1 (e.word1 (s.basin.setOf seg))
  | none => (s.setReg Reg.DST_DIAG_WORD0 0).setReg Reg.DST_DIAG_WORD1 0

/-- Latch a wheel into WHEEL_DIAG (Table 9-14): state byte, ERASURES, valid units. -/
def State.wheelDiag (s : State) (v : Nat) : State :=
  let s := s.setReg Reg.WHEEL_DIAG_INDEX v
  let n := s.reg Reg.WHEEL_DIAG_INDEX
  match s.whl.wheel n with
  | some w =>
    s.setReg Reg.WHEEL_DIAG (w.state.code + at' (maskOf (s.whl.erasedCols s.res n w) % 2 ^ 16) 8
      + at' ((s.rill.validIn n).length % 256) 32)
  | none => s.setReg Reg.WHEEL_DIAG 0

/-- IDs of the counters a latch samples: those of access RC (R474; DEDUCED, log entry 24). -/
def counterIds : List Nat :=
  ([(0x0040, 11), (0x0140, 2), (0x0414, 1), (0x0840, 3), (0x0F18, 3), (0x130D, 1), (0x1640, 4), (0x1C50, 2),
    (0x2730, 48), (0x2A08, 1), (0x2A87, 1), (0x2C20, 1), (0x3021, 1)] : List (Nat × Nat)).flatMap
      fun p => (List.range p.2).map fun i => p.1 + i

/-- Latch every counter view in one cycle (R474). -/
def State.latchCounters (s : State) (ids : List Nat) : State :=
  s.onCmd fun x => { x with latched := ids.map fun id => (id, s.view id) }

/-- Load a journal entry into JOURNAL_WINDOW (R431, R389): the entry of lowest CSEQ at or above the cursor, 0 for
the oldest. -/
def State.journalCursor (s : State) (v : Nat) : State :=
  let s := s.setReg Reg.JOURNAL_CURSOR v
  match s.cmd.journal.find? fun e => decide (s.reg Reg.JOURNAL_CURSOR ≤ e.cseq) with
  | some e => s.onCmd fun x => { x with window := e.cseq }
  | none => s.onCmd fun x => { x with window := 0 }

/-- Arm fault injection (R377); the write is accepted in ONLINE and MAINTENANCE, with no injection armed. -/
def State.fiAccepts (s : State) : Bool :=
  (decide (s.dev = .online) || decide (s.dev = .maintenance)) && s.fc.armed.isNone

/-- Write FI_CTRL (R377). -/
def State.fiWrite (s : State) (v : Nat) : State :=
  if bit v 29 then
    (((s.setReg Reg.FI_CTRL v).setReg Reg.FI_REMAINING (field v 28 13)).onFc fun x =>
      { x with armed := some v, injReports := 0 })
  else s.setReg Reg.FI_CTRL v

/-- Disarm an injection: an early warning or a commit (R377). -/
def State.disarm (s : State) : State :=
  if s.fc.armed.isNone then s
  else ((s.setReg Reg.FI_CTRL (clearBits (s.reg Reg.FI_CTRL) (2 ^ 29))).setReg Reg.FI_REMAINING 0).onFc fun x =>
    { x with armed := none, injReports := 0 }

/-- The effect of an accepted write of a register, by its access code and what the write starts (R11). -/
def State.writeReg (s : State) (id v : Nat) : State :=
  if id = Reg.FC_STATUS then s.clearFc v
  else if id = Reg.FC_FIRST then
    if bit v 9 then (s.setReg Reg.FC_FIRST 0).setReg Reg.FC_OVERFLOW 0 else s
  else if Reg.EV_MASK ≤ id ∧ id < Reg.EV_MASK + 6 then s.writeMask (id - Reg.EV_MASK) v
  else if id = Reg.REC_CURSOR then s.loadRec v
  else if id = Reg.REC_ADVANCE then if bit v 0 then s.loadRec (s.reg Reg.REC_SEQ_FOUND + 1) else s
  else if id = Reg.JOURNAL_CURSOR then s.journalCursor v
  else if id = Reg.DST_DIAG_INDEX then s.dstDiag v
  else if id = Reg.WHEEL_DIAG_INDEX then s.wheelDiag v
  else if id = Reg.COUNTER_LATCH then s.latchCounters counterIds
  else if id = Reg.FI_CTRL then s.fiWrite v
  else if id = Reg.RIDE_THROUGH_MAX then
    -- RIDE_THROUGH is never above it (R170).
    let s := s.setReg id v
    if v < s.reg Reg.RIDE_THROUGH then s.setReg Reg.RIDE_THROUGH v else s
  else if slotCounter id then
    -- A value written to a slot counter, 0 to clear it, appends a counter record with that BASE (R360, R407).
    (s.setReg id v).nvWrite (.counter (32 + 4 * ((id - 0x2400) / 8) + id % 8 - 4) v (List.replicate 128 .blank))
  else match accessOf id with
    | some .rw1c => s.setReg id (clearBits (s.reg id) v)
    | some .rw | some .rws | some .rwp | some .rwsp => s.setReg id v
    | _ => s

/-- A write of a register by software: taken while the core domain has power. -/
def State.softWrite (s : State) (id v : Nat) : State := if s.seq.coreUp then s.writeReg id v else s

/-- What a read returns, and the state after it: an RC value is cleared, a WO value reads 0 (R11, R428). -/
def State.readReg (s : State) (id : Nat) : Nat × State := match accessOf id with
  | some .wo => (0, s)
  | some .rc => (s.view id, s.setReg id 0)
  | _ => (s.view id, s)

/-- A read of MOD_VOLT_x or MOD_TEMP_x through the command interface is a bus access, which wakes the estimator
(R317). -/
def State.readWakes (s : State) (id : Nat) : State :=
  if Reg.MOD_TEMP_A ≤ id ∧ id ≤ Reg.MOD_VOLT_B then s.onCist fun c => { c with hibernating := false } else s

end Sys2Proof.Machine
end

