-- ==== Sys2Proof/Machine/CmdOps.lean ====
section
/-! DEFINITION. Command packets: acceptance, the journal and its mirrors, replies, parameter stages and commits, and
the maintenance arbiter's tokens (13 R411 to R416, 14). -/

namespace Sys2Proof.Machine

/-! ### Status codes (Table 14-3) and mailbox return codes -/

namespace St

/-- 0x0000. -/
abbrev SUCCESS : Nat := 0x0
/-- 0x0001. -/
abbrev IN_PROGRESS : Nat := 0x1
/-- 0x0002. -/
abbrev UNSUPPORTED : Nat := 0x2
/-- 0x0003. -/
abbrev INVALID_FIELD : Nat := 0x3
/-- 0x0004. -/
abbrev INVALID_STATE : Nat := 0x4
/-- 0x0005. -/
abbrev MARGIN_CONFLICT : Nat := 0x5
/-- 0x0006. -/
abbrev BUSY : Nat := 0x6
/-- 0x0007. -/
abbrev NONE : Nat := 0x7
/-- 0x0008. -/
abbrev ACCESS_DENIED : Nat := 0x8
/-- 0x0009. -/
abbrev DUPLICATE : Nat := 0x9
/-- 0x000A. -/
abbrev DOMAIN_REFUSED : Nat := 0xA
/-- 0x000B. -/
abbrev ROLE_STALE : Nat := 0xB
/-- 0x000C. -/
abbrev INTERRUPTED : Nat := 0xC

end St

/-- Return codes of the CXL mailbox, by the numbers of the CXL specification (PRESUMED, log entry 29). -/
inductive Ret where
  | success | backgroundStarted | invalidInput | unsupported | busy | mediaDisabled | invalidHandle | invalidPhysicalAddress
  | invalidSecurityState | incorrectPassphrase | invalidPayloadLength | invalidLog | resourcesExhausted
  | invalidExtentList
deriving DecidableEq, Repr

/-- Number of a return code. -/
def Ret.code : Ret → Nat
  | .success => 0x0 | .backgroundStarted => 0x1 | .invalidInput => 0x2 | .unsupported => 0x3 | .busy => 0x6 | .mediaDisabled => 0x7
  | .invalidHandle => 0xE | .invalidPhysicalAddress => 0xF | .invalidSecurityState => 0x13
  | .incorrectPassphrase => 0x14 | .invalidPayloadLength => 0x16 | .invalidLog => 0x17
  | .resourcesExhausted => 0x1D | .invalidExtentList => 0x1E

/-! ### Journal and replies (R424 to R432) -/

/-- Count a reply's status: packets accepted, each refusal by its code, and the transport's pair (R424, Table 14-6;
what counts as accepted is DEDUCED, log entry 27). -/
def State.countStatus (s : State) (transport status : Nat) : State :=
  if status = St.SUCCESS then (s.addReg Reg.GLOBAL_COUNTER 1).addReg (Reg.TRANSPORT_COUNT + 8 * transport) 1
  else if 2 ≤ status ∧ status ≤ 0xB then
    (s.addReg (Reg.GLOBAL_COUNTER + status - 1) 1).addReg (Reg.TRANSPORT_COUNT + 8 * transport + 1) 1
  else s

/-- Send a reply packet back over the transport it came by (R422, R423). A CMD's reply goes back in CMD_REPLY. -/
def State.sendReply (s : State) (o : Owed) (status cseq detail : Nat) (slots : List Nat) : State :=
  let s := s.countStatus o.origin.transport status
  if o.discard ∨ 5 ≤ o.origin.transport then s
  else
    let s := s.emit (.reply o.origin o.opcode o.tag status cseq detail slots)
    if o.origin.transport = 4 then
      s.sendReplyMsg 0x0E o.member o.mseq ([o.opcode, o.tag, status, cseq, detail] ++ slots)
    else s

/-- Append an entry to the journal, which keeps the 8,192 newest (R431). -/
def State.journalAdd (s : State) (e : JEntry) : State :=
  s.onCmd fun x =>
    let l := x.journal ++ [e]
    { x with journal := l.drop (l.length - 8192), cseq := e.cseq, aonCseq := e.cseq }

/-- DIGEST of parameter slots (Table 14-7). -/
def digestOf (slots : List Nat) : Nat := crc32c (slots.flatMap fun w => bytesOf w 8)

/-- Complete a journal entry (R430): status, detail and the recorder's SEQ. Answers the entry. -/
def State.journalDone (s : State) (cseq status detail : Nat) : State :=
  s.onCmd fun x => { x with journal := x.journal.map fun e =>
    if e.cseq = cseq then { e with status := status, detail := detail, evDone := s.reg Reg.REC_SEQ } else e }

/-- A journal entry by its CSEQ. -/
def Cmd.entry (x : Cmd) (cseq : Nat) : Option JEntry := x.journal.find? fun e => e.cseq == cseq

/-- Mirror an entry marked P to the NV Store (R432). -/
def State.mirror (s : State) (cseq : Nat) : State := match s.cmd.entry cseq with
  | some e => if e.persist then s.nvDurable (.cmdJournal e) else s
  | none => s

/-- Settle a command: complete its entry, mirror it, and send its reply (R424, R430, R432). -/
def State.settle (s : State) (o : Owed) (status detail : Nat) (slots : List Nat) : State :=
  -- A reset since may have marked the reply discarded (R45).
  let o := (s.cmd.owed.find? fun q => q.cseq == o.cseq).getD o
  let s := s.onCmd fun x => { x with owed := x.owed.filter fun q => q.cseq != o.cseq }
  ((s.journalDone o.cseq status detail).mirror o.cseq).sendReply o status o.cseq detail slots

/-- What a command's body answers. -/
structure Done where
  s : State
  status : Nat := 0
  detail : Nat := 0
  slots : List Nat := []
  /-- The reply comes later: a block holds the command (R425). -/
  later : Bool := false
  /-- Records to be written in one group with the entry's two mirrors (R414, R432). -/
  group : Option (List NvData) := none

/-- A vendor opcode's row of Table 14-4 (or 15-6, 16-6). -/
structure VSpec where
  op : Nat
  transports : List Nat
  /-- Served by the AON endpoint too. -/
  aon : Bool := false
  /-- Class S. -/
  status : Bool := false
  /-- The states that accept it. -/
  ok : State → Bool := fun _ => true
  /-- Journal column J or P. -/
  journal : Bool := true
  /-- Marked P for this packet. -/
  persist : State → Pkt → Bool := fun _ _ => false
  /-- Parameter slots it takes. -/
  count : Nat → Bool
  /-- The mirrors belong to the command's own group (R432). -/
  inGroup : Bool := false
  /-- DETAIL of a reply that the command's body does not give: MAINT_START's activity code (Table 14-2). -/
  detail : Pkt → Nat := fun _ => 0

/-- Class O of R426. -/
def classO (s : State) : Bool :=
  decide (s.dev = .restoring) || decide (s.dev = .online) || decide (s.dev = .maintenance)

/-- Class N of R426. -/
def classN (s : State) : Bool := decide (s.dev = .online)

/-- The AON endpoint serves instead of firmware: the core domain is off, or the management core restarts
(Table 14-1, R468). -/
def State.aonServes (s : State) : Bool := s.seq.aonUp && (!s.seq.coreUp || decide (s.mgmt.state ≠ .running))

/-- A packet on this transport reaches the interpreter or the AON endpoint (Table 2-8, Table 14-1, R468, R478). -/
def State.reaches (s : State) (transport : Nat) : Bool :=
  let firmware := s.seq.coreUp && decide (s.mgmt.state = .running)
  match transport with
  | 0 | 1 | 2 => firmware && s.port.up
  | 3 => firmware || (s.aonServes && !s.mgmt.recovery)
  | _ => firmware

/-- The reply handle of a packet. -/
def pktOwed (p : Pkt) (op cseq : Nat) : Owed :=
  { origin := { transport := p.transport, ld := if p.transport = 4 then 0 else p.ld }, fm := p.fm, tag := p.tag,
    opcode := op, cseq := cseq, member := p.member, mseq := p.mseq }

/-- The journal entry of an accepted packet (R430, Table 14-7). -/
def State.entryOf (s : State) (p : Pkt) (op : Nat) (persist : Bool) : JEntry :=
  { cseq := s.cmd.cseq + 1, transport := p.transport, ld := if p.transport = 4 then 0 else p.ld, fm := p.fm,
    std := false, state := s.dev.code, persist := persist, opcode := op, tag := p.tag,
    digest := digestOf p.slots, status := St.IN_PROGRESS, detail := 0, evDone := 0, flags := p.flags }

/-- A request of management firmware's own, on transport 6: no packet carries it, so it is the one that would start
the command (Table 14-1, R439; DEDUCED, log entry 59). -/
def ownPkt (op : Nat) (slots : List Nat) : Pkt :=
  { transport := 6, ld := 0, opcode := op, length := 8 * slots.length, carried := 8 * slots.length, mailbox := 0,
    slots := slots }

/-- The newest entry with the same originator, opcode, tag and digest (R430). -/
def Cmd.replay (x : Cmd) (p : Pkt) (op : Nat) : Option JEntry :=
  x.journal.reverse.find? fun e => e.transport == p.transport && e.ld == (if p.transport = 4 then 0 else p.ld)
    && e.opcode == op && e.tag == p.tag && e.digest == digestOf p.slots

/-- Flags that must be 0 are, every slot's bytes 6 and 7 are 0, and the slots are as many as the opcode takes
(R9, R10, Table 14-2). -/
def pktOk (p : Pkt) (v : VSpec) : Bool :=
  decide (p.flags < 4) && p.slots.all (fun w => decide (w < 2 ^ 48)) && v.count p.slots.length

/-- Run a vendor command packet (R422 to R432). `body` is the command's own effect. -/
def State.vendor (s : State) (v : VSpec) (p : Pkt) (body : Owed → State → Done) : State :=
  let o0 := pktOwed p v.op 0
  if !s.reaches p.transport then s
  else if p.transport < 2 && (p.short || p.carried != p.length) then
    s.emit (.mailbox v.op Ret.invalidPayloadLength.code)
  else if p.transport < 2 && p.mailbox != v.op then s.emit (.mailbox v.op Ret.invalidInput.code)
  else if p.short then s
  else if p.length % 8 != 0 || decide (4088 < p.length) || p.carried != p.length then
    s.sendReply o0 St.INVALID_FIELD 0 0 []
  else if !v.transports.contains p.transport then s.sendReply o0 St.ACCESS_DENIED 0 (v.detail p) []
  else if s.aonServes then
    -- The AON endpoint keeps no journal (DEDUCED, log entry 26).
    if !v.aon || !v.ok s then s.sendReply o0 St.INVALID_STATE 0 (v.detail p) []
    else if !pktOk p v then s.sendReply o0 St.INVALID_FIELD 0 (v.detail p) []
    else
      let d := body o0 s
      d.s.sendReply o0 d.status 0 d.detail d.slots
  else if !v.status && decide (p.transport < 5) && (s.cmd.owed.any fun q => decide (q.origin = o0.origin) && q.opcode != 0xC313) then
    s.sendReply o0 St.BUSY 0 (v.detail p) []
  else
    match (if v.journal && bit p.flags 0 then s.cmd.replay p v.op else none) with
    | some e => s.sendReply o0 St.DUPLICATE e.cseq e.detail [e.status]
    | none =>
      let pers := v.journal && v.persist s p
      let e := s.entryOf p v.op pers
      let o := if v.journal then pktOwed p v.op e.cseq else o0
      let s1 := if v.journal then
          (if v.inGroup then s.journalAdd e else (s.journalAdd e).mirror e.cseq)
        else s
      let d :=
        if !v.ok s || (pers && decide (s.nv.state = .quiet)) then
            ({ s := s1, status := St.INVALID_STATE, detail := v.detail p } : Done)
        else if !pktOk p v then { s := s1, status := St.INVALID_FIELD, detail := v.detail p }
        else body o s1
      if d.later then d.s.onCmd fun x => { x with owed := x.owed ++ [o] }
      else if !v.journal then d.s.sendReply o d.status 0 d.detail d.slots
      else if v.inGroup then
        let s2 := d.s.journalDone o.cseq d.status d.detail
        let s2 := match d.group, s2.cmd.entry o.cseq with
          | some ds, some done =>
            if d.status ≠ St.SUCCESS then s2
            else if pers then s2.nvGroup (NvData.cmdJournal e :: ds ++ [NvData.cmdJournal done])
            else if ds = [] then s2 else s2.nvGroup ds
          | _, _ => s2
        s2.sendReply o d.status o.cseq d.detail d.slots
      else d.s.settle o d.status d.detail d.slots

/-- Journal a standard CXL command of R430, with STD set and its CXL opcode; answers its reply handle. -/
def State.journalStd (s : State) (opcode transport ld : Nat) (fm persist : Bool) (digest : Nat) : Owed × State :=
  let e : JEntry := { cseq := s.cmd.cseq + 1, transport := transport, ld := ld, fm := fm, std := true,
                      state := s.dev.code, persist := persist, opcode := opcode, tag := 0, digest := digest,
                      status := St.IN_PROGRESS, detail := 0, evDone := 0, flags := 0 }
  ({ origin := { transport := transport, ld := ld }, fm := fm, tag := 0, opcode := opcode, cseq := e.cseq },
   (s.journalAdd e).mirror e.cseq)

/-- Complete a standard command's journal entry. -/
def State.settleStd (s : State) (o : Owed) (status : Nat) : State := (s.journalDone o.cseq status 0).mirror o.cseq

/-! ### Parameter stages and commits (R411 to R415) -/

/-- Key of an originator's stage. -/
def Origin.key (o : Origin) : Nat := o.transport * 16 + o.ld

/-- Pairs (ID, value) of parameter slots (R428). -/
def pairsOf : List Nat → List (Nat × Nat)
  | id :: v :: r => (id, v) :: pairsOf r
  | _ => []

/-- Why an entry cannot be staged (R413): its ID when it is a reserved or read-only one, or out of range. -/
def entryBad (p : Nat × Nat) : Bool := decide (0x3200 ≤ p.1) || !settable p.1 || !valueOk p.1 p.2

/-- Add or replace entries of a stage. -/
def stageAdd (st : List (Nat × Nat)) (es : List (Nat × Nat)) : List (Nat × Nat) :=
  es.foldl (fun st p => if st.any fun q => q.1 == p.1 then st.map fun q => if q.1 == p.1 then p else q
    else st ++ [p]) st

/-- Parameters that may be written only while SHUTDOWN_RECORD reads NONE (R51, R89, R259). -/
def boundIds : List Nat := [0x0110, 0x0111, 0x0121, 0x0434, 0x1631, 0x1632, 0x1633]

/-- A threshold rounded up to the next 10 mV step (R500). -/
def stepUp (mv : Nat) : Nat := ceilDiv mv 10 * 10

/-- Blocks per LUN of a reserve of `target` MiB at d (R259). -/
def State.reserveBplFor (s : State) (target d : Nat) : Nat :=
  ceilDiv (target * MiB * (d + 2)) (Nat.max 1 (s.res.luns.length * s.res.part.rows true * 65536 * d))

/-- The band-slot limit of R271 for a pool and a reserve geometry. -/
def State.geometryOk (s : State) (dPool dRes target : Nat) : Bool :=
  let p := s.res.part
  let rb := s.reserveBplFor target dRes
  let l := s.res.luns.length
  let pool := p.goodMin - rb - s.reg Reg.JOURNAL_BPL - s.reg Reg.CKPT_BPL - s.reg Reg.SPARE_BPL
  decide (l * pool / (dPool + 2) * slotsOf (p.rows false) + l * rb / (dRes + 2) * slotsOf (p.rows true)
    + l * s.reg Reg.CKPT_BPL / (dPool + 2) * slotsOf (p.rows true) ≤ 1048576)

/-- Steps of a step list: each word's slots, up to the first with none (R343). -/
def State.stepList (s : State) (base : Nat) : List (List Nat) :=
  ((List.range 24).map fun i => setBits (s.reg (base + i)) 24).takeWhile (· ≠ [])

/-- R341 holds of the slot words and step lists. -/
def State.slotsOk (s : State) : Bool :=
  let cfg := fun n => s.reg (Reg.SLOT_CFG + 8 * n)
  let kind := fun n => field (cfg n) 2 0
  let used := (List.range 24).filter fun n => kind n != 0
  let hard := used.filter fun n => kind n == 1 || kind n == 2
  let hardGroup := fun g => hard.any fun n => field (cfg n) 5 3 == g
  let ups := (s.stepList Reg.STEP_UP)
  let at_ := fun n => (ups.findIdx? fun l => l.contains n).getD 99
  hard.all (fun n => field (cfg n) 38 36 == 3 && !bit (cfg n) 42)
  && used.all (fun n => !((field (cfg n) 38 36 == 2 || !bit (cfg n) 41) && hardGroup (field (cfg n) 5 3)))
  && used.all (fun n => ((ups.flatMap id).filter (· == n)).length == 1)
  && (used.filter fun n => kind n == 1).all (fun n => (used.filter fun m => kind m == 2).all fun m =>
        decide (at_ m ≤ at_ n))

/-- Pair and group rules of the owning chapters: the lowest ID of each group, the IDs it looks at, and whether it
holds of a bank (R48, R120, R146, R168, R240, R271, R339, R341, R355, R465, R490, R501, Tables 5-10, 6-13). -/
def groupRules : List (Nat × (Nat → Bool) × (State → Bool)) :=
  let among := fun (l : List Nat) (id : Nat) => l.contains id
  [(0x0121, among [0x0121], fun s => s.reg 0x0121 == 0 || s.basin.host == 0 ||
      decide (64 * GiB * s.reg 0x0121 + 64 * GiB ≤ s.basin.host)),
   (0x0812, among [0x0812, 0x0817], fun s => decide (s.reg Reg.WEIR_FILL ≤ s.reg Reg.WEIR_FILL_MAX)),
   (0x0B07, among [0x0B07, 0x0B08], fun s => decide (s.reg Reg.FINE_MAP_LOW < s.reg Reg.FINE_MAP_HIGH)),
   (0x0B21, among [0x0B21, 0x0B22], fun s => decide (s.reg Reg.LAND_MIN ≤ s.reg Reg.LAND_MAX)),
   (0x0B24, among [0x0B24, 0x0B25], fun s => decide (s.reg Reg.MIG_STOP < s.reg Reg.MIG_START)),
   (0x0B30, among [0x0B30, 0x0B31], fun s => decide (s.reg Reg.GC_FREE_LOW < s.reg Reg.GC_FREE_HIGH)),
   (0x0B50, among [0x0B50, 0x0B51], fun s => decide (s.reg Reg.RILL_WB_WHEELS + s.reg Reg.RILL_GC_WHEELS ≤ 47)),
   (0x0F01, among [0x0F01, 0x0F03, 0x0F05], fun s =>
      let c := stepUp (s.reg Reg.COMMIT_THRESHOLD)
      let e := stepUp (s.reg Reg.EW_THRESHOLD)
      let r := stepUp (s.reg Reg.RECOVERY_THRESHOLD)
      decide (c + 130 ≤ e) && decide (e + 130 ≤ r)),
   (0x0F04, among [0x0F04, 0x0F06], fun s =>
      decide (s.reg Reg.RECOVERY_TIME < 1000 * Nat.min (s.reg Reg.RIDE_THROUGH) (s.reg Reg.RIDE_THROUGH_MAX))),
   (0x0F20, among [0x0F20, 0x0F24], fun s =>
      decide (s.reg Reg.RESERVE_META + 524288 ≤ s.reg Reg.RESERVE_TARGET) &&
        s.geometryOk (s.reg Reg.POOL_DATA_SPOKES) (s.reg Reg.RESERVE_DATA_SPOKES) (s.reg Reg.RESERVE_TARGET)),
   (0x1311, among [0x1311, 0x1312], fun s => decide (s.reg Reg.KICK_HOLD_MIN ≤ s.reg Reg.KICK_HOLD_MAX)),
   (0x1C03, among [0x1C03, 0x1C04], fun s =>
      s.geometryOk (s.reg Reg.POOL_GEOM_TARGET) (s.reg Reg.RESERVE_GEOM_TARGET) (s.reg Reg.RESERVE_TARGET)),
   (0x2032, among [0x2032, 0x2033], fun s => decide (s.reg Reg.LEARN_ACCEPT_MIN < s.reg Reg.LEARN_ACCEPT_MAX)),
   (0x0F03, among [0x0F03, 0x2034], fun s => decide (s.reg Reg.RECOVERY_THRESHOLD ≤ s.reg 0x2034)),
   (0x2321, among [0x2321, 0x2322], fun s => decide (s.reg Reg.VCORE_MIN < s.reg Reg.VCORE_MAX)),
   (0x2400, fun id => decide (0x2400 ≤ id ∧ id < 0x2540), State.slotsOk),
   (0x2E11, among [0x2E11, 0x2E14], fun s => decide (s.reg Reg.ORPHAN_TIME < s.reg Reg.MEMBER_TIMEOUT)),
   (0x2E12, among [0x2E12, 0x2E13], fun s => decide (3 * s.reg Reg.HEARTBEAT_PERIOD ≤ s.reg Reg.MGR_TIMEOUT)),
   (0x3022, among [0x3022, 0x3023], fun s => decide (s.reg Reg.TJ_WARN < s.reg Reg.TJ_CRIT)),
   (0x3041, among [0x3041, 0x3042, 0x3043], fun s =>
      decide (s.reg Reg.AGE_SLACK_FATAL < s.reg Reg.AGE_SLACK_LOW) &&
        decide (s.reg Reg.AGE_SLACK_LOW < s.reg Reg.AGE_SLACK_HIGH))]

/-- DOMAIN_POLICY may be written here (R450). -/
def State.policyWritable (s : State) : Bool :=
  decide (s.mir.role = .manager) || s.reg Reg.ROLE_CFG == 1 || s.reg Reg.MEMBER_NO == 0x7FF

/-- A parameter that the present state does not let a command write (R51, R377, R450). -/
def State.writableNow (s : State) (id : Nat) : Bool :=
  if boundIds.contains id then s.reg Reg.SHUTDOWN_RECORD == Shut.none.code
  else if id = Reg.FI_CTRL then s.fiAccepts
  else if id = Reg.DOMAIN_POLICY then s.policyWritable
  else true

/-- Check entries on the bank overlaid with them (R414): a status and the first failing ID, or none. -/
def State.checkEntries (s : State) (es : List (Nat × Nat)) : Option (Nat × Nat) :=
  match es.find? entryBad with
  | some p => some (St.INVALID_FIELD, p.1)
  | none => match es.find? fun p => !s.writableNow p.1 with
    | some p => some (St.INVALID_STATE, p.1)
    | none =>
      let t := es.foldl (fun t p => if persistedId p.1 then t.setReg p.1 p.2 else t) s
      match groupRules.find? fun r => es.any (fun p => r.2.1 p.1) && !r.2.2 t with
      | some r => some (St.INVALID_FIELD, r.1)
      | none => none

/-- Entries whose persisted value changes. -/
def State.persistedChange (s : State) (es : List (Nat × Nat)) : Bool :=
  es.any fun p => persistedId p.1 && s.reg p.1 != cleanValue p.1 p.2

/-- Write a full image of GEN + 1 into the older area and name it (R411). Values at their defaults are not
listed. -/
def State.writeImage (s : State) : State :=
  let gen := s.reg Reg.CFG_GEN + 1
  let area := if s.nv.image0.gen ≤ s.nv.image1.gen then 0 else 1
  let img : CfgImage := { gen := gen, entries := s.regs.filter fun p => imageId p.1 }
  let s := s.onNv fun x => if area = 0 then { x with image0 := img } else { x with image1 := img }
  ((s.nvWrite (.cfgImage gen area)).setReg Reg.CFG_GEN gen).setReg Reg.CFG_DELTAS 0

/-- Layout entries in force (Table 13-4, 0x0012). -/
def State.layoutData (s : State) : NvData :=
  .layout (boundIds.map fun id => (id, s.reg id)) [s.res.reserveBpl, s.res.journalBpl, s.res.ckptBpl, s.res.spareBpl]

/-- Overdraw of a currency, for R438: energy, redundancy, bandwidth. -/
def State.overdrawn (s : State) (c : Nat) : Bool :=
  if c = 0 then s.reg Reg.ENERGY_MARGIN_AVAIL == 0 && decide (0 < s.cmd.eHeld)
  else if c = 1 then decide (redundancyMargin s.whl s.res s.rill < s.cmd.rHeld)
  else decide (Nat.min s.bwPublished (s.reg Reg.MAINT_BW_MAX) < s.cmd.bHeld)

/-- Priority of an activity (Table 14-9); 1 is the highest. -/
def actPriority (n : Nat) : Nat := ([2, 1, 7, 6, 5, 4, 3, 8] : List Nat).getD (n - 1) 9

/-- Change an activity's record. -/
def Cmd.setAct (c : Cmd) (n : Nat) (f : Activity → Activity) : Cmd :=
  if n = 1 then { c with learn := f c.learn } else if n = 2 then { c with true_ := f c.true_ }
  else if n = 3 then { c with reshape := f c.reshape } else if n = 4 then { c with scrubDeep := f c.scrubDeep }
  else if n = 5 then { c with rehearse := f c.rehearse } else if n = 6 then { c with fwActivate := f c.fwActivate }
  else if n = 7 then { c with dimmSpare := f c.dimmSpare } else { c with bist := f c.bist }

/-- Change an activity's record. -/
def State.setAct (s : State) (n : Nat) (f : Activity → Activity) : State := s.onCmd fun c => c.setAct n f

/-- Tokens an activity holds: energy, redundancy, bandwidth (Table 14-9). -/
def State.tokensOf (s : State) (n : Nat) : Nat × Nat × Nat :=
  if n = 2 then (0, 0, s.reg Reg.TRUE_RATE)
  else if n = 3 then (0, 1, 2 * s.reg Reg.RESHAPE_RATE)
  else if n = 4 then (0, 1, s.reg Reg.SCRUB_DEEP_RATE)
  else if n = 5 then (0, 0, s.reg Reg.REHEARSE_BW)
  else if n = 6 then (s.reg Reg.E_TOKEN_FW_ACTIVATE, 0, 0)
  else if n = 8 then (s.reg Reg.E_TOKEN_BIST_ONLINE, 0, 0)
  else (0, 0, 0)

/-- An activity that needs the manager's grant (Table 14-9). -/
def domainAct (n : Nat) : Bool := n == 1 || n == 3 || n == 5 || n == 6

/-- Holder of a currency named by a refusal (R437): among running activities the one that holds most, the larger
priority number on a tie; 0 when none holds any. -/
def State.holder (s : State) (held : Activity → Nat) : Nat :=
  (s.cmd.acts.filter fun p => decide (p.2.state = .running) && decide (0 < held p.2)).foldl (fun acc p =>
    if acc = 0 then p.1
    else
      let h := held (s.cmd.act acc)
      if h < held p.2 ∨ (h = held p.2 ∧ actPriority acc < actPriority p.1) then p.1 else acc) 0

/-- Check a request against the three currencies in order (R436, R437): the refusal's slots of Table 14-10, or
none. -/
def State.tokenCheck (s : State) (n : Nat) : Option (List Nat) :=
  let (e, r, b) := s.tokensOf n
  let avail := s.reg Reg.ENERGY_MARGIN_AVAIL
  let rAvail := redundancyMargin s.whl s.res s.rill - s.cmd.rHeld
  let answer := fun cur (held : Activity → Nat) req av =>
    let h := s.holder held
    some [cur + at' h 2, req, av, if h = 0 then 0 else (s.cmd.act h).cseq]
  if avail * (100 + s.reg Reg.WEIR_MARGIN) < e * 100 then answer 0 (·.energy) e avail
  else if rAvail < r then answer 1 (·.redundancy) r rAvail
  else if s.bwAvail < b then answer 2 (·.bandwidth) b s.bwAvail
  else none

/-- Put an activity to IDLE, its tokens released (R440); its last refusal stays readable. -/
def State.idleAct (s : State) (n : Nat) : State := s.setAct n fun a => { refusal := a.refusal }

/-- Suspend holders of an overdrawn currency, lowest priority first (R438); for energy one holder. -/
def State.suspendHolders (s : State) (c : Nat) (held : Activity → Nat) : Nat → State
  | 0 => s
  | k + 1 =>
    if !s.overdrawn c then s
    else
      let cand := (s.cmd.acts.filter fun p => decide (p.2.state = .running) && decide (0 < held p.2))
      match cand.foldl (fun (acc : Option Nat) p => match acc with
          | none => some p.1
          | some a => if actPriority a < actPriority p.1 then some p.1 else some a) none with
      | none => s
      | some n => (s.setAct n fun a =>
          { a with state := .suspended, energy := 0, redundancy := 0, bandwidth := 0, overdrawn := true }
          ).suspendHolders c held k

/-- Suspend whatever redundancy and bandwidth no longer cover (R438). -/
def State.overdraw (s : State) : State :=
  (s.suspendHolders 1 (·.redundancy) 8).suspendHolders 2 (·.bandwidth) 8

/-- Switch to the bank with entries applied: the parameter commit boundary (R412, R414). Answers the records of the
group with the state. -/
def State.boundary (s : State) (es : List (Nat × Nat)) : List NvData × State :=
  let es := es.map fun p => (p.1, cleanValue p.1 p.2)
  let pers := es.filter fun p => imageId p.1
  let gen := s.reg Reg.CFG_GEN
  let s := es.foldl (fun t p => t.writeReg p.1 p.2) s
  let s := s.setReg Reg.PARAM_GEN (s.reg Reg.PARAM_GEN + 1)
  let s := s.setReg Reg.CFG_DELTAS (Nat.min 2047 (s.reg Reg.CFG_DELTAS + pers.length))
  let recs := (pers.map fun p => NvData.cfgDelta p.1 p.2 gen)
    ++ (if pers.any fun p => boundIds.contains p.1 then [s.layoutData] else [])
  let s := if pers ≠ [] ∧ flag s Reg.CFG_STATUS 0 then
      s.writeImage.setReg Reg.CFG_STATUS (clearBits (s.reg Reg.CFG_STATUS) 1)
    else s
    -- The channels are trained again after every rate change (R241).
  let s := if pers.any (fun p => p.1 = Reg.CHANNEL_RATE) ∧ s.res.rate ≠ 0 then
      s.onRes fun r => { r with rate := Nat.min (s.reg Reg.CHANNEL_RATE) r.part.rateMax } else s
  let s := if pers.any fun p => decide (0x0800 ≤ p.1 ∧ p.1 < 0x0B00) then s.onWeir fun w => { w with due := true } else s
  (recs, if pers.any fun p => p.1 = Reg.MAINT_BW_MAX ∨ p.1 = Reg.RILL_RATE_MAX then s.overdraw else s)

/-- Commit entries: the checks, then the boundary (R414, R415). -/
def State.commitEntries (s : State) (es : List (Nat × Nat)) : Done :=
  match s.checkEntries es with
  | some (st, id) => { s := s, status := st, detail := id }
  | none =>
    let (recs, s) := s.boundary es
    { s := s, group := some recs }

end Sys2Proof.Machine
end

