-- ==== Sys2Proof/Machine/RecOps.lean ====
section
/-! DEFINITION. The event recorder's writer (R385 to R387). -/

namespace Sys2Proof.Machine

/-- Erase a circulating sector (R385). -/
def Recorder.eraseSector (x : Recorder) (k : Nat) : Recorder :=
  { x with circ := x.circ.filter fun p => p.1.sector != k }

/-- Move to the next row; entering a sector erases the one after it (R385). -/
def Recorder.nextRow (x : Recorder) : Recorder :=
  if x.head.row + 1 < 128 then { x with head := { x.head with row := x.head.row + 1, byte := 0 } }
  else
    let k := (x.head.sector + 1) % 258
    { x with head := { sector := k, row := 0, byte := 0 } }.eraseSector ((k + 1) % 258)

/-- Write a record to the circulating area, and to the pinned area for SEQ 1 to 4,096 (R385). -/
def Recorder.write (x : Recorder) (r : Rec) : Recorder :=
  let x := if x.head.byte + r.size ≤ 512 then x else x.nextRow
  let x := { x with
    circ := x.circ ++ [(x.head, r)]
    pinned := if r.seq ≤ 4096 ∧ !(x.pinned.any fun p => p.seq == r.seq) then x.pinned ++ [r.cut] else x.pinned
    durable := Nat.max x.durable r.seq }
  let b := x.head.byte + r.size
  if b < 512 then { x with head := { x.head with byte := b } } else x.nextRow

/-- Write the oldest queued record. -/
def State.writeRecord (s : State) : State := match s.rec_.queue with
  | [] => s
  | r :: rest => s.onRec fun x => { { x with queue := rest }.write r with writes := x.writes ++ [s.now] }

/-- The windows in which the recorder starts no program (R387). -/
def State.recWindow (s : State) : Bool :=
  match s.spill.vault with
  | some v => decide (v.step = .manifest) || decide (v.step = .pointer)
  | none => s.spill.warned && decide (s.dev ≠ .vaulting)

/-- Write the whole queue: after step 6 and before a sequence that takes the core domain down (R387). -/
def State.flushRecords (s : State) : State :=
  s.onRec fun x => { x.queue.foldl (fun x r => x.write r) x with queue := [] }

end Sys2Proof.Machine
end

