-- ==== Sys2Proof/Machine/SeqOps.lean ====
section
/-! DEFINITION. The sequencer's steps and sequences, the converter's mode, the reset outputs, and what the loss and
the start of the core domain do to every block (11, and the state tables of every chapter). -/

namespace Sys2Proof.Machine

/-! ### Loss and start of the core domain -/

/-- Geometries that the band, reshape and reserve descriptor records of the NV Store hold (R299, R301). -/
def geomReg (id : Nat) : Bool :=
  [Reg.POOL_DATA_SPOKES, Reg.RESERVE_DATA_SPOKES, Reg.RESHAPE_FROM, Reg.RESHAPE_STATE].contains id

/-- A parameter that outlives the core domain: held in AON (Table 16-9), or persisted (R11). -/
def keepReg (id : Nat) : Bool :=
  decide (0x2000 ≤ id ∧ id < 0x2700) || geomReg id || id == Reg.FC_LAST_FATAL || id == Reg.FC_IN_FAULT || id == Reg.DAY_OF_SERVICE
    || id == Reg.REC_SEQ || (match accessOf id with
      | some .rop | some .rwp | some .rwsp => true
      | _ => false)

/-- The core domain loses power: every block goes to its first state; what stands on flash, in the NV Store, in AON,
and with `hold` in self-refreshed DRAM, is kept (state tables of every chapter; DEDUCED, log entry 30). -/
def State.coreOff (s : State) (hold : Bool) : State :=
  { s with
    regs := s.regs.filter fun p => keepReg p.1
    mem := if hold then s.mem else []
    fc := { state := s.fc.state, aonStatus := s.fc.aonStatus, aonSev := s.fc.aonSev, stopSrc := s.fc.stopSrc,
            exits := s.fc.exits, restartWaits := s.fc.restartWaits,
            quietWaits := s.fc.quietWaits, alertLast := s.fc.alertLast,
            alertRecur := s.fc.alertRecur }
    rec_ := { circ := s.rec_.circ, head := s.rec_.head, pinned := s.rec_.pinned, durable := s.rec_.durable,
              aonSeq := s.rec_.aonSeq, lostNoSeq := s.rec_.lostNoSeq }
    nv := { s.nv with state := .aonRead, early := false, buf := [], held := [] }
    cmd := { aonCseq := s.cmd.aonCseq }
    weir := {}
    basin := { state := if hold then .held else .down, pprRows := s.basin.pprRows, spareCopy := s.basin.spareCopy,
               spareQ := s.basin.spareQ, spare := s.basin.spare,
               token := if hold then s.basin.token else {} }
    rill := { runs := s.rill.runs, ckpts := s.rill.ckpts, peHistory := s.rill.peHistory,
              gcNative := s.rill.gcNative, gcHost := s.rill.gcHost, gcDays := s.rill.gcDays }
    res := { s.res with state := .down, rate := 0, misses := [], refreshQ := [], eraseSuspended := [] }
    whl := { s.whl with state := .down, landTimes := [], pending := [], slowEvents := [], trueQ := [], deepDone := [], geomAsked := none }
    spill := { chainA := s.spill.chainA, chainB := s.spill.chainB, failA := s.spill.failA, failB := s.spill.failB,
               disagree := s.spill.disagree, present := s.spill.present, warned := s.spill.warned,
               manifests := s.spill.manifests, sanitizeIncomplete := s.spill.sanitizeIncomplete,
               released := s.spill.released, noSlc := s.spill.noSlc, rehearseAgain := s.spill.rehearseAgain }
    sip := { hold := s.sip.hold, state := if hold then .holding else .idle, floorAtCommit := s.sip.floorAtCommit }
    port := { poison := if hold then s.port.poison else [], spdm := { certs := s.port.spdm.certs }, caps := s.port.caps
              sec := { user := s.port.sec.user, master := s.port.sec.master, locked := s.port.sec.user.isSome }
              shutdownDirty := s.port.shutdownDirty, allocs := s.port.allocs, qosLimit := s.port.qosLimit,
              qosAlloc := s.port.qosAlloc }
    mir := {}
    mgmt := { s.mgmt with state := .off, lastRestart := 0, recovery := false, started := false, activation := none, pldm := .idle,
                          pldmPrev := .idle, bistLeft := [], tjWarn := false, tjCrit := false }
    seq := { s.seq with coreUp := false, voutWrite := none, avsStopped := false, flush := none } }

/-- Merge the AON fault copies into the core's words; each new FAULT_n bit is an edge (R369, R381). Its alert went out
when the report was made (R383). -/
def State.mergeAon (s : State) : State :=
  let srcs := setBits s.fc.aonStatus 48
  let sev := s.fc.aonSev
  let s := s.onFc fun x => { x with aonStatus := 0, aonSev := [] }
  srcs.foldl (fun s n =>
    let v := mget 0 sev n
    let s := s.fcSet n v
    if 4 ≤ v ∨ s.reg Reg.FC_EVENT_SEV ≤ v then s.raise n 0 v [] true else s) s

/-- Reset outputs that a set of slots gates (R356). -/
def State.outputsOf (s : State) (slots : List Nat) : List Nat :=
  (List.range 8).filter fun n => bit (s.reg (Reg.RST_CFG + n)) 5 && slots.contains (field (s.reg (Reg.RST_CFG + n)) 4 0)

/-- Rails good: the core domain starts and every block enters its BRINGUP state (state tables of every chapter;
R366, R369). -/
def State.coreStart (s : State) : State :=
  let s := { s with
    nv := { s.nv with state := .mounting }
    basin := { s.basin with state := .training }
    rill := { s.rill with state := .loading }
    res := { s.res with state := .identifying }
    whl := { s.whl with state := .recovering }
    sip := { s.sip with state := .evaluating, startedAt := s.now }
    mir := { s.mir with state := if s.reg Reg.MEMBER_NO = 0x7FF then .standalone else .linking }
    mgmt := { s.mgmt with state := .bootRom }
    seq := { s.seq with
      coreUp := true
      stretch := s.seq.stretch ++ (s.outputsOf s.seq.running).filter fun n =>
        !s.seq.stretch.contains n && !s.seq.released.contains n } }
  s.mergeAon

/-! ### The converter (R358) -/

/-- The mode Table 11-6 gives; with the input absent in a state the table does not name, the mode stays. -/
def State.convWanted (s : State) : ConvMode :=
  let charging := [PortId.a, .b].any fun i =>
    (decide ((s.cist.port i).state = .charging) || decide ((s.cist.port i).learn = .chargeFull)
      || decide ((s.cist.port i).learn = .recharge)) && !s.seq.chgDone.contains i
      && !(s.cist.port i).overVoltage
  match s.dev with
  | .off => .off
  | .preSpill => .assist
  | .vaulting => if s.spill.present then .assist else .source
  | .kickstand => .source
  | d =>
    if s.spill.warned then .assist
    else if s.spill.present then
      if s.seq.standby then .standby else if charging then .charge else .standby
    else match d with
      | .aonOnly | .fault => .off
      | _ => s.seq.mode

/-- Set the converter's mode by Table 11-6. -/
def State.setConv (s : State) : State := s.onSeq fun x => { x with mode := s.convWanted }

/-! ### Slots -/

/-- SLOT_CFG of a slot. -/
def State.slotCfg (s : State) (n : Nat) : Nat := s.reg (Reg.SLOT_CFG + 8 * n)
/-- KIND of a slot (Table 11-1). -/
def State.slotKind (s : State) (n : Nat) : Nat := field (s.slotCfg n) 2 0
/-- GROUP of a slot. -/
def State.slotGroup (s : State) (n : Nat) : Nat := field (s.slotCfg n) 5 3
/-- REACTION of a slot. -/
def State.slotReaction (s : State) (n : Nat) : Nat := field (s.slotCfg n) 38 36

/-- Count in one of a slot's counters: 0 PG_DROPS, 1 RETRIES, 2 TIMEOUTS, 3 CHATTER; saturating (R360). -/
def State.countSlot (s : State) (n k : Nat) : State :=
  let id := Reg.SLOT_COUNTERS + 8 * n + k
  (s.setReg id (Nat.min 65535 (s.reg id + 1))).onSeq fun x => { x with countersDirty := true }

/-- Append the slot counters that changed as counter records, when the NV Store can be written (R360). -/
def State.flushCounters (s : State) : State :=
  if !s.seq.countersDirty || !(decide (s.nv.state = .running) || decide (s.nv.state = .quiet)) then s
  else
    let s := (List.range 96).foldl (fun s i =>
      let v := s.reg (Reg.SLOT_COUNTERS + 8 * (i / 4) + i % 4)
      let old := match counterRec s.nv.visible (32 + i) with
        | some (_, b, c) => counterValue b c
        | none => 0
      if v = old then s else s.nvWrite (.counter (32 + i) v (List.replicate 128 .blank))) s
    s.onSeq fun x => { x with countersDirty := false, lastCounters := s.now + 1 }

/-- Slots stop running on purpose or by a drop: their outputs assert (R356); a host PHY rail takes the link
down. -/
def State.stopSlots (s : State) (slots : List Nat) : State :=
  let outs := s.outputsOf slots
  let phy := slots.any fun n => s.slotKind n == 3
  let s := s.onSeq fun x => { x with
    running := x.running.filter fun n => !slots.contains n
    released := x.released.filter fun n => !outs.contains n
    stretch := x.stretch.filter fun n => !outs.contains n }
  if phy then s.onPort fun x => { x with up := false } else s

/-- Drop EN on slots. -/
def State.dropEn (s : State) (slots : List Nat) : State :=
  (s.stopSlots slots).onSeq fun x => { x with en := x.en.filter fun n => !slots.contains n }

/-- A step completed: its slots run, and the outputs they gate start their STRETCH (R345, R356). -/
def State.slotsRun (s : State) (slots : List Nat) : State :=
  let outs := s.outputsOf slots
  s.onSeq fun x => { x with
    running := x.running ++ slots.filter fun n => !x.running.contains n
    stretch := x.stretch ++ outs.filter fun n => !x.stretch.contains n }

/-! ### Sequences (R343 to R349) -/

/-- The POWER_UP list with its delays (R343). -/
def State.upList (s : State) : List (List Nat × Nat) :=
  ((List.range 24).map fun i => (setBits (s.reg (Reg.STEP_UP + i)) 24, field (s.reg (Reg.STEP_UP + i)) 31 24)).takeWhile
    (·.1 ≠ [])

/-- The steps of POWER_UP: the list without the groups shut down, which GROUP_RESTART alone raises again (R350; DEDUCED,
log entry 247). -/
def State.upSteps (s : State) : List (List Nat × Nat) :=
  (s.upList.map fun p => (p.1.filter fun n => !s.seq.groupOff.contains (s.slotGroup n), p.2)).filter (·.1 ≠ [])

/-- The POWER_DOWN list; an empty one means the POWER_UP list in reverse (R343). -/
def State.downSteps (s : State) : List (List Nat × Nat) :=
  let l := ((List.range 24).map fun i =>
    (setBits (s.reg (Reg.STEP_DOWN + i)) 24, field (s.reg (Reg.STEP_DOWN + i)) 31 24)).takeWhile (·.1 ≠ [])
  if l = [] then s.upList.reverse else l

/-- Steps without the slots of KIND 1 (Table 11-3). -/
def State.skipDimm (s : State) (l : List (List Nat × Nat)) : List (List Nat × Nat) :=
  (l.map fun p => (p.1.filter fun n => s.slotKind n != 1, p.2)).filter (·.1 ≠ [])

/-- The end of a sequence (R346, Table 11-8). -/
def State.seqEnd (s : State) : State :=
  let k := s.seq.active
  let s := s.onSeq fun x => { x with active := .none, stepNo := 0, step := none, todo := [] }
  let s := match k with
    | .powerUp =>
      (s.addReg Reg.POWER_ON_COUNT 1).onSeq fun x => { x with state := .supervising, attempts := 0 }
    | .restore => s.onSeq fun x => { x with state := .supervising, attempts := 0 }
    | .kickstand => s.onSeq fun x => { x with state := .holding }
    | .powerDown => s.onSeq fun x => { x with state := .railsOff }
    | _ => s
  let s := match k with
    | .powerUp | .restore => s.coreStart
    | _ => s
  s.flushCounters.setConv

/-- Start the next step of the sequence, or end it (R344). An off-step whose rails are all low already ends at
once. -/
def State.nextStep (s : State) : Nat → State
  | 0 => s
  | f + 1 => match s.seq.todo with
    | [] => s.seqEnd
    | (slots, delay) :: rest =>
      let up := decide (s.seq.active = .powerUp) || decide (s.seq.active = .restore)
      let s := s.onSeq fun x => { x with todo := rest, stepNo := x.stepNo + 1 }
      if up then
        let ready := slots.all fun n => s.seq.pg.contains n
        s.onSeq fun x => { x with
          en := x.en ++ slots.filter fun n => !x.en.contains n
          step := some { slots := slots, delay := delay, phase := if ready then .stable else .waitPg } }
      else
        let s := s.dropEn slots
        let high := slots.filter fun n => s.seq.pg.contains n
        if high = [] then
          if delay = 0 then s.nextStep f
          else s.onSeq fun x => { x with step := some { slots := slots, delay := delay, phase := .delay } }
        else s.onSeq fun x => { x with step := some { slots := slots, delay := delay, phase := .waitPg } }

/-- Run a sequence from its first step. -/
def State.startSeq (s : State) (k : SeqKind) (steps : List (List Nat × Nat)) : State :=
  let st := match k with | .powerUp | .restore => SeqState.rising | _ => .falling
  (s.onSeq fun x => { x with
    active := k, state := st, stepNo := 0, step := none, todo := steps, side := [],
    tries := [], retryWaits := false, sysResetWaits := false, stay := false }).nextStep 32

/-- Run POWER_UP: the device is in BRINGUP from the first step (Table 11-3). -/
def State.powerUp (s : State) : State := (s.setDev .bringup).startSeq .powerUp s.upSteps

/-- Run POWER_DOWN: the queued records are written (R387), the core domain goes off, and the device is in AON_ONLY
once the first step begins, except in FAULT, which is kept (Table 11-3; DEDUCED, log entry 31). -/
def State.powerDown (s : State) : State :=
  let s := if s.dev = .fault then s else s.setDev .aonOnly
  let steps := s.downSteps
  (s.flushRecords.coreOff false).startSeq .powerDown steps

/-- Run KICKSTAND: POWER_DOWN without the DIMM slots, which stay in self-refresh (Table 11-3, R214). -/
def State.kickstandDown (s : State) : State :=
  let s := s.setDev .kickstand
  let steps := s.skipDimm s.downSteps
  (s.flushRecords.coreOff true).startSeq .kickstand steps

/-- Run RESTORE: POWER_UP without the DIMM slots (Table 11-3). -/
def State.restoreUp (s : State) : State := (s.setDev .bringup).startSeq .restore (s.skipDimm s.upSteps)

/-- Restart the core domain with the rails up: it starts again in BRINGUP (R346). The lock is taken only by a start from
OFF, AON_ONLY or KICKSTAND (R75). -/
def State.coreRestart (s : State) : State :=
  let sec := s.port.sec
  ((((s.flushRecords.coreOff false).setDev .bringup)).coreStart).onPort fun x => { x with sec := sec }

/-- End a hold otherwise than by a return of power: the AON record and the result to be recorded at the next
BRINGUP; slot power goes off (Table 7-2). -/
def State.endHold (s : State) (result : Nat) (st : HoldState) : State :=
  let s := s.onSip fun x => { x with state := .idle, hold := { x.hold with state := st, result := result } }
  s.onBasin fun b => { b with state := .down, token := {} }

/-- End the hold and go to AON_ONLY by POWER_DOWN (Table 7-2). -/
def State.endHoldDown (s : State) (result : Nat) (st : HoldState) : State := (s.endHold result st).powerDown

/-- The slots a DIMM slot set switches (R342). -/
def slotSet (k : Nat) : List Nat := (List.range 8).map fun c => 2 * c + k

/-- Shut a group down: EN drops on every slot of it; only GROUP_RESTART raises it again (R350). -/
def State.shutGroup (s : State) (g : Nat) : State :=
  let slots := (List.range 24).filter fun n => s.slotKind n != 0 && s.slotGroup n == g
  let s := (s.dropEn slots).onSeq fun x => { x with
    groupOff := if x.groupOff.contains g then x.groupOff else x.groupOff ++ [g]
    side := x.side.filter fun d => !(d.step.slots.any fun n => slots.contains n) }
  s.fault Src.SEQUENCER .degraded

/-- Start a retry of a slot: EN low for RETRY_OFF_TIME (R350, Table 12-8). -/
def State.startRetry (s : State) (n : Nat) : State :=
  let s := ((s.dropEn [n]).countSlot n 1).raise (Ev.RAIL_0 + n)
  s.onSeq fun x => { x with
    tries := mput n (mget 0 x.tries n + 1) x.tries
    side := (x.side.filter fun d => d.retry != some n) ++ [{ step := { slots := [n] }, retry := some n, off := true }] }

/-- Raise a side step: EN high, waiting for its PGs (R350). -/
def State.raiseSide (s : State) (d : SideStep) : State :=
  let ready := d.step.slots.all fun n => s.seq.pg.contains n
  s.onSeq fun x => { x with
    en := x.en ++ d.step.slots.filter fun n => !x.en.contains n
    side := x.side ++ [{ d with off := false, step := { d.step with phase := if ready then .stable else .waitPg } }] }

end Sys2Proof.Machine
end

