-- ==== Sys2Proof/Machine/ActOps.lean ====
section
/-! DEFINITION. Maintenance activities: requests, waits, domain grants, suspension, end (14 R436 to R441,
15 R457, R458). -/

namespace Sys2Proof.Machine

/-- The handle of a PLDM activation, which no packet asks for and no journal entry holds. -/
def firmwareOwed : Owed :=
  { origin := { transport := 6, ld := 0 }, fm := false, tag := 0, opcode := 0, cseq := 0 }

/-- Settle a request: its journal entry and its reply; nothing for a PLDM activation. DETAIL of MAINT_START is the
activity code (Table 14-2). -/
def State.settleAct (s : State) (n : Nat) (o : Owed) (status : Nat) (slots : List Nat) : State :=
  if o.cseq = 0 then s else s.settle o status (if o.opcode = 0xC100 then n else 0) slots

/-- Send REPLICA to the alternate manager: CGEN, roster, grant table (R446, R457). -/
def State.replica (s : State) : State :=
  if s.mir.role = .manager ∧ s.mir.alternate.isSome then
    s.sendTo 0x0B 1 ([s.reg Reg.CGEN, s.mir.roster.length]
      ++ s.mir.roster.flatMap (fun r => [r.member, r.serial, r.record + at' (b2n r.reported) 3 + at' (b2n r.missing) 4,
        r.commitId])
      ++ s.mir.grants.flatMap fun g => [g.activity, g.member]) (toRole := true)
  else s

/-- Members of the domain that may hold an activity at once (Table 15-5). -/
def State.grantLimit (s : State) (n : Nat) : Nat :=
  if n = 1 then s.reg Reg.DOMAIN_MAX_LEARN else if n = 3 then s.reg (Reg.DOMAIN_MAX_LEARN + 1)
  else if n = 5 then s.reg (Reg.DOMAIN_MAX_LEARN + 2) else s.reg (Reg.DOMAIN_MAX_LEARN + 3)

/-- The manager's judgement of a request: fewer members than the limit hold the activity (R457); an unprotected
learn needs DOMAIN_UNPROT_ALLOW and a roster of one (R458). -/
def State.judgeGrant (s : State) (n member : Nat) (unprotected : Bool) : Bool :=
  decide ((s.mir.grants.filter fun g => g.activity == n && g.member != member).length < s.grantLimit n)
    && (!unprotected || (s.reg Reg.DOMAIN_UNPROT_ALLOW == 1 && s.mir.roster.length == 1))

/-- Record a grant at the manager. -/
def State.addGrant (s : State) (n member : Nat) : State :=
  (s.onMir fun x => { x with grants :=
    if (x.grants.any fun g => g.activity == n && g.member == member) then x.grants
    else x.grants ++ [{ activity := n, member := member }] }).replica

/-- Drop a grant at the manager. -/
def State.dropGrant (s : State) (n member : Nat) : State :=
  (s.onMir fun x => { x with grants := x.grants.filter fun g => !(g.activity == n && g.member == member) }).replica

/-- Give back the domain grant an activity holds (R457). -/
def State.releaseGrant (s : State) (n : Nat) : State :=
  if (s.cmd.act n).grant.isNone then s
  else
    let a := s.cmd.act n
    let s := s.setAct n fun a => { a with grant := none }
    if s.mir.role = .manager then s.dropGrant n (s.reg Reg.MEMBER_NO)
    else if s.mir.state = .standalone then s
    else s.sendTo 0x0A 0 [n, a.cseq] (toRole := true)

/-- End an activity: its grant and its tokens are released (R439, R440). -/
def State.actEnd (s : State) (n : Nat) : State :=
  if (s.cmd.act n).state = .idle then s else (s.releaseGrant n).idleAct n

/-- End an activity that waits, with the reply its request is owed. -/
def State.actFail (s : State) (n status : Nat) (slots : List Nat) : State :=
  let o := (s.cmd.act n).owed
  let s := s.actEnd n
  match o with
  | some o => s.settleAct n o status slots
  | none => s

/-- An activity begins to run (Table 14-11). -/
def State.actBegin (s : State) (n : Nat) : State :=
  s.setAct n fun a => { a with state := .running, owed := none, fresh := true }

/-- An activity that waited begins to run, and its request is answered (R439). -/
def State.actRun (s : State) (n : Nat) : State :=
  let o := (s.cmd.act n).owed
  let s := s.actBegin n
  match o with
  | some o => s.settleAct n o St.SUCCESS []
  | none => s

/-- Where a request for a domain grant stands at once: granted, refused, or to be answered by the manager. -/
inductive GrantNow where
  | granted | refused | asked
deriving DecidableEq, Repr

/-- Ask for the domain grant of an activity (R457): a standalone device grants itself, a manager judges, a member in
ORPHAN is refused, any other member sends GRANT_REQ. -/
def State.askGrant (s : State) (n : Nat) : GrantNow × State :=
  let unprotected := n == 1 && s.cmd.learnAck
  if !domainAct n ∨ s.mir.state = .standalone ∨ s.mir.state = .down then (.granted, s)
  else if s.mir.role = .manager then
    if s.judgeGrant n (s.reg Reg.MEMBER_NO) unprotected then
      (.granted, (s.addGrant n (s.reg Reg.MEMBER_NO)).setAct n fun a => { a with grant := some 0 })
    else (.refused, s)
  else if s.mir.state = .orphan then (.refused, s)
  else
    let a := s.cmd.act n
    let s := s.sendTo 0x08 0 [n, a.cseq, b2n unprotected] (toRole := true)
    let m := s.mir.mseq
    (.asked, (s.onMir fun x => { x with asks := x.asks ++ [(m, n)] }).setAct n fun a =>
      { a with state := .waitDomain, grant := some m })

/-- Request an activity (R436, R437): the token check, the energy token's wait for a re-plan, the domain grant. One
that is not IDLE is not started a second time. -/
def State.actRequest (s : State) (n : Nat) (o : Owed) : Done :=
  if (s.cmd.act n).state ≠ .idle then { s := s, status := St.INVALID_STATE }
  else match s.tokenCheck n with
    | some slots =>
      { s := (s.addReg Reg.MARGIN_CONFLICTS 1).setAct n fun a => { a with refusal := slots },
        status := St.MARGIN_CONFLICT, slots := slots }
    | none =>
      let (e, r, b) := s.tokensOf n
      let s := s.setAct n fun a => { a with
        energy := e, redundancy := r, bandwidth := b, cseq := o.cseq, owed := some o }
      if 0 < e then { s := s.setAct n fun a => { a with state := .waitPlan }, later := true }
      else match s.askGrant n with
        | (.granted, s) => { s := s.actBegin n }
        | (.refused, s) => { s := s.idleAct n, status := St.DOMAIN_REFUSED }
        | (.asked, s) => { s := s, later := true }

/-- MAINT_START's row of Table 14-4. -/
def specMaintStart : VSpec :=
  { op := 0xC100, transports := [0, 1, 2, 3, 4], ok := classN, count := (· == 1),
    persist := fun _ p => p.slots.headD 0 == 3, detail := fun p => p.slots.headD 0 % 16 }

/-- MAINT_START's own effect (R439). -/
def State.maintStart (n : Nat) (o : Owed) (s : State) : Done :=
  let d : Done := if n < 2 ∨ 8 < n then { s := s, status := St.INVALID_FIELD } else s.actRequest n o
  { d with detail := n % 16 }

/-- A request of management firmware's own schedule (R439): a MAINT_START on transport 6, journalled. -/
def State.actSchedule (s : State) (n : Nat) : State :=
  if s.dev = .online then
    s.vendor { specMaintStart with transports := [6] } (ownPkt 0xC100 [n]) (State.maintStart n)
  else s

/-- After a re-plan, the activities that wait for it: checked again, then the domain grant (Table 14-11). -/
def State.actReplanned (s : State) : State :=
  [6, 8].foldl (fun s n =>
    let a := s.cmd.act n
    if a.state ≠ .waitPlan then s
    else if s.reg Reg.ENERGY_MARGIN_AVAIL = 0 then
      let slots := [at' (s.holder (·.energy)) 2, a.energy, 0, 0]
      ((s.actFail n St.MARGIN_CONFLICT slots).addReg Reg.MARGIN_CONFLICTS 1).setAct n fun a => { a with refusal := slots }
    else match s.askGrant n with
      | (.granted, s) => s.actRun n
      | (.refused, s) => s.actFail n St.DOMAIN_REFUSED []
      | (.asked, s) => s) s

/-- Grant again what an overdraw suspended, highest priority first (R438). -/
def State.regrant (s : State) : State :=
  if s.dev ≠ .online then s
  else
    let l := (s.cmd.acts.filter fun p => decide (p.2.state = .suspended) && p.2.overdrawn).map (·.1)
    (sortBy (fun a b => decide (actPriority a ≤ actPriority b)) l).foldl (fun s n =>
      match s.tokenCheck n with
      | some _ => s
      | none =>
        let (e, r, b) := s.tokensOf n
        s.setAct n fun a => { a with
          state := .running, energy := e, redundancy := r, bandwidth := b, overdrawn := false }) s

/-- An early warning suspends every RUNNING activity, keeping its tokens (R440). -/
def State.actSuspend (s : State) : State :=
  (List.range 8).foldl (fun s i =>
    if (s.cmd.act (i + 1)).state = .running then s.setAct (i + 1) fun a => { a with state := .suspended } else s) s

/-- At recovery each suspended activity that still holds its tokens runs on (R440). -/
def State.actResume (s : State) : State :=
  (List.range 8).foldl (fun s i =>
    let a := s.cmd.act (i + 1)
    if a.state = .suspended ∧ !a.overdrawn then s.setAct (i + 1) fun a => { a with state := .running } else s) s

/-- End every activity: a commit, or entry to MAINTENANCE (R440); requests that wait are answered INVALID_STATE
(Table 14-12). -/
def State.actEndAll (s : State) : State :=
  (List.range 8).foldl (fun s i => s.actFail (i + 1) St.INVALID_STATE []) s

end Sys2Proof.Machine
end

