-- ==== Sys2Proof/Machine/MirOps.lean ====
section
/-! DEFINITION. The Mirsen unit: its records, its topology, SYNC and REPORT, the domain shutdown state, roles, and how a
message is taken, forwarded or refused (15). -/

namespace Sys2Proof.Machine

/-! ### Records (R446) -/

/-- Append the DOMAIN record. -/
def State.domainRec (s : State) : State :=
  s.nvWrite (.domain (s.reg Reg.MEMBER_NO) (s.reg Reg.ROLE_CFG) (s.reg Reg.DOMAIN_ID) (s.reg Reg.CGEN)
    (s.reg Reg.ROLE_EPOCH))

/-- Append the ROSTER records that hold the given members: 64 members each. -/
def State.rosterRec (s : State) (members : List Nat) : State :=
  ((members.map (· / 64)).eraseDups).foldl (fun s k =>
    s.nvWrite (.roster k (s.mir.roster.filter fun r => r.member / 64 == k))) s

/-! ### Topology (R444, R445, R451) -/

/-- Report DEPTH: one hop more than the parent on the path in use; 0 at the manager (R445). -/
def State.redepth (s : State) : State :=
  s.putReg Reg.DEPTH (if s.mir.role = .manager then 0 else match s.upPort with
    | some p => (mget {} s.mir.ports p).depth + 1
    | none => 0)

/-- A link of the domain as the manager knows it: child, parent, the child's port (0 or 1), cable flight in ns. -/
abbrev DomLink : Type := Nat × Nat × Nat × Nat

/-- Relax every link once: the least cost of each member from one source, a hop costing 90 ns and its flight. -/
def relax (links : List DomLink) (d : List (Nat × Nat)) : List (Nat × Nat) :=
  links.foldl (fun d l =>
    let w := 90 + l.2.2.2
    let better := fun (d : List (Nat × Nat)) (a b : Nat) => match d.find? fun p => p.1 == a with
      | some (_, x) => match d.find? fun p => p.1 == b with
        | some (_, y) => if x + w < y then mput b (x + w) d else d
        | none => mput b (x + w) d
      | none => d
    better (better d l.1 l.2.1) l.2.1 l.1) d

/-- Least costs from a member over every link. -/
def costsFrom (links : List DomLink) (m : Nat) : List (Nat × Nat) :=
  links.foldl (fun d _ => relax links d) [(m, 0)]

/-- DOMAIN_PATH_MAX (R451): 40 + 90 × (hops − 1) + 80 plus the flight of the worst pair's shortest path; 0 with no
link. -/
def pathMax (links : List DomLink) : Nat :=
  let ms := (links.flatMap fun l => [l.1, l.2.1]).eraseDups
  let worst := maxOf (ms.map fun m => maxOf ((costsFrom links m).map (·.2)))
  if worst = 0 then 0 else 30 + worst

/-- Hops from a member to the manager along its parents on port 0 first. -/
def hopsUp (links : List DomLink) (mgr : Nat) : Nat → Nat → Nat
  | 0, _ => 6
  | f + 1, m =>
    if m = mgr then 0
    else match links.filter fun l => l.1 == m with
      | [] => 6
      | ls => 1 + minOf 6 (ls.map fun l => hopsUp links mgr f l.2.1)

/-- The first member that breaks a rule of R445: one more than five hops away, with more than four children, or with one
device as both parents. -/
def ruleBroken (links : List DomLink) (mgr : Nat) : Option Nat :=
  let ms := (links.flatMap fun l => [l.1, l.2.1]).eraseDups
  ms.find? fun m => decide (5 < hopsUp links mgr 7 m)
    || decide (4 < (links.filter fun l => l.2.1 == m && l.2.2.1 == 0).length)
    || (links.any fun l => l.1 == m && l.2.2.1 == 0 && links.any fun k => k.1 == m && k.2.2.1 == 1 && k.2.1 == l.2.1)

/-- The manager judges the topology over all links that are up (R445, R451). -/
def State.judgeLinks (s : State) (links : List DomLink) : State :=
  if s.mir.role ≠ .manager then s
  else
    let p := pathMax links
    let s := s.putReg Reg.DOMAIN_PATH_MAX p
    let s := match ruleBroken links (s.reg Reg.MEMBER_NO) with
      | some m => s.fault Src.MIRSEN_LINK .degraded (words := [m])
      | none => s
    if s.reg Reg.DOMAIN_PATH_LIMIT < p then (s.fault Src.MIRSEN_LINK .degraded).raise Ev.DOMAIN_STATE_CHANGE else s

/-- Change a port. -/
def State.onMPort (s : State) (port : Nat) (f : MPort → MPort) : State :=
  s.onMir fun x => { x with ports := mput port (f (mget {} x.ports port)) x.ports }

/-- Send a frame that was not acknowledged again by another way: the alternate path, else any route (Table 15-8). -/
def State.resend (s : State) (u : Unacked) : State :=
  let way := match (if u.hdr.toRole then s.upPort else s.routeTo u.hdr.dst) with
    | some p => some p
    | none => s.upPort
  if u.hdr.flood then s
  else match way with
    | some p => s.sendFrame p u.type u.hdr u.payload
    | none => s

/-- A Mirsen link goes down (R444, R463, Table 15-8). -/
def State.mirDown (s : State) (port : Nat) : State :=
  if !(mget {} s.mir.ports port).up then s
  else
    let lost := s.mir.unacked.filter fun u => u.port == port
    let s := s.onMPort port fun p => { p with up := false }
    let s := s.onMir fun x => { x with unacked := x.unacked.filter fun u => u.port != port }
    let s := (s.fault Src.MIRSEN_LINK .log).raise (Ev.MIRSEN_PORT_0 + port)
    (lost.foldl (fun s u => s.resend u) s).redepth

/-! ### SYNC, REPORT and the domain shutdown state (R450, R456) -/

/-- Send SYNC to a member: CGEN, policy, DOMAIN_ID, the grant limits of Table 15-5. -/
def State.sendSync (s : State) (member : Nat) : State :=
  if member = s.reg Reg.MEMBER_NO then s
  else s.sendTo 0x05 member ([s.reg Reg.CGEN, s.reg Reg.DOMAIN_POLICY, s.reg Reg.DOMAIN_ID]
    ++ (List.range 4).map fun k => s.reg (Reg.DOMAIN_MAX_LEARN + k))

/-- Send SYNC to every member of the roster. -/
def State.syncAll (s : State) : State := s.mir.roster.foldl (fun s r => s.sendSync r.member) s

/-- The manager advances CGEN (R450). -/
def State.nextCgen (s : State) : State := ((s.addReg Reg.CGEN 1).domainRec).syncAll

/-- The manager's stored policy has changed: it takes effect, and every member is told (R450). -/
def State.policySync (s : State) : State :=
  let all := s.reg Reg.DOMAIN_POLICY == 1
  if s.mir.role = .manager ∧ s.mir.state = .synced ∧ s.mir.syncAll ≠ all then
    (s.onMir fun x => { x with syncAll := all }).syncAll
  else s

/-- The domain shutdown state of Table 1-5 over a roster (R39, R456). Vaults of different commits that were all made
under ALL_OR_NONE stand in no row: none. -/
def domainState (l : List RosterRec) : Option Nat :=
  let vaults := (l.filter fun r => r.record == 2).map (·.commitId)
  if l.any fun r => !r.reported then some 3
  else if l.any fun r => decide (3 ≤ r.record) then some 2
  else match vaults with
    | [] => some 0
    | v :: rest =>
      if rest.all (· == v) then some 1
      else if vaults.any fun c => field c 10 0 != 0x7FF then some 4
      else none

/-- The manager derives DOMAIN_STATE; a change goes out in STATE and raises an event (R456). -/
def State.deriveState (s : State) : State :=
  if s.mir.role ≠ .manager then s
  else
    let (v, s) := match domainState s.mir.roster with
      | some v => (v, s)
      | none =>
        let (x, s) := s.free Reg.DOMAIN_STATE
        (x % 5, s)
    if v = s.reg Reg.DOMAIN_STATE then s
    else
      let s := s.setReg Reg.DOMAIN_STATE v
      let s := s.flood 0x07 [v, s.mir.roster.length, (s.mir.roster.filter fun r => r.reported).length]
      s.raise Ev.DOMAIN_STATE_CHANGE

/-- Change roster entries, append their records, tell the alternate and derive the state again. -/
def State.onRoster (s : State) (members : List Nat) (f : RosterRec → RosterRec) : State :=
  let s := s.onMir fun x => { x with roster := x.roster.map fun r => if members.contains r.member then f r else r }
  ((s.rosterRec members).replica).deriveState

/-- A report of a member at the manager (R456). -/
def State.takeReport (s : State) (member record commitId : Nat) : State :=
  s.onRoster [member] fun r => { r with record := record, commitId := commitId, reported := true, missing := false }

/-- COMMIT_ID of a report: the latest manifest's, for a vaulted record (R456). -/
def State.reportCommit (s : State) : Nat :=
  let r := s.reg Reg.SHUTDOWN_RECORD
  if r = Shut.vaultedComplete.code ∨ r = Shut.vaultedShort.code then ((s.spill.manifests.getLast?).map (·.commitId)).getD 0
  else 0

/-- Send REPORT; the manager takes its own (R456). -/
def State.sendReport (s : State) : State :=
  let r := s.reg Reg.SHUTDOWN_RECORD
  if s.mir.role = .manager then s.takeReport (s.reg Reg.MEMBER_NO) r s.reportCommit
  else if s.mir.state = .unsynced ∨ s.mir.state = .synced then
    (s.onMir fun x => { x with reportOwed := false }).sendTo 0x06 0 [r, s.reportCommit, s.reg Reg.MANIFEST_SEQ]
      (toRole := true)
  else s.onMir fun x => { x with reportOwed := decide (x.state = .linking) || decide (x.state = .orphan) }

/-- A unit that has joined sends the REPORT it still owes (R456; DEDUCED, log entry 249). -/
def State.reportJoined (s : State) : State :=
  if s.mir.reportOwed && decide (s.mir.state = .unsynced) then s.sendReport else s

/-- The Mirsen unit at the exit from BRINGUP (R450, R456). -/
def State.mirExit (s : State) : State := (if s.mir.role = .manager then s.nextCgen else s).sendReport

/-! ### Roles (R454, R455) -/

/-- Pending relays are answered ROLE_STALE when the manager steps down (Table 15-8). -/
def State.staleRelays (s : State) : State :=
  let l := s.mir.relays
  l.foldl (fun s q => s.settle q.2 St.ROLE_STALE 0 []) (s.onMir fun x => { x with relays := [] })

/-- Take a role at an epoch; a change of role raises an event (R454). -/
def State.takeRole (s : State) (r : Role) (epoch : Nat) : State :=
  let was := s.mir.role
  if was = r then s
  else
    let s := s.onMir fun x => { x with
      role := r, roleEpoch := epoch
      former := (if was = .manager then [0] else if was = .alternate then [1] else [])
        ++ x.former.filter fun c => !(c == 0 && decide (r = .manager)) && !(c == 1 && decide (r = .alternate)) }
    let s := if was = .manager then (s.staleRelays).onMir fun x => { x with grants := [] } else s
    (s.redepth).raise Ev.ROLE_CHANGE

/-- Appoint as alternate the reachable candidate of lowest MEMBER_NO (R455): `cands` are the members with ROLE_CFG 2 that
are reached. The new epoch goes out in ROLE_ASSIGN (R454). -/
def State.appoint (s : State) (cands : List Nat) : State :=
  let own := s.reg Reg.MEMBER_NO
  let l := cands.filter fun m => m != own && s.mir.roster.any fun r => r.member == m && !r.missing
  let alt := match l with
    | [] => none
    | m :: r => some (r.foldl Nat.min m)
  let s := if alt.isNone then s.fault Src.MIRSEN_ROLE .degraded else s
  let s := s.onMir fun x => { x with manager := some own, alternate := alt }
  let s := (s.addReg Reg.ROLE_EPOCH 1).domainRec
  (s.flood 0x04 [s.reg Reg.ROLE_EPOCH, own, alt.getD 0x7FF]).replica

/-- The unit becomes the manager and serves from its roster (R455, Table 15-7). -/
def State.becomeManager (s : State) (epoch : Nat) : State :=
  let s := (s.takeRole .manager epoch).onMir fun x => { x with
    state := .synced, syncAll := s.reg Reg.DOMAIN_POLICY == 1, query := none, heard := [] }
  match s.mir.replCgen with
  | some c => (s.setReg Reg.CGEN c).domainRec
  | none => s

/-- Take the roles of an epoch as another unit names them (R454); 0x7FF names none. A unit named manager takes over from
its replica (R455). -/
def State.adoptRoles (s : State) (epoch mgr alt : Nat) (cands : List Nat) : State :=
  let own := s.reg Reg.MEMBER_NO
  let some_ := fun m => if m = 0x7FF then none else some m
  let s := s.setReg Reg.ROLE_EPOCH epoch
  let s := s.onMir fun x => { x with manager := some_ mgr, alternate := some_ alt }
  let s := if own = mgr then
      if s.mir.role = .manager then s
      else (((s.becomeManager epoch).appoint cands).fault Src.MIRSEN_ROLE .corrected).syncAll
    else s.takeRole (if own = alt then .alternate else .worker) epoch
  s.domainRec

/-- The manager demotes itself (R455). -/
def State.demote (s : State) : State :=
  ((s.takeRole .worker (s.reg Reg.ROLE_EPOCH)).onMir fun x => { x with manager := none }).fault Src.MIRSEN_ROLE .degraded

/-! ### Taking a message (R446, R453, R454) -/

/-- Firmware handles messages of a port that is up (15_mirsen_domain.md). -/
def State.mirHears (s : State) (port : Nat) : Bool :=
  s.seq.coreUp && decide (s.mgmt.state = .running) && (mget {} s.mir.ports port).up
    && !(decide (s.mir.state = .down) || decide (s.mir.state = .standalone))

/-- Send STALE in answer to a message: own epoch, manager and alternate (R454, R463). -/
def State.sendStale (s : State) (h : MHdr) : State :=
  let r : MHdr := { reply := true, src := s.reg Reg.MEMBER_NO, dst := h.src, epoch := s.reg Reg.ROLE_EPOCH,
                    mseq := h.mseq, domain := s.reg Reg.DOMAIN_ID }
  (s.sendFrame h.port 0x11 r [s.reg Reg.ROLE_EPOCH, s.mir.manager.getD 0x7FF, s.mir.alternate.getD 0x7FF]).fault
    Src.MIRSEN_ROLE .log

/-- Refuse a message with STALE; above the own epoch RESOLVE goes upstream (R454). -/
def State.refuseStale (s : State) (h : MHdr) : State :=
  let s := s.sendStale h
  if s.reg Reg.ROLE_EPOCH < h.epoch then
    match s.upPort with
    | some p =>
      let (q, s) := s.newMsg (mget {} s.mir.ports p).member false false false
      s.sendFrame p 0x12 q []
    | none => s
  else s

/-- The epochs of a message and of this unit disagree (R454). -/
def State.stale (s : State) (h : MHdr) : Bool :=
  decide (h.epoch < s.mir.roleEpoch) || decide (s.reg Reg.ROLE_EPOCH < h.epoch)

/-- The unit holds a role by its code. -/
def State.holds (s : State) (role : Nat) : Bool :=
  if role = 0 then decide (s.mir.role = .manager) else decide (s.mir.role = .alternate)

/-- Pass a frame on by a port. -/
def State.passOn (s : State) (h : MHdr) (type : Nat) (payload : List Nat) : Option Nat → State
  | some p => if p = h.port then s else s.sendFrame p type { h with hops := h.hops + 1 } payload
  | none => s

/-- Take a message: drop it for another domain, pass a flood or a message to another member on, refuse it as stale, or
act on it. `checked` is whether R454 judges its epoch. -/
def State.receive (s : State) (h : MHdr) (type : Nat) (payload : List Nat) (checked : Bool) (body : State → State) :
    State :=
  if !s.mirHears h.port then s
  else if h.domain ≠ s.reg Reg.DOMAIN_ID then s.fault Src.MIRSEN_LINK .log
  else if h.src = s.reg Reg.MEMBER_NO then s
  else
    let s := s.onMir fun x => { x with routes := mput h.src h.port x.routes }
    let act := fun (s : State) => if checked && s.stale h then s.refuseStale h else body s
    if h.flood then
      if s.mir.seen.contains (h.src, h.mseq) then s
      else
        let s := s.onMir fun x => { x with seen := ((h.src, h.mseq) :: x.seen).take 256 }
        act ((s.portsUp.filter (· ≠ h.port)).foldl (fun s p =>
          s.sendFrame p type { h with hops := h.hops + 1 } payload) s)
    else if h.toRole then
      if s.holds h.dst then act s
      else if s.mir.former.contains h.dst then s.refuseStale h
      else s.passOn h type payload (match (if h.dst = 0 then s.mir.manager else s.mir.alternate) with
        | some m => s.routeTo m
        | none => s.upPort)
    else if h.dst ≠ s.reg Reg.MEMBER_NO then s.passOn h type payload (s.routeTo h.dst)
    else act s

/-- The manager's roster at its own start (R446, R456): every member counts as not yet reported. -/
def State.mountDomain (s : State) : State :=
  let rec_ : Option (Nat × Nat × Nat) := s.nvGet fun d => match d with
    | .domain _ _ i c e => some (i, c, e)
    | _ => none
  let s : State := match rec_ with
    | some (i, c, e) => ((s.setReg Reg.DOMAIN_ID i).setReg Reg.CGEN c).setReg Reg.ROLE_EPOCH e
    | none => s
  let own := s.reg Reg.MEMBER_NO
  if own = 0x7FF then s.onMir fun x => { x with state := .standalone }
  else
    let s := s.onMir fun x => { x with state := if x.state = .standalone then .linking else x.state }
    let parts : List (Nat × List RosterRec) := s.nv.visible.filterMap fun r => match r.data with
      | .roster k l => some (k, l)
      | _ => none
    let last := parts.foldl (fun acc p => mput p.1 p.2 acc) ([] : List (Nat × List RosterRec))
    let l : List RosterRec := (last.flatMap (·.2)).map fun r => { r with reported := false, missing := false }
    if s.reg Reg.ROLE_CFG ≠ 1 ∨ l = [] then s
    else s.onMir fun x => { x with
      state := .synced, role := .manager, roleEpoch := s.reg Reg.ROLE_EPOCH, manager := some own, roster := l
      syncAll := s.reg Reg.DOMAIN_POLICY == 1 }

end Sys2Proof.Machine
end

