-- ==== Sys2Proof/Machine/CistOps.lean ====
section
/-! DEFINITION. The Cistern's operations: samples, states, end of discharge, faults, learn cycles, resistance checks,
module identity (10). -/

namespace Sys2Proof.Machine

/-- The other port. -/
def otherPort : PortId → PortId
  | .a => .b | .b => .a

/-- 0 for A, 1 for B. -/
def portIx : PortId → Nat
  | .a => 0 | .b => 1

/-- The fault source of a port (R337). -/
def cistSrc (i : PortId) : Nat := Src.CISTERN_A + portIx i

/-- Change one port's record. -/
def State.onCPort (s : State) (i : PortId) (f : CPort → CPort) : State := s.onCist fun c => match i with
  | .a => { c with a := f c.a }
  | .b => { c with b := f c.b }

/-- PORT_EN_x may be high by the port's state (R507). -/
def CPort.enabled (p : CPort) : Bool :=
  decide (p.state = .charging) || decide (p.state = .ready) || decide (p.state = .discharging)
    || decide (p.state = .learning) || decide (p.state = .learnRecharge)

/-- The converter draws: ASSIST or SOURCE. -/
def ConvMode.draws (m : ConvMode) : Bool := decide (m = .assist) || decide (m = .source)

/-- The converter draws from the port: PORT_EN high and not EMPTY (R316, R324). -/
def State.drawsFrom (s : State) (i : PortId) : Bool :=
  s.seq.mode.draws && !s.seq.convFailed && (s.cist.port i).enabled && !(s.cist.port i).empty
    && !((s.cist.port i).newcomer && decide (s.dev = .kickstand))

/-- Ports the converter draws from (R319). -/
def State.drawn (s : State) : List PortId := [PortId.a, .b].filter fun i => s.drawsFrom i

/-- Millivolts of a reading in 0.5 mV steps, in volts. -/
def volts (v : Int) : Rat := (v : Rat) / 2000

/-- The port is in a discharge by R316, before the second that ends it. -/
def State.pulling (s : State) (i : PortId) : Bool :=
  (s.cist.port i).iwake || (s.cist.port i).learnLoad || s.drawsFrom i

/-- Learn load of a port, Ω. -/
def State.learnOhm (s : State) (i : PortId) : Rat := (s.reg (Reg.LEARN_LOAD_A + portIx i) : Nat) / 1000

/-- I_est in A (R319, Table 10-5), for a reading above 0 V. -/
def State.iEst (s : State) (i : PortId) : Rat :=
  let p := s.cist.port i
  let v := volts p.v
  let n : Rat := Nat.max 1 s.drawn.length
  let eff : Rat := (s.reg Reg.CONV_EFF : Nat) / 1000
  let share := fun (w : Nat) => if v ≤ 0 then 0 else (w : Rat) / (eff * v * n)
  if p.learnLoad then v / s.learnOhm i
  else if s.drawsFrom i then
    if s.seq.mode = .source then
      if s.dev = .kickstand then share (s.reg Reg.KICK_P_HOLD) else share (s.reg Reg.P_VAULT_CARD)
    else share (s.reg Reg.P_RUN_CARD)
  else if p.iwake then (s.reg Reg.IWAKE_THRESHOLD : Nat) / 1000
  else 0

/-- R_mod at a state and a port power, Ω (R318). -/
def State.rMod (s : State) (p : CPort) (m : ModTable) (st pw : Rat) : Rat :=
  atState (resAxis m p.temp pw) st * resFactor p (s.reg Reg.NOMINAL_R_DERATE)

/-- Sample period in seconds (R315). -/
def State.samplePeriod (s : State) (i : PortId) : Rat :=
  if (s.cist.port i).learnLoad || (s.drawsFrom i && decide (s.seq.mode = .source)) then 1 / 1000
  else if s.cist.hibernating then (s.reg Reg.HIBERNATE_PERIOD : Nat) / 1000
  else (s.reg Reg.AWAKE_PERIOD : Nat) / 1000

/-- The energy of R323 for a port. -/
def State.portEnergy (s : State) (p : CPort) (m : ModTable) (sFrom pw : Rat) : Nat :=
  energy p m sFrom pw p.temp (s.reg Reg.CONV_EFF) (s.reg Reg.NOMINAL_Q_DERATE) (s.reg Reg.NOMINAL_R_DERATE)
    (s.reg Reg.SUSPECT_DERATE)

/-- p_rem of R323, W. -/
def State.pRem (s : State) (i : PortId) : Rat :=
  if s.seq.mode = .source ∧ s.drawsFrom i then
    (s.reg Reg.CONV_EFF : Nat) / 1000 * (s.iEst i * volts (s.cist.port i).v)
  else
    let n := ([PortId.a, .b].filter fun j => decide ((s.cist.port j).state = .ready)
      || decide ((s.cist.port j).state = .charging) || decide ((s.cist.port j).state = .discharging)).length
    (s.reg Reg.P_VAULT_CARD : Nat) / (Nat.max 1 n : Nat)

/-! ### Learn cycles (R326 to R328) -/

/-- Clear the end of a learn: tokens released, the exclusion and ACK_LEARN over (R326, R327). -/
def State.learnDone (s : State) (i : PortId) : State :=
  let s := s.onCPort i fun p => { p with
    learn := .none, learnLoad := false, ackLearn := false, learnAck := false, learnCut := false, learnOk := false }
  if s.cmd.learnPort = some i then
    (s.actEnd 1).onCmd fun c => { c with learnPort := none, learnAck := false }
  else s

/-- End a learn in hand without a result (R327): the load off, the port excluded until its recharge completes. After
the learn discharge has had its result, nothing is left to lose but the final check. -/
def State.cutLearn (s : State) (i : PortId) (result : Nat) : State :=
  let p := s.cist.port i
  if p.learn = .none then s
  else
    let judged := decide (p.state = .learnRecharge) && decide (p.learn ≠ .restEnd)
    let s := s.onCPort i fun p => { p with
      learnLoad := false, learn := .recharge, learnCut := true, vBefore := none
      state := if p.state = .learning then .learnRecharge else p.state }
    let s := if judged then s
      else (s.setReg (Reg.LEARN_RESULT_A + portIx i) result).fault (cistSrc i) .log
    (s.actEnd 1).onCmd fun c => { c with learnPort := none, learnAck := false }

/-- End whatever learn runs, on either port. -/
def State.cutLearns (s : State) (result : Nat) : State := (s.cutLearn .a result).cutLearn .b result

/-- The protection conditions of Table 10-6 for a learn of a port: first form, or the second when acknowledged. -/
def State.learnCovered (s : State) (i : PortId) (ack : Bool) : Bool :=
  let o := s.cist.port (otherPort i)
  let e := energyCeiling (o.eUse - s.tokensOff) (s.reg Reg.E_FIXED) (s.reg Reg.E_BYTE) (s.reg Reg.WEIR_MARGIN)
  ack || (decide (o.state = .ready) && decide (s.reg Reg.TARGET_FILL ≤ e)
    && decide (s.basin.dirtyBytes ≤ e * MiB) && decide (s.reg Reg.WEIR_FLOOR ≤ e))

/-- The conditions of Table 10-6 before the grant. -/
def State.learnReady (s : State) (i : PortId) (ack : Bool) : Bool :=
  let p := s.cist.port i
  decide (s.dev = .online) && decide (p.state = .ready) && !p.empty && (p.table.any fun m => m.usable)
    && s.learnCovered i ack && decide ((s.cist.port (otherPort i)).learn = .none)

/-- A learn begins: the port is LEARNING and charges to V_FULL first, unless it stands charged (R327). -/
def State.learnStart (s : State) (i : PortId) (ack : Bool) : State :=
  let full := s.seq.chgDone.contains i
  (s.onCPort i fun p => { p with
    state := .learning, learn := if full then .restFull else .chargeFull, ackLearn := ack, learnAck := ack
    learnOk := false, learnCut := false, check := .none, learnLoad := false, vBefore := none }).setConv

/-- Ask the arbiter for a learn of a port (R326); `o` is the request's handle. -/
def State.learnRequest (s : State) (i : PortId) (ack : Bool) (o : Owed) : Done :=
  if !s.learnReady i ack || decide ((s.cmd.act 1).state ≠ .idle) then { s := s, status := St.INVALID_STATE }
  else
    let s := s.onCmd fun c => { c with learnPort := some i, learnAck := ack }
    let d := s.actRequest 1 o
    if d.later || decide (d.status = St.SUCCESS) then d
    else { d with s := d.s.onCmd fun c => { c with learnPort := none, learnAck := false } }

/-- LEARN_START (Table 14-4). -/
def specLearnStart : VSpec :=
  { op := 0xC211, transports := [0, 1, 2, 3, 4], ok := classN, persist := fun _ _ => true, count := (· == 1) }

/-- A learn that management firmware asks for itself, in ONLINE (R326, R439): a LEARN_START on transport 6. -/
def State.learnOwn (s : State) (i : PortId) : State :=
  if s.dev = .online then
    s.vendor { specLearnStart with transports := [6] } (ownPkt 0xC211 [portIx i]) (fun o s => s.learnRequest i false o)
  else s

/-- Judge a learn at the end of its second rest (R328). -/
def State.learnJudge (s : State) (i : PortId) : State :=
  let p := s.cist.port i
  match p.table with
  | none => s
  | some m =>
    let d := p.s0 - p.sv
    let q := if d = 0 then 0 else p.q / d
    let lo : Rat := (s.reg Reg.LEARN_ACCEPT_MIN : Nat) / 100 * m.qNom
    let hi : Rat := (s.reg Reg.LEARN_ACCEPT_MAX : Nat) / 100 * m.qNom
    if (9 : Rat) / 10 ≤ d ∧ lo ≤ q ∧ q ≤ hi then
      let rf := max 1 (p.rStep / atState (resAxis m p.temp (m.rate.headD 0 : Nat)) p.s0)
      let l : Learned := {
        port := i, idBound := p.id.isSome, tableId := m.tableId, serial := (p.id.map (·.serial)).getD 0
        qLearn := q, resFactor := rf, tauRelax := (p.learned.map (·.tauRelax)).getD 0
        learnDay := s.reg Reg.DAY_OF_SERVICE, learnCount := p.learnCount + 1, eLearn := p.e.floor.toNat }
      let s := (s.onCPort i fun p => { p with
        learned := some l, swapSuspect := false, relearnRec := false, learnOk := true
        learnCount := p.learnCount + 1, savedRes := rf, pendingRec := some l }).setReg (Reg.LEARN_RESULT_A + portIx i) 1
      if q * 100 < (s.reg Reg.WORN_FRAC : Nat) * m.qNom then
        (s.fault (cistSrc i) .degraded).raise Ev.MODULE_WORN
      else s
    else (s.setReg (Reg.LEARN_RESULT_A + portIx i) 2).fault (cistSrc i) .log

/-- Record a new RES_FACTOR: in the learned record, else as the check's own; pending when it has moved by more than
1/64 from the record's (R329, R330). -/
def State.setResFactor (s : State) (i : PortId) (f : Rat) : State :=
  s.onCPort i fun p => match p.learned with
    | some l =>
      let l := { l with resFactor := f }
      let p := { p with learned := some l }
      if (1 : Rat) / 64 < |f - p.savedRes| then { p with pendingRec := some l, savedRes := f } else p
    | none => { p with checkRes := f }

/-- Append a pending learned record to the NV Store when R330 permits: the input at or above LEARN_WB_V, no early
warning within LEARN_WB_QUIET. The append needs the NV layer. -/
def State.writePending (s : State) (i : PortId) : State :=
  match (s.cist.port i).pendingRec with
  | none => s
  | some l =>
    let quiet := match s.cist.lastEw with
      | some t => decide (t + s.reg Reg.LEARN_WB_QUIET ≤ s.now)
      | none => true
    let healthy := match s.inputMv with
      | some v => decide (s.reg Reg.LEARN_WB_V ≤ v)
      | none => false
    if quiet && healthy && decide (s.nv.state = .running) then
      (s.nvWrite (.learned l.stored)).onCPort i fun p => { p with pendingRec := none }
    else s

/-! ### Faults and removal (R331, R333) -/

/-- A port leaves service: DISABLED, LATCHED_OFF, ZERO or ABSENT. A learn ends: removal or a connection fault on
either port (R327). -/
def State.portOut (s : State) (i : PortId) (st : CistState) (z : Option ZeroCause) : State :=
  let s := s.cutLearns 3
  s.onCPort i fun p => { p with
    state := st, zeroCause := z, eUse := 0, eRem := 0, learn := .none, learnLoad := false, learnCut := false
    ackLearn := false, check := .none, goodRun := 0, relaxed := false, discharge := false
    empty := if st = .absent then false else p.empty
    overVoltage := if st = .absent then false else p.overVoltage
    distrusted := false, disagreeRun := 0, newcomer := false }

/-- A connection fault (Table 10-8, Table 10-11). -/
def State.portFault (s : State) (i : PortId) (st : CistState) (z : Option ZeroCause) : State :=
  (s.portOut i st z).fault (cistSrc i) .degraded

/-- A module removed (R331): the port is ABSENT. -/
def State.portAbsent (s : State) (i : PortId) : State :=
  (s.portOut i .absent none).onCPort i fun p => { p with
    id := none, table := none, sv := 0, sm := 0, soc := 0 }

/-- The condition of ZERO a sample shows (Table 10-8): the sense bias moved the reading, the NTC is out of range, or
the module is below its table's lowest temperature. -/
def zeroCondition (p : CPort) (temp : Int) (moved : Bool) : Option ZeroCause :=
  if moved then some .openSense
  else if temp < -40 ∨ 125 < temp then some .ntc
  else match p.table with
    | some m => if temp < m.temp.headD 0 then some .cold else none
    | none => none

/-- Whether a port needs charge: its voltage is below V_FULL and its charge has not terminated. -/
def State.needsCharge (s : State) (i : PortId) : Bool :=
  match (s.cist.port i).table with
  | some m => decide (volts (s.cist.port i).v * 1000 < (m.vFull : Nat)) && !s.seq.chgDone.contains i
  | none => false

/-! ### The estimate (R318 to R325) -/

/-- One estimate of a port in service from the sample it holds (R320 to R325, R357: I_chg is HOLDUP_ICHG); `dup` is the
duplicate computation's E_use and E_rem where it differs. -/
def State.estimate (s : State) (i : PortId) (m : ModTable) (dup : Option (Nat × Nat)) (dt : Rat) : State :=
  let p := s.cist.port i
  let v := volts p.v
  let t : Rat := p.temp
  let cur := s.iEst i
  let pw := cur * v
  let r := s.rMod p m p.sv pw
  let dis := p.discharge
  let chg := !dis && decide (s.seq.mode = .charge) && (decide (p.state = .charging)
    || decide (p.learn = .chargeFull) || decide (p.learn = .recharge))
  let ocvEst := if dis then v + cur * r else if chg then v - (s.reg Reg.HOLDUP_ICHG : Nat) / 1000 * r else v
  let ovr := p.overVoltage
  let sv := if ovr then 1 else stateAt (ocvAxis m t) ocvEst
  let q := qUsed p m (s.reg Reg.NOMINAL_Q_DERATE) (s.reg Reg.SUSPECT_DERATE)
  let sm :=
    if dis then p.sm - cur * 1000 * dt / q
    else if chg then if m.flat then p.sm else sv
    else if p.relaxed then
      if m.flat ∧ (m.plateauLo : Rat) / 1000 ≤ sv ∧ sv ≤ (m.plateauHi : Rat) / 1000 then
        p.sm - (m.selfDis : Rat) / 100000 * dt / 86400
      else sv
    else p.sm
  let plan := max 0 (min sv sm)
  let eU := s.portEnergy p m plan (s.reg Reg.P_VAULT_CARD : Nat)
  let eR := s.portEnergy p m sv (s.pRem i)
  -- The duplicate disagrees by more than 1 % of the primary: the lower figure is used (Table 10-11).
  let bad := match dup with
    | some (u, w) => decide (eU < 100 * (eU - u + (u - eU))) || decide (eR < 100 * (eR - w + (w - eR)))
    | none => false
  let eU := match dup with | some (u, _) => if bad then Nat.min eU u else eU | none => eU
  let eR := match dup with | some (_, w) => if bad then Nat.min eR w else eR | none => eR
  let run := if bad then p.disagreeRun + 1 else 0
  let agree := if bad then 0 else p.agreeRun + 1
  let distrusted := decide (10 ≤ run) || (p.distrusted && decide (agree < 10))
  let soc := if dis then min p.soc plan else plan
  let eU := if dis then Nat.min p.eEst eU else eU
  -- The end of discharge (R324); the learn load's discharge has its own end (R327).
  let vEod : Rat := (m.vEodMin : Nat) / 1000 + cur * s.rMod p m sv pw
  let ended' := dis && !(p.learnLoad && decide (p.learn ≠ .none)) && decide (v ≤ vEod)
  let ax := axesOf p m t (s.reg Reg.P_VAULT_CARD : Nat) (s.reg Reg.NOMINAL_R_DERATE)
  let above := match sEnd ax ((s.reg Reg.CONV_EFF : Nat) / 1000) (s.reg Reg.P_VAULT_CARD : Nat) m.vEodMin with
    | some e0 => decide (e0 < sv)
    | none => false
  let empty := ended' || (p.empty && !(chg && above))
  let clash := dis && !p.conflictSeen && decide ((s.reg Reg.CONFLICT_MARGIN : Rat) / 1000 < |sv - sm|)
  let s := s.onCPort i fun p => { p with
    sv := sv, sm := sm, soc := soc, eEst := eU
    eUse := if empty || distrusted then 0 else eU
    eRem := if empty then 0 else eR
    empty := empty, disagreeRun := run, agreeRun := agree, distrusted := distrusted
    conflict := p.conflict || clash, conflictSeen := p.conflictSeen || clash
    relearnRec := p.relearnRec || clash }
  let s := if bad then s.fault (cistSrc i) (if run = 10 then .degraded else .corrected) else s
  if clash then
    (s.fault (cistSrc i) .log).raise Ev.VOLTAGE_MODEL_CONFLICT 0 0
      [(sv * 1000).floor.toNat, twos 48 (sm * 1000).floor, p.estSeq % 2 ^ 32]
  else s

/-- A sample of the learn discharge (R327): r_step at the first, charge and energy counted, and the load goes off when
it is over. -/
def State.learnSample (s : State) (i : PortId) (m : ModTable) (dt : Rat) : State :=
  let p := s.cist.port i
  if p.learn ≠ .discharge ∨ !p.learnLoad then s
  else
    let v := volts p.v
    let rl := s.learnOhm i
    let rs := match p.vBefore with
      | some vb => if v = 0 then 0 else (vb - v) / (v / rl)
      | none => p.rStep
    let stop := decide (v * (1 + rs / rl) ≤ (m.vEmpty : Rat) / 1000) ||
      decide (v ≤ (95 : Rat) / 100 * ((m.vEodMin : Rat) / 1000))
    s.onCPort i fun p => { p with
      rStep := rs, vBefore := none, q := p.q + v / rl * dt * 1000, e := p.e + v * v / rl * dt * 1000
      learnLoad := !stop, learn := if stop then .restEnd else .discharge
      state := if stop then .learnRecharge else p.state }

/-- A sample of a resistance check's pulse (R329): r_step at the first sample after switch-on. -/
def State.checkSample (s : State) (i : PortId) : State :=
  let p := s.cist.port i
  match p.vBefore with
  | some vb =>
    if (p.check = .pulse ∨ p.learn = .pulse) ∧ p.learnLoad then
      let v := volts p.v
      s.onCPort i fun p => { p with
        rStep := if v = 0 then 0 else (vb - v) / (v / s.learnOhm i), vBefore := none }
    else s
  | none => s

/-- Discharge and charge as a sample finds them (R316, Table 10-9). -/
def State.portMove (s : State) (i : PortId) : State :=
  let p := s.cist.port i
  let pull := s.pulling i
  let s := if pull && !p.discharge then
      (s.onCPort i fun p => { p with discharge := true, conflictSeen := false }).onSeq fun x =>
        { x with chgDone := x.chgDone.filter fun j => j != i }
    else s
  let s := if pull then s.onCPort i fun p => { p with relaxed := false } else s
  let p := s.cist.port i
  match p.state with
  | .charging | .ready =>
    if pull && !p.learnLoad then s.onCPort i fun p => { p with state := .discharging }
    else if p.state = .ready ∧ !p.discharge ∧ p.check = .none ∧ s.needsCharge i ∧ s.spill.present then
      (s.onCPort i fun p => { p with state := .charging, relaxed := false }).setConv
    else s
  | _ => s

/-- The table in a slot of the NV Store (R314); slot 0 of a commissioned card holds the reference module's until
another is written (DESIGN CHOICE, log entry 9). -/
def State.tableSlot (s : State) (k : Nat) : Option ModTable :=
  let t := s.nvGet fun x => match x with
    | .moduleTable j t => if j = k then some t else none
    | _ => none
  t.or (if k = 0 then some {} else none)

/-- The table a port uses: the one its ID names, else the one in its slot (R313). -/
def State.tableFor (s : State) (i : PortId) (id : Option ModId) : Option ModTable :=
  let t := match id with
    | some d => ((List.range 8).filterMap fun k => s.tableSlot k).find? fun (t : ModTable) => t.tableId == d.tableId
    | none => s.tableSlot (s.reg (Reg.TABLE_SLOT_A + portIx i))
  t.filter fun m => m.usable && m.accepted

/-- A voltage and temperature sample of a port (R315 to R337). `v` is the reading in 0.5 mV steps, `moved` says that
the sense bias moved it (Table 10-8). -/
def State.sample (s : State) (i : PortId) (v temp : Int) (moved : Bool) (dup : Option (Nat × Nat)) : State :=
  if !s.seq.aonUp then s
  else
    let dt := s.samplePeriod i
    let s := (s.onCPort i fun p => { p with v := v, temp := temp, estSeq := p.estSeq + 1 }).onWeir fun w =>
      match i with | .a => { w with staleA := false } | .b => { w with staleB := false }
    if !s.cist.loaded then s.onCPort i fun p => { p with state := .identifying, eUse := 0, eRem := 0 }
    else
      let reversed := decide (v < -1000)
      let low := decide (v < 2 * (s.reg Reg.PORT_ABSENT_V : Int))
      let s := s.onCPort i fun p => { p with
        reverseRun := if reversed then p.reverseRun + 1 else 0
        absentRun := if low && !reversed then p.absentRun + 1 else 0 }
      let p := s.cist.port i
      if 3 ≤ p.reverseRun then if p.state = .disabled then s else s.portFault i .disabled none
      else if 3 ≤ p.absentRun then if p.state = .absent then s else s.portAbsent i
      else if reversed || low then s.onCPort i fun p => { p with eUse := 0, eRem := 0 }
      else match p.state with
      | .absent => s.onCPort i fun p => { p with state := .identifying, inserted := true }
      | .identifying | .disabled | .latchedOff => s
      | .zero =>
        let run := if (zeroCondition p temp moved).isSome ∨ s.seq.convFailed then 0 else p.goodRun + 1
        let clear := if p.zeroCause = some .noTable then (s.tableFor i p.id).isSome else decide (10 ≤ run)
        if clear then
          s.onCPort i fun p => { p with state := .identifying, zeroCause := none, goodRun := 0 }
        else s.onCPort i fun p => { p with goodRun := run }
      | _ => match (if s.seq.convFailed then some ZeroCause.converter else zeroCondition p temp moved), p.table with
        | some z, _ => s.portFault i .zero (some z)
        | none, none => s.portFault i .zero (some .noTable)
        | none, some m =>
          let ovr := decide (105 * (m.vFull : Int) < 50 * v) ||
            (p.overVoltage && decide (2 * (m.vFull : Int) < v))
          let s := if ovr && !p.overVoltage then s.fault (cistSrc i) .degraded else s
          let s := (s.onCPort i fun p => { p with overVoltage := ovr }).portMove i
          let s := (s.estimate i m dup dt).checkSample i
          let s := s.learnSample i m dt
          let p := s.cist.port i
          -- The conditions of Table 10-6 are judged at every sample of either port.
          let s := [PortId.a, .b].foldl (fun s j =>
            let q := s.cist.port j
            if q.state = .learning ∧ (s.dev ≠ .online ∨ q.empty ∨ !s.learnCovered j q.learnAck) then s.cutLearn j 4
            else s) s
          if p.overVoltage then s.setConv else s

/-! ### Identity (R332) and the end of waits -/

/-- Set the learned record aside: the NOMINAL row of Table 10-4 (R332). -/
def CPort.setAside (p : CPort) : CPort :=
  { p with
    learned := none, checkRes := 1, savedRes := 1, relearnRec := true, pendingRec := none, learnCount := 0 }

/-- The read of the module ID completes and identity resolves (R312, R313, R332, Table 10-7b). PORT_EN is never raised
on a reading below 0 V (Table 10-8): the port then stays IDENTIFYING until it is read again. At a
BRINGUP the device of a port already in service is read too, and its state stays. -/
def State.idRead (s : State) (i : PortId) (id : Option ModId) : State :=
  let p := s.cist.port i
  let fresh := decide (p.state = .identifying)
  if !s.cist.loaded ∨ !s.seq.aonUp ∨ !(fresh || (decide (s.dev = .bringup) && p.enabled)) ∨ (fresh ∧ p.v < 0) then s
  else
    let s := s.onCPort i fun p => { p with id := id, table := s.tableFor i id }
    let s := match id, p.learned with
      | some d, some l =>
        if l.idBound ∧ l.serial = d.serial then s
        else ((s.onCPort i CPort.setAside).fault (cistSrc i) .log).raise Ev.MODULE_SWAPPED
      | some _, none => s
      | none, _ =>
        if p.inserted then
          ((s.onCPort i fun p => { p with swapSuspect := true }).fault (cistSrc i) .log).raise Ev.SWAP_SUSPECT
        else s
    let s := s.onCPort i fun p => { p with inserted := false }
    if (s.cist.port i).table.isNone then s.portFault i .zero (some .noTable)
    else if !fresh then s
    else
      -- The model state starts from the first voltage state (s_v at rest).
      let s := match (s.cist.port i).table with
        | some m => s.onCPort i fun p =>
          let sv := stateAt (ocvAxis m p.temp) (volts p.v)
          { p with sv := sv, sm := sv, soc := sv, relaxed := false
                   eEst := s.portEnergy p m sv (s.reg Reg.P_VAULT_CARD : Nat) }
        | none => s
      -- Identified during a hold, the port is READY only after a charge, which the hold's lack of input bars (Table 10-10).
      let hold := decide (s.dev = .kickstand)
      (s.onCPort i fun p => { p with
        state := if s.needsCharge i || hold then .charging else .ready, newcomer := hold }).setConv

/-- The learn load goes off and a check in hand stops, changing nothing: an early warning or a commit (R327, R329). -/
def State.stopChecks (s : State) : State :=
  s.onCist fun c =>
    let f := fun (p : CPort) => if p.check = .none then p
      else { p with check := .none, learnLoad := false, vBefore := none }
    { c with a := f c.a, b := f c.b }

/-- What the Cistern does at an early warning (R327, R329, R330). -/
def State.cistWarned (s : State) : State :=
  (s.cutLearns 3).stopChecks.onCist fun c => { c with lastEw := some s.now }

/-- What the Cistern does at a commit (R327, Table 10-10): learns and checks end; a port in LEARN_RECHARGE is
DISCHARGING, its exclusion over. -/
def State.cistCommit (s : State) : State :=
  (s.cutLearns 3).stopChecks.onCist fun c =>
    let f := fun (p : CPort) => if p.state = .learnRecharge then
        { p with state := .discharging, discharge := true, learn := .none, learnCut := false, ackLearn := false }
      else p
    { c with a := f c.a, b := f c.b }

/-- A port whose module the converter's failure takes to ZERO. -/
def CistState.inService : CistState → Bool
  | .absent | .disabled | .latchedOff | .zero => false
  | _ => true

/-- Judge the converter by its pins and its mode (R359): it is failed while HOLDUP_FAULT_N is low, or HOLDUP_PG is low in
ASSIST or SOURCE. A failure takes both ports to ZERO and, as a port fault, ends a hold (Table 7-2). -/
def State.convJudge (s : State) : State :=
  let bad := !s.seq.faultN || (!s.seq.holdupPg && s.seq.mode.draws)
  if !bad then s.onSeq fun x => { x with convFailed := false }
  else if s.seq.convFailed then s
  else
    let sv := if s.seq.mode = .source ∧ s.dev = .vaulting then Sev.fatal else .degraded
    let s := (s.onSeq fun x => { x with convFailed := true }).fault Src.HOLDUP_CTL sv
    let s := [PortId.a, .b].foldl (fun s i =>
      if (s.cist.port i).state.inService then s.portOut i .zero (some .converter) else s) s
    if s.dev = .kickstand ∧ s.sip.hold.state = .holding then s.endHoldDown 4 .broken else s

/-- A port returns to IDENTIFYING: PORT_CLEAR (Table 10-8). -/
def State.portClear (s : State) (i : PortId) : State :=
  s.onCPort i fun p => { p with state := .identifying, currentLimit := false }

end Sys2Proof.Machine
end

