-- ==== Sys2Proof/Machine/WheelOps.lean ====
section
/-! DEFINITION. Operations of the wheels and the Reservoir: planning bands, opening wheels, placing units, erasures,
lost wheels, the wheel journal, retirement and erasing (08, 09). -/

namespace Sys2Proof.Machine

/-- d of new bands of a stream (R268). -/
def State.spokesOf (s : State) (st : Stream) : Nat := match st with
  | .v => s.reg Reg.RESERVE_DATA_SPOKES
  | _ => s.reg Reg.POOL_DATA_SPOKES

/-- Landing blocks the buffer may hold: LAND_SIZE over the raw size of a block (R150). -/
def State.landingMax (s : State) : Nat := s.reg Reg.LAND_SIZE * GiB / Nat.max 1 s.res.part.blockBytes

/-- Recompute LAND_SIZE (R150): B in GiB of raw blocks, rounded down. -/
def State.setLandSize (s : State) : State :=
  let raw := s.res.rawBlocks * s.res.part.blockBytes
  let frac := s.reg Reg.LAND_MAX * 10000 - (s.reg Reg.LAND_MAX - s.reg Reg.LAND_MIN) * s.res.occ
  s.setReg Reg.LAND_SIZE (raw * frac / (10000 * 10000) / GiB)

/-- Where a stream's next band is planned, and whether in SLC mode (R150, R258). -/
def State.regionFor (s : State) (st : Stream) : Region × Bool := match st with
  | .l | .f =>
    if s.res.landing + s.spokesOf st + 2 ≤ s.landingMax then (.landing, true) else (.pool, false)
  | .g => (.pool, false)
  | .c => (.checkpoint, true)
  | .v => (.reserve, true)

/-- Mark the blocks of a new band planned. -/
def Reservoir.plan (r : Reservoir) (rg : Region) (base : Nat) (sp : List Spoke) : Reservoir :=
  sp.foldl (fun r p => r.setBlk p.key { r.blk p.key with region := rg, band := some base }) r

/-- Lay out a band: spokes, BASE; none when no block or slot is left (R270, R274). -/
def State.layBand (s : State) (st : Stream) (rg : Region) (slc : Bool) (lane planSeq set : Nat) : Option State :=
  let d := s.spokesOf st
  let w := d + 2
  let rows := s.res.part.rows slc
  let src := match rg with | .landing => Region.pool | x => x
  (s.whl.freeBase (slotsOf rows)).bind fun base =>
    (pickSpokes s.res (s.barred st) (w * planSeq % 32) src w 0 []).map fun sp =>
      let b : Band := { base := base, stream := st, slc := slc, d := d, lane := lane, planSeq := planSeq,
                        spokes := sp, rows := rows, set := set }
      { s with whl := { s.whl with bands := mput base b s.whl.bands }, res := s.res.plan rg base sp }

/-- The record of a band of a type: its planned spokes, or its last row (R275). -/
def Band.record (b : Band) (type : Nat) : BandRec :=
  { type := type, stream := b.stream, slc := b.slc, d := b.d, base := b.base, lane := b.lane, planSeq := b.planSeq
    spokes := if type = 1 then b.spokes else [], lastRow := if type = 2 then b.ended.getD 0 else 0 }

/-- The SUBST record of a column replaced from a row on (R275). -/
def Band.substRecord (b : Band) (column fromRow reason : Nat) (p : Spoke) : BandRec :=
  { b.record 3 with column := column, fromRow := fromRow, newSpoke := some p, reason := reason }

/-- Bands of a stream planned and not opened. -/
def Wheels.unopened (x : Wheels) (st : Stream) : List Band :=
  (x.bands.filter fun p => decide (p.2.stream = st) && !p.2.opened && p.2.ended.isNone).map (·.2)

/-- Append band records until 16 planned bands of a stream are unopened, or no block is left (R274). -/
def State.ensurePlan (s : State) (st : Stream) : Nat → State
  | 0 => s
  | n + 1 =>
    if 16 ≤ (s.whl.unopened st).length then s
    else
      let pos := s.whl.pos st
      let lane := pos.planSeq % lanesOf s.res st (s.spokesOf st + 2)
      let (rg, slc) := s.regionFor st
      match s.layBand st rg slc lane pos.planSeq 0 with
      | none => s
      | some s =>
        let base := ((s.whl.unopened st).map fun b => if b.planSeq = pos.planSeq then b.base else 0).foldl Nat.max 0
        let s := { s with whl := s.whl.setPos st { pos with planSeq := pos.planSeq + 1 } }
        (match s.whl.band base with
          | some b => s.nvWrite (.band (b.record 1))
          | none => s).ensurePlan st n

/-- Lay out the bands of the first reserve set of which no row has been programmed (R274). Its bands' RESERVE
records are carried by the reserve descriptor (DEDUCED, log entry 22). -/
def State.openSet (s : State) : Option State :=
  match s.whl.sets.find? fun p => !p.2 with
  | none => none
  | some (n, _) =>
    let lanes := lanesOf s.res .v (s.spokesOf .v + 2)
    let s := { s with whl := { s.whl with
      sets := s.whl.sets.map fun p => if p.1 == n then (n, true) else p, setNow := some n,
      v := { s.whl.v with lanes := [], turn := 0 } } }
    (List.range lanes).foldl (fun o l => o.bind fun s => s.layBand .v .reserve true l (n * 256 + l) n) (some s)

/-- The next unopened band of a stream's plan. -/
def Wheels.nextBand (x : Wheels) (st : Stream) : Option Band :=
  (x.unopened st).foldl (fun acc b => match acc with
    | some a => if b.planSeq < a.planSeq then some b else acc
    | none => some b) none

/-- Put a stream's next band into a lane (R273, R274). -/
def State.takeBand (s : State) (st : Stream) (lane : Nat) : Option State :=
  let s := match st with
    | .v => if s.whl.unopened .v = [] then s.openSet else some s
    | _ => some (s.ensurePlan st 32)
  s.bind fun s => (s.whl.nextBand st).map fun b =>
    let p := s.whl.pos st
    let p := { p with lanes := mput lane b.base p.lanes }
    s.onWhl fun x => { x with bands := mput b.base { b with opened := true } x.bands }.setPos st p

/-- Accumulators a stream may still take (R146, R277). -/
def State.accumFree (s : State) (st : Stream) : Nat :=
  let n := fun (t : Stream) => (s.whl.table.filter fun p =>
    decide (p.2.state = .open_) && !p.2.parity && decide (p.2.stream = t)).length
  match st with
  | .l | .f => s.reg Reg.RILL_WB_WHEELS - (n .l + n .f)
  | .g => s.reg Reg.RILL_GC_WHEELS - n .g
  | .c => 1 - n .c
  | .v => 64 - s.whl.accum

/-- Note the programming of a row on the blocks of a band (R254, R262). -/
def Reservoir.row (r : Reservoir) (b : Band) (row day : Nat) : Reservoir :=
  ((List.range b.spokes.length).filterMap fun c => b.spoke row c).foldl (fun r p =>
    let k := r.blk p.key
    if k.state = .retired then r
    else r.setBlk p.key { k with
      state := if row + 1 = b.rows then .closed else .allocated, slc := b.slc, progDay := day, scrubs := 0 }) r

/-- Replace, from the next row on, the blocks of a stream V band that take no further strip: those of dropped, excluded or
retired targets and retired blocks, each by an erased reserve block of its channel (R189, Table 9-1). -/
def State.substV (s : State) (b : Band) : State × Band :=
  (List.range b.spokes.length).foldl (fun (s, b) c => match b.spoke b.next c with
    | some p =>
      if s.spill.dropped.contains p.port || s.spill.noSlc.contains p.port || spokeDown s.res p ||
          decide ((s.res.blk p.key).state = .retired) then
        match (bandLun s.res (s.barred .v ++ s.spill.dropped) (p.port / 16) .reserve).bind fun l =>
            (s.res.pick l .reserve).map fun n => ({ port := l / 4, lun := l % 4, block := n } : Spoke) with
        | some q =>
          let b : Band := { b with subst := b.subst ++ [(c, b.next, q)] }
          let s : State := { s with
            res := s.res.plan .reserve b.base [q], whl := { s.whl with bands := mput b.base b s.whl.bands } }
          (s.nvWrite (.band (b.substRecord c b.next 2 q)), b)
        | none => (s, b)
      else (s, b)
    | none => (s, b)) (s, b)

/-- Columns of a band whose block for the next row is retired: erasures from the start. -/
def State.deadCols (s : State) (b : Band) : List Nat :=
  (List.range b.spokes.length).filter fun c => (b.spoke b.next c).any fun p => decide ((s.res.blk p.key).state = .retired)

/-- Open the next wheel of a stream (R272, R273, R284): answers its number. -/
def State.openWheel (s : State) (st : Stream) : Option (Nat × State) :=
  if s.accumFree st = 0 then none
  else
    let pos := s.whl.pos st
    let lane := pos.turn
    let ready := match pos.lanes.find? fun p => p.1 == lane with
      | some (_, base) => match s.whl.band base with
        | some b => decide (b.next < b.rows) && b.ended.isNone && decide (b.stream = st)
        | none => false
      | none => false
    let s := if ready then some s else s.takeBand st lane
    s.bind fun s =>
      let pos := s.whl.pos st
      match (pos.lanes.find? fun p => p.1 == lane).bind fun p => s.whl.band p.2 with
      | none => none
      | some b =>
        let (s, b) : State × Band := if st = .v then s.substV b else (s, b)
        let n := b.base * 512 + b.next
        let lanes := lanesOf s.res st (b.d + 2)
        let w : Wheel := { stream := st, slc := b.slc, d := b.d, strips := b.d, band := b.base, erasures := s.deadCols b
                           order := s.whl.orders + 1 }
        let whl : Wheels := match pos.cur with
          | some c => s.whl.upd c fun x => { x with successor := some n }
          | none => s.whl
        let whl : Wheels := { whl with
          table := mput n w whl.table, orders := whl.orders + 1
          bands := mput b.base { b with next := b.next + 1 } whl.bands,
          pending := if st = .v then whl.pending
            else whl.pending ++ [{ wheel := n, type := .open_, stream := st }] }
        some (n, { s with
          whl := whl.setPos st { pos with turn := (lane + 1) % lanes, cur := some n },
          res := s.res.row b b.next (s.reg Reg.DAY_OF_SERVICE) })

/-- Place `n` units of a stream in consecutive data unit positions (R143, R144): the stretches they take. -/
def State.placeFuel (s : State) (st : Stream) : Nat → Nat → List (Nat × Nat × Nat) →
    Option (List (Nat × Nat × Nat) × State)
  | _, 0, acc => some (acc, s)
  | 0, _, _ => none
  | f + 1, n, acc =>
    let room : Option (Nat × Wheel) := match (s.whl.pos st).cur with
      | some c => match s.whl.wheel c with
        | some w => if w.state = .open_ && !w.issued then some (c, w) else none
        | none => none
      | none => none
    match room with
    | some (c, w) =>
      let k := Nat.min n (16 * w.d - w.filled)
      let whl := s.whl.upd c fun w =>
        { w with filled := w.filled + k, units := w.units + k, issued := decide (16 * w.d ≤ w.filled + k) }
      { s with whl := whl }.placeFuel st f (n - k) (acc ++ [(c, w.filled, k)])
    | none => match s.openWheel st with
      | some (_, s) => s.placeFuel st f n acc
      | none => none

/-- The wheel a stream fills lies in a landing band; so does one it has not opened yet. -/
def Wheels.lands (x : Wheels) (st : Stream) : Bool :=
  match (x.pos st).cur.bind fun n => x.wheel n with
  | some w => w.slc
  | none => true

/-- Place `n` units of a stream; none when the stream cannot take them now. Streams L and F report the change to native
wheels (R150, Table 5-8a). -/
def State.place (s : State) (st : Stream) (n : Nat) : Option (List (Nat × Nat × Nat) × State) :=
  (s.placeFuel st (2 * n + 2) n []).map fun (l, t) =>
    if (st = .l ∨ st = .f) ∧ s.whl.lands st ∧ !t.whl.lands st then
      (l, (t.fault Src.RILL .log).raise Ev.LANDING_FULL)
    else (l, t)

/-- Note the SEQ range of units placed in wheels (Table 9-5). -/
def Wheels.noteSeq (x : Wheels) (spans : List (Nat × Nat × Nat)) (seq : Nat) : Wheels :=
  spans.foldl (fun x p => x.upd p.1 fun w =>
    { w with seqMin := if w.seqMin = 0 then seq else Nat.min w.seqMin seq, seqMax := Nat.max w.seqMax seq }) x

/-- Channel group source of a target port (R265). -/
def grpSrc (port : Nat) : Nat := Src.RES_GRP0 + port / 64

/-- Segments of the wheels' valid units, for a lost wheel (R296). -/
def State.segsIn (s : State) (n : Nat) : List Nat := (s.rill.validIn n).map (·.1) |>.eraseDups

/-- A wheel meets a third erasure (R296). -/
def State.loseWheel (s : State) (n : Nat) : State :=
  let segs := s.segsIn n
  let st := (s.whl.wheel n).elim Stream.l (·.stream)
  let s := s.onWhl fun x => { x.upd n (fun w => { w with state := .lost }) with
    pending := x.pending ++ [{ wheel := n, type := .lost, stream := st }],
    lost := x.lost ++ [(n, segs)] }
  let s := (s.nvWrite (.lost n false)).count Reg.WHEELS_LOST 4
  let s := s.fault Src.WHEEL_PARITY .degraded
  segs.foldl (fun s g => s.raise Ev.LOST_WHEEL 0 0 [g]) s

/-- A wheel of the vault or the pre-spill in hand: at its third erasure it is rewritten, never lost (R190, R191). -/
def State.vaultWheel (s : State) (w : Wheel) : Bool :=
  decide (w.stream = .v) && !w.journalled && match s.spill.state with
    | .preSpilling | .undoing | .window | .draining | .closing => true
    | _ => false

/-- Re-judge one wheel's state after a change of erasures (Table 9-3): CLOSED, DEGRADED or LOST. -/
def State.judgeWheel (s : State) (n : Nat) : State :=
  match s.whl.wheel n with
  | none => s
  | some w =>
    if w.state = .closed ∨ w.state = .degraded then
      let c := s.whl.erasureCount s.res n w
      if 3 ≤ c ∧ !s.vaultWheel w then s.loseWheel n
      else
        let s := { s with whl := s.whl.upd n fun w =>
          { w with state := if c = 0 then .closed else .degraded, judged := c } }
        if c = 2 ∧ w.judged < 2 then s.fault Src.WHEEL_PARITY .degraded else s
    else s

/-- Re-judge every wheel. -/
def State.judgeWheels (s : State) : State := (s.whl.table.map (·.1)).foldl (fun s n => s.judgeWheel n) s

/-- Queue for truing every band column on blocks that satisfy `hit`, stream C first within a rank (R292, R293). -/
def State.queueTrue (s : State) (hit : Spoke → Bool) (slow : Bool) (reason : Nat) : State :=
  let jobs := s.whl.bands.flatMap fun (base, b) =>
    ((List.range b.spokes.length).filter fun c => (b.column c).any hit).map fun c =>
      ({ base := base, column := c, slow := slow, reason := reason } : TrueJob)
  let new := jobs.filter fun j => !(s.whl.trueQ.any fun q => q.base == j.base && q.column == j.column)
  if new = [] then s
  else (s.onWhl fun x => { x with trueQ := x.trueQ ++ new }).onCmd fun x => { x with asked := x.asked.filter (· ≠ 2) }

/-- Retire a block (Table 8-5): its record, its fault, its replacement from the pool in a fixed region. -/
def State.retireBlock (s : State) (key : Nat) (sev : Sev := .corrected) : State :=
  let b := s.res.blk key
  let lun := key / 4096
  let port := lun / 4
  let res := s.res.setBlk key { b with state := .retired, band := none }
  let res := if b.region = .pool ∨ b.region = .landing then res
    else match res.pick lun .pool with
      | some n => res.setBlk (blockKey lun n) { res.blk (blockKey lun n) with region := b.region }
      | none => res
  let grown := (res.blocks.filter fun p => p.1 / 4096 == lun && decide (p.2.state = .retired)).map fun p => p.1 % 4096
  let s := ({ s with res := res }.count Reg.BLOCKS_GROWN_BAD 5).nvWrite (.badBlocks lun grown)
  (s.fault (grpSrc port) sev).raise (Ev.FLASH_CH_0 + port / 16)

/-- Put a target into the slow set, or out of it (R189, R205, R291). -/
def State.setSlow (s : State) (port : Nat) (slow : Bool) : State :=
  if slow then
    if s.whl.slowSet.contains port then s
    else
      let s := { s with whl := { s.whl with slowSet := s.whl.slowSet ++ [port] } }
      ((s.queueTrue (fun p => p.port == port) true 1).judgeWheels).raise (Ev.FLASH_CH_0 + port / 16)
  else
    let s := { s with whl := { s.whl with
      slowSet := s.whl.slowSet.filter (· ≠ port),
      trueQ := s.whl.trueQ.filter fun j => !(j.slow && (match s.whl.band j.base with
        | some b => (b.column j.column).any fun p => p.port == port
        | none => false)) } }
    s.judgeWheels

/-- What an erased wheel leaves of a run: nothing, the units in its other wheels, or, where the wheel was void, nothing of a
run that is applied whole (R148, R158). -/
def Run.without (u : Run) (n : Nat) (void : Bool) : Option Run :=
  if u.spans.all fun p => p.1 != n then some u
  else if void && decide (u.kind ≠ .fine) then none
  else
    let spans := u.spans.filter fun p => p.1 != n
    let pgs := pageMap ((u.at.filter fun p => p.2.wheel != n).map (·.1))
    let keep := fun (pi : Nat) => pi / 512 == u.seg && pgs.getLsbD (pi % 512)
    if spans = [] then none
    else some { u with
      spans := spans, pages := pgs
      poison := u.poison.filter fun l => keep (l / 64), data := u.data.filter fun c => keep (c.1 / 4096) }

/-- The units of an erased wheel are gone; no other run is left to answer for its number (R142, R145). -/
def Rill.dropWheel (x : Rill) (n : Nat) (void : Bool) : Rill := { x with runs := x.runs.filterMap fun u => u.without n void }

/-- Erased blocks go back to the pool from the landing buffer; every other region keeps its own. -/
def Region.home : Region → Region
  | .landing => .pool
  | x => x

/-- Free a band's slots once none of its blocks is being erased (R270, Table 9-3). -/
def State.eraseDone (s : State) (base : Nat) : State :=
  match s.whl.band base with
  | none => s
  | some b =>
    if !b.erasing || b.blocks.any (fun p => decide ((s.res.blk p.key).state = .erasing)) then s
    else
      let cut := fun (p : StreamPos) => { p with lanes := p.lanes.filter fun q => q.2 != base }
      { s with
        whl := { s.whl with
          bands := mdel base s.whl.bands, table := s.whl.table.filter fun p => p.2.band != base
          l := cut s.whl.l, f := cut s.whl.f, g := cut s.whl.g, c := cut s.whl.c, v := cut s.whl.v }
        rill := (s.whl.table.filter fun p => p.2.band == base).foldl
          (fun x p => x.dropWheel p.1 (decide (p.2.state = .void))) s.rill }

/-- Issue the erases of a band whose wheels are all spent; its slots are free when they end (R262, R270). -/
def State.eraseBand (s : State) (base : Nat) : State :=
  match s.whl.band base with
  | none => s
  | some b =>
    if b.erasing then s
    else
      let res := b.blocks.foldl (fun r p =>
        let k := r.blk p.key
        match k.state with
        | .retired | .erasing => r
        | .erased => r.setBlk p.key { k with band := none, region := k.region.home }
        | _ => r.setBlk p.key { k with state := .erasing }) s.res
      let mine := res.refreshQ.filter fun k => b.blocks.any fun p => p.key == k
      let s := { s with
        res := { res with refreshQ := res.refreshQ.filter fun k => !mine.contains k }
        whl := { s.whl with bands := mput base { b with erasing := true } s.whl.bands } }
      (if mine = [] then s else s.addReg Reg.REFRESH_COUNT mine.length).eraseDone base

/-- An erase has ended well (R249, R258, R262). -/
def Reservoir.erased (r : Reservoir) (key day : Nat) : Reservoir :=
  let k := r.blk key
  r.setBlk key { state := .erased, erases := k.erases + (if k.slc then r.part.slcWeight else 1000)
                 region := k.region.home, eraseDay := day }

/-- A band of the old geometry stays until a reshape record shows a boundary beyond its last row (R299). -/
def State.reshapeKeeps (s : State) (b : Band) : Bool :=
  decide (s.reg Reg.RESHAPE_FROM ≠ 0) && b.d == s.reg Reg.RESHAPE_FROM && decide (b.stream ≠ .v)
    && decide (s.whl.reshapeSaved < b.base * 512 + b.rows)

/-- A band can be erased: it is full or ended, and none of its wheels is open or holds a valid unit. -/
def State.bandSpent (s : State) (base : Nat) : Bool :=
  match s.whl.band base with
  | none => false
  | some b => (decide (b.rows ≤ b.next) || b.ended.isSome) && !b.erasing && !s.reshapeKeeps b &&
    !(s.whl.table.any fun p => p.2.band == base &&
      (decide (p.2.state = .open_) || !(s.rill.validIn p.1).isEmpty))

/-- Move erased blocks of one region into another, taken evenly from the LUNs. -/
def Reservoir.moveBlocks (r : Reservoir) (src dst : Region) (n : Nat) : Reservoir :=
  (List.range n).foldl (fun r i =>
    let l := r.luns
    let lun := l.getD (i % Nat.max 1 l.length) 0
    match r.pick lun src with
    | some b => r.setBlk (blockKey lun b) { r.blk (blockKey lun b) with region := dst }
    | none => r) r

/-! ### The wheel journal (R281 to R286) -/

/-- Journal blocks of one half of the channels. -/
def Reservoir.journalBlocks (r : Reservoir) : Nat := Nat.max 1 (16 * r.perChannel * r.part.luns * r.journalBpl)

/-- The block at place `i` of the order of a copy: block ordinal, channel, target, LUN; `half` is 0 for copy A, 1 for
copy B (R281). -/
def Reservoir.journalAt (r : Reservoir) (half i : Nat) : Nat :=
  let luns := Nat.max 1 r.part.luns
  let per := Nat.max 1 (r.perChannel * luns)
  let k := i % r.journalBlocks
  let port := 16 * (16 * half + k % (16 * per) / per) + k % per / luns
  blockKey (port * 4 + k % luns) ((r.extent .journal).1 + k / (16 * per))

/-- A journal block takes the strip of a row: it is in service, not being erased, and erased before its first strip
(R281, R286). -/
def Reservoir.journalOk (r : Reservoir) (key row : Nat) : Bool :=
  let b := r.blk key
  r.serves (key / 16384) && !r.retiredLuns.contains (key / 4096)
    && decide (b.state ≠ .retired) && decide (b.state ≠ .erasing) && (row != 0 || decide (b.state = .erased))

/-- The next strip position of a copy's own order on a block that takes strips. -/
def Reservoir.journalPos (r : Reservoir) (half : Nat) : Nat → Nat → Nat
  | 0, p => p
  | f + 1, p =>
    let n := Nat.max 1 (r.part.rows true)
    if r.journalOk (r.journalAt half (p / n)) (p % n) then p else r.journalPos half f ((p / n + 1) * n)

/-- Where the two copies of the next journal strip stand, block and strip, and the positions after it: copy B on the same
place of channel c + 16, or in its own order where that block takes no strip (R281). -/
def State.journalPlace (s : State) : (Nat × Nat) × (Nat × Nat) × Nat × Nat :=
  let n := Nat.max 1 (s.res.part.rows true)
  let pa := s.res.journalPos 0 s.res.journalBlocks s.whl.jposA
  let a := s.res.journalAt 0 (pa / n)
  let b := a + 256 * 16384
  if s.res.journalOk b (pa % n) then ((a, pa % n), (b, pa % n), pa + 1, s.whl.jposB)
  else
    let pb := s.res.journalPos 1 s.res.journalBlocks s.whl.jposB
    ((a, pa % n), (s.res.journalAt 1 (pb / n), pb % n), pa + 1, pb + 1)

/-- JLOC of unit 0 of a journal strip (R198, R259). -/
def Reservoir.jloc (r : Reservoir) (p : Nat × Nat) : Nat :=
  let port := p.1 / 16384
  let slot := (p.1 % 4096 - (r.extent .journal).1) * r.part.rows true + p.2
  port / 16 + at' (port % 16) 5 + at' (p.1 / 4096 % 4) 9 + at' (16 * slot) 11

/-- Note the program of a journal strip on its block (R254, R262). -/
def Reservoir.journalRow (r : Reservoir) (p : Nat × Nat) (day : Nat) : Reservoir :=
  let k := r.blk p.1
  if k.state = .retired then r
  else r.setBlk p.1 { k with
    state := if p.2 + 1 = r.part.rows true then .closed else .allocated, region := .journal, slc := true, progDay := day }

/-- Issue a journal strip whose copies, those given, are programmed in the end: the manifest of a sequence, else the
pending descriptors (R198, R281, R283). -/
def State.journalPut (s : State) (man : Option Nat) (copyA copyB : Bool) : State :=
  let (a, b, pa, pb) := s.journalPlace
  let day := s.reg Reg.DAY_OF_SERVICE
  let strip : JStrip := { jseq := s.whl.jseq + 1, ckptSeq := s.reg Reg.CKPT_SEQ
                          descs := if man.isSome then [] else s.whl.pending
                          copyA := copyA, copyB := copyB, placeA := a, placeB := b, man := man }
  let s := s.onWhl fun x => { x with
    jseq := x.jseq + 1, journal := x.journal ++ [strip], pending := if man.isSome then x.pending else []
    jposA := pa, jposB := pb }
  let s := if copyA then s.onRes fun r => r.journalRow a day else s
  if copyB then s.onRes fun r => r.journalRow b day else s

/-- Journal a strip of the pending descriptors, of which the copies given are programmed in the end; with neither they
stay pending (R281, R282). -/
def State.journalStrip (s : State) (copyA copyB : Bool) : State :=
  if !copyA && !copyB then s.fault Src.WHEEL_JOURNAL .degraded
  else
    let s := s.journalPut none copyA copyB
    if copyA && copyB then s else s.fault Src.WHEEL_JOURNAL .degraded

/-- The descriptor that governs a wheel (R285). -/
def Wheels.governing (x : Wheels) (n : Nat) : Option Desc :=
  x.journal.foldl (fun acc j =>
    if j.copyA || j.copyB then
      j.descs.foldl (fun acc d => if d.wheel = n then some d else acc) acc
    else acc) none

/-- A strip that keeps its journal block from being erased (R286): its CKPT_SEQ is not below BASE_SEQ of the second newest
full checkpoint, or it holds a manifest of an unretired link or one of the 16 newest. -/
def State.stripKept (s : State) (second : Nat) (j : JStrip) : Bool :=
  decide (second ≤ j.ckptSeq) || (match j.man with
    | some q => decide (s.reg Reg.RETIRED_SEQ < q)
      || decide ((s.spill.manifests.filter fun m => decide (q < m.seq)).length < 16)
    | none => false)

/-- Erase for reuse the journal blocks that R286 lets go: full ones in which no strip is kept. A strip leaves the journal,
and a manifest the media, with the first of its blocks. -/
def State.trimJournal (s : State) : State :=
  match ((s.rill.ckpts.filter (·.full)).map (·.base)).reverse with
  | _ :: second :: _ =>
    let held := (s.whl.journal.filter fun j => s.stripKept second j).flatMap fun j =>
      (if j.copyA then [j.placeA.1] else []) ++ if j.copyB then [j.placeB.1] else []
    let go := (s.res.blocks.filter fun p =>
      decide (p.2.region = .journal) && decide (p.2.state = .closed) && !held.contains p.1).map (·.1)
    let out := fun (j : JStrip) => go.contains j.placeA.1 || go.contains j.placeB.1
    let gone := (s.whl.journal.filter out).filterMap (·.man)
    let s := s.onRes fun r => go.foldl (fun r k => r.setBlk k { r.blk k with state := .erasing }) r
    let s := s.onSpill fun x => { x with manifests := x.manifests.filter fun m => !gone.contains m.seq }
    s.onWhl fun x => { x with journal := x.journal.filter fun j => !out j }
  | _ => s

end Sys2Proof.Machine
end

