-- ==== Sys2Proof/Machine/RillOps.lean ====
section
/-! DEFINITION. Operations of the Rill: captures, completions, voided wheels, relocations, checkpoints (05). -/

namespace Sys2Proof.Machine

/-- Line index (DPA div 64) of the first line of a page of a segment. -/
def lineOf (seg p : Nat) : Nat := (seg * 512 + p) * 64

/-- First segment of an extent of the persistent partition. -/
def State.firstSeg (s : State) (e : Nat) : Nat := s.volBytes / 2 ^ 21 + 512 * e

/-- Lines of pages of a segment that read as poison: those on the poison list, and uncorrectable ones of clean pages that
are not repaired yet (R61, Tables 3-4, 3-7). -/
def State.poisonIn (s : State) (seg : Nat) (c : BitVec 512) : List Nat :=
  let inC := fun (l : Nat) => l / 64 / 512 == seg && c.getLsbD (l / 64 % 512)
  let l := (s.port.poison.filter fun x => inC x.1).map (·.1)
  (s.basin.repair.filter inC).foldl (fun l x => insertAsc x l) l

/-- The DRAM bytes of pages of a segment that differ from zero. -/
def State.cellsOf (s : State) (seg : Nat) (c : BitVec 512) : List Host.Cell :=
  s.mem.filter fun x => segOf x.1 == seg && c.getLsbD (pageOf x.1)

/-- WRITE_SEQ has come to a threshold (Table 5-3a). -/
def State.seqLow (s : State) : State := (s.fault Src.RILL .degraded).raise Ev.SEQ_LOW

/-- Take the next WRITE_SEQ (R141, Table 5-3a). -/
def State.takeSeq (s : State) : Nat × State :=
  let n := s.reg Reg.WRITE_SEQ + 1
  let s := s.setReg Reg.WRITE_SEQ n
  (n, if n = 0xFFFF00000000 ∨ n = 0xFFFFFF000000 then s.seqLow else s)

/-- A run of pages taken from DRAM (R140). -/
def State.runOf (s : State) (seq seg : Nat) (kind : UnitKind) (c : BitVec 512)
    (spans : List (Nat × Nat × Nat)) : Run :=
  { seq := seq, seg := seg, kind := kind, pages := c, spans := spans, epoch := s.reg Reg.FORMAT_EPOCH,
    poison := s.poisonIn seg c, data := s.cellsOf seg c }

/-- Pages of a segment with no fine entry among `d` (n_new of R136). -/
def Rill.newPages (x : Rill) (seg : Nat) (d : BitVec 512) : List Nat :=
  (pageList d).filter fun p => (x.fineOf (pageIdx seg p)).isNone

/-- Fine slots for pages of a segment, beside those that captures in flight and speculative runs hold (R144, R176). -/
def State.reserveSlots (s : State) (seg : Nat) (ps : List Nat) : Option (List (Nat × Nat × Nat)) :=
  let held := s.spill.runs.flatMap (·.slots)
  (s.rill.reserve s.basin.fineK seg ps held).map fun l => l.drop held.length

/-- Kind of write-back of an entry (Table 5-1): the pages taken, large or fine, and the slots reserved. -/
def State.kindOf (s : State) (seg : Nat) (d : BitVec 512) : BitVec 512 × Bool × List (Nat × Nat × Nat) :=
  let new := s.rill.newPages seg d
  if s.reg Reg.RILL_LARGE_MIN ≤ pages d then (BitVec.allOnes 512, true, [])
  else if s.reg Reg.RILL_FOLD_FINE < s.rill.fineCount seg + new.length then (BitVec.allOnes 512, true, [])
  else match s.reserveSlots seg new with
    | none => (BitVec.allOnes 512, true, [])
    | some slots => (d, false, slots)

/-- Wheels a run waits for. -/
def spanWheels (l : List (Nat × Nat × Nat)) : List Nat := (l.map fun p => p.1).eraseDups

/-- Entries of the dirty segment table that are FREE. -/
def Basin.freeEntries (b : Basin) : Nat := 262144 - b.dst.length

/-- The limits of R134 leave room in this WEIR_PERIOD for a capture of `n` pages (DESIGN CHOICE, log entry 243). -/
def State.rateLeaves (s : State) (n : Nat) : Bool :=
  decide (s.rill.taken + 4096 * n ≤ 1000 * s.reg Reg.RILL_RATE_MAX * s.reg Reg.WEIR_PERIOD)
    && decide (1000 * (s.rill.takenN + 1) ≤ 1048576 * s.reg Reg.WEIR_PERIOD)

/-- A further capture is called for (R134, R160): in FLUSHING, above the ceiling, while the demand of this WEIR_PERIOD is not
met, or while too few entries are FREE. -/
def State.captureDue (s : State) : Bool :=
  decide (s.rill.state = .flushing) || s.weir.above
    || decide (1000 * s.rill.takenDirty < s.weir.demand * s.reg Reg.WEIR_PERIOD)
    || decide (s.basin.freeEntries < s.reg Reg.DST_FREE_TARGET)

/-- Capture a DIRTY entry (R94, R136): the run is issued to stream L or F; none when it cannot be taken now. -/
def State.capture (s : State) (seg : Nat) : Option State :=
  match s.basin.entry seg with
  | none => none
  | some e =>
    let (c, large, slots) := s.kindOf seg e.d
    if e.state ≠ .dirty ∨ 0xFFFFFF000000 ≤ s.reg Reg.WRITE_SEQ ∨ !s.rateLeaves (pages c) then none
    else
      let missed := large && decide (pages e.d < s.reg Reg.RILL_LARGE_MIN) &&
        decide (s.rill.fineCount seg + (s.rill.newPages seg e.d).length ≤ s.reg Reg.RILL_FOLD_FINE)
      (s.basin.capture seg c false).bind fun b =>
        (s.place (if large then .l else .f) (pages c)).map fun (spans, s) =>
          let kind := if large then UnitKind.large else .fine
          let (seq, s) := { s with basin := b }.takeSeq
          let cap : Capture := { seg := seg, seq := seq, kind := kind, pages := c, waits := spanWheels spans,
                                 slots := slots }
          let run := s.runOf seq seg kind c spans
          let s := s.onRill fun x => { x with
            runs := x.runs ++ [run], captures := x.captures ++ [cap], taken := x.taken + 4096 * pages c
            takenN := x.takenN + 1, takenDirty := x.takenDirty + 4096 * pages e.d }
          let s := s.onWhl fun x => x.noteSeq spans seq
          if missed then s.fault Src.RILL .log else s

/-- Map a run's pages (R137): a whole segment through its large entry, other pages through fine entries in the
slots given or those they hold. -/
def Rill.mapRun (x : Rill) (u : Run) (large : Bool) (slots : List (Nat × Nat × Nat)) (only : BitVec 512) : Rill :=
  if large then
    match u.locOf 0 with
    | some l => { x with
        large := mput u.seg { loc := l } x.large,
        fine := x.fine.filter fun p => p.1 / 512 != u.seg }
    | none => x
  else
    { x with fine := (u.at.filter fun p => only.getLsbD p.1).foldl (fun f (p, l) =>
        let pi := pageIdx u.seg p
        match f.find? fun q => q.1 == pi with
        | some (_, e) => mput pi { e with loc := l } f
        | none => match slots.find? fun q => q.1 == p with
          | some (_, b, i) => mput pi { loc := l, bucket := b, probe := i } f
          | none => f) x.fine }

/-- The run of a SEQ and segment: the newest one, should a SEQ lost with its pointer have been taken again. -/
def Rill.runOfSeq (x : Rill) (seq seg : Nat) : Option Run :=
  x.runs.reverse.find? fun u => u.seq == seq && u.seg == seg && !u.reloc

/-- SEQ of the unit a location holds; 0 when it holds none. -/
def Rill.seqAt (x : Rill) (l : Loc) : Nat := ((x.runAt l).map (·.seqLoc l)).getD 0

/-- SEQ of a page's fine entry and of a segment's large entry; 0 for none (R158). -/
def Rill.fineSeq (x : Rill) (seg p : Nat) : Nat := ((x.fineOf (pageIdx seg p)).map fun e => x.seqAt e.loc).getD 0

/-- SEQ of a segment's large entry; 0 for none (R158). -/
def Rill.largeSeq (x : Rill) (seg : Nat) : Nat := ((x.largeOf seg).map fun e => x.seqAt e.loc).getD 0

/-- Set the large entry under the rule of R158: a lower SEQ is replaced, fine entries below it go. -/
def Rill.replayLarge (x : Rill) (seg seq : Nat) (l : Loc) : Rill :=
  if x.largeSeq seg < seq then
    { x with
      large := mput seg { loc := l } x.large
      fine := x.fine.filter fun p => p.1 / 512 != seg || decide (seq ≤ x.seqAt p.2.loc) }
  else x

/-- Set a fine entry under the rule of R158. `k` is the geometry of the fine map. A page that finds no slot stays as it
is: the settle that calls for it is a fold (Table 7-9). -/
def Rill.replayFine (x : Rill) (k seg p seq : Nat) (l : Loc) : Rill :=
  if Nat.max (x.fineSeq seg p) (x.largeSeq seg) < seq then
    let pi := pageIdx seg p
    match x.fineOf pi with
    | some e => { x with fine := mput pi { e with loc := l } x.fine }
    | none => match x.slotFor k pi [] with
      | some (b, i) => { x with fine := mput pi { loc := l, bucket := b, probe := i } x.fine }
      | none => x
  else x

/-- A capture or speculative run of a segment whose pages have fine entries keeps their slots when the entries go (R136, R137). -/
def Rill.keptSlots (x : Rill) (seg : Nat) (ps : BitVec 512) (l : List (Nat × Nat × Nat)) : List (Nat × Nat × Nat) :=
  l ++ (pageList ps).filterMap fun p =>
    if l.any fun q => q.1 == p then none else (x.fineOf (pageIdx seg p)).map fun e => (p, e.bucket, e.probe)

/-- Fine entries of a segment are about to go to a large entry that is not a capture's: what is in flight keeps their slots, so
that no completion finds the fine map full (R136, R137). -/
def State.keepSlots (s : State) (seg : Nat) : State :=
  let s := s.onSpill fun x => { x with runs := x.runs.map fun r =>
    if r.seg = seg ∧ r.kind ≠ .vault then { r with slots := s.rill.keptSlots seg r.pages r.slots } else r }
  s.onRill fun x => { x with captures := x.captures.map fun c =>
    if c.seg = seg ∧ c.kind ≠ .large then { c with slots := x.keptSlots seg c.pages c.slots } else c }

/-- Complete a capture whose wheels are all closed: the maps first, then the Basin (R137, R94, R98). -/
def State.completeCapture (s : State) (c : Capture) : State :=
  let s := s.onRill fun x => { x with captures := x.captures.filter fun d => d.seq != c.seq }
  match s.rill.runOfSeq c.seq c.seg with
  | none => s
  | some u =>
    let s := s.onRill fun x => { x.mapRun u (decide (c.kind = .large)) c.slots c.pages with
      mapped := x.mapped + 4096 * pages c.pages }
    let before := s.basin.dirtyBytes
    let s := s.onBasin fun b => b.complete (s.reg Reg.HEAT_QUANTUM) c.seg c.pages
    s.onWeir fun w => { w with cleaned := w.cleaned + (before - s.basin.dirtyBytes) }

/-- Abandon a capture: every captured page stays dirty, its slots are released (R94, R148). -/
def State.abandonCapture (s : State) (c : Capture) : State :=
  let s := s.onRill fun x => { x with captures := x.captures.filter fun d => d.seq != c.seq }
  s.onBasin fun b => b.abandon (s.reg Reg.HEAT_QUANTUM) c.seg

/-- A relocated copy may be mapped: every entry still points to its source (R153). -/
def Rill.relocOk (x : Rill) (r : Reloc) : Bool :=
  match r.copy.kind with
  | .fine => false
  | _ => r.src.all fun (p, l) => (x.copyOf r.seg p).map (·.2) == some l

/-- Map a relocated copy, or leave it unmapped (R153). A copy of fine units is judged unit by unit. -/
def State.finishReloc (s : State) (r : Reloc) : State :=
  let s := s.onRill fun x => { x with relocs := x.relocs.filter fun q =>
    !(q.copy.seq == r.copy.seq && q.seg == r.seg && q.copy.spans == r.copy.spans) }
  match r.kind with
  | .merge =>
    if s.rill.relocOk r && decide ((s.rill.mappedOf r.seg).length = r.src.length) then
      (s.keepSlots r.seg).onRill fun x => x.mapRun r.copy true [] 0
    else s
  | _ =>
    if r.copy.kind = .fine then
      let ok := pageMap ((r.src.filter fun (p, l) => (s.rill.fineOf (pageIdx r.seg p)).map (·.loc) == some l).map (·.1))
      s.onRill fun x => x.mapRun r.copy false [] ok
    else
      match r.src.head? with
      | some (_, l) =>
        let fs := (s.rill.fine.filter fun p => p.1 / 512 == r.seg).map fun p => (p.1 % 512, p.2.loc)
        if (s.rill.largeOf r.seg).map (·.loc) == some l && fs == r.src.drop 1 then
          match r.copy.locOf 0 with
          | some n => s.onRill fun x => { x with large := mput r.seg { loc := n } x.large }
          | none => s
        else s
      | none => s

/-- Take a closed wheel off every list that waits for it; completes what waits for no more (R147, R153). -/
def State.wheelDone (s : State) (n : Nat) : State :=
  let s := s.onRill fun x => { x with
    captures := x.captures.map fun c => { c with waits := c.waits.filter (· ≠ n) },
    relocs := x.relocs.map fun c => { c with waits := c.waits.filter (· ≠ n) } }
  let s := s.onSpill fun x => { x with
    runs := x.runs.map fun c => { c with waits := c.waits.filter (· ≠ n) } }
  let s := s.onSip fun x => { x with
    folds := x.folds.map fun c => (c.1, c.2.1, c.2.2.filter (· ≠ n)) }
  if s.rill.reloading then s.onRill fun x => { x with heldClosed := x.heldClosed ++ [n] }
  else
    (s.rill.captures.filter fun c => c.waits.isEmpty).foldl (fun s c => s.completeCapture c) s

/-- Close a wheel: P and Q are programmed; streams L, F, G and C have their CLOSE descriptor journalled
(R280, R284). -/
def State.closeWheel (s : State) (n : Nat) : State :=
  match s.whl.wheel n with
  | none => s
  | some w =>
    if w.state ≠ .open_ then s
    else
      let s := (s.onWhl fun x => x.upd n fun w =>
        { w with parity := true, issued := true, state := .closed, journalled := decide (w.stream ≠ .v) }).judgeWheel n
      let s := if w.stream = .v then s
        else
          let d : Desc := { wheel := n, type := .close, stream := w.stream, erasures := w.erasures }
          (s.onWhl fun x => { x with pending := x.pending ++ [d] }).journalStrip true true
      s.wheelDone n

/-- Fill the remaining positions of an open wheel with fill units (R147). -/
def State.fillWheel (s : State) (n : Nat) : State :=
  s.onWhl fun x => x.upd n fun w =>
    if w.state = .open_ then { w with filled := 16 * w.strips, issued := true } else w

/-- Void an open wheel of stream L, F, G or C (R148). -/
def State.voidWheel (s : State) (n : Nat) : State :=
  match s.whl.wheel n with
  | none => s
  | some w =>
    if w.state ≠ .open_ then s
    else
      let s := s.onWhl fun x => { x.upd n (fun w => { w with state := .void }) with
        pending := x.pending ++ [{ wheel := n, type := .void, stream := w.stream }] }
      let s := (s.rill.captures.filter fun c => c.waits.contains n).foldl (fun s c => s.abandonCapture c) s
      let s := s.onRill fun x => { x with relocs := x.relocs.filter fun r => !r.waits.contains n }
      s.onSip fun x => { x with
        folds := x.folds.filter fun f => !f.2.2.contains n,
        foldDue := x.foldDue ++ (x.folds.filter fun f => f.2.2.contains n).map (·.1) }

/-- Void every open wheel of a stream. -/
def State.voidStream (s : State) (st : Stream) : State :=
  (s.whl.openWheels st).foldl (fun s n => s.voidWheel n) s

/-- At commit: wheels with every strip issued run to close, the others are voided (Table 5-4). -/
def State.voidUnissued (s : State) (st : Stream) : State :=
  (s.whl.openWheels st).foldl (fun s n =>
    match s.whl.wheel n with
    | some w => if w.issued then s else s.voidWheel n
    | none => s) s

/-- Place `n` units of a stream as `place` does, wheel by wheel: where no accumulator is free, the stream waits for its wheels
whose strips are all issued to close (R146, R147). -/
def State.placeWait (st : Stream) : Nat → Nat → State → List (Nat × Nat × Nat) → Option (List (Nat × Nat × Nat) × State)
  | _, 0, s, acc => some (acc, s)
  | 0, _, _, _ => none
  | f + 1, n, s, acc =>
    let room := match (s.whl.pos st).cur.bind fun c => s.whl.wheel c with
      | some w => if w.state = .open_ && !w.issued then 16 * w.d - w.filled else 0
      | none => 0
    let s := if room = 0 ∧ s.accumFree st = 0 then (s.whl.openWheels st).foldl (fun s i =>
        if (s.whl.wheel i).any (·.issued) then s.closeWheel i else s) s else s
    let k := Nat.min n (Nat.max 1 room)
    (s.place st k).bind fun (l, s) => State.placeWait st f (n - k) s (acc ++ l)

/-- Wheels of stretches that are still open. -/
def State.openOf (s : State) (l : List (Nat × Nat × Nat)) : List Nat :=
  (spanWheels l).filter fun n => (s.whl.wheel n).any fun w => decide (w.state = .open_)

/-- Relocate a whole segment's units to one large unit of stream G (R139), or a large unit as it stands. -/
def State.relocate (s : State) (kind : RelocKind) (u : Run) (pgs : BitVec 512) (src : List (Nat × Loc)) :
    Option State :=
  (State.placeWait .g (pages pgs) (pages pgs) s []).map fun (spans, s) =>
    let copy : Run := { u with
      spans := spans, pages := pgs, reloc := true, src := src, merged := decide (kind = .merge) }
    let r : Reloc := { kind := kind, seg := u.seg, copy := copy, src := src, waits := s.openOf spans }
    let s := s.onRill fun x => { x with
      runs := x.runs ++ [copy], relocs := x.relocs ++ [r]
      gcNative := x.gcNative + 4096 * pages pgs
      gcHost := x.gcHost + if kind = .migration then 4096 * pages pgs else 0 }
    s.onWhl fun x => x.noteSeq spans u.seq

/-- Merge a segment: all 512 pages as one large unit, each page as mapped (R139). -/
def State.mergeSeg (s : State) (seg : Nat) : Option State :=
  let m := s.rill.mappedOf seg
  let data := m.foldl (fun d (p, u, _) => d ++ u.cells seg p) []
  let poison := m.flatMap fun (p, u, _) => u.poison.filter fun l => l / 64 == pageIdx seg p
  let seqs := (List.range 512).map fun p => (p, ((s.rill.copyOf seg p).map copySeq).getD 0)
  let u : Run := { seq := maxOf (seqs.map (·.2)), seqs := seqs, seg := seg, kind := .large, pages := BitVec.allOnes 512,
                   spans := [], epoch := s.reg Reg.FORMAT_EPOCH, poison := poison, data := data }
  s.relocate .merge u (BitVec.allOnes 512) (m.map fun x => (x.1, x.2.2))

/-- Relocate the valid units of a wheel through stream G (R151, R154, R252, R299): fine units run by run, a large
unit whole. -/
def State.relocateWheel (s : State) (kind : RelocKind) (n : Nat) : Option State :=
  s.segsIn n |>.foldl (fun o seg => o.bind fun s =>
    let here := (s.rill.mappedOf seg).filter fun c => c.2.2.wheel == n
    let fine := here.filter fun c => (s.rill.fineOf (pageIdx seg c.1)).isSome
    let o := (fine.map fun c => c.2.1).eraseDups.foldl (fun o u => o.bind fun s =>
      let mine := fine.filter fun c => c.2.1 == u
      s.relocate kind { u with kind := .fine } (pageMap (mine.map (·.1))) (mine.map fun c => (c.1, c.2.2))) (some s)
    if here.length = fine.length ∧ !s.rill.largeIn seg n then o
    else o.bind fun s => match (s.rill.largeOf seg).bind fun e => (s.rill.runAt e.loc).map fun u => (e, u) with
      | some (e, u) =>
        let fs := (s.rill.fine.filter fun p => p.1 / 512 == seg).map fun p => (p.1 % 512, p.2.loc)
        s.relocate kind { u with kind := .large } (BitVec.allOnes 512) ((0, e.loc) :: fs)
      | none => some s) (some s)

/-- A wheel holds units that are not mapped yet: of a capture, of a relocated copy or of a fold that waits for another wheel. -/
def State.awaited (s : State) (n : Nat) : Bool :=
  let has := fun (l : List (Nat × Nat × Nat)) => l.any fun p => p.1 == n
  s.rill.captures.any (fun c => (s.rill.runOfSeq c.seq c.seg).any fun u => has u.spans)
    || s.rill.relocs.any (fun r => has r.copy.spans)
    || s.sip.folds.any fun f => (s.rill.runOfSeq f.2.1 f.1).any fun u => has u.spans

/-- Bands of the checkpoint region that hold the two newest full checkpoints and their deltas. -/
def State.ckptBand (s : State) (b : Band) : Bool :=
  let keep := ((((s.rill.ckpts.filter (·.full)).map (·.seq)).reverse).drop 1).headD 0
  decide (b.stream = .c) && s.rill.ckpts.any fun c => decide (keep ≤ c.seq) &&
    c.wheels.any fun n => decide (b.base * 512 ≤ n ∧ n < b.base * 512 + b.rows)

/-- Rank of a queued column (Table 9-8). -/
def State.trueRank (s : State) (j : TrueJob) : Nat := match s.whl.band j.base with
  | none => 0
  | some b =>
    if b.stream = .v then 5
    else if 2 ≤ (s.whl.trueQ.filter fun q => q.base == j.base).length then 1
    else if s.ckptBand b then 2
    else if j.slow then 4 else 3

/-- The queued column to true next (R293). -/
def State.nextTrue (s : State) : Option TrueJob :=
  s.whl.trueQ.foldl (fun (acc : Option TrueJob) j => match acc with
    | some a => if s.trueRank j < s.trueRank a ∨ (s.trueRank j = s.trueRank a ∧ j.base < a.base) then some j else acc
    | none => some j) none

/-- A band that truing works on, or whose wheels reshape moves (R154). -/
def State.bandHeld (s : State) (base : Nat) : Bool :=
  (decide (s.cmd.true_.state = .running) && (s.nextTrue.map (·.base)) == some base)
    || s.rill.relocs.any fun r => decide (r.kind = .reshape) && r.src.any fun p => match s.whl.wheel p.2.wheel with
      | some w => w.band == base
      | none => false

/-- Erase the bands that hold no valid unit and no open wheel any more, and that neither truing nor reshape holds, other than
stream C's and V's (R154). -/
def State.eraseSpent (s : State) : State :=
  (s.whl.bands.map (·.1)).foldl (fun s base =>
    match s.whl.band base with
    | some b =>
      if b.stream = .c ∨ b.stream = .v ∨ s.bandHeld base then s
      else if s.bandSpent base && !(s.whl.table.any fun p => p.2.band == base && s.awaited p.1) then s.eraseBand base else s
    | none => s) s

/-- After a start that was not clean, the blocks of opened bands that hold no closed wheel are erased again before use; a
lost wheel's band stays until its folds have closed (R255). -/
def State.eraseDead (s : State) : State :=
  (s.whl.bands.map (·.1)).foldl (fun s base =>
    match s.whl.band base with
    | some b =>
      if b.stream = .v || !b.opened || (s.whl.table.any fun p => p.2.band == base &&
          (decide (p.2.state = .closed) || decide (p.2.state = .degraded) || decide (p.2.state = .lost))) then s
      else s.eraseBand base
    | none => s) s

/-- Erase checkpoint bands that hold no checkpoint kept: the two newest full ones and their deltas. -/
def State.trimCkpts (s : State) : State :=
  let full := ((s.rill.ckpts.filter (·.full)).map (·.seq)).reverse
  let keep := full.getD 1 0
  let s := s.onRill fun x => { x with ckpts := x.ckpts.filter fun c => decide (keep ≤ c.seq) }
  let live := s.rill.ckpts.flatMap (·.wheels)
  (s.whl.bands.map (·.1)).foldl (fun s base =>
    match s.whl.band base with
    | some b =>
      if b.stream = .c && (decide (b.rows ≤ b.next) || b.ended.isSome) && !s.reshapeKeeps b &&
          !(live.any fun n => decide (base * 512 ≤ n ∧ n < base * 512 + b.rows))
      then s.eraseBand base else s
    | none => s) s

/-- The oldest open wheel of a stream and its place in the order of opening; with none open the last wheel it filled, and the
place of the next to be opened (Table 5-5). -/
def Wheels.cursor (x : Wheels) (st : Stream) : Nat × Nat :=
  (x.table.filter fun p => decide (p.2.state = .open_) && decide (p.2.stream = st)).foldl
    (fun a p => if p.2.order < a.2 then (p.1, p.2.order) else a) (((x.pos st).cur).getD 0, x.orders + 1)

/-- Map lines that differ between two checkpoints' maps, 64 bytes each: eight entries of the large map, a bucket of the
fine map (R155). -/
def linesBetween (a b : Ckpt) : Nat :=
  let l := (a.large.filter fun x => !b.large.contains x).map (·.1 / 8) ++
    (b.large.filter fun x => !a.large.contains x).map (·.1 / 8)
  let f := (a.fine.filter fun x => !b.fine.contains x).map (·.2.bucket) ++
    (b.fine.filter fun x => !a.fine.contains x).map (·.2.bucket)
  l.eraseDups.length + f.eraseDups.length

/-- Bytes of map lines the deltas after the newest full checkpoint hold. -/
def deltaBytes : Ckpt → List Ckpt → Nat
  | _, [] => 0
  | p, c :: l => 64 * linesBetween p c + deltaBytes c l

/-- The next checkpoint is a full one: none is on media, CKPT_FULL_EVERY deltas followed the newest, or they exceed 1 GiB
(R155). -/
def State.fullDue (s : State) : Bool :=
  match (s.rill.ckpts.filter (·.full)).getLast? with
  | none => true
  | some f =>
    let ds := s.rill.ckpts.filter fun c => !c.full && c.base == f.seq
    decide (s.reg Reg.CKPT_FULL_EVERY ≤ ds.length) || decide (GiB < deltaBytes f ds)

/-- Start and stop of merges, migration and garbage collection (R139, R151, R154). -/
def State.rillGates (s : State) : State :=
  if s.rill.state ≠ .running then s
  else
    let gate := fun (was start stop : Bool) => if start then true else if stop then false else was
    let used := 100 * s.rill.fine.length
    let cap := 2 ^ (s.basin.fineK + 3)
    let land := 100 * s.res.landingInUse
    let size := s.landingMax
    let free := 100 * s.res.usable .pool
    let pool := s.res.poolBlocks
    s.onRill fun x => { x with
      merging := gate x.merging (decide (s.reg Reg.FINE_MAP_HIGH * cap ≤ used)) (decide (used ≤ s.reg Reg.FINE_MAP_LOW * cap))
      migrating := gate x.migrating (decide (s.reg Reg.MIG_START * size ≤ land ∧ 0 < land))
        (decide (land ≤ s.reg Reg.MIG_STOP * size))
      collecting := gate x.collecting (decide (free < s.reg Reg.GC_FREE_LOW * pool))
        (decide (s.reg Reg.GC_FREE_HIGH * pool ≤ free)) }

/-- 4 KiB units that a checkpoint of the maps and the heat record takes (R155, R156). -/
def State.ckptUnits (s : State) : Nat :=
  1 + (8 * (s.rill.large.length + s.rill.fine.length) + 2 * s.rill.segs.length) / 4096

/-- The checkpoint that the maps and the heat record give now, in the units placed (R155, R156). -/
def State.ckptOf (s : State) (full : Bool) (spans : List (Nat × Nat × Nat)) : Ckpt :=
  let seq := s.reg Reg.CKPT_SEQ + 1
  let c0 := (spans.head?.map (·.1)).getD 0
  let cur := ([Stream.l, .f, .g].map fun st => s.whl.cursor st) ++ [(c0, ((s.whl.wheel c0).map (·.order)).getD 0)]
  { seq := seq, full := full, base := if full then seq else ((s.rill.ckpts.filter (·.full)).getLast?.map (·.seq)).getD 0
    writeSeq := s.reg Reg.WRITE_SEQ, epoch := s.rill.reformat.getD (s.reg Reg.FORMAT_EPOCH)
    k := s.basin.fineK, cursors := cur.map (·.1), orders := cur.map (·.2)
    large := s.rill.large, fine := s.rill.fine, heat := s.basin.heatCopy (s.reg Reg.HEAT_QUANTUM)
    wheels := spanWheels spans }

/-- Write a checkpoint (R155, R156): both maps and the heat record in stream C; a full one is named in the NV Store. With no
place for it none is written. -/
def State.checkpoint (s : State) (full : Bool) : State :=
  match State.placeWait .c s.ckptUnits s.ckptUnits s [] with
  | none => s
  | some (spans, s) =>
    let c := s.ckptOf full spans
    let s := (s.whl.openWheels .c).foldl (fun s n => (s.fillWheel n).closeWheel n) s
    let s := (s.setReg Reg.CKPT_SEQ c.seq).onRill fun x => { x with ckpts := x.ckpts ++ [c], mapped := 0 }
    let s := s.setLandSize
    if full && s.rill.reformat.isNone then
      let prev := (((s.rill.ckpts.filter (·.full)).reverse.getD 1 c)).seq
      ((s.nvWrite (.ckptLoc c.seq prev c.epoch)).trimCkpts).trimJournal
    else s

/-- A program of a checkpoint fails: the fault, and its wheels are void, so that it is written again at the next position
(R148, R155, Table 5-8a). -/
def State.checkpointFails (s : State) : State :=
  let s := s.fault Src.MAP_ENGINE .corrected
  match State.placeWait .c s.ckptUnits s.ckptUnits s [] with
  | none => s
  | some (_, s) => s.voidStream .c

/-! ### Errors in DRAM (R30, R85, R86, R92, R103) -/

/-- Poison the line at a device address. -/
def State.poisonAt (s : State) (a : Nat) (src : PoisonSrc) : State :=
  s.onPort fun h => { h with poison := mput (a / 64) src h.poison }

/-- The page of a persistent address is dirty. -/
def State.pageDirty (s : State) (a : Nat) : Bool :=
  s.basin.overflow.contains (segOf a) || (s.basin.entry (segOf a)).any fun e => e.d.getLsbD (pageOf a)

/-- Poison each line of the dirty pages that a module held (R103, Table 3-4). -/
def State.loseModule (s : State) (ch slot : Nat) : State :=
  let pgs := (s.basin.dst.flatMap fun p => (pageList p.2.d).map fun k => pageAddr p.1 k)
    ++ s.basin.overflow.flatMap fun g => (List.range 512).map fun k => pageAddr g k
  pgs.foldl (fun s a => (List.range 64).foldl (fun s i =>
    let l := a + 64 * i
    let m := s.basin.map l
    if m.1 = ch ∧ m.2.1 = slot then s.poisonAt l .internal else s) s) s

/-- Note an uncorrectable line of a module: on more than 1,024 lines within a second the module has stopped answering, and
its dirty lines are poison (R103, Table 3-10). -/
def State.noteUe (s : State) (a : Nat) : State :=
  let l := (s.basin.ueTimes.filter fun p => decide (s.now < p.2 + 1000) && p.1 != a / 64) ++ [(a / 64, s.now)]
  let s := s.onBasin fun b => { b with ueTimes := l }
  let m := s.basin.map a
  let same := l.filter fun p =>
    let k := s.basin.map (64 * p.1)
    k.1 == m.1 && k.2.1 == m.2.1
  if 1024 < same.length then (s.loseModule m.1 m.2.1).fault (Src.BASIN_CH0 + m.1) .fatal else s

/-- An uncorrectable error in a line of DRAM (Table 3-4, Table 3-10, Table 12-8). -/
def State.dramUe (s : State) (a : Nat) : State :=
  let ch := (s.basin.map a).1
  let s := if s.persistent a ∧ !s.pageDirty a then
      (s.onBasin fun b => { b with repair := insertAsc (a / 64) (b.repair.filter (· ≠ a / 64)) }).cxlRecord 2
        { event := 0, seq := 0, state := s.dev.code, sev := 0, kind := 2, addr := a }
    else (s.poisonAt a .internal).fault (Src.BASIN_CH0 + ch) .degraded
  (s.raise (Ev.DIMM_CH_0 + ch)).noteUe a

/-- Uncorrectable errors in lines that the Rill or the Spillway reads of a segment's pages (Table 3-7). -/
def State.readErrs (s : State) (seg : Nat) (c : BitVec 512) (ue : List Nat) : State :=
  (ue.filter fun a => segOf a == seg && c.getLsbD (pageOf a)).foldl (fun s a => s.dramUe (a / 64 * 64)) s

/-- Rebuild an entry from its shadow and bitmap slot (R92): SEGMENT, STATE, SLOT_SET and BITMAP_PTR from the shadow, which
holds the state of the allocation, DCOUNT from D, the rest 0. A shadow whose STATE is no longer true leaves the entry DIRTY,
and with it the capture in flight is given up: its completion could clean a page written since (DEDUCED, log entry 226). -/
def State.rebuildEntry (s : State) (seg : Nat) : State := match s.basin.entry seg with
  | none => s
  | some e =>
    let code := (mget (0, 0) s.basin.shadow e.ptr).2 % 8
    let st : DstState :=
      if code = 2 ∧ e.state = .writing then .writing else if code = 3 ∧ e.state = .spilling then .spilling
      else if code = 4 ∧ e.state = .saved then .saved else .dirty
    let s := if st ≠ .dirty then s
      else (s.onRill fun x => { x with captures := x.captures.filter fun c => c.seg != seg }).onSpill fun x =>
        { x with runs := x.runs.filter fun r => r.seg != seg }
    (s.onBasin fun b => { b with dst := mput seg { d := e.d, w := e.w, c := e.c, state := st, ptr := e.ptr } b.dst }).fault
      Src.DST .corrected

/-- Resolve an error found in a segment's DST entry (R92) or bitmap slot (R85). -/
def State.entryErr (s : State) (seg : Nat) (e : DstErr) : State :=
  if (s.basin.entry seg).isNone then s
  else match e with
    | .none => s
    | .entry => s.rebuildEntry seg
    | .bitmap => (s.onBasin fun b => b.slotFailed seg).fault Src.BASIN_MAP .corrected

end Sys2Proof.Machine
end

