-- ==== Sys2Proof/Machine/SpillOps.lean ====
section
/-! DEFINITION. The Spillway's operations: early warning, recovery and undo, commit, seal, drain, close-out, the
metadata steps and the state after a vault (6), with the choice and the void of a hold (7 R211 to R213). -/

namespace Sys2Proof.Machine

/-! ### Protection status (R22, R123) -/

/-- The code of Table 1-2a (R23). -/
def State.protectionCode (s : State) : Nat :=
  if !s.dev.serving then 4
  else if s.reg Reg.CEILING = 0 ∨ s.cist.a.ackLearn ∨ s.cist.b.ackLearn then 3
  else if s.reg Reg.CEILING * MiB < s.basin.dirtyBytes then 2
  else if s.reg Reg.CEILING < s.reg Reg.WEIR_FLOOR then 1
  else 0

/-- Update PROTECTION_STATUS, with its events (R22, R123). -/
def State.protection (s : State) : State :=
  let c := s.protectionCode
  if c = s.reg Reg.PROTECTION_STATUS then s
  else
    let s := (s.setReg Reg.PROTECTION_STATUS c).raise Ev.PROTECTION_CHANGE
    if c = 1 then (s.fault Src.WEIR .degraded).raise Ev.PROTECTION_LOW else s

/-! ### The shutdown record and pointer records (R7, R197) -/

/-- Set SHUTDOWN_RECORD from the latest pointer record: a SHUTDOWN record, and the event on a change. -/
def State.setShutdown (s : State) (v : Shut) (mseq : Nat) : State :=
  let was := s.reg Reg.SHUTDOWN_RECORD
  let (q, s) := s.record .shutdown 0x1FF [v.code + at' mseq 8, 0]
  let s := s.setReg Reg.SHUTDOWN_RECORD v.code
  if was = v.code then s else s.raise Ev.SHUTDOWN_RECORDED (q.getD 0)

/-- Append a pointer record; SHUTDOWN_RECORD reads its value (R197). -/
def State.pointerRec (s : State) (p : PointerRec) : State :=
  (s.nvDurable (.pointer p)).setShutdown p.shutdown p.manifestSeq

/-! ### Power events at the other blocks -/

/-- Resume an NV layer that a power event held quiet: the held records are written (R416). -/
def State.nvResume (s : State) : State :=
  if s.nv.state ≠ .quiet then s
  else
    let l := s.nv.held
    l.foldl (fun s d => s.nvWrite d) (s.onNv fun v => { v with state := .running, held := [] })

/-- Abandon a flush: the Rill runs on, and the owed reply says so (R348). -/
def State.dropFlush (s : State) : State :=
  match s.seq.flush with
  | none => s
  | some (k, o) =>
    let s := if k = .bist then (s.setReg Reg.BIST_STATE 0).onMgmt fun m => { m with bistLeft := [] } else s
    let s := (s.onSeq fun x => { x with flush := none }).onRill fun x => { x with
      state := if x.state = .flushing then .running else x.state }
    match o with
    | some o => s.settle o St.INVALID_STATE 0 []
    | none => s

/-- The blocks a rehearsal used are erased and go back to the reserve (R205 step 4, R206). -/
def State.rehearseOut (s : State) : State :=
  match s.spill.rehearse with
  | none => s
  | some n =>
    let mine := (s.whl.bands.filter fun p => decide (p.2.stream = .v) && p.2.set == n).map (·.1)
    let s := s.onWhl fun x => { x with
      table := x.table.map fun p => if mine.contains p.2.band then
        (p.1, { p.2 with state := if p.2.state = .open_ then .void else p.2.state, journalled := true }) else p
      bands := x.bands.map fun p => if mine.contains p.1 then (p.1, { p.2 with ended := some (p.2.next - 1) }) else p
      sets := x.sets.filter fun p => p.1 != n, setNow := none
      v := { x.v with lanes := [], turn := 0, cur := none } }
    (mine.foldl (fun s b => s.eraseBand b) s).onSpill fun x => { x with
      rehearse := none, released := x.released ++ [n] }

/-- What every block does at an early warning, or at a commit without one (Tables 5-4, 8-7, 9-9, R206, R377, R416,
R440). -/
def State.powerEvent (s : State) : State :=
  let s := if s.seq.flush.isSome then s.dropFlush.raise Ev.SHUTDOWN_ABANDONED else s
  let s := (s.voidStream .g).cistWarned.disarm.actSuspend
  let s := if s.spill.state = .rehearsing then
      ((s.rehearseOut.setReg Reg.REHEARSE_RESULT 4).actEnd 5).onSpill fun x =>
        { x with state := .armed, rehearseAgain := true }
    else s
  let s := s.onRill fun x => { x with state := if x.state = .running then .held else x.state }
  let s := s.onRes fun x => { x with
    state := if x.state = .running then .quiet else x.state
    eraseSuspended := if bit x.part.flags 1 then
        (x.blocks.filter fun p => decide (p.2.state = .erasing)).map (·.1) else [] }
  s.onNv fun x => { x with state := if x.state = .running then .quiet else x.state, eraseSuspended := x.erasing.isSome }

/-- A rehearsal begins (R205 step 1): its first wheels, one on each lane of an erased set of the reserve, are open. -/
def State.rehearseStart (s : State) : State :=
  if s.spill.state ≠ .armed then s
  else
    let s := s.onSpill fun x => { x with state := .rehearsing }
    match (if s.whl.openWheels .v = [] then s.openSet else none) with
    | none => s
    | some s =>
      let s := s.onSpill fun x => { x with rehearse := s.whl.setNow }
      (List.range (lanesOf s.res .v (s.spokesOf .v + 2))).foldl (fun s _ => match s.openWheel .v with
        | some (_, s) => s
        | none => s) s

/-- Device states in which the input's events of Table 6-1 are raised. -/
def Dev.warns : Dev → Bool
  | .bringup => true
  | d => d.serving

/-- Bytes of pages in the runs an undo has still to map: they count as captured by what follows it (R180). -/
def Spillway.undoBytes (x : Spillway) : Nat := 4096 * sumOf (x.runs.map fun r => pages r.pages)

/-- Open the vault reserve (R175 step 1): the first wheel of stream V is allocated, in a set laid out for it. -/
def State.openReserve (s : State) : State :=
  if s.whl.openWheels .v ≠ [] then s
  else match s.openWheel .v with
    | some (_, s) => s
    | none => s

/-- The early warning (R168, R175, R182, R183). With `enter` the device goes to PRE_SPILL when a dirty set exists; a commit
at the same moment takes its place. -/
def State.earlyWarning (s : State) (enter : Bool) : State :=
  if !s.dev.warns ∨ s.spill.warned then s
  else
    let erased := s.reserveErased
    let undoing := decide (s.spill.state = .undoing)
    let s := (s.onSpill fun x => { x with
      warned := true, present := false, timer := some (s.reg Reg.RIDE_THROUGH)
      bytes := if undoing then x.undoBytes else 0
      runs := if undoing then x.runs else [], dropped := if undoing then x.dropped else []
      rewrote := undoing && x.rewrote }).addReg Reg.EW_COUNT 1
    let s := s.powerEvent
    let s := if enter && s.dev.serving && decide (0 < s.basin.dirtyBytes) then
        let was := s.dev
        let t := (s.onSpill fun x => { x with state := .preSpilling, erasedAtEw := some erased }).setDev .preSpill
        { t with prev := was }.openReserve
      else s
    s.setConv

/-- Damped operation when DAMP_COUNT recoveries fall within DAMP_WINDOW (R182). -/
def State.damp (s : State) : State :=
  let l := (s.now :: s.spill.recoveries).filter fun t => decide (s.now ≤ t + 1000 * s.reg Reg.DAMP_WINDOW)
  let s := s.onSpill fun x => { x with recoveries := l }
  if s.reg Reg.DAMPED = 0 ∧ s.reg Reg.DAMP_COUNT ≤ l.length then
    let s := ((s.setReg Reg.DAMPED 1).addReg Reg.DAMP_ENTRIES 1).setReg Reg.DAMPING_CAP
      (s.reg Reg.DAMP_FRAC * s.reg Reg.CEILING / 200 * 2)
    (s.fault Src.SPILLWAY .log).raise Ev.EW_DAMPED
  else s

/-- Recovery (R168, R172, R179, R182, R440): the blocks resume, and the undo begins. -/
def State.recovery (s : State) : State :=
  if !s.spill.warned ∨ !s.dev.warns then s
  else
    let pre := decide (s.dev = .preSpill)
    let s := (s.onSpill fun x => { x with
      warned := false, present := true, timer := none, erasedAtEw := none
      state := if pre then .undoing else x.state }).addReg Reg.UNDO_COUNT 1
    let s := (s.onSeq fun x => { x with standby := true }).damp
    let s := if pre then (s.setDev s.prev).onWeir fun w => { w with due := true } else s
    let s := s.onRill fun x => { x with state := if x.state = .held then .running else x.state }
    let s := s.onRes fun x => { x with state := if x.state = .quiet then .running else x.state, eraseSuspended := [] }
    let s := (s.onNv fun x => { x with eraseSuspended := false }).nvResume
    s.actResume.setConv

/-! ### Speculative capture and its undo (R176 to R181) -/

/-- An entry may be captured speculatively (R176): its slots, none when it may not. -/
def State.specSlots (s : State) (seg : Nat) (e : DstEntry) : Option (List (Nat × Nat × Nat)) :=
  if e.state ≠ .dirty then none
  else if e.d = BitVec.allOnes 512 then some []
  else
    let new := s.rill.newPages seg e.d
    if s.reg Reg.RILL_FOLD_FINE < s.rill.fineCount seg + new.length then none else s.reserveSlots seg new

/-- The order of R176: ascending HEAT, descending AGE, ascending SEGMENT. -/
def specBefore (a b : Nat × DstEntry) : Bool :=
  decide (a.2.heat < b.2.heat) || (a.2.heat == b.2.heat &&
    (decide (b.2.age < a.2.age) || (a.2.age == b.2.age && decide (a.1 < b.1))))

/-- The next entry to capture, with its slots (R176). -/
def State.specNext (s : State) : Option (Nat × DstEntry × List (Nat × Nat × Nat)) :=
  s.basin.dst.foldl (fun acc p => match s.specSlots p.1 p.2 with
    | none => acc
    | some sl => match acc with
      | some (g, e, _) => if specBefore p (g, e) then some (p.1, p.2, sl) else acc
      | none => some (p.1, p.2, sl)) none

/-- Speculation runs: PRE_SPILL out of damped operation, or commit to seal (R176, R183, R184). -/
def State.speculates (s : State) : Bool :=
  (decide (s.spill.state = .preSpilling) && s.reg Reg.DAMPED == 0) || decide (s.spill.state = .window)

/-- Write a run of stream V (R177): its SEQ, pages and spans. -/
def State.vRun (s : State) (seg : Nat) (pgs : BitVec 512) : Option (Run × State) :=
  (s.place .v (pages pgs)).map fun (spans, s) =>
    let (seq, s) := s.takeSeq
    let u := s.runOf seq seg (if pgs = BitVec.allOnes 512 then .vault else .fine) pgs spans
    (u, (s.onRill fun x => { x with runs := x.runs ++ [u] }).onWhl fun x => x.noteSeq spans seq)

/-- One speculative capture (R176 to R178); `ue` are the lines that read uncorrectable. -/
def State.speculate (s : State) (ue : List Nat) : State :=
  if !s.speculates ∨ s.reg Reg.PRESPILL_MAX * MiB ≤ s.spill.bytes then s
  else match s.specNext with
    | none => s
    | some (seg, e, slots) => match s.basin.capture seg e.d true with
      | none => s
      | some b => match ({ s with basin := b }.readErrs seg e.d ue).vRun seg e.d with
        | none => s
        | some (u, s) => s.onSpill fun x => { x with
            bytes := x.bytes + 4096 * pages e.d
            runs := x.runs ++ [{ seg := seg, seq := u.seq, pages := e.d, waits := spanWheels u.spans, slots := slots,
                                 kind := u.kind }] }

/-- Hand the wheels of stream V to the Rill as closed SLC landing wheels (R152, R179): their bands end. Bands of the open set
that hold no wheel go to the region `unused`; one that held metadata alone is erased first (R181, R233). Every wheel's CLOSE
descriptor is journalled before (Table 9-6). -/
def State.handOver (s : State) (unused : Region := .pool) : State :=
  let mine := s.whl.bands.filter fun p => decide (p.2.stream = .v)
  let wheels := (s.whl.table.filter fun p => decide (p.2.stream = .v)).map (·.1)
  let s := s.onWhl fun x => { x with pending := x.pending ++ wheels.filterMap fun n => (x.wheel n).map fun w =>
    { wheel := n, type := if w.state = .void then .void else .close, stream := .l, erasures := w.erasures } }
  let s := if wheels = [] then s else s.journalStrip true true
  let s := s.onWhl fun x =>
    let table := x.table.map fun (n, w) =>
      if w.stream = .v then (n, { w with stream := .l, journalled := true, order := x.orders + w.order + 1 }) else (n, w)
    { x with table := table, orders := 2 * x.orders + 1 }
  let s := mine.foldl (fun s (base, b) =>
    let used := s.whl.table.any fun p => p.2.band == base
    if !used && decide (0 < b.next) then s.eraseBand base else
    let res := b.blocks.foldl (fun r p =>
      let k := r.blk p.key
      r.setBlk p.key (if used then { k with region := if k.state = .retired then k.region else .landing }
        else { k with region := if k.state = .retired then k.region else unused, band := none })) s.res
    let ended : Band := { b with stream := .l, ended := some (b.next - 1), lane := 0 }
    let bands := if used then mput base ended s.whl.bands else mdel base s.whl.bands
    { s with res := res, whl := { s.whl with bands := bands } }) s
  s.onWhl fun x => { x with
    sets := x.sets.filter fun p => !p.2, setNow := none
    v := { x.v with lanes := [], turn := 0, cur := none } }

/-- Undo one pre-spilled run (R179): mapped and completed when its wheels have closed, else abandoned. -/
def State.undoRun (s : State) (r : SpecRun) : State :=
  let q := s.reg Reg.HEAT_QUANTUM
  if r.waits.isEmpty then
    match s.rill.runOfSeq r.seq r.seg with
    | some u =>
      let before := s.basin.dirtyBytes
      let s := s.onRill fun x => x.mapRun u (decide (r.kind = .vault)) r.slots r.pages
      let s := s.onBasin fun b => b.complete q r.seg r.pages true
      s.onWeir fun w => { w with cleaned := w.cleaned + (before - s.basin.dirtyBytes) }
    | none => s.onBasin fun b => b.abandon q r.seg true
  else s.onBasin fun b => b.abandon q r.seg true

/-- A wheel of stream V that holds no unit is as if it had not been opened: its row, and with the first row of a set the
set, are erased as before. -/
def State.unopen (s : State) (n : Nat) : State :=
  match s.whl.bandOf n with
  | none => s
  | some (b, row) =>
    let res := if row = 0 then b.spokes.foldl (fun r p =>
        let k := r.blk p.key
        if k.state = .retired then r else r.setBlk p.key { k with state := .erased }) s.res else s.res
    let whl : Wheels := { s.whl with
      table := mdel n s.whl.table
      bands := mput b.base { b with next := row } s.whl.bands
      v := { s.whl.v with cur := none, turn := b.lane } }
    let fresh := !(whl.bands.any fun p => decide (p.2.stream = .v) && p.2.set == b.set && decide (0 < p.2.next))
    if !fresh then { s with res := res, whl := whl }
    else
      let mine := whl.bands.filter fun p => decide (p.2.stream = .v) && p.2.set == b.set
      let res := mine.foldl (fun r p => p.2.blocks.foldl (fun r q => r.setBlk q.key { r.blk q.key with band := none }) r) res
      { s with
        res := res
        whl := { whl with
          bands := whl.bands.filter fun p => !(decide (p.2.stream = .v) && p.2.set == b.set)
          sets := whl.sets.map fun p => if p.1 = b.set then (p.1, false) else p
          setNow := none, v := { whl.v with lanes := [], turn := 0 } } }

/-- The undo of the pre-spill, to its end (R179). In damped operation nothing was programmed, and the reserve closes as it
was opened (R183; DEDUCED, log entry 240). -/
def State.undo (s : State) : State :=
  if s.spill.state ≠ .undoing then s
  else
    let empty := (s.whl.openWheels .v).filter fun n => (s.whl.wheel n).any fun w => w.filled == 0
    let s := if s.reg Reg.DAMPED = 1 then empty.foldl (fun s n => s.unopen n) s else s
    let s := (s.whl.openWheels .v).foldl (fun s n => (s.fillWheel n).closeWheel n) s
    let l := s.spill.runs
    let s := s.onSpill fun x => { x with runs := [] }
    let s := (l.foldl (fun s r => s.undoRun r) s).handOver
    s.onSpill fun x => { x with state := .armed, rewrote := false }

/-! ### Commit (R173, R174) -/

/-- The commit identity of this device: ORIGIN, CGEN, DOMAIN_ID (R447, R449). -/
def State.ownNotice (s : State) : Nat × Nat × Nat :=
  (if s.allOrNone then 0x7FF else s.reg Reg.MEMBER_NO, s.reg Reg.CGEN, s.reg Reg.DOMAIN_ID)

/-- Keep a notice identity among the eight latest (R448). -/
def State.keepNotice (s : State) (origin cgen : Nat) : State :=
  s.onMir fun x => { x with notices := ((origin, cgen) :: x.notices).take 8 }

/-- Originate a FAIL_NOTICE on every port that is up (R448). -/
def State.failNotice (s : State) : State :=
  let (o, c, d) := s.ownNotice
  let s := s.keepNotice o c
  -- Under ALL_OR_NONE every holder commits with it (R457).
  let s := if o = 0x7FF then s.onMir fun x => { x with grants := [] } else s
  s.portsUp.foldl (fun s p => s.emit (.notice p o c d)) s

/-- COMMIT_ID (Table 15-2). -/
def State.commitId (s : State) : Nat :=
  let (o, c, d) := s.ownNotice
  o + at' d 11 + at' c 24

/-- Slots shed at a commit (Table 11-3). -/
def State.shed (s : State) : List Nat := (List.range 24).filter fun n => s.slotKind n != 0 && bit (s.slotCfg n) 42

/-- The manifest as the commit begins it (R32, R33, Table 6-5). -/
def State.newManifest (s : State) (cause : Nat) : Manifest :=
  let prev := s.spill.manifests.find? fun m => m.seq == s.reg Reg.ACTIVE_SEQ
  { seq := s.reg Reg.MANIFEST_SEQ + 1
    prevSeq := s.reg Reg.ACTIVE_SEQ, chained := decide (s.reg Reg.ACTIVE_SEQ ≠ 0)
    prevJlocA := (prev.map (·.jlocA)).getD 0, prevJlocB := (prev.map (·.jlocB)).getD 0
    rewrites := s.spill.rewrote, installed := s.basin.installed / 2 ^ 21
    commitId := s.commitId, cause := cause, prespill := decide (s.dev = .preSpill)
    damped := s.reg Reg.DAMPED == 1, stateAtCommit := s.dev.code
    ceiling := s.reg Reg.CEILING, capacity := s.reg Reg.VAULT_CAPACITY_EST, breaches := s.reg Reg.BREACH_COUNT
    eByte := s.reg Reg.E_BYTE, eFixed := s.reg Reg.E_FIXED }

/-- Wheels of stream V of the vault in hand: those of earlier, unretired vaults are journalled already. -/
def Wheels.vWheels (x : Wheels) : List (Nat × Wheel) :=
  x.table.filter fun p => decide (p.2.stream = .v) && !p.2.journalled

/-- The first wheel of stream V of the vault in hand: the one that succeeds none of the others. -/
def State.firstV (s : State) : Option Nat :=
  let l := s.whl.vWheels
  ((l.filter fun p => !l.any fun q => q.2.successor == some p.1).map (·.1)).head?

/-- The last wheel of stream V: the one without a successor. -/
def State.lastV (s : State) : Option Nat :=
  let l := s.whl.vWheels
  ((l.filter fun p => !l.any fun q => p.2.successor == some q.1).map (·.1)).getLast?

/-- A commit abandons the Siphon's fetches: extents fetched but not online hold nothing and list no poison (R2, R230). -/
def State.discardFetched (s : State) : State :=
  s.sip.fetched.foldl (fun s e =>
    let lo := s.firstSeg e * 2 ^ 21
    { s with mem := putCells s.mem lo (lo + GiB) [] }.onPort fun h => { h with
      poison := h.poison.filter fun p => decide (p.1 < lo / 64) || decide ((lo + GiB) / 64 ≤ p.1) }) s

/-- A commit aborts an off-line BIST run; the Basin exits self-refresh (R487). -/
def State.bistAbort (s : State) : State :=
  if s.mgmt.bistOff then
    ((s.setReg Reg.BIST_STATE 4).onMgmt fun m => { m with bistOff := false, bistLeft := [] }).onBasin fun b =>
      { b with state := .serving }
  else s

/-- The vault begins (R173, R197, and the commit's line of every block's power-event table). -/
def State.vaultStart (s : State) (cause : Nat) : State :=
  let man := s.newManifest cause
  let erased := match s.spill.erasedAtEw with
    | some n => n
    | none => s.reserveErased
  let s := s.discardFetched
  let s := if s.spill.warned then s else s.powerEvent
  let spec := decide (s.spill.state = .preSpilling) || decide (s.spill.state = .undoing)
  let ev := s.reg Reg.REC_SEQ
  let s := s.bistAbort
  let s := (s.setDev .vaulting cause).protection
  let s := if cause = 3 then s else s.failNotice
  let s := s.onPort fun x => { x with windowOpen := true }
  let s := s.weirLatch
  let s := s.actEndAll.cistCommit
  let s := ((s.voidUnissued .l).voidUnissued .f).voidUnissued .c
  let s := s.onRill fun x => { x with state := .stopped }
  let s := (s.dropEn s.shed).onSeq fun x => { x with active := .vaultKeep, side := [], standby := false }
  let s := s.onSip fun x => { x with
    state := .idle, floorAtCommit := s.reg Reg.FLOOR_VAULT_ENERGY, issued := 0, online := 0, order := [], fetched := [],
    settles := [], foldDue := [], folds := [] }
  let s := s.onSpill fun x => { x with
    state := .window, warned := false, timer := none, present := false, erasedAtEw := some erased
    runs := if spec then x.runs else []
    bytes := if s.spill.state = .preSpilling then x.bytes else if spec then x.undoBytes else 0
    dropped := if spec then x.dropped else [], rewrote := false
    vault := some { man := { man with evCommit := ev }, committedAt := s.now } }
  let s := (s.setReg Reg.SERVICE_OPEN 0).setReg Reg.VAULT_SLOW_DROPS s.spill.dropped.length
  let s := s.pointerRec { manifestSeq := man.seq, closed := false, shutdown := .vaultLost, wheelFirst := s.firstV.getD 0 }
  let s := s.setConv
  let d := s.drawn
  s.onSpill fun x => { x with vault := x.vault.map fun v => { v with wantCommit := d, ports := d } }

/-- The device state after a vault, VAULT_KEEP having ended (R204, R346, Table 6-10): FAULT after causes 0x4 and 0x5;
else SEALED with the input present, KICKSTAND with a standing hold, AON_ONLY otherwise. -/
def State.vaultEnd (s : State) (cause : Nat) (hold : Bool) : State :=
  let kept := fun (s : State) => (s.onSeq fun x => { x with active := .none }).flushCounters.setConv
  if cause = 4 ∨ cause = 5 then kept (s.setDev .fault)
  else if s.spill.present then kept (s.setDev .sealed)
  else if hold then
    let s := (s.count Reg.HOLD_COUNT 1).onSip fun x => { x with hold := { x.hold with state := .holding, elapsed := 0 } }
    s.kickstandDown
  else s.powerDown

/-- Clear the AON hold record and the token line (R214, R216, R225). -/
def State.clearHold (s : State) : State :=
  (s.onSip fun x => { x with hold := {} }).onBasin fun b => { b with token := {} }

/-- A commit while a whole-device erase runs (Table 6-3): no drain, no manifest. -/
def State.commitErasing (s : State) (cause : Nat) : State :=
  let s := if s.spill.warned then s else s.powerEvent
  let s := (s.setDev .vaulting cause).protection
  let s := if cause = 3 then s else s.failNotice
  let s := ((s.actEndAll.cistCommit).weirLatch).onPort fun x => { x with sealed := true, erasing := none }
  let s := (s.setMedia { s.port with media := .notReady, memActive := true }).onBasin fun b =>
    { b with frozen := true, state := .frozen }
  let s := s.onRill fun x => { x with state := .stopped }
  let s := s.onSpill fun x => { x with
    state := .done, warned := false, timer := none, present := false, sanitizeIncomplete := true }
  let s := ((s.dropEn s.shed).onSeq fun x => { x with active := .vaultKeep, side := [], standby := false }).setReg
    Reg.SERVICE_OPEN 0 |>.setConv
  let s := s.pointerRec { manifestSeq := s.reg Reg.MANIFEST_SEQ, shutdown := .none, sanitizeIncomplete := true }
  (s.nvResume).vaultEnd cause false

/-- A commit in BRINGUP (Table 6-3, R216, R372): no vault; the sequencer powers down, with FAULT kept for cause 0x4. -/
def State.commitBringup (s : State) (cause : Nat) : State :=
  let s := if cause = 3 then s else s.failNotice
  let s := if s.weir.state = .planning then s.weirLatch else s
  let s := if s.sip.fromHold then (s.setReg Reg.HOLD_RESULT (if s.sip.holdBad then 5 else 7)).clearHold else s
  let s := s.onSpill fun x => { x with warned := false, timer := none, present := false }
  (if cause = 4 then s.setDev .fault else s).powerDown

/-- The commit signal, acted on by device state (R5, R173, R174, Table 6-3). -/
def State.commit (s : State) (cause : Nat) : State := match s.dev with
  | .bringup => s.commitBringup cause
  | .maintenance => if s.port.erasing.isSome then s.commitErasing cause else s.vaultStart cause
  | .restoring | .online | .preSpill => s.vaultStart cause
  | .kickstand => if cause = 4 then ((s.endHold 4 .broken).setDev .fault).powerDown else s
  | .off | .aonOnly | .vaulting | .sealed | .fault => s

/-! ### The hold at the seal (R211 to R213) -/

/-- Policy energy of Table 4-1 from the estimates as they stand. -/
def State.policyNow (s : State) (eFix eb : Nat) : Nat :=
  (s.policy false fun e => (s.rawCeiling e eFix eb).1).1

/-- Energy a hold needs in reserve, mJ (R211). -/
def State.holdFloor (s : State) : Nat :=
  s.sip.floorAtCommit + 1000 * (s.reg Reg.KICK_P_HOLD * s.reg Reg.KICK_HOLD_MIN)

/-- The conditions of R211 at the seal, with `dirty` MiB to drain. -/
def State.holdChosen (s : State) (m : Manifest) (dirty : Nat) : Bool :=
  let low := match s.inputMv with
    | some v => decide (v < s.reg Reg.EW_THRESHOLD)
    | none => true
  let m100 := 100 + s.reg Reg.WEIR_MARGIN
  let cost := m100 * (m.eFixed * 1024 + m.eByte * dirty)
  s.reg Reg.KICK_ENABLE == 1
    && (m.cause == 1 || m.cause == 2 || (m.cause == 3 && low))
    && (m.stateAtCommit == Dev.online.code || m.stateAtCommit == Dev.preSpill.code)
    && decide (s.basin.state = .serving)
    && !s.fc.basinFatal
    && decide (102400 * s.holdFloor + cost ≤ 102400 * s.policyNow m.eFixed m.eByte)

/-- Choose the hold (R212): the token line, the AON record, ARMED. -/
def State.chooseHold (s : State) (m : Manifest) : State :=
  let t := Config.holdToken s.freeCtr % (2 ^ 48 - 1) + 1
  let s := { s with freeCtr := s.freeCtr + 1 }
  let s := s.onBasin fun b => { b with token := TokenLine.of t m.seq }
  (s.onSip fun x => { x with
    state := .armedHold, hold := { state := .armed, token := t, manifestSeq := m.seq } }).onSpill fun x =>
      { x with vault := x.vault.map fun v => { v with man := { v.man with holdChosen := true, token := t } } }

/-- Switch a drained slot set off: its rails fall on purpose, and what the set held is gone from DRAM (R99, R194). -/
def State.setOff (s : State) (k : Nat) : State :=
  let s := (s.dropEn (slotSet k)).onBasin fun b => if k = 0 then { b with slot0 := .leave } else { b with slot1 := .leave }
  { s with mem := s.mem.filter fun c => s.basin.setOf (segOf c.1) != k }

/-- Void a chosen hold (R213): the record and the token line cleared, the sets already drained switched off. -/
def State.voidHold (s : State) : State :=
  if s.sip.hold.state ≠ .armed then s
  else
    let early : Bool := match s.spill.vault with
      | some (v : Vault) => decide (v.step = .drain) || decide (v.step = .metadata) || decide (v.step = .journal)
      | none => false
    let s := (s.onSip fun x => { x with state := .idle, hold := {} }).onBasin fun b => { b with token := {} }
    let s := s.setReg Reg.HOLD_RESULT 6
    let s := if early then s.onSpill fun x => { x with
        vault := x.vault.map fun v => { v with man := { v.man with holdChosen := false, token := 0 } } } else s
    let s := if s.basin.slot0 = .selfRefresh then s.setOff 0 else s
    if s.basin.slot1 = .selfRefresh then s.setOff 1 else s

/-! ### The seal and the drain (R185 to R193) -/

/-- Change the vault in progress. -/
def State.onVault (s : State) (f : Vault → Vault) : State := s.onSpill fun x => { x with vault := x.vault.map f }

/-- The seal (R16, R24, R26, R98, R185, R211). `tFlash` is the hottest flash package. -/
def State.seal (s : State) (tFlash : Int) : State :=
  match s.spill.vault with
  | none => s
  | some v =>
    if s.spill.state ≠ .window then s
    else
      let s := s.setMedia { s.port with media := .notReady, memActive := true }
      let s := s.onPort fun x => { x with windowOpen := false, sealed := true }
      let s := s.onBasin fun b => { b with frozen := true }
      let dirty := ceilDiv s.basin.dirtyBytes MiB
      let d := s.drawn
      let m := { v.man with
        dirtyAtSeal := dirty, tFlash := tFlash, lElig := lunsEligible s.res (s.barred .v)
        unitsSpec := sumOf (s.spill.runs.map fun r => pages r.pages)
        tSeal := 1000 * (s.now - v.committedAt) }
      let s := (s.onSpill fun x => { x with state := .draining }).onVault fun v =>
        { v with man := m, sealedAt := s.now, wantStart := d, ports := d }
      let hold := s.holdChosen m dirty
      let s := s.onBasin fun b => { b with state := .frozen }
      -- An input that has returned since the commit voids the hold at once (R213, R215).
      if hold then if m.powerReturned then (s.chooseHold m).voidHold else s.chooseHold m else s

/-- Pages of an entry saved by speculation (R186). -/
def State.specSaved (s : State) (seg : Nat) (e : DstEntry) : BitVec 512 :=
  match s.spill.runs.find? fun r => r.seg == seg with
  | some r => r.pages &&& ~~~e.w
  | none => 0

/-- Pages of a segment already drained in this vault. -/
def Vault.drained (v : Vault) (seg : Nat) : BitVec 512 :=
  (v.man.index.filter fun r => r.seg == seg).foldl (fun x r => x ||| r.mask) 0

/-- Every segment that still has pages to drain: slot set, heat, segment, pages, overflow (R186). -/
def State.toDrain (s : State) (v : Vault) : List (Nat × Nat × Nat × BitVec 512 × Bool) :=
  let es := s.basin.dst.map fun p =>
    (s.basin.setOf p.1, p.2.heat, p.1, (p.2.d &&& ~~~s.specSaved p.1 p.2) &&& ~~~v.drained p.1, false)
  let os := s.basin.overflow.map fun g =>
    (s.basin.setOf g, s.basin.heatOf g, g, BitVec.allOnes 512 &&& ~~~v.drained g, true)
  (es ++ os).filter fun x => decide (x.2.2.2.1 ≠ 0)

/-- The order of the drain: slot set, descending heat, ascending segment (R20, R186). -/
def drainBefore (a b : Nat × Nat × Nat × BitVec 512 × Bool) : Bool :=
  decide (a.1 < b.1) || (a.1 == b.1 && (decide (b.2.1 < a.2.1) || (a.2.1 == b.2.1 && decide (a.2.2.1 < b.2.2.1))))

/-- The sum of E_rem over the ports the converter draws from (R192, R335). -/
def State.eRem (s : State) : Nat := sumOf (s.drawn.map fun i => (s.cist.port i).eRem)

/-- Close-out has arrived: on module energy, the sum has fallen to CLOSEOUT_ENERGY (R192, R194). -/
def State.closeoutDue (s : State) : Bool := decide (s.seq.mode = .source) && decide (s.eRem ≤ s.view Reg.CLOSEOUT_ENERGY)

/-- The delivering ports are no longer those of the seal: MEAS_VALID is 0 (R194). -/
def State.portsMoved (s : State) : State :=
  let d := s.drawn
  s.onVault fun v => if v.ports = d ∨ s.spill.state ≠ .draining then v
    else { v with man := { v.man with measValid := false } }

/-- The drain ends: at its end, or at close-out (R193, R196). -/
def State.drainEnd (s : State) : State :=
  let s := s.portsMoved
  let d := s.drawn
  (s.onSpill fun x => { x with state := .closing }).onVault fun v => { v with
    step := .metadata, wantEnd := d, man := { v.man with tEnd := 1000 * (s.now - v.sealedAt) } }

/-- Close-out (R193): no further host strip; the hold is void. -/
def State.closeOut (s : State) : State :=
  if s.spill.state ≠ .draining then s
  else
    let s := s.voidHold
    let s := s.onVault fun v => { v with man := { v.man with closeout := true } }
    (s.fault Src.SPILLWAY .degraded).drainEnd

/-- Report a slot set drained (R99, R187): its entries with nothing left to drain are SAVED (Table 3-6); self-refresh; without
a chosen hold its power goes off. -/
def State.reportSet (s : State) (k : Nat) : State :=
  match s.spill.vault with
  | none => s
  | some v =>
    if v.reported.contains k then s
    else
      let unsaved := (s.toDrain v).map fun x => x.2.2.1
      let s := s.onVault fun v => { v with reported := v.reported ++ [k] }
      let s := s.onBasin fun b =>
        let saved := fun (p : Nat × DstEntry) =>
          if b.setOf p.1 == k && !unsaved.contains p.1 then (p.1, { p.2 with state := .saved }) else p
        let b : Basin := { b with dst := b.dst.map saved }
        if k = 0 then { b with slot0 := .selfRefresh } else { b with slot1 := .selfRefresh }
      if s.sip.hold.state = .armed then s else s.setOff k

/-- Every wheel of stream V that holds a unit of a slot set has closed (R187). -/
def State.setClosed (s : State) (k : Nat) : Bool :=
  let open' := s.whl.openWheels .v
  s.rill.runs.all fun u => s.basin.setOf u.seg != k || u.spans.all fun p => !open'.contains p.1

/-- The next run of the drain, or the drain's end (R17, R186, R192). `cut` is the number of its pages issued before close-out
arrived, when it is due by the estimates that stand; `err` is an error found in the segment's entry or bitmap slot, `ue` the
lines that read uncorrectable (Table 3-7, R85, R92). -/
def State.drainRun (s : State) (cut : Option Nat) (err : DstErr) (ue : List Nat) : State :=
  match s.spill.vault with
  | none => s
  | some v =>
    if s.spill.state ≠ .draining then s
    else if s.closeoutDue && cut.getD 0 == 0 then s.closeOut
    else match (sortBy drainBefore (s.toDrain v)).head? with
      | none => s.drainEnd
      | some x =>
        let seg := x.2.2.1
        let s := s.entryErr seg err
        let (need, ovf) := match (s.toDrain v).find? fun y => y.2.2.1 == seg with
          | some y => y.2.2.2
          | none => (0, false)
        let due := s.closeoutDue
        let pgs := if due then pageMap ((pageList need).take (cut.getD 0)) else need
        let s := s.readErrs seg pgs ue
        if pgs = 0 then (if due then s.closeOut else s)
        else match s.vRun seg pgs with
          | none => s
          | some (u, s) =>
            let s := s.onBasin fun b => match b.entry seg with
              | some e => { b with dst := mput seg { e with state := .spilling } b.dst }
              | none => b
            let s := s.onVault fun v => { v with man := { v.man with
              unitsDrained := v.man.unitsDrained + pages pgs
              index := v.man.index ++ [{ seg := seg, seq := u.seq, mask := pgs, whole := decide (u.kind = .vault),
                                         spec := false, overflow := ovf, poison := !u.poison.isEmpty }] } }
            if due then s.closeOut else s

/-! ### Erasures in stream V (R189, R190) -/

/-- Write the data units of a wheel of stream V again, with their headers, into new wheels (R190), in one moment (DEDUCED,
log entry 236). After close-out none is programmed any more, and the pages are unsaved (R191). -/
def State.rewriteWheel (s : State) (n : Nat) : State :=
  let done := s.spill.vault.any fun v => v.man.closeout
  let (_, s) : Nat × State := s.rill.runs.foldl (fun (i, s) u =>
    if u.spans.any fun p => p.1 == n then
      let keep := u.spans.flatMap fun p => if p.1 = n then [] else [p]
      let k := sumOf ((u.spans.filter fun p => p.1 == n).map fun p => p.2.2)
      match (if done then none else s.place .v k) with
      | some (new, s) =>
        -- The new units stand where the old ones stood in page order.
        let spans := match u.spans.findIdx? fun p => p.1 == n with
          | some j => (u.spans.take j).filter (fun p => p.1 != n) ++ new ++ (u.spans.drop j).filter fun p => p.1 != n
          | none => keep ++ new
        let s := (s.onRill fun x => { x with runs := x.runs.set i { u with spans := spans } }).onWhl fun x =>
          x.noteSeq new u.seq
        (i + 1, s.onSpill fun x => { x with runs := x.runs.map fun r =>
          if r.seq = u.seq ∧ r.seg = u.seg then { r with waits := r.waits.filter (· ≠ n) ++ spanWheels new } else r })
      | none =>
        -- What is not programmed again is unsaved (R191), also where no reserve is left for it.
        let lost := (u.at.filter fun p => p.2.wheel == n).map (·.1)
        let cutOf := fun (m : BitVec 512) => m &&& ~~~pageMap lost
        let s := s.onRill fun x => { x with runs := x.runs.set i { u with spans := keep, pages := cutOf u.pages } }
        (i + 1, (s.onVault fun v => { v with man := { v.man with index := v.man.index.map fun r =>
          if r.seq = u.seq then { r with mask := cutOf r.mask } else r } }).onSpill fun x =>
            { x with runs := x.runs.map fun r => if r.seq = u.seq then { r with pages := cutOf r.pages } else r })
    else (i + 1, s)) (0, s)
  let s := s.onWhl fun x => x.upd n fun w => { w with state := .void, rewrite := true }
  let s := (s.onSpill fun x => { x with rewrote := true }).onVault fun v => { v with man := { v.man with rewrites := true } }
  s.fault Src.SPILLWAY .corrected

/-- Rewrite every wheel of host pages of the vault or pre-spill in hand that has met its third erasure (R190, R191). -/
def State.rewriteDue (s : State) : State :=
  ((s.whl.vWheels.filter fun p => s.vaultWheel p.2 && !p.2.metaWheel && decide (p.2.state ≠ .void)
    && decide (3 ≤ s.whl.erasureCount s.res p.1 p.2)).map (·.1)).foldl (fun s n => s.rewriteWheel n) s

/-- A strip of a stream V wheel becomes an erasure; the third has the wheel written again (R189, R190). -/
def State.vErasure (s : State) (n col : Nat) : State :=
  (s.onWhl fun x => x.upd n fun w =>
    if w.erasures.contains col then w else { w with erasures := w.erasures ++ [col] }).rewriteDue

/-! ### Metadata, manifest, pointer (R196 to R204) -/

/-- The index of the vault: speculative and drained runs in ascending SEQ, each with its first unit's location (R201). -/
def State.vaultIndex (s : State) (v : Vault) : List IndexRec :=
  let locOf := fun (r : IndexRec) => match (s.rill.runOfSeq r.seq r.seg).bind fun u => u.spans.head? with
    | some p => { r with loc := { wheel := p.1, unit := p.2.1 } }
    | none => r
  let spec : List IndexRec := s.spill.runs.map fun r =>
    { seg := r.seg, seq := r.seq, mask := r.pages, whole := decide (r.kind = .vault), spec := true, overflow := false,
      poison := (s.rill.runs.find? fun u => u.seq == r.seq && u.seg == r.seg).any fun u => !u.poison.isEmpty }
  (sortBy (fun a b => decide (a.seq ≤ b.seq)) (spec ++ v.man.index)).map locOf

/-- The shortfall list in drain order (R202). -/
def State.shortList (s : State) (v : Vault) : List Short :=
  (sortBy drainBefore (s.toDrain v)).map fun x =>
    { seg := x.2.2.1, first := (pageList x.2.2.2.1).headD 0, overflow := x.2.2.2.2, pages := x.2.2.2.1 }

/-- Close the wheels of stream V that are still open: a full one as it stands, the last as a short wheel (R188). -/
def State.closeV (s : State) : State :=
  (s.whl.openWheels .v).foldl (fun s n =>
    let s := s.onWhl fun x => x.upd n fun w => if w.issued then w
      else { w with short := true, strips := ceilDiv w.filled 16, filled := 16 * ceilDiv w.filled 16, issued := true }
    s.closeWheel n) s

/-- Place `n` units of metadata, at most 1,024 at a time, closing each wheel that is full: the first unit's location. -/
def State.placeMeta : Nat → Nat → State → Option (Option Loc × State)
  | _, 0, s => some (none, s)
  | 0, _, _ => none
  | f + 1, n, s => (s.place .v (Nat.min n 1024)).bind fun (sp, s) =>
    let s := s.onWhl fun x => sp.foldl (fun x p => x.upd p.1 fun w => { w with metaWheel := true }) x
    let s := ((s.whl.openWheels .v).filter fun i => (s.whl.wheel i).any (·.issued)).foldl (fun s i => s.closeWheel i) s
    let s := s.onVault fun v => { v with metaUnits := v.metaUnits + Nat.min n 1024 }
    (State.placeMeta f (n - 1024) s).map fun (_, s) =>
      (sp.head?.map fun p => ({ wheel := p.1, unit := p.2.1 } : Loc), s)

/-- Place the extents of the lengths given, each from a unit of its own (R200); none when the reserve does not hold them. -/
def State.placeExtents (s : State) : List Nat → Option (List Extent × State)
  | [] => some ([], s)
  | n :: l => (State.placeMeta (ceilDiv n 4096) (ceilDiv n 4096) s).bind fun (loc, s) =>
    (s.placeExtents l).map fun (es, s) => (({ loc := loc.getD {}, length := n } : Extent) :: es, s)

/-- Step 3 is programmed (R196): the drain's wheels and the metadata wheels are closed, the highest slot set is
reported. `tMed` is the median SLC program time of the drain. A manifest whose extents the reserve did not hold fails the
checks of Table 7-5. -/
def State.metadataDone (s : State) (tMed : Nat) : State :=
  match s.spill.vault with
  | none => s
  | some v =>
    if s.spill.state ≠ .closing ∨ v.step ≠ .metadata then s
    else
      let s := s.closeV
      let short := s.shortList v
      let idx := s.vaultIndex v
      let eras : List (Nat × List Nat × Bool) := (s.whl.vWheels.filter fun p =>
        !p.2.erasures.isEmpty || decide (p.2.state = .void)).map fun p => (p.1, p.2.erasures, decide (p.2.state = .void))
      let seqs := idx.map (·.seq)
      let m : Manifest := { v.man with
        outcome := if short.isEmpty then .vaultedComplete else .vaultedShort
        bitmaps := s.basin.dst.map fun p => (p.1, p.2.d)
        slots := s.basin.dst.map fun p => (p.2.ptr, (p.2.d, p.2.w)), shadow := s.basin.shadow
        overflow := s.basin.overflow, heat := s.basin.heatCopy (s.reg Reg.HEAT_QUANTUM)
        index := idx, short := short, erasures := eras
        shortPages := sumOf (short.map fun r => pages r.pages), tMed := tMed
        -- A vault without a run: the WRITE_SEQ in force, so that R227's level tops every older copy (DEDUCED, log entry 38)
        seqFirst := seqs.headD (s.reg Reg.WRITE_SEQ), seqLast := if seqs = [] then s.reg Reg.WRITE_SEQ else maxOf seqs }
      let (m, s) : Manifest × State := match s.placeExtents m.lengths with
        | some (es, s) => (({ m with extents := es } : Manifest), s)
        | none => (({ m with valid := false } : Manifest), s)
      let s := s.closeV
      let m := { m with wheelFirst := s.firstV.getD 0, wheelLast := s.lastV.getD 0 }
      let s := s.onVault fun v => { v with step := .journal, man := m }
      let s := if s.basin.topSet = 1 then s.reportSet 0 else s
      s.reportSet s.basin.topSet

/-- Step 4 is programmed: the descriptors of every stream V wheel (Table 9-6). Step 5 begins, with the hold's energy
check and E_CLOSE (R213, R335). -/
def State.journalStepDone (s : State) (copyA copyB : Bool) : State :=
  match s.spill.vault with
  | none => s
  | some v =>
    if s.spill.state ≠ .closing ∨ v.step ≠ .journal then s
    else
      let ds : List Desc := s.whl.vWheels.map fun p =>
        { wheel := p.1, type := if p.2.state = .void then .void else .close, stream := .v, erasures := p.2.erasures }
      let s := (s.onWhl fun x => { x with
        pending := x.pending ++ ds
        table := x.table.map fun p => if p.2.stream = .v then (p.1, { p.2 with journalled := true }) else p }
        ).journalStrip copyA copyB
      let s := if s.sip.hold.state = .armed ∧ s.policyNow v.man.eFixed v.man.eByte < s.holdFloor then s.voidHold else s
      let d := s.drawn
      s.onVault fun v => { v with
        step := .manifest, wantClose := d, man := { v.man with evClose := s.reg Reg.REC_SEQ } }

/-- Step 6 is written (R29, R34, R197, R204): the closing pointer record, the counts, the held records, and the next state. -/
def State.pointerDone (s : State) : State :=
  match s.spill.vault with
  | none => s
  | some v =>
    if s.spill.state ≠ .closing ∨ v.step ≠ .pointer then s
    else
      let m := v.man
      let s := s.pointerRec {
        manifestSeq := m.seq, shutdown := if m.copies = 0 then .vaultedShort else m.outcome
        jlocA := m.jlocA, jlocB := m.jlocB, copies := m.copies, wheelFirst := m.wheelFirst, wheelLast := m.wheelLast }
      let s := s.count Reg.VAULT_COUNT 0
      let s := ((s.setReg Reg.VAULT_LAST_BYTES ((m.unitsDrained + m.unitsSpec) * 4096 / MiB)).setReg
        Reg.VAULT_LAST_SHORT (ceilDiv (m.shortPages * 4096) MiB)).setReg Reg.VAULT_LAST_TIME (s.now - v.committedAt)
      let hold := decide (s.sip.hold.state = .armed)
      let s := (s.onSpill fun x => { x with state := .done, vault := none, erasedAtEw := none }).onSeq fun x =>
        { x with active := .none }
      s.nvResume.vaultEnd m.cause hold

/-- The estimate of a port just posted, where the vault still awaits it (R335); the energy of a hold (R214,
Table 7-2); `was` is the port before the sample. -/
def State.posted (s : State) (i : PortId) (was : CPort) : State :=
  let e := (s.cist.port i).eRem
  let take := fun (l : List PortId) (x : Nat) => if l.contains i then x + e else x
  let s := s.onVault fun v => { v with
    man := { v.man with
      eCommit := take v.wantCommit v.man.eCommit, eStart := take v.wantStart v.man.eStart
      eEnd := take v.wantEnd v.man.eEnd, eClose := take v.wantClose v.man.eClose }
    wantCommit := v.wantCommit.filter (· ≠ i), wantStart := v.wantStart.filter (· ≠ i)
    wantEnd := v.wantEnd.filter (· ≠ i), wantClose := v.wantClose.filter (· ≠ i) }
  let s := s.portsMoved
  if s.dev = .kickstand ∧ s.sip.hold.state = .holding then
    let p := s.cist.port i
    let st := p.state
    if (st ≠ was.state ∧ (st = .disabled ∨ st = .latchedOff ∨ st = .zero)) ∨ (p.overVoltage ∧ !was.overVoltage) then
      s.endHoldDown 4 .broken
    else if s.policyNow 0 1 ≤ s.sip.floorAtCommit then s.endHoldDown 3 .ended
    else s
  else s

/-- The input is present or absent during a vault (R194, R195). -/
def State.vaultPresent (s : State) (on : Bool) : State :=
  let s := s.onSpill fun x => { x with present := on }
  if on then
    (s.voidHold.onVault fun v => { v with man := { v.man with powerReturned := true, measValid := false } }).setConv
  else s.setConv

end Sys2Proof.Machine
end

