-- ==== Sys2Proof/Machine/PortOps.lean ====
section
/-! DEFINITION. The host port: logical devices, decoders, extents and their offers, CXL.mem accesses, poison, clearing
of the volatile partition (2). -/

namespace Sys2Proof.Machine

/-! ### Logical devices and addresses (R49, R52, R58) -/

/-- Allocation in force of a logical device: volatile bytes, persistent extents. Without multi-logical operation
device 0 has everything. -/
def State.alloc (s : State) (ld : Nat) : Nat × Nat :=
  if s.port.mld then
    let a := mget (0, 0) s.port.allocsInForce ld
    (a.1 * 64 * GiB, a.2)
  else if ld = 0 then (s.volBytes, s.extents) else (0, 0)

/-- Where a device's shares start: volatile byte, first extent. The shares lie in device order (DEDUCED, log entry 34). -/
def State.allocBase (s : State) (ld : Nat) : Nat × Nat :=
  (List.range ld).foldl (fun a i => (a.1 + (s.alloc i).1, a.2 + (s.alloc i).2)) (0, 0)

/-- The device's address of an address in a logical device's own DPA range; none outside what it is presented. -/
def State.toDpa (s : State) (ld a : Nat) : Option Nat :=
  let (v, p) := s.alloc ld
  let (v0, p0) := s.allocBase ld
  if a < v then some (v0 + a)
  else if a - v < p * GiB then some (s.volBytes + p0 * GiB + (a - v))
  else none

/-- The logical device an extent is allocated to. -/
def State.ldOf (s : State) (e : Nat) : Option Nat :=
  s.lds.find? fun ld => decide ((s.allocBase ld).2 ≤ e) && decide (e < (s.allocBase ld).2 + (s.alloc ld).2)

/-- The decoders a logical device has committed, in order. -/
def HostPort.decs (h : HostPort) (ld : Nat) : List Decoder := mget [] h.decoders ld

/-- The address in a logical device's DPA range that a committed decoder gives a host address (R52). -/
def HostPort.decode (h : HostPort) (ld hpa : Nat) : Option Nat :=
  ((h.decs ld).find? fun d => decide (d.base ≤ hpa) && decide (hpa < d.base + d.size)).map fun d =>
    let o := hpa - d.base
    d.dpaBase + o / (d.ways * d.granularity) * d.granularity + o % d.granularity

/-- Some logical device has a decoder committed (R76). -/
def HostPort.committed (h : HostPort) : Bool := h.decoders.any fun p => !p.2.isEmpty

/-! ### Extents and their offers (R53 to R56) -/

/-- Key of an extent's standing with a logical device's host. -/
def extKey (ld e : Nat) : Nat := ld * 8192 + e

/-- Standing of an extent with the host of its logical device. -/
def State.extState (s : State) (ld e : Nat) : Option ExtState := (s.port.extents.find? fun p => p.1 == extKey ld e).map (·.2)

/-- An extent is served (R54, R57). -/
def State.extServed (s : State) (ld e : Nat) : Bool :=
  s.port.online.contains e && (s.port.whole || s.extState ld e == some .accepted)

/-- Extents of a logical device that are online and not offered in this start, in the online order. -/
def State.unoffered (s : State) (ld : Nat) : List Nat :=
  s.sip.order.filter fun e => s.port.online.contains e && s.ldOf e == some ld && (s.extState ld e).isNone

/-- Extents offered to a logical device's host and not answered. -/
def State.outstanding (s : State) (ld : Nat) : Nat :=
  (s.port.extents.filter fun p => p.1 / 8192 == ld && decide (p.2 = .offered)).length

/-- Offer a group of extents under one More-flag sequence (R54). -/
def State.offerGroup (s : State) (ld : Nat) (es : List Nat) : State :=
  (es.zipIdx).foldl (fun s (e, i) =>
    let s := s.onPort fun h => { h with extents := mput (extKey ld e) .offered h.extents, dcTag := h.dcTag + 1 }
    s.dcRecord ld { event := 0, seq := 0, state := s.dev.code, sev := 0, kind := 4, addr := e,
                    more := decide (i + 1 < es.length), handle := s.port.dcTag }) s

/-- Offer what can be offered to a logical device: whole groups of DC_GROUP, the last group as it stands once every
extent is online (DEDUCED, log entry 35); then extents declined before. -/
def State.offerLd (s : State) (ld : Nat) : Nat → State
  | 0 => s
  | f + 1 =>
    let room := s.reg Reg.DC_OFFER_MAX - s.outstanding ld
    let g := Nat.min (s.reg Reg.DC_GROUP) (s.reg Reg.DC_OFFER_MAX)
    let l := s.unoffered ld
    let all := decide (s.port.online.length = s.extents)
    if room = 0 then s
    else if l ≠ [] then
      if g ≤ l.length ∨ all then (s.offerGroup ld (l.take (Nat.min g room))).offerLd ld f else s
    else if all then
      match (mget [] s.port.reoffer ld).take (Nat.min g room) with
      | [] => s
      | es => (s.onPort fun h => { h with
          reoffer := mput ld ((mget [] h.reoffer ld).drop es.length) h.reoffer }).offerGroup ld es |>.offerLd ld f
    else s

/-- Offer to every logical device, in Dynamic Capacity mode. -/
def State.offer (s : State) : State :=
  if s.port.whole then s else s.lds.foldl (fun s ld => s.offerLd ld (s.extents + 1)) s

/-- An extent comes online (R53, R56). In whole-restore mode the last one makes the memory active. -/
def State.extentOnline (s : State) (e : Nat) : State :=
  let s := s.onPort fun h => { h with online := if h.online.contains e then h.online else insertAsc e h.online }
  if s.port.whole ∧ s.port.online.length = s.extents then
    s.onPort fun h => { h with memActive := true, media := .ready }
  else s

/-! ### Poison by line (R30, R61) -/

/-- Clear the poison of the line at a device address. -/
def State.unpoison (s : State) (a : Nat) : State := s.onPort fun h => { h with poison := mdel (a / 64) h.poison }

/-- The line at a device address is poisoned. -/
def State.poisoned (s : State) (a : Nat) : Bool := s.port.poison.any fun p => p.1 == a / 64

/-! ### CXL.mem requests (R13, R57, R60, R65, R67, Table 2-8) -/

/-- CXL.mem requests are taken: the states of Table 2-8, the link up at 16 GT/s or more, no IDE failure (R42, R72). -/
def State.memServes (s : State) : Bool :=
  s.port.up && s.port.memCapable && !s.port.ideFailed && !s.port.sealed
    && (decide (s.dev = .restoring) || decide (s.dev = .online) || decide (s.dev = .preSpill)
      || (decide (s.dev = .vaulting) && s.port.windowOpen))

/-- What the port's own level is taken from beside its queue: the logical device, and the QoS Limit Fraction and QoS
Allocation Fraction set for it (R59). -/
def HostPort.qosOf (h : HostPort) (ld : Nat) : Nat := ld + at' (mget 0 h.qosLimit ld) 3 + at' (mget 0 h.qosAlloc ld) 11

/-- Send a response to a logical device's host with its DevLoad (R65): the higher of the Weir's level and the port's own,
which the manual derives from a queue occupancy it does not state: a free value. The fractions of R59 enter it (DESIGN
CHOICE, log entry 220). -/
def State.respond (s : State) (ld : Nat) (f : Nat → Out) : State :=
  let (own, s) := s.free (65 + at' (s.port.qosOf ld) 8)
  s.emit (f (Nat.max (s.reg Reg.DEVLOAD_LEVEL) (own % 4)))

/-- Where a request goes. -/
inductive Reach where
  | unclaimed
  | notServed (dpa : Nat)
  | served (dpa : Nat)
deriving DecidableEq, Repr

/-- Where a host address leads (R52, R57). -/
def State.reach (s : State) (ld hpa : Nat) : Reach :=
  if !s.memServes then .unclaimed
  else match (s.port.decode ld hpa).bind fun a => s.toDpa ld a with
    | none => .unclaimed
    | some a =>
      let a := a / 64 * 64
      if s.persistent a && !s.extServed ld (s.extentOf a) then .notServed a else .served a

/-- An access to a device address not served: counted, and a General Media record at most once a millisecond (R57). -/
def State.offline (s : State) (a : Nat) : State :=
  let s := s.addReg Reg.OFFLINE_ACCESS_COUNT 1
  if s.port.lastOffline = s.now + 1 then s
  else (s.onPort fun h => { h with lastOffline := s.now + 1 }).cxlRecord 1
    { event := 0, seq := 0, state := s.dev.code, sev := 0, kind := 1, addr := a }

/-- Mark the page of a persistent address dirty (R90, R91, R96). -/
def State.dirtyPage (s : State) (a : Nat) : State :=
  let (b, full) := s.basin.dirty (s.reg Reg.HEAT_QUANTUM) (segOf a) (pageOf a)
  let s := { s with basin := b }
  if full then ((s.addReg Reg.DST_OVERFLOW_COUNT 1).fault Src.DST .log).raise Ev.DST_OVERFLOW else s

/-- A host access of 64 bytes for heat (R95). -/
def State.heatAccess (s : State) (a : Nat) : State := s.onBasin fun b => b.access (s.reg Reg.HEAT_QUANTUM) (segOf a)

/-- A full-line write (R13, R14, R19, R30, R91): `pois` marks poisoned data. -/
def State.memWrite (s : State) (ld hpa tag : Nat) (data : Line) (pois : Bool) : State :=
  match s.reach ld hpa with
  | .unclaimed => s
  | .notServed a => (s.offline a).respond ld (.memCmp tag)
  | .served a =>
    let s := if s.persistent a then s.dirtyPage a else s
    let s := { s with mem := writeLine s.mem a (BitVec.allOnes 64) data }
    let s := if pois then s.poisonAt a .external else s.unpoison a
    let s := s.onBasin fun b => { b with repair := b.repair.filter (· ≠ a / 64) }
    (s.heatAccess a).respond ld (.memCmp tag)

/-- A partial write (R13, R30): a poisoned line stays poisoned, and poisoned data poisons it (Table 2-6). -/
def State.memWritePtl (s : State) (ld hpa tag : Nat) (data : Line) (en : BitVec 64) (pois : Bool) : State :=
  match s.reach ld hpa with
  | .unclaimed => s
  | .notServed a => (s.offline a).respond ld (.memCmp tag)
  | .served a =>
    let s := if s.persistent a then s.dirtyPage a else s
    let s := { s with mem := writeLine s.mem a en data }
    let s := if pois then s.poisonAt a .external else s
    (s.heatAccess a).respond ld (.memCmp tag)

/-- Resolve an error the write of a page meets in its segment's entry. -/
def State.dstErr (s : State) (ld hpa : Nat) (e : DstErr) : State := match s.reach ld hpa with
  | .served a => s.entryErr (segOf a) e
  | _ => s

/-! ### Correctable errors and repair (R88, R89) -/

/-- Keys of a rank and of a row. -/
def rankKey (ch slot rank : Nat) : Nat := (2 * ch + slot) * 16 + rank
/-- Key of a row. -/
def rowKey (ch slot rank row : Nat) : Nat := rankKey ch slot rank * 2 ^ 18 + row % 2 ^ 18

/-- Channel of a rank's key. -/
def rankChannel (rank : Nat) : Nat := rank / 32

/-- Request DIMM_SPARE for a rank (R88): only with spare ranks held. One copy runs at a time, further requests wait for
it. A channel has one spare: once it is used, its other ranks have nothing to be copied to, and the request is not made
(DESIGN CHOICE, log entry 230). -/
def State.askSpare (s : State) (rank : Nat) : State :=
  let b := s.basin
  let mine := fun (r : Nat) => rankChannel r == rankChannel rank
  if !b.spare ∨ b.spared.any mine ∨ b.spareCopy.any mine ∨ b.spareQ.any mine then s
  else if b.spareCopy.isSome then s.onBasin fun b => { b with spareQ := b.spareQ ++ [rank] }
  else (s.onBasin fun b => { b with spareCopy := some rank }).onCmd fun x => { x with asked := x.asked.filter (· ≠ 7) }

/-- Errors of a list within the last 24 hours. -/
def State.lastDay (s : State) (l : List (Nat × Nat)) : List (Nat × Nat) := l.filter fun p => decide (s.now < p.2 + 86400000)

/-- A correctable error: counted for its row and its rank (R88, Table 3-10). -/
def State.dramCe (s : State) (ch slot rank row : Nat) : State :=
  let rk := rankKey ch slot rank
  let rw := rowKey ch slot rank row
  let s := s.fault (Src.BASIN_CH0 + ch) .corrected
  let s := s.onBasin fun b => { b with
    rowErrs := s.lastDay b.rowErrs ++ [(rw, s.now)], rankErrs := s.lastDay b.rankErrs ++ [(rk, s.now)] }
  let rows := (s.basin.rowErrs.filter fun p => p.1 == rw).length
  let s := if 1 ≤ s.reg Reg.PPR_MODE ∧ s.reg Reg.ROW_CE_THRESHOLD ≤ rows ∧ !s.basin.softRows.contains rw
      ∧ !s.basin.noSpareRows.contains rk then
      s.onBasin fun b => { b with softRows := b.softRows ++ [rw] } else s
  if s.reg Reg.RANK_CE_LIMIT ≤ (s.basin.rankErrs.filter fun p => p.1 == rk).length then s.askSpare rk else s

/-- What a read found in its line, at a device address. -/
def State.readErr (s : State) (a : Nat) : ReadErr → State
  | .none => s
  | .corrected rank row => let m := s.basin.map a; s.dramCe m.1 m.2.1 rank row
  | .uncorrected => s.dramUe a

/-- The highest latency of a read that is answered (R67). One above the register's 16 bits has no stated reading: a free
one (DESIGN CHOICE, log entry 3). -/
def State.notePeak (s : State) (lat : Nat) : State :=
  if s.reg Reg.LAT_RD_PEAK < lat then s.putReg Reg.LAT_RD_PEAK lat else s

/-- A read (R57, R67): `lat` is its latency in ns, `err` the error found in the line. -/
def State.memRead (s : State) (ld hpa tag lat : Nat) (err : ReadErr) : State :=
  match s.reach ld hpa with
  | .unclaimed => s
  | .notServed a => ((s.notePeak lat).offline a).respond ld (.memData tag 0 true)
  | .served a =>
    let s := s.notePeak lat
    let s := s.readErr a err
    (s.heatAccess a).respond ld (.memData tag (readLine s.mem a) (s.poisoned a || s.basin.repair.contains (a / 64)))

/-! ### Clearing (R27, R47, R218) -/

/-- Declare the first `n` bytes of the DPA range clear: they read as zero from now on, and the background clearing
runs over them. -/
def State.declareClear (s : State) (n : Nat) : State :=
  { s with mem := s.mem.filter fun c => decide (n ≤ c.1) }.onPort fun h => { h with
    poison := h.poison.filter fun p => decide (n ≤ p.1 * 64), clearAt := 0, clearEnd := n }

end Sys2Proof.Machine
end

