-- ==== Sys2Proof/Machine/SiphonOps.lean ====
section
/-! DEFINITION. The Siphon: manifests and their chain, the start-up path, resume and restore, settles, retirement (7). -/

namespace Sys2Proof.Machine

/-! ### Records -/

/-- The latest pointer record; before any, a closed one that reads NONE. -/
def State.pointer (s : State) : PointerRec :=
  (s.nvNewest fun d => match d with | .pointer p => some p | _ => none).getD {}

/-- The restore record (R224). -/
def State.restoreRec (s : State) : RestoreRec :=
  (s.nvNewest fun d => match d with | .restore r => some r | _ => none).getD {}

/-- Append a restore record; the registers that show it follow (R224). -/
def State.putRestore (s : State) (r : RestoreRec) : State :=
  (((s.nvDurable (.restore r)).setReg Reg.RETIRED_SEQ r.retiredSeq).setReg Reg.ACTIVE_SEQ r.activeSeq).setReg
    Reg.POISON_FLOOR r.poisonFloor

/-- What the media showed when the manifests were read: the sequences whose first and second copy are not valid, the
bitmaps' extents readable (R221), the token line readable (Table 7-7 check 5). -/
structure PathRead where
  badA : List Nat
  badB : List Nat
  bitmaps : Bool
  token : Bool
deriving DecidableEq, Repr

/-! ### Manifests (R220 to R223) -/

/-- Copies A and B stand on media: a copy B has a JLOC above 0, its channel being 16 or higher (R198, R281). -/
def Manifest.onA (m : Manifest) : Bool := decide (2 ≤ m.copies) || (m.copies == 1 && m.jlocB == 0)
/-- Copy B stands on media. -/
def Manifest.onB (m : Manifest) : Bool := decide (2 ≤ m.copies) || (m.copies == 1 && m.jlocB != 0)

/-- Copy A, and copy B, of a manifest reads. -/
def PathRead.readsA (rd : PathRead) (m : Manifest) : Bool := m.onA && !rd.badA.contains m.seq
/-- Copy B of a manifest reads. -/
def PathRead.readsB (rd : PathRead) (m : Manifest) : Bool := m.onB && !rd.badB.contains m.seq

/-- A manifest whose own fields pass the checks of Table 7-5: the link it chains to has a copy that reads. -/
def State.manifestOk (s : State) (rd : PathRead) (m : Manifest) : Bool :=
  m.valid && (decide (m.outcome = .vaultedComplete) || decide (m.outcome = .vaultedShort))
    && decide (m.seqFirst ≤ m.seqLast) && decide (m.seqLast < s.reg Reg.WRITE_SEQ)
    && (!m.chained || (decide (m.prevSeq < m.seq)
      && s.spill.manifests.any fun q => q.seq == m.prevSeq && (rd.readsA q || rd.readsB q)))

/-- The valid manifest of a sequence, and whether its second copy was taken for want of the first (R221). -/
def State.readManifest (s : State) (rd : PathRead) (seq : Nat) : Option (Manifest × Bool) :=
  match s.spill.manifests.find? fun m => m.seq == seq with
  | none => none
  | some m =>
    if !s.manifestOk rd m then none
    else if rd.readsA m then some (m, false)
    else if rd.readsB m then some (m, true)
    else none

/-- Wheels of stream V from `n` on to `last`, in stream order (R188). -/
def State.wheelsTo (s : State) (last : Nat) : Nat → Nat → List Nat
  | 0, n => [n]
  | f + 1, n =>
    if n = last then [n]
    else match (s.whl.wheel n).bind (·.successor) with
      | some k => n :: s.wheelsTo last f k
      | none => [n]

/-- Index records of the vault units the headers of a wheel range show (R221): KIND 0 or 2, at or above the first SEQ
found in the first wheel. -/
def State.scanIndex (s : State) (first last : Nat) : List IndexRec :=
  let range := s.wheelsTo last s.whl.table.length first
  let v := s.rill.runs.filter fun u => (u.kind = .vault || u.kind = .fine) && !u.reloc
    && u.spans.any fun p => range.contains p.1
  let s0 := minOf (2 ^ 48) ((v.filter fun u => u.spans.any fun p => p.1 == first).map (·.seq))
  (sortBy (fun a b => decide (a.seq ≤ b.seq)) (v.filter fun u => decide (s0 ≤ u.seq))).map fun u =>
    { seg := u.seg, seq := u.seq, mask := u.pages, whole := decide (u.kind = .vault), spec := false, overflow := false,
      poison := !u.poison.isEmpty, loc := (u.spans.head?.map fun p => ({ wheel := p.1, unit := p.2.1 } : Loc)).getD {} }

/-- A vault rebuilt from its wheels (R221): the overlay by the unit headers, the shortfall from the bitmaps. SEQ_LAST is
set so that SEQ_LAST + 1 is the poison level R227 gives the link. -/
def State.rebuild (s : State) (m : Manifest) (p : PointerRec) : Manifest :=
  let idx := s.scanIndex p.wheelFirst p.wheelLast
  let have' := fun seg => (idx.filter fun r => r.seg == seg).foldl (fun x r => x ||| r.mask) (0 : BitVec 512)
  let ds : List (Nat × BitVec 512 × Bool) := m.bitmaps.map (fun b => (b.1, b.2, false))
    ++ m.overflow.map fun g => (g, BitVec.allOnes 512, true)
  let short := (ds.map fun d => (d.1, d.2.1 &&& ~~~have' d.1, d.2.2)).filter fun d => decide (d.2.1 ≠ 0)
  { m with
    index := idx
    short := short.map fun d => { seg := d.1, first := (pageList d.2.1).headD 0, overflow := d.2.2, pages := d.2.1 }
    seqFirst := minOf (s.reg Reg.WRITE_SEQ) (idx.map (·.seq))
    seqLast := if idx = [] then s.reg Reg.WRITE_SEQ - 1 else maxOf (idx.map (·.seq)) }

/-- Follow a chain from a sequence back (R223): the unretired links, newest first, whether it is broken, and whether a link
was read from its second copy (Table 7-11). -/
def State.follow (s : State) (rd : PathRead) (retired : Nat) : Nat → Nat → List Manifest × Bool × Bool
  | 0, _ => ([], false, false)
  | f + 1, seq =>
    if seq ≤ retired ∨ seq = 0 then ([], false, false)
    else match s.readManifest rd seq with
      | none => ([], true, false)
      | some (m, second) =>
        let (l, b, c) := s.follow rd retired f m.prevSeq
        (m :: l, b, second || c)

/-! ### The hold at BRINGUP (R213 to R216, R225) -/

/-- The first check of Table 7-7 that fails; none when the hold is valid. -/
def State.holdCheck (s : State) (rd : PathRead) : Option Nat :=
  let h := s.sip.hold
  let p := s.pointer
  let m := (s.readManifest rd p.manifestSeq).map (·.1)
  if h.state ≠ .holding ∨ h.pgLost ∨ s.reg Reg.KICK_HOLD_MAX ≤ h.elapsed then some 1
  else if s.basin.row ≠ 1 then some 2
  else if !(p.shutdown = .vaultedComplete && p.closed && decide (1 ≤ p.copies)) then some 3
  else match m with
    | none => some 4
    | some m =>
      if !(m.holdChosen && m.token == h.token && m.outcome == p.shutdown) then some 4
      else if !(rd.token && s.basin.token.holds h.token m.seq) then some 5
      else none

/-- Take up the AON hold record at BRINGUP (R213, R214, R216, R225). Answers whether the hold is valid. A record that still
reads HOLDING at a BRINGUP after a system reset is judged too. -/
def State.takeHold (s : State) (rd : PathRead) : Bool × State :=
  if s.sip.fromHold ∨ s.sip.hold.state = .holding then
    match s.holdCheck rd with
    | none => (true, (s.setReg Reg.HOLD_RESULT 1).clearHold)
    | some n =>
      let s := (s.setReg Reg.HOLD_RESULT 5).clearHold
      let s := s.onSip fun x => { x with holdBad := true }
      (false, (s.fault Src.SIPHON .log).raise Ev.HOLD_INVALID 0 0 [n])
  else
    let s := match s.sip.hold.state with
      | .none => s
      | .armed => s.setReg Reg.HOLD_RESULT 6
      | _ => s.setReg Reg.HOLD_RESULT s.sip.hold.result
    let s := if s.sip.hold.state = .none then s else s.clearHold
    if s.cold.isNone then (false, s)
    else
      -- AON was without power (R214): a hold that no exit from BRINGUP has taken up is broken.
      let p := s.pointer
      let r := s.restoreRec
      let lost := p.closed && (s.spill.manifests.any fun m => m.seq == p.manifestSeq && m.holdChosen)
        && decide (r.activeSeq < p.manifestSeq) && decide (r.retiredSeq < p.manifestSeq)
      (false, if lost then s.setReg Reg.HOLD_RESULT 4 else s)

/-! ### The start-up path (R217 to R224, R352) -/

/-- The check of SERVICE_OPEN at BRINGUP (R29, R37, R352), also where AON power was lost while it read 1 (Table 1-3; DEDUCED, log entry
229). -/
def State.serviceCheck (s : State) : State :=
  if s.reg Reg.SERVICE_OPEN = 0 ∧ !s.seq.lostOpen then s
  else
    let s := s.onSeq fun x => { x with lostOpen := false }
    let n := s.reg Reg.MANIFEST_SEQ + 1
    let s := (s.setReg Reg.MANIFEST_SEQ n).pointerRec { manifestSeq := n, closed := false, shutdown := .vaultLost }
    (s.setReg Reg.SERVICE_OPEN 0).fault Src.SEQUENCER .degraded

/-- Count a dirty shutdown once for each MANIFEST_SEQ (R219). The number counted is used up, so that the next vault's
is higher and a second loss counts as well (R31; DEDUCED, log entry 36). -/
def State.countDirty (s : State) : State :=
  let p := s.pointer
  let r := s.restoreRec
  if (p.shutdown = .vaultedShort ∨ p.shutdown = .vaultLost) ∧ r.dscSeq < p.manifestSeq then
    let s := (s.addReg Reg.DIRTY_SHUTDOWN_COUNT 1).maxReg Reg.MANIFEST_SEQ p.manifestSeq
    -- The two records are one group (R402).
    s.nvGroup [.dsc (s.reg Reg.DIRTY_SHUTDOWN_COUNT) p.manifestSeq, .restore { r with dscSeq := p.manifestSeq }]
  else s

/-- Append a closing record that reads VAULT_LOST, the other fields kept (R221, R223); one that reads so already stands. -/
def State.closeLost (s : State) (p : PointerRec) : State :=
  if p.closed ∧ p.shutdown = .vaultLost then s else s.pointerRec { p with closed := true, shutdown := .vaultLost }

/-- Raise POISON_FLOOR (R222, R223). -/
def State.raiseFloor (s : State) (n : Nat) : State :=
  let r := s.restoreRec
  if r.poisonFloor < n then s.putRestore { r with poisonFloor := n } else s

/-- The head of the current shutdown by its pointer record (R220, R221): the head as read or rebuilt, and whether the
path is 0x9 for want of it. A record read by the second copy, found by the scan, or rebuilt is reported (Table 7-11). -/
def State.head (s : State) (rd : PathRead) : Option Manifest × Bool × State :=
  let p := s.pointer
  if !p.closed then
    match s.readManifest rd p.manifestSeq with
    | some (m, _) =>
      let a := rd.readsA m
      let b := rd.readsB m
      let s := s.pointerRec {
        manifestSeq := m.seq, shutdown := m.outcome, jlocA := if a then m.jlocA else 0, jlocB := if b then m.jlocB else 0
        copies := b2n a + b2n b, wheelFirst := m.wheelFirst, wheelLast := m.wheelLast }
      (some m, false, s.fault Src.SIPHON .corrected)
    | none => (none, true, s.fault Src.SIPHON .degraded)
  else if p.shutdown = .vaultLost then
    -- A BRINGUP cut short had appended this record (R221, R223): its links that read are applied above the same floor, and
    -- OUTCOME is not held against the record (DEDUCED, log entry 239).
    let m := (s.readManifest rd p.manifestSeq).map (·.1)
    (m, m.isNone, s)
  else
    let good := (s.readManifest rd p.manifestSeq).bind fun x =>
      if x.1.wheelFirst = p.wheelFirst ∧ x.1.wheelLast = p.wheelLast ∧ x.1.outcome = p.shutdown then some x else none
    match (if p.copies = 0 then none else good) with
    | some (m, second) => (some m, false, if second then s.fault Src.SIPHON .corrected else s)
    | none =>
      let s := if p.copies = 0 then s else s.fault Src.SIPHON .degraded
      match (if rd.bitmaps then s.spill.manifests.find? fun m => m.seq == p.manifestSeq else none) with
      | some m => (some (s.rebuild m p), false, s)
      | none => (none, true, (s.closeLost p).fault Src.SIPHON .degraded)

/-- A pending LOST record at a start that restores from flash makes a complete vault short (R297). -/
def State.lostShort (s : State) (held : Bool) : State :=
  if held || decide (s.whl.lost = []) || decide (s.pointer.shutdown ≠ .vaultedComplete) then s
  else s.pointerRec { s.pointer with closed := true, shutdown := .vaultedShort }

/-- Choose the start-up path (R217, Table 7-4). -/
def State.choosePath (s : State) (rd : PathRead) : State :=
  let s := s.serviceCheck
  let (held, s) := s.takeHold rd
  let s := s.lostShort held
  let p := s.pointer
  let set := fun (s : State) (code : Nat) => (s.setReg Reg.RESTORE_PATH code).onSip fun x => { x with path := code }
  match p.shutdown with
  | .none =>
    if p.sanitizeIncomplete then
      (set s 1).onPort fun h => { h with erasing := some 0 }
    else set (s.onSip fun x => { x with chain := [] }) 2
  | _ =>
    let r := s.restoreRec
    let vault := decide (p.shutdown ≠ .clean)
    let newSeq := decide (r.retiredSeq < p.manifestSeq)
    let (head, lost, s) := if vault && newSeq then s.head rd
      else ((none : Option Manifest), false, s)
    let (links, broken, second) := match head with
      | some m =>
        let (l, b, c) := s.follow rd r.retiredSeq 256 m.prevSeq
        (m :: l, b, c)
      | none => s.follow rd r.retiredSeq 256 r.activeSeq
    let again := p.closed && decide (p.shutdown = .vaultLost)
    let s := if second then s.fault Src.SIPHON .corrected else s
    let s := if lost then s.raiseFloor (s.reg Reg.WRITE_SEQ) else s
    let s := if broken then
        let floor := match links.getLast? with
          | some m => m.seqFirst
          | none => s.reg Reg.WRITE_SEQ
        ((s.raiseFloor floor).closeLost s.pointer).fault Src.SIPHON .degraded
      else s
    let s := s.countDirty
    let code :=
      if lost || broken || again then 9
      else if links = [] then 3
      else match p.shutdown with
        | .clean => 3
        | .vaultedComplete => if held then 4 else 5
        | .vaultedShort => if p.copies = 0 then 7 else 6
        | _ => 8
    let heat := match links with
      | m :: _ => m.heat
      | [] => ((s.rill.ckpts.getLast?).map (·.heat)).getD []
    let s := (s.setReg Reg.CHAIN_LEN (Nat.min 255 links.length)).onSip fun x => { x with chain := links, heat := heat }
    set s code

/-! ### Page contents at restore (R227) -/

/-- The overlay's copies of a page: run and location, of every unretired link. -/
def State.overlay (s : State) (seg p : Nat) : List (Run × Loc) :=
  s.sip.chain.flatMap fun m => (m.index.filter fun r => r.seg == seg && r.mask.getLsbD p).filterMap fun r =>
    (s.rill.runOfSeq r.seq seg).bind fun u => (u.locOf p).map fun l => (u, l)

/-- The newer of two copies. -/
def newerCopy (a : Option (Run × Loc)) (b : Run × Loc) : Option (Run × Loc) := match a with
  | some x => if copySeq x < copySeq b then some b else a
  | none => some b

/-- The newest copy of a page: the map's or the overlay's, whichever has the higher SEQ. -/
def State.newestCopy (s : State) (seg p : Nat) : Option (Run × Loc) :=
  (s.overlay seg p).foldl newerCopy (s.rill.copyOf seg p)

/-- The poison level of a page beside POISON_FLOOR: the links that name it short, or void without a rewrite. -/
def State.linkLevel (s : State) (seg p : Nat) : Nat :=
  maxOf (s.sip.chain.map fun m =>
    let short := m.short.any fun r => r.seg == seg && r.pages.getLsbD p
    let void := m.erasures.any fun e => e.2.2 && (s.overlay seg p).any fun c => c.2.wheel == e.1
    if short || void then m.seqLast + 1 else 0)

/-- What restore makes of a page (R15, R21, Table 7-8): its bytes, its poisoned lines, and whether it makes the segment fold.
`bad` are the pages found unreadable after reconstruction. -/
def State.restorePage (s : State) (bad : List (Nat × Nat)) (seg p : Nat) : List Host.Cell × List Nat × Bool :=
  let all := (List.range 64).map fun i => lineOf seg p + i
  let link := s.linkLevel seg p
  let level := Nat.max (s.reg Reg.POISON_FLOOR) link
  match s.newestCopy seg p with
  | none => if 0 < level then ([], all, decide (0 < link)) else ([], [], false)
  | some (u, l) =>
    if u.seqLoc l < level then ([], all, decide (u.seqLoc l < link))
    else if bad.contains (seg, p) ∨ (s.whl.wheel l.wheel).any (fun w => decide (w.state = .lost)) then ([], all, true)
    else (u.cells seg p, u.poison.filter fun i => i / 64 == pageIdx seg p, false)

/-- A segment may hold something other than zeros: a map entry, an overlay run, a shortfall, or the floor. -/
def State.segMatters (s : State) (seg : Nat) : Bool :=
  decide (0 < s.reg Reg.POISON_FLOOR) || (s.rill.largeOf seg).isSome || (s.rill.fine.any fun p => p.1 / 512 == seg)
    || s.sip.chain.any fun m => (m.index.any fun r => r.seg == seg) || m.short.any fun r => r.seg == seg

/-- A segment has runs in the overlay (R231). -/
def State.inOverlay (s : State) (seg : Nat) : Bool := s.sip.chain.any fun m => m.index.any fun r => r.seg == seg

/-- An extent has a page whose newest copy is unreadable after reconstruction, in a lost wheel or among `bad` (Table 7-11). -/
def State.unreadable (s : State) (e : Nat) (bad : List (Nat × Nat)) : Bool :=
  (((List.range 512).map (s.firstSeg e + ·)).filter fun g => s.segMatters g).any fun g => (List.range 512).any fun p =>
    match s.newestCopy g p with
    | some (u, l) => decide (Nat.max (s.reg Reg.POISON_FLOOR) (s.linkLevel g p) ≤ u.seqLoc l)
      && (bad.contains (g, p) || (s.whl.wheel l.wheel).any fun w => decide (w.state = .lost))
    | none => false

/-- Write an extent's pages into DRAM (R227). -/
def State.restoreExtent (s : State) (e : Nat) (bad : List (Nat × Nat)) : State :=
  let s0 := s.firstSeg e
  let lo := s0 * 2 ^ 21
  let segs := (List.range 512).map (s0 + ·)
  let done : List (Nat × List Host.Cell × List Nat × Bool) :=
    (segs.filter fun g => s.segMatters g).flatMap fun g =>
    (List.range 512).map fun p => (g, s.restorePage bad g p)
  let folds := ((done.filter fun x => x.2.2.2).map (·.1)).eraseDups
  let lines := done.flatMap fun x => x.2.2.1
  let old := s.port.poison
  let pois : List (Nat × PoisonSrc) := (old.filter fun p => decide (p.1 < lo / 64))
    ++ lines.map (fun i => (i, PoisonSrc.internal)) ++ old.filter fun p => decide ((lo + GiB) / 64 ≤ p.1)
  let n := (done.filter fun x => x.2.2.1.length == 64).length
  let cells : List Host.Cell := done.flatMap fun x => x.2.1
  let s : State := { s with mem := putCells s.mem lo (lo + GiB) cells }
  let s := s.onPort fun h => { h with poison := pois }
  (s.addReg Reg.RESTORE_POISON_PAGES n).onSip fun x => { x with foldDue := x.foldDue ++ folds }

/-! ### Online order, settles, retirement (R228 to R234) -/

/-- Extents in online order: descending heat, ascending DPA (R228). -/
def State.onlineOrder (s : State) : List Nat :=
  let hot := fun e => sumOf ((s.sip.heat.filter fun p => decide (s.firstSeg e ≤ p.1) && decide (p.1 < s.firstSeg e + 512)).map
    fun p => p.2.1)
  sortBy (fun a b => decide (hot b ≤ hot a)) (List.range s.extents)

/-- An extent comes online: its settles start (R229), and it is offered (R53). -/
def State.sipOnline (s : State) (e : Nat) : State :=
  let segs := ((List.range 512).map (s.firstSeg e + ·)).filter fun g => s.inOverlay g || s.sip.foldDue.contains g
  let first := s.sip.online == 0
  let s := (s.extentOnline e).onSip fun x => { x with online := x.online + 1, settles := x.settles ++ segs }
  let s := if first then s.setReg Reg.FIRST_ONLINE_LAST (s.now - s.sip.startedAt) else s
  let s := if s.sip.online = s.sip.order.length then
      (s.setReg Reg.RESTORE_TIME_LAST (s.now - s.sip.startedAt)).onSip fun x => { x with state := .settling }
    else s
  s.offer

/-- Bring online, in order, every extent whose fetch is complete, issuing the next fetches (R229). -/
def State.onlineReady (s : State) : Nat → State
  | 0 => s
  | f + 1 =>
    match s.sip.order[s.sip.online]? with
    | none => s
    | some e =>
      if s.sip.fetched.contains e then
        let s := s.sipOnline e
        (s.onSip fun x => { x with
          issued := Nat.min x.order.length (x.online + s.reg Reg.SIPHON_AHEAD)
          fetched := x.fetched.filter (· ≠ e) }).onlineReady f
      else s

/-- Resume, restore or empty start begins: at the exit from BRINGUP, or at the Unlock (R226, R229, R235). -/
def State.sipBegin (s : State) : State :=
  if s.sip.path = 2 ∨ s.sip.path = 4 then
    let s := s.onSip fun x => { x with state := .settling }
    s.sip.order.foldl (fun s e => s.sipOnline e) s
  else
    s.onSip fun x => { x with state := .fetching, issued := Nat.min x.order.length (s.reg Reg.SIPHON_AHEAD) }

/-- The Spillway's reserve, the port and the sequencer at the exit from BRINGUP (Table 6-12, Table 2-8, R352). -/
def State.leaveBringup (s : State) : State :=
  let head := s.sip.chain.head?
  let s := s.putRestore { s.restoreRec with
    activeSeq := (head.map (·.seq)).getD 0, jlocA := (head.map (·.jlocA)).getD 0, jlocB := (head.map (·.jlocB)).getD 0
    resumed := decide (s.sip.path = 4) }
  let clearTo := if s.sip.path = 2 then s.volBytes + s.extents * GiB else s.volBytes
  let s := if s.sip.path = 4 then s
    else
      -- What DRAM held of the persistent partition is disregarded.
      { s with mem := [] }.onPort fun h => { h with poison := [] }
  let s := (s.declareClear clearTo).setReg Reg.RESTORE_POISON_PAGES 0
  let s := s.onBasin fun b => { b with heat := s.sip.heat, slot0 := .on, slot1 := .on }
  let s := s.onSpill fun x => { x with state := .armed }
  let s := s.onPort fun h => { h with sealed := false }
  let s := s.onSip fun x => { x with order := s.onlineOrder, issued := 0, online := 0, fetched := [], foldDue := [] }
  let s : State := { s.setReg Reg.SERVICE_OPEN 1 with cold := none }
  let s := (s.setDev .restoring).setConv.mirExit
  -- Vault wheels of a chain already retired are handed over now (R233).
  let s := if s.sip.chain = [] ∧ (s.whl.table.any fun p => decide (p.2.stream = .v)) then s.handOver .reserve else s
  if s.port.sec.locked then s.onSip fun x => { x with state := .lockWait } else s.sipBegin

/-- The overlay's copy of a page: the one of highest SEQ (R227). -/
def State.overlayCopy (s : State) (seg p : Nat) : Option (Run × Loc) := (s.overlay seg p).foldl newerCopy none

/-- A whole run governs a segment: the overlay's pages all come from one run of KIND 2 (Table 7-9). -/
def State.wholeRun (s : State) (seg : Nat) : Option Run :=
  match s.overlayCopy seg 0 with
  | some (u, _) =>
    if u.kind = .vault ∧ (List.range 512).all (fun p => (s.overlayCopy seg p).any fun c => c.1 == u) then some u else none
  | none => none

/-- Pages of a segment that the overlay holds. -/
def State.overlayPages (s : State) (seg : Nat) : List (Nat × Run × Loc) :=
  (List.range 512).filterMap fun p => (s.overlayCopy seg p).map fun c => (p, c.1, c.2)

/-- A settle has closed. -/
def State.settleClosed (s : State) (seg : Nat) : State := s.onSip fun x => { x with
  settles := x.settles.filter (· ≠ seg), foldDue := x.foldDue.filter (· ≠ seg), folds := x.folds.filter fun f => f.1 != seg }

/-- Issue the fold of a segment: its 512 pages as one large unit of stream L (R231); none when the stream cannot take it
now. -/
def State.issueFold (s : State) (seg : Nat) : Option State :=
  (s.place .l 512).map fun (spans, s) =>
    let (seq, s) := s.takeSeq
    let u := s.runOf seq seg .large (BitVec.allOnes 512) spans
    let s := s.onRill fun x => { x with runs := x.runs ++ [u] }
    let s := s.onWhl fun x => x.noteSeq spans seq
    s.onSip fun x => { x with folds := x.folds ++ [(seg, seq, spanWheels spans)] }

/-- A fold of a settle, counted (R231). -/
def State.foldSeg (s : State) (seg : Nat) : State := match s.issueFold seg with
  | some s => s.addReg Reg.RESTORE_FOLDS 1
  | none => s

/-- Map a fold whose wheels have all closed (R231, R158). -/
def State.mapFold (s : State) (seg seq : Nat) : State :=
  match (s.rill.runOfSeq seq seg).bind fun u => u.locOf 0 with
  | some l => (s.keepSlots seg).onRill fun x => x.replayLarge seg seq l
  | none => s

/-- Settle a segment by Table 7-9, or map its fold once the fold's wheels have closed (R231). -/
def State.settleSeg (s : State) (seg : Nat) : State :=
  if !s.sip.settles.contains seg then s
  else match s.sip.folds.find? fun f => f.1 == seg with
  | some (_, seq, waits) =>
    if waits ≠ [] then s
    else
      (s.mapFold seg seq).settleClosed seg
  | none =>
    if s.sip.foldDue.contains seg then s.foldSeg seg
    else match s.wholeRun seg with
      | some u =>
        let s := match u.locOf 0 with
          | some l => (s.keepSlots seg).onRill fun x => x.replayLarge seg u.seq l
          | none => s
        s.settleClosed seg
      | none =>
        let ps := s.overlayPages seg
        let new := ps.filter fun x => (s.rill.fineOf (pageIdx seg x.1)).isNone && decide (s.rill.largeSeq seg < x.2.1.seq)
        if s.reg Reg.RILL_LARGE_MIN ≤ ps.length ∨ s.reg Reg.RILL_FOLD_FINE < s.rill.fineCount seg + new.length
            ∨ (s.reserveSlots seg (new.map (·.1))).isNone then s.foldSeg seg
        else
          (ps.foldl (fun s x => s.onRill fun r => r.replayFine s.basin.fineK seg x.1 x.2.1.seq x.2.2) s).settleClosed seg

/-- Free the wheels of stream V that hold metadata alone: their blocks go back to the reserve (R233). -/
def State.releaseMeta (s : State) : State :=
  s.onWhl fun x => { x with table := x.table.filter fun p => !(decide (p.2.stream = .v) && p.2.metaWheel) }

/-- Retire the chain (R233): checkpoint, restore record, handover, ONLINE. With no chain the device enters ONLINE. -/
def State.retire (s : State) : State :=
  let s := match s.sip.chain.head? with
    | none => s
    | some m =>
      let s := s.checkpoint true
      let s := s.putRestore { s.restoreRec with retiredSeq := m.seq, activeSeq := 0, jlocA := 0, jlocB := 0 }
      s.releaseMeta.handOver .reserve
  let s := s.onSip fun x => { x with state := .idle, chain := [] }
  s.setDev .online

end Sys2Proof.Machine
end

