-- ==== Sys2Proof/Machine/HostOps.lean ====
section
/-! DEFINITION. The host port beyond its accesses: link and resets, IDE and SPDM, standard CXL commands and their
acceptance, poison lists, Dynamic Capacity answers, decoders (2). -/

namespace Sys2Proof.Machine

/-! ### Link and resets (R41 to R46, Table 2-3) -/

/-- A width and rate at which the port trains (Table 2-1), within the caps; rates in GT/s, 2 standing for 2.5. -/
def State.linkOk (s : State) (width rate : Nat) : Bool :=
  [4, 8, 16].contains width && decide (width ≤ s.reg Reg.LINK_WIDTH_CAP)
    && [2, 5, 8, 16, 32, 64].contains rate && decide (rate ≤ s.reg Reg.LINK_RATE_CAP)

/-- A start stopped in a hold: of the population, of the flash, or of the NV Store (R101, R245, R397). -/
def State.inHold (s : State) : Bool :=
  decide (s.dev = .bringup)
    && (decide (s.basin.state = .populationHold) || decide (s.res.state = .hold) || decide (s.nv.state = .hold))

/-- The link trains: the core domain and the host PHY's rails run, and a start has evaluated the shutdown record
(Table 2-8, R31), stands in a hold, or is in recovery mode (R478). -/
def State.mayTrain (s : State) : Bool :=
  s.seq.coreUp
    && ((List.range 24).all fun n => s.slotKind n != 3 || s.seq.running.contains n)
    && (decide (s.dev ≠ .bringup) || decide (s.sip.path ≠ 0) || s.inHold || s.mgmt.recovery)

/-- Mailboxes, direct registers and MSI-X of the PF1 of some logical devices return to defaults (Table 2-3): a journalled
command runs on with its reply discarded, stages of mailbox originators are lost (R413), held messages are discarded
(R381). The journal cursor and CMD_LAST_STATUS are parameters, one of each, that every PF1 shows (R435). -/
def State.flr1 (s : State) (mine : Nat → Bool) : State :=
  let s := s.onCmd fun x => { x with
    owed := x.owed.map fun q => if q.origin.transport < 2 && mine q.origin.ld then { q with discard := true } else q
    stages := x.stages.filter fun p => !(decide (p.1 / 16 < 2) && mine (p.1 % 16))
    window := 0 }
  let s := (s.setReg Reg.JOURNAL_CURSOR 0).setReg Reg.CMD_LAST_STATUS 0
  s.onPort fun h => { h with pf1 := h.pf1.filter fun p => !mine p.1 }

/-- Every function returns to defaults: decoders uncommitted, CXL.mem IDE Insecure (Table 2-3). The stream's failure is
forgotten with it, so that CXL.mem is served again without the stream established anew, which R72 leaves open (DESIGN
CHOICE, log entry 223). -/
def State.portReset (s : State) : State :=
  (s.flr1 fun _ => true).onPort fun h => { h with
    decoders := [], ideSecure := false, ideFailed := false, ideSkid := false, ideKeys := 0, ioKeys := []
    ioStreams := [], gpfStarted := [], pf2 := {} }

/-! ### Answers of the standard commands (R508) -/

/-- States in which the mailboxes serve status commands alone (Table 2-8). -/
def State.restricted (s : State) : Bool := match s.dev with
  | .restoring | .online | .preSpill | .maintenance => false
  | _ => true

/-- A transport serves standard commands: a mailbox, or MCTP. -/
def State.stdReaches (s : State) (c : Cxl) : Bool := s.reaches c.transport && !s.aonServes && decide (c.transport ≤ 3)

/-- Answer a standard command with a return code. -/
def State.cxlRet (s : State) (op : Nat) (r : Ret) (fields : List Nat := []) : State := s.emit (.cxl op r.code fields)

/-- A status command of R508. -/
def State.stdStatus (s : State) (c : Cxl) (op : Nat) (fields : State → List Nat × State) : State :=
  if !s.stdReaches c then s
  else
    let (f, s) := fields s
    s.cxlRet op .success f

/-- Any other standard command: Media Disabled in the restricted states (R508). -/
def State.stdFull (s : State) (c : Cxl) (op : Nat) (body : State → State) : State :=
  if !s.stdReaches c then s
  else if s.restricted then s.cxlRet op .mediaDisabled
  else body s

/-- Journal status of a return code (R430). -/
def Ret.status : Ret → Nat
  | .success | .backgroundStarted => St.SUCCESS
  | .mediaDisabled | .invalidSecurityState => St.INVALID_STATE
  | .busy => St.BUSY
  | .unsupported => St.UNSUPPORTED
  | _ => St.INVALID_FIELD

/-- A standard command that is journalled (R430): entered with IN_PROGRESS, run, completed with its return code. -/
def State.stdJournal (s : State) (c : Cxl) (op digest : Nat) (body : State → Ret × State) : State :=
  let (o, s) := s.journalStd op c.transport c.ld c.fm false digest
  let (r, s) := body s
  (s.settleStd o r.status).cxlRet op r

/-! ### Ranges presented (R42, R49) -/

/-- The link has settled below 16 GT/s: the device reports no memory range (R42). -/
def State.slowLink (s : State) : Bool := s.port.up && decide (s.port.rate < 16)

/-- The ranges presented to a logical device's host: volatile and persistent bytes (R42, R49, R58). -/
def State.ranges (s : State) (ld : Nat) : Nat × Nat :=
  if s.slowLink then (0, 0) else ((s.alloc ld).1, (s.alloc ld).2 * GiB)

/-! ### Logical devices' addresses -/

/-- A device address as a logical device's own DPA: the inverse of `State.toDpa`. -/
def State.ldAddr (s : State) (ld a : Nat) : Option Nat :=
  let (v, p) := s.alloc ld
  let (v0, p0) := s.allocBase ld
  let b := s.volBytes + p0 * GiB
  if v0 ≤ a ∧ a < v0 + v then some (a - v0)
  else if b ≤ a ∧ a < b + p * GiB then some (v + (a - b))
  else none

/-! ### Poison lists (R61, R62) -/

/-- Merge contiguous lines of one source into ranges of at most 256 GiB: first line, lines, source. -/
def mergeLines : List (Nat × PoisonSrc) → List (Nat × Nat × PoisonSrc)
  | [] => []
  | (a, q) :: l => match mergeLines l with
    | (b, n, r) :: m => if b = a + 1 ∧ q = r ∧ n < 2 ^ 32 then (a, n + 1, r) :: m else (a, 1, q) :: (b, n, r) :: m
    | [] => [(a, 1, q)]

/-- CXL's number of a poison source (PRESUMED, log entry 29). -/
def PoisonSrc.code : PoisonSrc → Nat
  | .external => 1 | .internal => 2 | .injected => 3

/-- Poisoned lines of a logical device in a range of its addresses, in its own line numbers. -/
def State.poisonIn' (s : State) (l : List (Nat × PoisonSrc)) (ld start len : Nat) : List (Nat × PoisonSrc) :=
  l.filterMap fun p => match s.ldAddr ld (p.1 * 64) with
    | some a => if start ≤ a ∧ a < start + len then some (a / 64, p.2) else none
    | none => none

/-- A list of ranges as fields: count, overflow flag, the event recorder's sequence at the overflow, then each range
(R62). -/
def State.poisonFields (s : State) (ld : Nat) (l : List (Nat × PoisonSrc)) : List Nat :=
  let r := mergeLines l
  let m := s.reg Reg.POISON_LIST_MAX
  let more := decide (m < r.length)
  [Nat.min m r.length, b2n more, if more then mget (s.reg Reg.REC_SEQ) s.port.poisonOver ld else 0]
    ++ (r.take m).flatMap fun x => [x.1 * 64, x.2.1, x.2.2.code]

/-- Note the overflow of the poison lists (R62): the event recorder's sequence when a list comes to have more ranges than
POISON_LIST_MAX, for as long as it has. -/
def State.notePoison (s : State) : State :=
  let full := s.lds.filter fun ld => decide (s.reg Reg.POISON_LIST_MAX
    < (mergeLines (s.poisonIn' s.port.poison ld 0 (s.volBytes + s.extents * GiB))).length)
  s.onPort fun h => { h with poisonOver := full.map fun ld => (ld, mget (s.reg Reg.REC_SEQ) h.poisonOver ld) }

/-- Address of an Inject or Clear Poison: none where R63 answers Invalid Physical Address. -/
def State.poisonAddr (s : State) (ld a : Nat) : Option Nat := match s.toDpa ld (a / 64 * 64) with
  | none => none
  | some d => if s.persistent d && !s.extServed ld (s.extentOf d) then none else some d

/-! ### Dynamic Capacity (R54, R55, Table 2-5) -/

/-- The host's answer to offered extents; one that was not offered makes it Invalid Extent List. -/
def State.dcAnswer (s : State) (ld : Nat) (accepted declined : List Nat) : Ret × State :=
  if s.port.whole then (.unsupported, s)
  else if (accepted ++ declined).any (fun e => s.extState ld e != some .offered) then (.invalidExtentList, s)
  else
    let s := s.onPort fun h => { h with
      extents := h.extents.map fun p =>
        if p.1 / 8192 ≠ ld then p
        else if accepted.contains (p.1 % 8192) then (p.1, .accepted)
        else if declined.contains (p.1 % 8192) then (p.1, .declined) else p
      reoffer := if declined = [] then h.reoffer else mput ld (mget [] h.reoffer ld ++ declined) h.reoffer }
    (.success, s.offer)

/-- The host releases accepted extents: they stay persistent, and are offered again at the next start of RESTORING. -/
def State.dcRelease (s : State) (ld : Nat) (es : List Nat) : Ret × State :=
  if s.port.whole then (.unsupported, s)
  else if es.any (fun e => s.extState ld e != some .accepted) then (.invalidExtentList, s)
  else
    let l := s.port.extents.map fun p =>
      if p.1 / 8192 = ld ∧ es.contains (p.1 % 8192) then (p.1, ExtState.released) else p
    (.success, s.onPort fun h => { h with extents := l })

/-! ### Decoders (R52, Table 2-4) -/

/-- 256 MiB. -/
abbrev MiB256 : Nat := 256 * MiB

/-- The options of Table 2-4; of the target types HDM-H alone. -/
def decoderOk (base size skip ways gran : Nat) (hdmH : Bool) : Bool :=
  hdmH && base % MiB256 == 0 && size % MiB256 == 0 && decide (0 < size) && skip % MiB256 == 0
    && [1, 2, 3, 4, 6, 8, 12, 16].contains ways
    && [256, 512, 1024, 2048, 4096, 8192, 16384].contains gran && size % ways == 0

/-- Commit the next decoder of a logical device, in order; its DPA follows the one before it, after the skip. -/
def State.commitDecoder (s : State) (ld base size skip ways gran : Nat) (lock hdmH : Bool) : State :=
  let l := s.port.decs ld
  let (v, p) := s.alloc ld
  let (hpaEnd, dpaEnd) := match l.getLast? with
    | some d => (d.base + d.size, d.dpaBase + d.size / d.ways)
    | none => (0, 0)
  if 8 ≤ l.length ∨ !decoderOk base size skip ways gran hdmH ∨ base < hpaEnd
      ∨ v + p * GiB < dpaEnd + skip + size / ways then s
  else s.onPort fun h => { h with decoders := mput ld (l ++ [{
    base := base, size := size, dpaBase := dpaEnd + skip, ways := ways, granularity := gran, lock := lock }]) h.decoders }

/-- Uncommit the last decoder of a logical device, unless it is locked. -/
def State.uncommitDecoder (s : State) (ld : Nat) : State :=
  match (s.port.decs ld).getLast? with
  | some d => if d.lock then s
    else s.onPort fun h => { h with decoders := mset [] h.decoders ld (mget [] h.decoders ld).dropLast }
  | none => s

/-! ### Passphrases (R74, R75) -/

/-- The NV Store keeps what security stands at. -/
def State.saveSecurity (s : State) : State :=
  let x := s.port.sec
  s.nvDurable (.security x.user.isSome x.master.isSome x.locked x.frozen)

/-- A passphrase of one kind. -/
def Security.pass (x : Security) (master : Bool) : Option (BitVec 256) := if master then x.master else x.user

/-- Put a passphrase of one kind. -/
def Security.setPass (x : Security) (master : Bool) (v : Option (BitVec 256)) : Security :=
  if master then { x with master := v } else { x with user := v }

/-- Set a passphrase: the present one must be given (CXL; PRESUMED, log entry 29). -/
def State.setPassphrase (s : State) (master : Bool) (cur new : BitVec 256) : Ret × State :=
  let x := s.port.sec
  if x.frozen ∨ x.locked then (.invalidSecurityState, s)
  else if (x.pass master).any (fun p => p != cur) then (.incorrectPassphrase, s)
  else (.success, (s.onPort fun h => { h with sec := h.sec.setPass master (some new) }).saveSecurity)

/-- Disable a passphrase. -/
def State.disablePassphrase (s : State) (master : Bool) (cur : BitVec 256) : Ret × State :=
  let x := s.port.sec
  if x.frozen ∨ x.locked ∨ (x.pass master).isNone then (.invalidSecurityState, s)
  else if x.pass master ≠ some cur then (.incorrectPassphrase, s)
  else (.success, (s.onPort fun h => { h with sec := h.sec.setPass master none }).saveSecurity)

/-- Unlock (R74, R235): five failures block the passphrase; success lets a waiting restore go on. -/
def State.unlock (s : State) (pass : BitVec 256) : Ret × State :=
  let x := s.port.sec
  if x.frozen ∨ !x.locked ∨ 5 ≤ x.fails then (.invalidSecurityState, s)
  else if x.user ≠ some pass then
    (.incorrectPassphrase, s.onPort fun h => { h with sec := { h.sec with fails := h.sec.fails + 1 } })
  else
    let s := s.onPort fun h => { h with sec := { h.sec with locked := false, fails := 0 } }
    (.success, if s.sip.state = .lockWait then (s.onSip fun q => { q with startedAt := s.now }).sipBegin else s)

/-- Bits of Get Security State: user and master set, locked, frozen, user blocked. -/
def Security.word (x : Security) : Nat :=
  b2n x.user.isSome + at' (b2n x.master.isSome) 1 + at' (b2n x.locked) 2 + at' (b2n x.frozen) 3
    + at' (b2n (decide (5 ≤ x.fails))) 4

/-! ### Whole-device erases (R76) -/

/-- The device enters MAINTENANCE: every activity ends, the port serves no memory (R440, Table 2-8). -/
def State.enterMaintenance (s : State) : State :=
  let s := s.actEndAll.cutLearns 3
  let s := s.rehearseOut.onSpill fun x => { x with state := if x.state = .rehearsing then .armed else x.state }
  let s := s.onSip fun x => { x with state := .idle }
  s.setDev .maintenance

/-- Start a whole-device erase (R76, R508): with no decoder committed, or in a hold, a Sanitize alone. It answers with
the background started; its journal entry, mirrored, completes with the erase. -/
def State.startErase (s : State) (c : Cxl) (op digest : Nat) (user : Bool) : State :=
  if !s.stdReaches c then s
  else if s.restricted ∧ !(s.inHold ∧ op = 0x4400) then s.cxlRet op .mediaDisabled
  else if s.port.committed then s.cxlRet op .unsupported
  else if s.port.erasing.isSome ∨ s.seq.flush.isSome ∨ s.rill.reformat.isSome ∨ s.dev = .preSpill
      ∨ (s.dev = .maintenance ∧ s.mgmt.bistOff) then s.cxlRet op .busy
  else
    let (o, s) := s.journalStd op c.transport c.ld c.fm true digest
    let s := if s.restricted ∨ s.dev = .maintenance then s else s.enterMaintenance
    (s.onPort fun h => { h with erasing := some o.cseq, eraseUser := user }).cxlRet op .backgroundStarted

/-! ### SPDM (R73, Table 2-10) -/

/-- Answer an SPDM request. Codes of DSP0274 (PRESUMED, log entry 29). -/
def State.spdmRsp (s : State) (code : Nat) (fields : List Nat) : State := s.emit (.spdm code fields)

/-- ERROR with its code. -/
def State.spdmErr (s : State) (code : Nat) : State := s.spdmRsp 0x7F [code]

/-- Change the responder. -/
def State.onSpdm (s : State) (f : Spdm → Spdm) : State := s.onPort fun h => { h with spdm := f h.spdm }

/-- The paths that firmware serves are served. -/
def State.firmwareUp (s : State) : Bool := s.seq.coreUp && decide (s.mgmt.state = .running)

/-- The responder is reached over a transport: firmware runs, with the link up for DOE and VDM. -/
def State.spdmUp (s : State) (via : SpdmVia) : Bool := s.firmwareUp && (decide (via = .i3c) || s.port.up)

/-- The connection on a transport. -/
def Spdm.conn (x : Spdm) : SpdmVia → SpdmConn
  | .doe => x.doe | .vdm => x.vdm | .i3c => x.i3c

/-- Put the connection on a transport. -/
def Spdm.setConn (x : Spdm) (via : SpdmVia) (c : SpdmConn) : Spdm := match via with
  | .doe => { x with doe := c } | .vdm => { x with vdm := c } | .i3c => { x with i3c := c }

/-- A session of a transport that FINISH has completed. -/
def Spdm.live (x : Spdm) (via : SpdmVia) (id : Nat) : Bool :=
  x.sessions.any fun q => q.id == id && decide (q.via = via) && q.established

/-- Slots that hold a certificate chain: those provisioned, and those the NV Store holds a chain for (Table 13-4). -/
def State.certSlots (s : State) : List Nat :=
  (List.range 4).filter fun k => s.port.spdm.certs.contains k
    || (s.nvGet fun d => match d with | .cert j => if j = k then some () else none | _ => none).isSome

/-- CAPABILITIES flags of DSP0274 for Table 2-10: CERT, CHAL, MEAS with signature, ENCRYPT, MAC, KEY_EX, HBEAT, KEY_UPD
(PRESUMED, log entry 29). -/
abbrev spdmCaps : Nat := 0x62D6

/-- ALGORITHMS of DSP0274 for Table 2-10: ECDSA P-384, SHA-384, ECDHE P-384, AES-256-GCM (PRESUMED, log entry 29). -/
abbrev spdmAlgorithms : List Nat := [0x80, 0x2, 0x10, 0x2]

end Sys2Proof.Machine
end

