-- ==== Sys2Proof/Machine/BasinOps.lean ====
section
/-! DEFINITION. The Basin in service and at start-up: populations and their acceptance, scrub, repair, sparing
(3 R79 to R103, 2 R48, R509). -/

namespace Sys2Proof.Machine

/-! ### Populations (R79, R80, R101, Table 3-9) -/

/-- Rate steps of Table 3-1 within the range for one or two modules per channel, highest first. -/
def rateSteps (two : Bool) : List Nat := if two then [5600, 5200, 4800] else [6400, 6000, 5600, 5200, 4800]

/-- Modules of a slot set in a population. -/
def inSet (l : List Dimm) (k : Nat) : List Dimm := l.filter fun d => d.slot == k

/-- The highest rate step every module supports (R80). -/
def commonRate (l : List Dimm) : Option Nat :=
  (rateSteps !(inSet l 1).isEmpty).find? fun r => l.all fun d => d.rates.contains r

/-- Module types of Table 3-1: 0 an RDIMM, 1 a 3DS RDIMM, of x4 devices. -/
def dimmOk (d : Dimm) : Bool := decide (d.type ≤ 1) && decide (d.cap ≤ 3) && decide (1 ≤ d.ranks)

/-- Two modules are alike in type, capacity, ranks and density. -/
def dimmAlike (a b : Dimm) : Bool := a.type == b.type && a.cap == b.cap && a.ranks == b.ranks && a.density == b.density

/-- All modules of a list are alike. -/
def allAlike : List Dimm → Bool
  | [] => true
  | d :: l => l.all fun e => dimmAlike d e

/-- The population is supported (R79, R80). Modules that each support a step in range but share none have no rate, and the
population is not supported (DESIGN CHOICE, log entry 231). -/
def populationOk (l : List Dimm) : Bool :=
  let chans := fun k => sortAsc ((inSet l k).map (·.channel))
  let c0 := chans 0
  [List.range 2, List.range 4, List.range 8].contains c0
    && (chans 1 == [] || chans 1 == c0)
    && l.all (fun d => decide (d.slot ≤ 1) && dimmOk d)
    && allAlike (inSet l 0) && allAlike (inSet l 1)
    && (commonRate l).isSome

/-- Module of a channel and slot. -/
def dimmAt (l : List Dimm) (ch k : Nat) : Option Dimm := l.find? fun d => d.channel == ch && d.slot == k

/-- One place holds alike modules in two populations, or none in both. -/
def placeAlike (a b : Option Dimm) : Bool := match a, b with
  | some x, some y => dimmAlike x y
  | none, none => true
  | _, _ => false

/-- A channel is the same in two populations but for serial numbers. -/
def channelAlike (a b : List Dimm) (ch : Nat) : Bool :=
  placeAlike (dimmAt a ch 0) (dimmAt b ch 0) && placeAlike (dimmAt a ch 1) (dimmAt b ch 1)

/-- Serial numbers agree too. -/
def serialsSame (a b : List Dimm) : Bool :=
  a.all fun d => (dimmAt b d.channel d.slot).any fun e => e.serial == d.serial

/-- The population recorded with the image. -/
def State.recordedPop (s : State) : Option (List Dimm) :=
  s.nvGet fun d => match d with | .dramPop p => some p | _ => none

/-- The row of Table 3-9 for a population found. -/
def State.popRow (s : State) (l : List Dimm) (failed : List (Nat × Nat)) : Nat :=
  if !populationOk l || l.any (fun d => failed.contains (d.channel, d.slot)) then 5
  else
    let same := match s.recordedPop with
      | some r => (List.range 8).all fun ch => channelAlike l r ch
      | none => false
    if same then (if (s.recordedPop.any fun r => serialsSame l r) then 1 else 2)
    else if s.reg Reg.SHUTDOWN_RECORD = Shut.none.code then 3 else 4

/-! ### Partitions in force (R48, R50, R51, R509) -/

/-- The largest VOLATILE_SIZE that meets R48 on a host capacity in bytes. -/
def maxVolatile (host : Nat) : Nat := (host - 64 * GiB) / (64 * GiB)

/-- A delta of a value changed outside a parameter commit (R509). -/
def State.delta (s : State) (id v : Nat) : State :=
  (s.nvWrite (.cfgDelta id v (s.reg Reg.CFG_GEN))).setReg Reg.CFG_DELTAS (Nat.min 2047 (s.reg Reg.CFG_DELTAS + 1))

/-- Set every allocation to 0, each value changed written as a delta under the first two IDs of its logical device's block
(R509, R78; PRESUMED, log entry 235). -/
def State.dropAllocs (s : State) : State :=
  let l := s.port.allocs
  let s := s.onPort fun h => { h with allocs := [] }
  l.foldl (fun s p =>
    let id := Reg.LD_VIEW + 16 * p.1
    let s := if p.2.1 = 0 then s else s.delta id 0
    if p.2.2 = 0 then s else s.delta (id + 1) 0) s

/-- Check the configured partitions against the host capacity, as a map is built anew (R509); values changed are
written as deltas. -/
def State.fitPartitions (s : State) : State :=
  let host := s.basin.host
  let vol := s.reg Reg.VOLATILE_SIZE
  let fits := vol == 0 || decide (64 * GiB * vol + 64 * GiB ≤ host)
  let v := if fits then vol else Nat.min vol (maxVolatile host)
  let ext := host / GiB - 64 * v
  let keep := decide (sumOf (s.port.allocs.map fun p => p.2.1) ≤ v)
    && decide (sumOf (s.port.allocs.map fun p => p.2.2) ≤ ext)
  let drop := s.reg Reg.MLD_ENABLE == 1 && !keep
  let s := if fits then s
    else (s.setReg Reg.VOLATILE_SIZE v).delta Reg.VOLATILE_SIZE v
  let s := if drop then s.dropAllocs else s
  if fits && !drop then s else s.raise Ev.CAPACITY_ADJUSTED

/-- The layout of the host's range comes into force (R50, R51). -/
def State.takeLayout (s : State) : State :=
  s.onPort fun h => { h with
    volGiB := 64 * s.reg Reg.VOLATILE_SIZE, whole := s.reg Reg.HOST_CAP_MODE == 1, mld := s.reg Reg.MLD_ENABLE == 1
    ldCount := s.reg Reg.LD_COUNT, allocsInForce := h.allocs }

/-- Rows that wait for hard repair are repaired, at BRINGUP only, with PPR_MODE at 2 (R88). -/
def State.hardRepair (s : State) : State :=
  if s.reg Reg.PPR_MODE ≠ 2 ∨ s.basin.pprRows = [] then s
  else
    let slots := (s.basin.pprRows.map fun r => r / 2 ^ 18 / 16).eraseDups
    slots.foldl (fun s m => s.nvWrite (.ppr m [])) (s.onBasin fun b => { b with pprRows := [] })

/-- Accept a population under a row of Table 3-9: the Basin serves, with an empty DST (R102). -/
def State.acceptPop (s : State) (l : List Dimm) (row : Nat) : State :=
  let spare := s.reg Reg.RANK_SPARE_ENABLE == 1
  let anew := decide (row = 3) || s.basin.spare != spare
  let s := s.onBasin fun b => { b with
    state := .serving, found := l, row := row, dst := [], shadow := [], overflow := [], spare := spare }
  let s := s.setReg Reg.DRAM_RATE ((commonRate l).getD 0)
  let s := if row = 1 then s else (s.nvDurable (.dramPop l)).onBasin fun b => { b with spareCopy := none, spareQ := [] }
  let s := if anew then s.fitPartitions else s
  s.takeLayout.hardRepair

/-- Stop in POPULATION_HOLD (R101): a fault for each channel that differs. Where no population is recorded all eight channels
differ (DESIGN CHOICE, log entry 234). -/
def State.holdPop (s : State) (l : List Dimm) (row : Nat) (failed : List (Nat × Nat)) : State :=
  let s := s.onBasin fun b => { b with state := .populationHold, found := l, row := row }
  let diff := (List.range 8).filter fun ch => match s.recordedPop with
    | some r => !channelAlike l r ch || failed.any fun f => f.1 == ch
    | none => true
  (if diff = [] then [0] else diff).foldl (fun s ch =>
    (s.fault (Src.BASIN_CH0 + ch) .degraded).raise Ev.POPULATION_MISMATCH) s

/-- Training is complete (R101). -/
def State.trained (s : State) (l : List Dimm) (failed : List (Nat × Nat)) : State :=
  let row := s.popRow l failed
  if row ≤ 3 then s.acceptPop l row else s.holdPop l row failed

/-! ### Scrub and repair (R85 to R89) -/

/-- A soft repair is finished (R88): recorded for hard repair. -/
def State.softDone (s : State) (row : Nat) (left : Bool) : State :=
  if !s.basin.softRows.contains row then s
  else
    let m := row / 2 ^ 18 / 16
    let s := s.onBasin fun b => { b with
      softRows := b.softRows.filter (· ≠ row), pprRows := b.pprRows ++ [row]
      rowErrs := b.rowErrs.filter fun p => p.1 != row }
    let s := s.nvWrite (.ppr m (s.basin.pprRows.filter fun r => r / 2 ^ 18 / 16 == m))
    let s := (s.fault (Src.BASIN_CH0 + m / 2) .log).raise (Ev.DIMM_CH_0 + m / 2)
    if left then s
    else (s.onBasin fun b => { b with noSpareRows := b.noSpareRows ++ [row / 2 ^ 18] }).askSpare (row / 2 ^ 18)

/-- Segments a 64-byte line of the overflow bitmap covers, and of the heat record. -/
abbrev overflowLine : Nat := 512
/-- Segments a line of the heat record covers. -/
abbrev heatLine : Nat := 32

/-- Put every segment that a failed line of the overflow bitmap covers into overflow (R85): those of the host's range,
whether or not they have an entry. -/
def State.overflowFailed (s : State) (first : Nat) : State :=
  let l := (List.range overflowLine).map (first + ·)
  let l := l.filter fun g => decide (g * 2 ^ 21 < s.basin.host) && !s.basin.overflow.contains g
  (s.onBasin fun b => { b with overflow := l.foldl (fun o g => insertAsc g o) b.overflow }).addReg
    Reg.DST_OVERFLOW_COUNT l.length

/-- What a scrubbed line shows is resolved (R85 to R88, Table 3-4). -/
def State.scrubFound (s : State) : ScrubFind → State
  | .clean => s
  | .corrected ch slot rank row => if ch < 8 then s.dramCe ch slot rank row else s
  | .badLine dpa => if dpa < s.basin.host then s.dramUe dpa else s
  | .bitmap seg => (s.onBasin fun b => b.slotFailed seg).fault Src.BASIN_MAP .corrected
  | .overflow first => (s.overflowFailed (first / overflowLine * overflowLine)).fault Src.BASIN_MAP .corrected
  | .heat first =>
    let lo := first / heatLine * heatLine
    (s.onBasin fun b => { b with heat := mclear b.heat lo (lo + heatLine) }).fault Src.BASIN_MAP .corrected
  | .shadow first => (s.onBasin fun b => b.shadowLine first).fault Src.BASIN_MAP .corrected

/-- The scrub moves to the next line of installed DRAM (R87). -/
def State.scrubNext (s : State) : State :=
  s.onBasin fun b => { b with scrubAt := (b.scrubAt + 1) % Nat.max 1 (b.installed / 64) }

/-- Heat decays: cached counts first (R95). -/
def Basin.decay (b : Basin) (q : Nat) : Basin :=
  let b := b.flushAll q
  let f := fun h => h - h / 8
  { b with
    dst := b.dst.map fun p => (p.1, { p.2 with heat := f p.2.heat })
    heat := (b.heat.map fun p => (p.1, (f p.2.1, p.2.2))).filter fun p => p.2 != (0, 0) }

end Sys2Proof.Machine
end

