-- ==== Sys2Proof/Machine/ResOps.lean ====
section
/-! DEFINITION. The Reservoir in service and at start-up: retirement, identification, regions and the block table, the
read path, refresh (8). -/

namespace Sys2Proof.Machine

/-! ### Retirement (R256, R257, R282, R292) -/

/-- Open wheels lose the strips on spokes that are gone: a wheel of stream V takes an erasure, any other is voided (R148,
R189, R280). -/
def State.loseSpokes (s : State) (hit : Spoke → Bool) : State :=
  (s.whl.table.filter fun p => decide (p.2.state = .open_)).foldl (fun s p =>
    match s.whl.bandOf p.1 with
    | none => s
    | some (b, row) =>
      let cols := (List.range b.spokes.length).filter fun c => (b.spoke row c).any hit
      if cols = [] then s
      else if p.2.stream = .v then cols.foldl (fun s c => s.vErasure p.1 c) s
      else s.voidWheel p.1) s

/-- Journal copies on lost ports are gone until the re-mirror (R282). -/
def Wheels.journalLost (x : Wheels) (hit : Nat → Bool) : Wheels :=
  { x with journal := x.journal.map fun j => { j with
    copyA := j.copyA && !hit (j.placeA.1 / 16384), copyB := j.copyB && !hit (j.placeB.1 / 16384) } }

/-- Every column on lost spokes is an erasure and is queued for truing; the loss is reported for a port's channel. -/
def State.spokesGone (s : State) (hit : Spoke → Bool) (reason port : Nat) : State :=
  let s := ((s.loseSpokes hit).queueTrue hit false reason).judgeWheels.rewriteDue
  (s.fault (grpSrc port) .degraded).raise (Ev.FLASH_CH_0 + port / 16)

/-- Retire a target (Table 8-5). -/
def State.retireTarget (s : State) (port : Nat) : State :=
  if s.res.retired.contains port then s
  else
    let s := (s.onRes fun r => { r with retired := r.retired ++ [port] }).onWhl fun x => x.journalLost (· == port)
    s.spokesGone (fun p => p.port == port) 0 port

/-- Retire a LUN (Table 8-5); with its last LUN the target is retired. -/
def State.retireLun (s : State) (lun : Nat) : State :=
  if s.res.retiredLuns.contains lun then s
  else
    let s := s.onRes fun r => { r with retiredLuns := r.retiredLuns ++ [lun] }
    let s := s.spokesGone (fun p => p.port * 4 + p.lun == lun) 0 (lun / 4)
    let n := ((s.res.target (lun / 4)).map (·.luns)).getD s.res.part.luns
    if (List.range n).all fun l => s.res.retiredLuns.contains (lun / 4 * 4 + l) then s.retireTarget (lun / 4) else s

/-- Retire a LUN whose retired blocks exceed LUN_RETIRE_FRAC of BLOCKS (Table 8-5). -/
def State.judgeLun (s : State) (lun : Nat) : State :=
  let n := (s.res.blocks.filter fun p => p.1 / 4096 == lun && decide (p.2.state = .retired)).length
  if s.reg Reg.LUN_RETIRE_FRAC * s.res.part.blocks < 100 * n then s.retireLun lun else s

/-- Retire a block, and its LUN when that is one too many. -/
def State.badBlock (s : State) (key : Nat) : State := (s.retireBlock key).judgeLun (key / 4096)

/-- A journal block whose program failed is retired, and its copy moves on to the next block of its own order (R282). -/
def State.journalFail (s : State) (half : Nat) : Nat → State
  | 0 => s
  | n + 1 =>
    let (a, b, _, _) := s.journalPlace
    (s.badBlock (if half = 0 then a.1 else b.1)).journalFail half n

/-- Disable a channel (R257): every target on it is lost. -/
def State.disableChannel (s : State) (c : Nat) : State :=
  if s.res.disabled.contains c then s
  else
    let s := (s.onRes fun r => { r with disabled := r.disabled ++ [c] }).onWhl fun x => x.journalLost (· / 16 == c)
    s.spokesGone (fun p => p.port / 16 == c) 3 (16 * c)

/-- A band that ends before its last row receives its END record (R274). -/
def State.endBand (s : State) (base : Nat) : State := match s.whl.band base with
  | some b =>
    if b.opened && b.ended.isNone && decide (b.next < b.rows) then
      let b : Band := { b with ended := some (b.next - 1) }
      (s.onWhl fun x => { x with bands := mput base b x.bands }).nvWrite (.band (b.record 2))
    else s
  | none => s

/-! ### Part descriptors (R244, R271) -/

/-- The channel rate: the lowest of CHANNEL_RATE and the highest rate of the part descriptor in use (R241). -/
def State.channelRate (s : State) : Nat := Nat.min (s.reg Reg.CHANNEL_RATE) s.res.part.rateMax

/-- A descriptor is usable (R244, R271); TLC or QLC in native mode and 1 to 4 LUNs (Table 8-1). -/
def PartDesc.usable (d : PartDesc) : Bool :=
  (d.bits == 3 || d.bits == 4) && decide (1 ≤ d.luns ∧ d.luns ≤ 4) &&
  bit d.flags 0 && bit d.flags 4 && d.planes * d.pageData == 65536
    && decide (d.pageData / 4096 * 4480 ≤ d.pageData + d.pageSpare) && decide (d.tBersMax + d.tProgMax ≤ 25000)
    && d.crcOk && decide (d.pagesPerBlock ≤ 2048) && decide (d.blocks ≤ 2048)

/-- Descriptors the NV Store holds, in slot order; the reference part's in a store that holds none (PRESUMED, log entry 8). -/
def State.descs (s : State) : List PartDesc :=
  let l := (List.range 16).filterMap fun k => s.nvGet fun d => match d with
    | .partDesc i p => if i = k then some p else none
    | _ => none
  if l = [] then [{}] else l

/-- The usable descriptor of a JEDEC ID: the first whose MATCH equals it, if that one is usable. -/
def State.descFor (s : State) (jedec : Nat) : Option PartDesc :=
  (s.descs.find? fun d => d.match_ == jedec).bind fun d => if d.usable then some d else none

/-! ### Populations (R242, R245, Table 8-3) -/

/-- A target identified, trained, and with a usable descriptor whose LUNs it has. -/
def State.targetOk (s : State) (failed : List Nat) (t : Target) : Bool :=
  t.answers && !failed.contains (t.port / 16) && (s.descFor t.jedec).any fun d => d.luns == t.luns

/-- Targets of a channel, by target number. -/
def onChannel (l : List Target) (c : Nat) : List Nat := sortAsc ((l.filter fun t => t.port / 16 == c).map (·.port % 16))

/-- A population is supported (R242), in a geometry the wheels accept (R271). -/
def State.flashOk (s : State) (l : List Target) (failed : List Nat) : Bool := match l with
  | [] => false
  | t :: _ =>
    let n := (onChannel l 0).length
    decide (4 ≤ n) && decide (n ≤ 16) && (List.range 32).all (fun c => onChannel l c == List.range n)
      && l.all fun u => s.targetOk failed u && u.jedec == t.jedec && u.luns == t.luns

/-- The population recorded with the image. -/
def State.recordedFlash (s : State) : Option (List Target) :=
  s.nvGet fun d => match d with | .flashPop p => some p | _ => none

/-- Recorded targets that are missing, unusable, or other parts; those retired already do not count. -/
def State.flashMissing (s : State) (rec l : List Target) (failed : List Nat) : List Nat :=
  (rec.filter fun t => !s.res.retired.contains t.port && !s.res.disabled.contains (t.port / 16)
    && !(l.any fun u => u.port == t.port && u.unique == t.unique && s.targetOk failed u)).map (·.port)

/-- The population found differs from the recorded one in part, count or LUNs. -/
def flashDiffers (rec l : List Target) : Bool :=
  let has := fun (a b : List Target) => a.all fun t => b.any fun u => u.port == t.port && u.jedec == t.jedec && u.luns == t.luns
  !(has rec l && has l rec)

/-- The image's shutdown record reads NONE, and no service is open that BRINGUP still has to judge (R352). -/
def State.noImage (s : State) : Bool := s.reg Reg.SHUTDOWN_RECORD == Shut.none.code && s.reg Reg.SERVICE_OPEN == 0

/-! ### Regions and the block table (R254, R255, R259, R261) -/

/-- Lay out the regions, empty: erase counts and retired blocks are kept (R259). -/
def State.layRegions (s : State) : State :=
  let d := s.reg Reg.RESERVE_DATA_SPOKES
  let bpl := s.reserveBplFor (s.reg Reg.RESERVE_TARGET) d
  let now := [bpl, s.reg Reg.JOURNAL_BPL, s.reg Reg.CKPT_BPL, s.reg Reg.SPARE_BPL]
  if now = [s.res.reserveBpl, s.res.journalBpl, s.res.ckptBpl, s.res.spareBpl] then s
  else
    let r : Reservoir := { s.res with
      reserveBpl := bpl, journalBpl := s.reg Reg.JOURNAL_BPL, ckptBpl := s.reg Reg.CKPT_BPL, spareBpl := s.reg Reg.SPARE_BPL
      spareParts := [], newParts := [], snapshot := [] }
    let keep := r.blocks.map fun p => (p.1, ({
      erases := p.2.erases, state := if p.2.state = .retired then .retired else .erased
      region := r.regionAt (p.1 % 4096) } : BlockRec))
    let r := { r with blocks := keep }
    let sets := r.luns.length * bpl / Nat.max 1 (lanesOf r .v (d + 2) * (d + 2))
    let s : State := { s with
      res := r
      whl := { state := s.whl.state, slowSet := s.whl.slowSet, sets := (List.range sets).map fun n => (n, false) }
      rill := { s.rill with runs := [], large := [], fine := [], ckpts := [] } }
    s.nvWrite s.layoutData

/-- Load the block table at a start whose image is kept (R254, R255): erase and read counts, dates and tracked levels as
in the last snapshot, with the slack after a start that was not clean; a block left ERASING is erased again before use. -/
def State.loadTable (s : State) : State :=
  let clean := s.reg Reg.SHUTDOWN_RECORD == Shut.clean.code
  let slack := if clean then 0 else s.reg Reg.READ_CNT_SLACK
  s.onRes fun r => { r with
    blocks := r.blocks.map fun p =>
      let o := ((r.snapshot.find? fun q => q.1 == p.1).map (·.2)).getD { region := p.2.region }
      (p.1, { p.2 with
        erases := o.erases, reads := Nat.min (2 ^ 24 - 1) (o.reads + slack), progDay := o.progDay, entry := o.entry
        fine := o.fine, low := 0, high := 0, scrubs := 0 })
    eraseSuspended := [] }

/-- A factory bad block, at the first BRINGUP that sees its part (Table 8-5). -/
def State.factoryBad (s : State) (key : Nat) : State :=
  if (s.res.blk key).state = .retired then s
  else
    let s := s.onRes fun r => r.setBlk key { r.blk key with state := .retired, band := none }
    let lun := key / 4096
    let bad := (s.res.blocks.filter fun p => p.1 / 4096 == lun && decide (p.2.state = .retired)).map (·.1 % 4096)
    (s.nvWrite (.badBlocks lun bad)).fault (grpSrc (lun / 4)) .log

/-- Accept a population (Table 8-3): `lose` are the targets retired with it, `anew` says that it takes the place of
another. `bad` are factory bad blocks of parts not seen before, `bw` the flash bandwidth of the population. -/
def State.acceptFlash (s : State) (l : List Target) (failed bad lose : List Nat) (anew : Bool) (bw : Nat) : State :=
  let part := ((l.find? fun t => s.targetOk failed t).bind fun t => s.descFor t.jedec).getD s.res.part
  let rec_ := s.recordedFlash
  let n := (onChannel (if anew then l else rec_.getD l) 0).length
  let s := s.onRes fun r => { r with state := .running, found := l, perChannel := n, part := part, failed := failed }
  let s := s.onRes fun r => { r with rate := s.channelRate }
  let s := if anew then s.onRes fun r => { r with
      blocks := [], snapshot := [], retired := [], retiredLuns := [], disabled := [], spareParts := [], newParts := []
      reserveBpl := 0, journalBpl := 0, ckptBpl := 0, spareBpl := 0 } else s
  let s := bad.foldl (fun s k => s.factoryBad k) s
  let s := if s.noImage then s.layRegions else s.loadTable
  let s := failed.foldl (fun s c => s.disableChannel c) s
  let s := lose.foldl (fun s p => s.retireTarget p) s
  let fresh := l.filter fun t => s.targetOk failed t && s.res.retired.contains t.port
    && (rec_.getD []).any fun u => u.port == t.port && u.unique != t.unique
  let s := s.onRes fun r => { r with newParts := if anew then [] else fresh }
  let s := if anew then s.nvWrite (.flashPop l) else s
  s.onCmd fun x => { x with flashBw := bw }

/-- Stop in FLASH_HOLD (R245): a fault for each group concerned. -/
def State.holdFlash (s : State) (l : List Target) (failed ports : List Nat) : State :=
  let s := s.onRes fun r => { r with state := .hold, found := l, failed := failed }
  let grp := if ports = [] then List.range 8 else (ports.map (· / 64)).eraseDups
  grp.foldl (fun s g => (s.fault (Src.RES_GRP0 + g) .degraded).raise Ev.FLASH_MISMATCH) s

/-- Channels a list of ports lies on. -/
def channelsOf (l : List Nat) : Nat := (l.map (· / 16)).eraseDups.length

/-- Identification has ended (R245, Table 8-3). -/
def State.identified (s : State) (l : List Target) (failed bad : List Nat) (bw : Nat) : State :=
  let odd := (l.filter fun t => t.answers && (s.descFor t.jedec).isNone).map fun t => grpSrc t.port
  let s := odd.eraseDups.foldl (fun s g => s.fault g .degraded) s
  let ok := s.flashOk l failed
  match s.recordedFlash with
  | none => if ok && s.noImage then s.acceptFlash l failed bad [] true bw else s.holdFlash l failed []
  | some r =>
    let miss := s.flashMissing r l failed
    let extra := l.filter fun t => !(r.any fun u => u.port == t.port)
    if extra = [] && decide (channelsOf miss ≤ 2) then s.acceptFlash l failed bad miss false bw
    else if ok && s.noImage && (flashDiffers r l || decide (3 ≤ channelsOf miss)) then s.acceptFlash l failed bad [] true bw
    else s.holdFlash l failed (miss ++ extra.map (·.port))

/-! ### Refresh (R250 to R252) -/

/-- A block belongs to a vault that is not yet handed over. -/
def State.vaultBlock (s : State) (key : Nat) : Bool :=
  match (s.res.blk key).band.bind fun n => s.whl.band n with
  | some b => decide (b.stream = .v)
  | none => false

/-- Queue a block for refresh (R250 to R252): one of an unretired vault is only reported. -/
def State.queueRefresh (s : State) (key : Nat) : State :=
  let k := s.res.blk key
  if s.vaultBlock key then (s.fault (grpSrc (key / 16384)) .log).raise Ev.VAULT_AGEING
  else if s.res.refreshQ.contains key ∨ !(k.state = .closed || k.state = .allocated || k.state = .retired) then s
  else s.onRes fun r => { r.setBlk key { k with state := if k.state = .closed then .refresh else k.state } with
    refreshQ := r.refreshQ ++ [key] }

/-- The read limit of a block (R250). -/
def State.readLimit (s : State) (k : BlockRec) : Nat :=
  if k.slc then s.reg Reg.READ_DISTURB_SLC
  else if s.res.part.disturb ≠ 0 then s.res.part.disturb else s.reg Reg.READ_DISTURB_LIMIT

/-- Count page reads of a block (R250). -/
def State.countReads (s : State) (key n : Nat) : State :=
  let k := s.res.blk key
  let k := { k with reads := Nat.min (2 ^ 24 - 1) (k.reads + n) }
  let s := s.onRes fun r => r.setBlk key k
  if s.readLimit k ≤ k.reads then s.queueRefresh key else s

/-! ### The read path (R247 to R249, R279) -/

/-- The tracked level set after a hard decode in it that corrected `low` bits that read 0 where 1 was written and `high`
of the reverse (R249). -/
def BlockRec.track (k : BlockRec) (retryN low high : Nat) : BlockRec :=
  let lo := k.low + low
  let hi := k.high + high
  let n := lo + hi
  if n < 64 ∨ 4 * (Nat.max lo hi - Nat.min lo hi) ≤ n then { k with low := lo, high := hi }
  else
    let step : Int := if hi < lo then 1 else -1
    let f := k.fine + step
    if f = 15 ∨ f = -15 then
      let e := if f = 15 then (k.entry + 1) % Nat.max 1 retryN else (k.entry + Nat.max 1 retryN - 1) % Nat.max 1 retryN
      { k with fine := 0, entry := e, low := 0, high := 0 }
    else { k with fine := f, low := 0, high := 0 }

/-- A unit of a wheel could not be read: it is reconstructed, or the wheel is lost (R279, Table 9-2, R296). `lasts` says
that it stays an erasure. -/
def State.unitBad (s : State) (n col pos : Nat) (lasts : Bool) : State :=
  match s.whl.wheel n with
  | none => s
  | some w =>
    if w.state ≠ .closed ∧ w.state ≠ .degraded then s
    else
      let u := col * 16 + pos
      let cols := s.whl.erasedCols s.res n w
      let bad := (w.badUnits.filter fun v => v % 16 == pos && !cols.contains (v / 16) && v != u).length
      if cols.contains col then s
      else if cols.length + bad + 1 ≤ 2 then
        let s := (s.addReg Reg.RECON_UNITS 1).fault Src.WHEEL_PARITY .log
        if lasts then (s.onWhl fun x => x.upd n fun w =>
          { w with badUnits := if w.badUnits.contains u then w.badUnits else w.badUnits ++ [u] }).judgeWheel n
        else s
      else s.loseWheel n

/-- A codeword that R248 could not read: counted, reported, and reconstructed. -/
def State.cwBad (s : State) (n col pos : Nat) (lasts : Bool) : State :=
  ((s.addReg Reg.LDPC_UNREADABLE 1).fault Src.LDPC .log).unitBad n col pos lasts

/-- Codewords that soft decode read (R248). -/
def State.cwSoft (s : State) : Nat → State
  | 0 => s
  | k + 1 => ((s.addReg Reg.LDPC_SOFT 1).fault Src.LDPC .log).cwSoft k

/-- How the reads of one codeword went: the retry step whose hard decode succeeded, 0 for the tracked levels, none for
none; soft decode's result; the corrected bits of R249. A unit that decodes and fails its CRC is an unreadable one
(R143). Retries stop from an early warning on until the recovery (R248, R260). -/
def State.readCw (s : State) (n col pos : Nat) (erased : Bool) (hit : Option Nat) (soft crcBad : Bool) (low high : Nat) : State :=
  match (s.whl.bandOf n).bind fun b => b.1.spoke b.2 col with
  | none => s
  | some p =>
    let s := s.countReads p.key 1
    let k := s.res.blk p.key
    let steps := Nat.min (s.reg Reg.READ_RETRY_MAX) s.res.part.retryN
    let stop := s.spill.warned || decide (s.res.state = .quiet)
    let put := fun (s : State) (k : BlockRec) => s.onRes fun r => r.setBlk p.key k
    let decoded := fun (s : State) => if crcBad then s.unitBad n col pos true else s
    let left := fun (s : State) => if !stop ∧ s.reg Reg.SOFT_ENABLE = 1 ∧ soft then decoded (s.cwSoft 1) else s.cwBad n col pos (!stop)
    if erased then s
    else if hit = some 0 then decoded (put s (k.track s.res.part.retryN low high))
    else match (if stop then none else hit) with
      | some i =>
        if i ≤ steps then
          decoded (((put s { k with entry := (k.entry + i) % Nat.max 1 s.res.part.retryN, fine := 0, low := 0, high := 0 }).addReg
            Reg.LDPC_RETRIED 1).fault Src.LDPC .log)
        else left s
      | none => left s

end Sys2Proof.Machine
end

