-- ==== Sys2Proof/Machine/WhlOps.lean ====
section
/-! DEFINITION. Operations of the wheel engine: folds of lost wheels, truing, reshape, the reserve build, recovery (9). -/

namespace Sys2Proof.Machine

/-! ### Lost wheels (R296, R297) -/

/-- A segment that a lost wheel listed can be folded from DRAM now. -/
def State.foldable (s : State) (seg : Nat) : Bool :=
  decide (s.dev = .online) || (decide (s.dev = .restoring) && s.port.online.contains (s.extentOf (seg * 2 ^ 21)))

/-- Fold every segment with a valid unit in a lost wheel (R296). -/
def State.lostFolds (s : State) : State :=
  if s.whl.lost = [] ∨ s.rill.state ≠ .running ∨ s.rill.reformat.isSome ∨ s.basin.frozen then s
  else (s.whl.lost.flatMap (·.2)).eraseDups.foldl (fun s g =>
    if (s.sip.folds.any fun f => f.1 == g) || !s.foldable g then s else (s.issueFold g).getD s) s

/-! ### Truing (R292 to R295, Tables 9-8 and 9-9) -/

/-- The in-service channel of a list with the most erased blocks of a region, and its block. -/
def State.bestChannel (s : State) (l : List Nat) (rg : Region) : Option Spoke :=
  let n := fun c => sumOf ((s.res.luns.filter fun u => u / 64 == c && !s.whl.slowSet.contains (u / 4)).map fun u => s.res.usableOn u rg)
  let best := l.foldl (fun (acc : Option Nat) c => if n c = 0 then acc else match acc with
    | some a => if n a < n c then some c else acc
    | none => some c) none
  best.bind fun c => (bandLun s.res s.whl.slowSet c rg).bind fun u =>
    (s.res.pick u rg).map fun b => { port := u / 4, lun := u % 4, block := b }

/-- The block that takes a column's place: spare on its channel, else on the channel not used by the band with the most
erased spare, else an image-pool block, in that order (R294). Answers whether it is a pool block. -/
def State.spareFor (s : State) (b : Band) (c : Nat) : Option (Spoke × Bool) :=
  let ch := ((b.spoke b.next c).map (·.port / 16)).getD 0
  let used := ((List.range b.spokes.length).filter (· ≠ c)).flatMap fun k => (b.column k).map (·.port / 16)
  let free := (List.range 32).filter fun k => !used.contains k && k != ch
  match s.bestChannel [ch] .spare with
  | some p => some (p, false)
  | none => match s.bestChannel free .spare with
    | some p => some (p, false)
    | none => match s.bestChannel [ch] .pool with
      | some p => some (p, true)
      | none => (s.bestChannel free .pool).map fun p => (p, true)

/-- Rebuild one column of a band on a new block and switch reads to it (R294). -/
def State.trueOnto (s : State) (b : Band) (c reason : Nat) (n : Spoke) : State :=
  let old := b.column c
  let was := (old.getLast?.map fun p => s.res.blk p.key).getD {}
  let k := s.res.blk n.key
  let wt := if k.slc = b.slc then 0 else if b.slc then s.res.part.slcWeight else 1000
  let res := s.res.setBlk n.key { k with
    erases := k.erases + wt, slc := b.slc, region := was.region, band := some b.base, progDay := s.reg Reg.DAY_OF_SERVICE
    state := if b.next = 0 then .erased else if b.next = b.rows ∨ b.ended.isSome then .closed else .allocated }
  let res := old.foldl (fun r p =>
    let k := r.blk p.key
    if k.state = .retired ∨ k.state = .erased ∨ spokeDown r p then r.setBlk p.key { k with band := none }
    else r.setBlk p.key { k with state := .erasing, band := none }) res
  let b' : Band := { b with spokes := b.spokes.set c n, subst := b.subst.filter fun p => p.1 != c }
  let s := { s with res := res, whl := { s.whl with bands := mput b.base b' s.whl.bands } }
  let s := s.nvDurable (.band (b.substRecord c 0 reason n))
  let s := (List.range b.next).foldl (fun s r =>
    let n := b.base * 512 + r
    match s.whl.wheel n with
    | some w =>
      if (w.state = .closed ∨ w.state = .degraded) ∧ !(s.rill.validIn n).isEmpty then
        (s.onWhl fun x => { x.upd n (fun w => { w with
            erasures := w.erasures.filter (· ≠ c), badUnits := w.badUnits.filter fun u => u / 16 != c }) with
          pending := x.pending ++ [{ wheel := n, type := .trued, stream := w.stream }] }).judgeWheel n
      else s
    | none => s) s
  let s := old.foldl (fun s p => s.addReg (Reg.WHEEL_TARGET + p.port) 1) s
  s.count Reg.TRUE_DONE 3

/-- A band of the old geometry below the reshape boundary: truing does not rebuild it (R299). -/
def State.walked (s : State) (b : Band) : Bool :=
  decide (s.reg Reg.RESHAPE_FROM ≠ 0) && b.d == s.reg Reg.RESHAPE_FROM && decide (b.stream ≠ .v)
    && decide (b.base * 512 + b.rows ≤ s.reg Reg.RESHAPE_BOUNDARY)

/-- True one column; with no block for it truing waits (Table 9-12). -/
def State.trueColumn (s : State) (j : TrueJob) : State :=
  let old := (s.whl.band j.base).any s.walked
  let s := if old then s else s.endBand j.base
  let drop := fun (s : State) => s.onWhl fun x => { x with trueQ := x.trueQ.filter fun q => !(q.base == j.base && q.column == j.column) }
  match s.whl.band j.base with
  | none => drop s
  | some b => if old then drop s else match s.spareFor b j.column with
    | none => s.fault Src.WHEEL_PARITY .degraded
    | some (n, pool) =>
      let s := if pool then s.fault Src.WHEEL_PARITY .log else s
      let others := ((List.range b.spokes.length).filter (· ≠ j.column)).filterMap fun c => b.spoke 0 c
      let s := if b.stream = .v then s
        else others.foldl (fun s p => s.countReads p.key (b.next * s.res.part.planes)) s
      drop (s.trueOnto b j.column j.reason n)

/-- New parts join the spare region (Table 8-3): their targets are in service again, every block erased. -/
def State.joinParts (s : State) : State :=
  if s.res.newParts = [] then s
  else
    let ps := s.res.newParts.map (·.port)
    let s := s.onRes fun r => { r with
      newParts := [], retired := r.retired.filter fun p => !ps.contains p
      retiredLuns := r.retiredLuns.filter fun l => !ps.contains (l / 4), spareParts := r.spareParts ++ ps
      blocks := r.blocks.filter fun b => !ps.contains (b.1 / 16384) }
    let pop := ((s.recordedFlash).getD []).map fun t => (s.res.found.find? fun u => u.port == t.port && ps.contains t.port).getD t
    s.nvWrite (.flashPop pop)

/-- Truing ends with its queue empty. -/
def State.trueEnd (s : State) : State := if s.whl.trueQ = [] then s.joinParts.actEnd 2 else s

/-! ### Deep scrub (R253) -/

/-- Wheels the deep scrub has still to read. -/
def State.deepLeft (s : State) : List Nat :=
  (s.whl.table.filter fun p => (decide (p.2.state = .closed) || decide (p.2.state = .degraded)) && !s.whl.deepDone.contains p.1
    && !(s.whl.band p.2.band).any (·.erasing)).map (·.1)

/-- The deep scrub ends with every closed wheel read. -/
def State.deepEnd (s : State) : State :=
  if s.deepLeft = [] then (s.onWhl fun x => { x with deepDone := [] }).actEnd 4 else s

/-! ### Reshape (R299 to R303) -/

/-- Bands planned and not opened go back. -/
def State.dropPlans (s : State) (st : Stream) : State :=
  (s.whl.unopened st).foldl (fun s b => s.eraseBand b.base |>.onWhl fun x => { x with bands := mdel b.base x.bands }) s

/-- Streams L, F, G and C end their bands (R299). -/
def State.endStreams (s : State) : State :=
  [Stream.l, .f, .g, .c].foldl (fun s st =>
    let s := (s.whl.openWheels st).foldl (fun s n => (s.fillWheel n).closeWheel n) s
    let s := ((s.whl.pos st).lanes.map (·.2)).foldl (fun s b => s.endBand b) s
    s.dropPlans st) s

/-- Begin, or resume, the build of a reserve of the target geometry (R301). -/
def State.buildStart (s : State) : State :=
  let d := s.reg Reg.RESERVE_GEOM_TARGET
  if d = s.reg Reg.RESERVE_DATA_SPOKES then (s.setReg Reg.RESHAPE_STATE 0).actEnd 3
  else
    let s := s.setReg Reg.RESHAPE_STATE 2
    match s.whl.build with
    | some b =>
      if b.d = d then s
      else
        let n := b.sets * (lanesOf s.res .v (b.d + 2) * (b.d + 2))
        (s.onRes fun r => r.moveBlocks .reserve .pool n).onWhl fun x => { x with build := some { d := d, sets := 0 } }
    | none => (s.onWhl fun x => { x with build := some { d := d, sets := 0 } }).nvWrite (.reserveDesc 1 d 0 false)

/-- RESHAPE is granted (R299, R300). -/
def State.reshapeStart (s : State) : State :=
  let from' := s.reg Reg.POOL_DATA_SPOKES
  let goal := s.reg Reg.POOL_GEOM_TARGET
  if s.reg Reg.RESHAPE_FROM ≠ 0 then
    (s.setReg Reg.RESHAPE_BOUNDARY s.whl.reshapeSaved).setReg Reg.RESHAPE_STATE 1
  else if goal ≠ from' then
    let s := s.endStreams
    let s := (((s.setReg Reg.RESHAPE_FROM from').setReg Reg.POOL_DATA_SPOKES goal).setReg Reg.RESHAPE_BOUNDARY 0).setReg
      Reg.RESHAPE_STATE 1
    (s.onWhl fun x => { x with reshapeWalked := 0, reshapeSaved := 0 }).nvDurable (.reshape from' goal 0 false)
  else s.buildStart

/-- Bands of the old geometry. -/
def State.oldBands (s : State) : List Band :=
  (s.whl.bands.filter fun p => p.2.d == s.reg Reg.RESHAPE_FROM && decide (p.2.stream ≠ .v)).map (·.2)

/-- Old wheels that hold a valid unit that is not on its way. -/
def State.oldWheelsLeft (s : State) : List Nat :=
  let bs := s.oldBands.map (·.base)
  sortAsc ((s.whl.table.filter fun p => bs.contains p.2.band && !(s.rill.validIn p.1).isEmpty && !s.rill.relocs.any
    fun r => r.src.any fun q => q.2.wheel == p.1).map (·.1))

/-- A reshape record with a boundary (R299). -/
def State.reshapeRec (s : State) (boundary : Nat) (done : Bool) : State :=
  ((s.setReg Reg.RESHAPE_BOUNDARY boundary).onWhl fun x => { x with reshapeSaved := boundary }).nvDurable
    (.reshape (s.reg Reg.RESHAPE_FROM) (s.reg Reg.POOL_DATA_SPOKES) boundary done)

/-- Walk the next old wheel (R299): every 256 a record; at the end one beyond the last old band; DONE when none remains. A
wheel whose copy was voided is walked again. -/
def State.reshapeNext (s : State) : State :=
  let bs := s.oldBands
  let at_ := s.reg Reg.RESHAPE_BOUNDARY
  let closed := sortAsc ((s.whl.table.filter fun p => (bs.map (·.base)).contains p.2.band && decide (at_ ≤ p.1)
    && (decide (p.2.state = .closed) || decide (p.2.state = .degraded))).map (·.1))
  match closed with
  | n :: _ => match s.relocateWheel .reshape n with
    | none => s
    | some s =>
      let s := (s.setReg Reg.RESHAPE_BOUNDARY (n + 1)).onWhl fun x => { x with reshapeWalked := x.reshapeWalked + 1 }
      if s.whl.reshapeWalked % 256 = 0 then s.reshapeRec (n + 1) false else s
  | [] =>
    if bs = [] then ((s.reshapeRec at_ true).setReg Reg.RESHAPE_FROM 0).buildStart
    else match s.oldWheelsLeft with
      | n :: _ => s.setReg Reg.RESHAPE_BOUNDARY n
      | [] =>
        let top := maxOf (bs.map fun b => b.base * 512 + b.rows)
        (if s.whl.reshapeSaved < top then s.reshapeRec top false else s).eraseSpent

/-- Blocks of one reserve set of a geometry. -/
def State.setBlocks (s : State) (d : Nat) : Nat := lanesOf s.res .v (d + 2) * (d + 2)

/-- The reserve being built is laid out to RESERVE_TARGET (R301). -/
def State.buildFull (s : State) (b : ReserveBuild) : Bool :=
  decide (s.reg Reg.RESERVE_TARGET * MiB ≤ b.sets * setBytes s.res b.d)

/-- Erased pool blocks taken into the reserve, evenly from the LUNs, are erased again into SLC mode (R258, R301). -/
def Reservoir.takeReserve (r : Reservoir) (n : Nat) : Reservoir :=
  (List.range n).foldl (fun r i =>
    let l := r.luns
    let lun := l.getD (i % Nat.max 1 l.length) 0
    match r.pick lun .pool with
    | some b =>
      let k := r.blk (blockKey lun b)
      r.setBlk (blockKey lun b) { k with region := .reserve, state := .erasing, slc := true }
    | none => r) r

/-- No block of the reserve is still being erased. -/
def Reservoir.reserveReady (r : Reservoir) : Bool :=
  !(r.blocks.any fun p => decide (p.2.region = .reserve) && decide (p.2.state = .erasing))

/-- Release the sets of the geometry before a flip until `keep` are left: their blocks return to the pool (R301, R302). -/
def State.releaseSets (s : State) (keep : Nat) : State := match s.whl.oldSets with
  | none => s
  | some (d, n) =>
    let s := s.onRes fun r => r.moveBlocks .reserve .pool ((n - keep) * s.setBlocks d)
    s.onWhl fun x => { x with oldSets := if keep = 0 then none else some (d, keep) }

/-- Lay out another reserve set of the new geometry; with too few erased pool blocks the build waits (R301, Table
9-10). -/
def State.buildStep (s : State) (b : ReserveBuild) : State :=
  let n := s.setBlocks b.d
  if s.buildFull b ∨ s.res.usable .pool < n then s
  else
    let b : ReserveBuild := { b with sets := b.sets + 1 }
    let s := (s.onRes fun r => r.takeReserve n).onWhl fun x => { x with build := some b }
    let s := s.nvWrite (.reserveDesc 1 b.d b.sets false)
    if s.buildFull b then s.setReg Reg.RESHAPE_STATE 3 else s

/-- The flip: the new descriptor is active, and the old reserve's blocks are to return to the pool (R301, R303). -/
def State.flip (s : State) (b : ReserveBuild) : State :=
  let old := s.reg Reg.RESERVE_DATA_SPOKES
  let first := maxOf (s.whl.sets.map (·.1)) + 1
  let s := s.nvDurable (.reserveDesc 1 b.d b.sets true)
  let s := s.setReg Reg.RESERVE_DATA_SPOKES b.d
  let s := s.onWhl fun x => { x with
    build := none, oldSets := some (old, x.sets.length), sets := (List.range b.sets).map fun i => (first + i, false)
    flipOldD := some (x.flipOldD.getD old) }
  (s.onSpill fun x => { x with released := [] }).setReg Reg.RESHAPE_STATE 0

/-- The geometry targets ask for a reshape (R299, R301). -/
def State.reshapeDue (s : State) : Bool :=
  decide (s.reg Reg.RESHAPE_FROM ≠ 0) || decide (s.reg Reg.POOL_GEOM_TARGET ≠ s.reg Reg.POOL_DATA_SPOKES)
    || decide (s.reg Reg.RESERVE_GEOM_TARGET ≠ s.reg Reg.RESERVE_DATA_SPOKES)

/-! ### Requests of management firmware's own (R206, R292, R299, R440, R88) -/

/-- Ask for an activity once in this stay in ONLINE, while it is idle and its work is there. -/
def State.askOnce (s : State) (n : Nat) (due : Bool) : State :=
  if due && decide ((s.cmd.act n).state = .idle) && !s.cmd.asked.contains n then
    (s.onCmd fun x => { x with asked := x.asked ++ [n] }).actSchedule n
  else s

/-- The requests that stand. A refused one is made again at its next cause or in the next stay in ONLINE. -/
def State.schedule (s : State) : State :=
  if s.dev = .online then
    let s := if s.whl.trueQ = [] then s.joinParts else s
    let s := if s.cmd.reshape.state = .running then s else s.releaseSets 0
    if s.mgmt.state ≠ .running then s
    else
      let s := s.askOnce 2 (decide (s.whl.trueQ ≠ []))
      let s := s.askOnce 7 s.basin.spareCopy.isSome
      let g := (s.reg Reg.POOL_GEOM_TARGET, s.reg Reg.RESERVE_GEOM_TARGET)
      let s := if s.reshapeDue && decide ((s.cmd.act 3).state = .idle) && decide (s.whl.geomAsked ≠ some g) then
          (s.onWhl fun x => { x with geomAsked := some g }).actSchedule 3 else s
      if s.spill.rehearseAgain && !s.spill.warned then
        (s.onSpill fun x => { x with rehearseAgain := false }).actSchedule 5 else s
  else if s.dev = .preSpill then s
  else (s.onCmd fun x => { x with asked := [] }).onWhl fun x => { x with geomAsked := none }

end Sys2Proof.Machine
end

