-- ==== Sys2Proof/Machine/FaultOps.lean ====
section
/-! DEFINITION. The fault state's exits and the reaction to a FATAL report (12 R372 to R376), and what the return and
the loss of the input start in each device state (7 R215, 11 R347). -/

namespace Sys2Proof.Machine

/-- Levels of the ALIVE pin (Table 12-5). -/
inductive Alive where
  | low | high | toggling
deriving DecidableEq, Repr

/-- The ALIVE pin, by the first row of Table 12-5 that applies (R374). -/
def State.alive (s : State) : Alive :=
  if s.dev = .off then .low
  else if s.reg Reg.FC_IN_FAULT = 1 ∨ s.dev = .fault then .low
  else if s.dev = .aonOnly ∨ s.dev = .kickstand then .high
  else .toggling

/-- The exit itself (R375): counted, recorded, announced. `code` is 0 after the quiet period, 1 on FAULT_RESTART. -/
def State.leaveFault (s : State) (code : Nat) : State :=
  let src := match s.fc.stopSrc with
    | some n => n
    | none => 63
  let s := (s.setReg Reg.FC_IN_FAULT 0).count Reg.FC_RECOVERIES 2
  let s := s.onFc fun x => { x with
    state := .clear, stopSrc := none, restartWaits := false, quietWaits := false
    exits := (s.now :: x.exits).filter fun t => decide (s.now ≤ t + 86400000) }
  let s := (s.record .recovery 0x1FF [s.reg Reg.FC_RECOVERIES + at' src 32 + at' code 38]).2
  s.raise Ev.FAULT_RECOVERED

/-- Leave the fault state if the input lets it (R375, R376): in FAULT the device restarts into BRINGUP, by POWER_UP
with the rails down; with the input absent the exit waits. -/
def State.faultExit (s : State) (code : Nat) : State :=
  if s.dev ≠ .fault then s.leaveFault code
  else if !s.spill.present then
    s.onFc fun x => if code = 1 then { x with restartWaits := true } else { x with quietWaits := true }
  else
    let s := s.leaveFault code
    if s.seq.coreUp then s.coreRestart
    else if s.seq.state = .railsOff then s.powerUp
    else s.onSeq fun x => { x with stay := true }

/-- Exits of the fault state in the last 24 h (R376). -/
def State.recentExits (s : State) : Nat := (s.fc.exits.filter fun t => decide (s.now ≤ t + 86400000)).length

/-- Both chains' readings, mV. -/
def State.setInput (s : State) (a b : Nat) : State := s.onSpill fun x => { x with chainA := a, chainB := b }

/-- The governing reading stands at or above a threshold as R500 sets it. -/
def State.inputReaches (s : State) (id : Nat) : Bool := match s.inputMv with
  | some v => decide (stepUp (s.reg id) ≤ v)
  | none => false

/-- The input counts as present (R195): what it starts in each state (R194, R214, Table 7-3, R347, R375). -/
def State.inputPresent (s : State) : State :=
  if s.inputMv.isNone ∨ s.spill.present then s
  else match s.dev with
  | .vaulting => s.vaultPresent true
  | .kickstand =>
    let s := s.onSpill fun x => { x with present := true }
    if s.sip.hold.state = .holding then
      if s.seq.state = .holding then (s.onSip fun x => { x with fromHold := true }).restoreUp else s
    else s
  | .aonOnly =>
    let s := s.onSpill fun x => { x with present := true }
    if s.seq.state = .railsOff then
      if s.seq.retryWaits ∨ s.seq.sysResetWaits ∨ s.reg Reg.POWERUP_ATTEMPTS ≤ s.seq.attempts then s.setConv
      else s.powerUp
    else s.onSeq fun x => { x with stay := true }
  | .fault =>
    let s := (s.onSpill fun x => { x with present := true }).setConv
    if s.fc.restartWaits then s.faultExit 1 else if s.fc.quietWaits then s.faultExit 0 else s
  | _ => (s.onSpill fun x => { x with present := true }).setConv

/-- The input no longer counts as present, in a state in which no early warning is raised (R195). -/
def State.inputLost (s : State) : State := match s.dev with
  | .vaulting => s.vaultPresent false
  | _ => (s.onSpill fun x => { x with present := false }).setConv

/-- What the readings mean for presence: while both chains have failed the input is absent, and in a state that raises no
early warning it is absent below RECOVERY_THRESHOLD (R171, R195). -/
def State.judgeInput (s : State) : State :=
  if s.dev.warns then if s.inputMv.isNone then s.onSpill fun x => { x with present := false } else s
  else if s.inputReaches Reg.RECOVERY_THRESHOLD then s
  else s.inputLost

/-- Note both chains' readings. -/
def State.noteInput (s : State) (a b : Nat) : State := (s.setInput a b).judgeInput

/-- The reaction to a FATAL report, by device state (R372, R208, R213). -/
def State.fatalReaction (s : State) : State :=
  if !s.fc.fatalPend then s
  else
    let s := s.onFc fun x => { x with fatalPend := false }
    match s.dev with
    | .vaulting => s.voidHold
    | .sealed => (s.setDev .fault).setConv
    | .restoring | .online | .preSpill | .maintenance | .bringup | .kickstand => s.commit 4
    | .off | .aonOnly | .fault => s

end Sys2Proof.Machine
end

