-- ==== Sys2Proof/Machine/MgmtOps.lean ====
section
/-! DEFINITION. Management firmware: restarts, the boot ROM, firmware slots, activation, the PLDM update agent, BIST
(16). -/

namespace Sys2Proof.Machine

/-! ### Restarts (R467, R468) -/

/-- The record of the last FATAL report, written if the recorder does not hold it (R371). -/
def State.lastFatal (s : State) : State :=
  let w := s.reg Reg.FC_LAST_FATAL
  let seq := field w 47 10
  let is := fun (r : Rec) => decide (r.type = .fault) && r.seq % 2 ^ 38 == seq
  if !bit w 9 ∨ s.nv.state ≠ .running ∨ (s.rec_.queue.any is) ∨ (s.rec_.circ.any fun p => is p.2)
      ∨ (s.rec_.pinned.any is) then s
  else s.onRec fun x => { x with queue := x.queue ++
    [{ type := .fault, seq := seq, event := 0x1FF, state := s.dev.code, payload := [field w 5 0 + at' (field w 8 6) 6] }] }

/-- What a restart ends: stages are lost, mailbox commands in progress run on with their replies discarded (R45, R413,
R468); the PLDM update agent starts afresh. -/
def State.restartEnds (s : State) : State :=
  let s := s.onCmd fun x => { x with
    stages := []
    owed := x.owed.map fun q => if q.origin.transport < 2 then { q with discard := true } else q }
  s.onMgmt fun m => { m with pldm := .idle, pldmPrev := .idle, pldmAt := 0, pldmSize := 0 }

/-- A restart of the management core that no activation asked for: a second one within 10 s is FATAL in its place
(R467, R488). -/
def State.mgmtRestart (s : State) : State :=
  if s.mgmt.state = .off then s
  else if s.mgmt.lastRestart ≠ 0 ∧ s.now < s.mgmt.lastRestart - 1 + 10000 then s.fault Src.MGMT_CPU .fatal
  else
    let s := (s.addReg Reg.MGMT_RESTARTS 1).restartEnds
    let s := s.onMgmt fun m => { m with
      lastRestart := s.now + 1
      state := if m.state = .bootRom then .bootRom else .restarting
      started := if m.state = .bootRom then false else m.started }
    s.fault Src.MGMT_CPU .contained

/-! ### Firmware slots (R482) -/

/-- Bytes of a firmware slot. -/
abbrev slotBytes : Nat := 12 * MiB

/-- Put a byte of an image. -/
def imgPut (img : List (Nat × Nat)) (i b : Nat) : List (Nat × Nat) :=
  if b % 256 = 0 then mdel i img else mput i (b % 256) img

/-- Put bytes of an image from an offset on. -/
def imgPuts (img : List (Nat × Nat)) : Nat → List Nat → List (Nat × Nat)
  | _, [] => img
  | i, b :: l => imgPuts (imgPut img i b) (i + 1) l

/-- Change the image of a slot. -/
def Mgmt.onSlot (m : Mgmt) (n : Nat) (f : List (Nat × Nat) → List (Nat × Nat)) : Mgmt :=
  if n = 0 then { m with slotA := f m.slotA } else { m with slotB := f m.slotB }

/-- Fields of a slot's header (Table 16-5). -/
def Mgmt.svn (m : Mgmt) (n : Nat) : Nat := fwField (m.slot n) 10 2

/-- The check of a slot (R482): 0 passed, 2 failed, 3 SVN refused, as FW_LAST_RESULT. `genuine` says that digest and
signature verify. -/
def State.slotCheck (s : State) (n : Nat) (genuine : Bool) : Nat :=
  let img := s.mgmt.slot n
  if fwField img 0 4 ≠ 0x5746584E ∨ slotBytes < 256 + fwField img 12 4 ∨ !genuine ∨ 0xB0 < fwField img 16 1 then 2
  else if s.mgmt.svn n < s.reg Reg.FW_SVN_MIN then 3 else 0

/-- The slot FW_BOOT names, and TRIAL; slot A before one (R478). -/
def State.fwBoot (s : State) : Nat × Bool :=
  (s.nvGet fun d => match d with | .fwBoot n t => some (n, t) | _ => none).getD (0, false)

/-- Start a slot's image: it runs on to RUNNING. -/
def State.startSlot (s : State) (n : Nat) : State :=
  s.onMgmt fun m => { m with active := n, started := true, recovery := false }

/-- The boot ROM's choice (R478, R484): the slot FW_BOOT names, or with TRIAL set the other; a start from the fallback
slot is reported; with neither slot in order, recovery mode. -/
def State.bootRom (s : State) (okA okB : Bool) : State :=
  let (named, trial) := s.fwBoot
  let first := if trial then 1 - named else named
  let ok := fun n => s.slotCheck n (if n = 0 then okA else okB) == 0
  let s := if trial then (s.nvDurable (.fwBoot first false)).setReg Reg.FW_LAST_RESULT 4 else s
  if ok first then s.startSlot first
  else if ok (1 - first) then (s.startSlot (1 - first)).setReg Reg.FW_LAST_RESULT 4
  else (s.onMgmt fun m => { m with recovery := true }).fault Src.MGMT_CPU .degraded

/-! ### Activation (R484) -/

/-- Ask for the activation of the inactive slot: a refusal reads 5. -/
def State.activate (s : State) (o : Owed) (pldm : Bool) : Done :=
  let d := s.actRequest 6 o
  if d.status ≠ St.SUCCESS then
    { d with s := if (s.cmd.act 6).state = .idle then d.s.setReg Reg.FW_LAST_RESULT 5 else d.s }
  else { d with s := d.s.onMgmt fun m => { m with activation := some { slot := 1 - m.active, pldm := pldm } } }

/-- The activation begins (R484 steps 2 and 3): FW_BOOT with TRIAL, the restart into the new image. -/
def State.activationStart (s : State) : State := match s.mgmt.activation with
  | none => s.actEnd 6
  | some a =>
    let s := if a.pldm then s.emit (.pldm 0x1A 0 [0]) else s
    let s := (s.nvDurable (.fwBoot a.slot true)).addReg Reg.MGMT_RESTARTS 1
    s.restartEnds.onMgmt fun m => { m with state := .restarting, activation := some { a with started := true } }

/-- The new image has not reached RUNNING (R484): the old slot is started. -/
def State.activationFailed (s : State) : State := match s.mgmt.activation with
  | some a =>
    if a.started then
      let s := (s.nvDurable (.fwBoot s.mgmt.active false)).setReg Reg.FW_LAST_RESULT 4
      (s.onMgmt fun m => { m with activation := none }).actEnd 6
    else s
  | none => s

/-- The firmware reaches RUNNING (R371, R467, R484 step 4): `genuine` says that the image started is. -/
def State.mgmtRuns (s : State) (genuine : Bool) : State :=
  let up := fun (s : State) => (s.onMgmt fun m => { m with state := .running }).lastFatal
  match s.mgmt.state with
  | .bootRom => if s.mgmt.started then up s else s
  | .restarting => match s.mgmt.activation with
    | some a =>
      if !a.started then up s
      else if s.slotCheck a.slot genuine ≠ 0 then s
      else
        let s := s.onMgmt fun m => { m with active := a.slot, activation := none }
        let s := (up s).nvWrite (.fwBoot a.slot false)
        let s := (s.maxReg Reg.FW_SVN_MIN (s.mgmt.svn a.slot)).setReg Reg.FW_LAST_RESULT 1
        s.actEnd 6
    | none => up s
  | .off | .running => s

/-- An activation whose request has ended without a grant is over: FW_LAST_RESULT 5; PLDM's request returns ERROR
(R484). -/
def State.activationRefused (s : State) : State := match s.mgmt.activation with
  | some a =>
    if a.started ∨ (s.cmd.act 6).state ≠ .idle then s
    else
      let s := (s.setReg Reg.FW_LAST_RESULT 5).onMgmt fun m => { m with activation := none }
      if a.pldm then s.emit (.pldm 0x1A 1 []) else s
  | none => s

/-! ### PLDM for Firmware Update (R483; DSP0267's codes are PRESUMED, log entry 29) -/

/-- States of the update agent by their DSP0267 code. -/
def PldmState.code : PldmState → Nat
  | .idle => 0 | .learn => 1 | .ready => 2 | .download => 3 | .verify => 4 | .apply => 5 | .activate => 6

/-- PLDM is served on MCTP over PCIe VDM, 2, and over I3C, 3: by firmware, or in recovery mode (R478, R483). -/
def State.pldmUp (s : State) (transport : Nat) : Bool :=
  s.seq.coreUp && (decide (s.mgmt.state = .running) || s.mgmt.recovery)
    && (transport == 3 || (transport == 2 && s.port.up))

/-- A PLDM request: not reached, or answered. -/
def State.pldmReq (s : State) (transport : Nat) (body : State → State) : State :=
  if s.pldmUp transport then body s else s

/-- Answer a PLDM request. -/
def State.pldmRsp (s : State) (cmd cc : Nat) (fields : List Nat := []) : State := s.emit (.pldm cmd cc fields)

/-- Put the update agent into a state. -/
def State.pldmTo (s : State) (st : PldmState) : State := s.onMgmt fun m => { m with pldm := st, pldmPrev := m.pldm }

/-- Ask the update agent for the next bytes, or say that the transfer is complete. -/
def State.pldmNext (s : State) : State :=
  let m := s.mgmt
  if m.pldmAt < m.pldmSize then
    s.emit (.pldm 0x15 0 [m.pldmAt, Nat.min (Nat.max 32 m.pldmMax) (m.pldmSize - m.pldmAt)])
  else s.emit (.pldm 0x16 0 [0])

/-- An update by PLDM is in hand: slots take no other bytes (R483). -/
def State.pldmBusy (s : State) : Bool := decide (s.mgmt.pldm ≠ .idle)

/-! ### BIST (R485 to R487) -/

/-- Partitions that run on line (Table 16-7a). -/
def bistOnline (n : Nat) : Bool := decide (11 ≤ n ∧ n ≤ 15)

/-- A partition's run has ended with a signature (R485). -/
def State.bistResult (s : State) (n sig : Nat) : State :=
  let s := s.setReg (Reg.BIST_SIG + n) (sig % 2 ^ 48)
  if sig % 2 ^ 48 = Config.goldenSignature n % 2 ^ 48 then
    (s.setReg Reg.BIST_PASS (setBit (s.reg Reg.BIST_PASS) n)).setReg Reg.BIST_FAIL_MASK
      (clearBits (s.reg Reg.BIST_FAIL_MASK) (2 ^ n))
  else
    ((s.setReg Reg.BIST_PASS (clearBits (s.reg Reg.BIST_PASS) (2 ^ n))).setReg Reg.BIST_FAIL_MASK
      (setBit (s.reg Reg.BIST_FAIL_MASK) n)).fault Src.BIST_CTL .degraded

/-- The off-line run ends (R487 step 4): the core domain restarts; the results stay readable. -/
def State.bistRestart (s : State) : State :=
  let keep := s.regs.filter fun p => p.1 == Reg.BIST_PASS || decide (Reg.BIST_SIG ≤ p.1 ∧ p.1 < Reg.BIST_SIG + 16)
  keep.foldl (fun s p => s.setReg p.1 p.2) ((s.onMgmt fun m => { m with bistOff := false }).coreRestart)

/-- An on-line run whose activity has ended is over. -/
def State.bistOver (s : State) : State :=
  if s.reg Reg.BIST_STATE ≤ 1 ∧ s.mgmt.bistLeft ≠ [] ∧ !s.mgmt.bistOff ∧ (s.cmd.act 8).state = .idle then
    (s.setReg Reg.BIST_STATE 0).onMgmt fun m => { m with bistLeft := [] }
  else s

end Sys2Proof.Machine
end

