-- ==== Sys2Proof/Machine/Finish.lean ====
section
/-! DEFINITION. What follows every command within the same step: the converter's level in its new mode (R359), a FATAL
report's reaction, activities that begin, the Weir's comparison, the protection status, the arbiter's overdraw (R109,
R22, R372, R436 to R438). -/

namespace Sys2Proof.Machine

/-- The work of an activity that has just begun to run. -/
def State.startWork (s : State) (n : Nat) : State :=
  let s := s.setAct n fun a => { a with fresh := false }
  if n = 1 then match s.cmd.learnPort with
    | some i =>
      if s.learnReady i s.cmd.learnAck then s.learnStart i s.cmd.learnAck
      else
        let s := (s.setReg (Reg.LEARN_RESULT_A + portIx i) 4).fault (cistSrc i) .log
        (s.actEnd 1).onCmd fun c => { c with learnPort := none, learnAck := false }
    | none => s.actEnd 1
  else if n = 5 then s.rehearseStart
  else if n = 2 then s.trueEnd
  else if n = 3 then s.reshapeStart
  else if n = 4 then (s.onWhl fun x => { x with deepDone := [] }).deepEnd
  else if n = 6 then s.activationStart
  else if n = 8 then (if s.mgmt.bistLeft = [] then s.actEnd 8 else s.setReg Reg.BIST_STATE 1)
  else if n = 7 then match s.basin.spareCopy with
    | some r => s.raise (Ev.DIMM_CH_0 + rankChannel r)
    | none => s.actEnd 7
  else s

/-- Start the work of every activity that has just begun to run. -/
def State.startFresh (s : State) : State :=
  (List.range 8).foldl (fun s i => if (s.cmd.act (i + 1)).fresh then s.startWork (i + 1) else s) s

/-- A ceiling of 0 outside an acknowledged interval (R123): a fault, once. -/
def State.zeroCeiling (s : State) : State :=
  if s.weir.state ≠ .planning then s
  else if s.reg Reg.CEILING ≠ 0 then
    if s.weir.zeroReported then s.onWeir fun w => { w with zeroReported := false } else s
  else if s.weir.zeroReported ∨ s.cist.a.ackLearn ∨ s.cist.b.ackLearn then s
  else (s.onWeir fun w => { w with zeroReported := true }).fault Src.WEIR .degraded

/-- A sequence that waits for the one before it (R347). -/
def State.startWaiting (s : State) : State :=
  if s.seq.stay ∧ s.seq.active = .none ∧ s.seq.state = .railsOff ∧ s.seq.aonUp then s.powerUp else s

/-- Everything that follows a command in its step. -/
def State.fin (s : State) : State :=
  let s := (if s.seq.aonUp then s.convJudge else s).fatalReaction.schedule.startFresh.activationRefused
    |>.bistOver.lostFolds.compare.zeroCeiling.rillGates.policySync
  let s := if s.dev = .online then s.overdraw.regrant else s
  s.startWaiting.notePoison.protection

/-- The answer of a command whose effect on the machine is `s`. -/
def after (s : State) : Host.Outcome State Fault Refusal := .next s.fin

end Sys2Proof.Machine
end

