-- ==== Sys2Proof/Machine/Basin.lean ====
section
/-! DEFINITION. The meanings of the Basin's commands (3). -/

namespace Sys2Proof.Machine

/-- PATROL_SCRUB_STEP (R85 to R88). -/
def execPatrolScrubStep (f : ScrubFind) (s : State) : Host.Outcome State Fault Refusal :=
  let s := s.begin
  after (if s.dev.serving ∧ s.basin.state = .serving then (s.scrubFound f).scrubNext else s)

/-- SOFT_PPR_COMPLETE (R88). -/
def execSoftPprComplete (row : Nat) (left : Bool) (s : State) : Host.Outcome State Fault Refusal :=
  after (s.begin.softDone row left)

/-- CLEAN_LINE_REPAIR (R86): the line is read from the flash image, which a clean page equals, and written back. -/
def execCleanLineRepair (line : Nat) (s : State) : Host.Outcome State Fault Refusal :=
  let s := s.begin
  after (if s.basin.repair.contains line then
      (s.onBasin fun b => { b with repair := b.repair.filter (· ≠ line) }).fault
        (Src.BASIN_CH0 + (s.basin.map (64 * line)).1) .corrected
    else s)

/-- DIMM_SPARE_COMPLETE (R89). -/
def execDimmSpareComplete (s : State) : Host.Outcome State Fault Refusal :=
  let s := s.begin
  after (match s.basin.spareCopy with
    | some r =>
      if s.cmd.dimmSpare.state = .running then
        (((s.raise (Ev.DIMM_CH_0 + rankChannel r)).onBasin fun b => { b with
          spareCopy := b.spareQ.head?, spareQ := b.spareQ.tail, spared := b.spared ++ [r]
          rankErrs := b.rankErrs.filter fun p => p.1 != r }).onCmd fun x => { x with asked := x.asked.filter (· ≠ 7) }).actEnd 7
      else s
    | none => s)

/-- DRAM_COMMAND_TIMEOUT (R103, Table 3-10): the module's dirty lines are poison. -/
def execDramCommandTimeout (channel slot : Nat) (s : State) : Host.Outcome State Fault Refusal :=
  let s := s.begin
  after (if channel < 8 ∧ s.basin.state = .serving then
      (s.loseModule channel slot).fault (Src.BASIN_CH0 + channel) .fatal
    else s)

/-- HEAT_DECAY_PERIOD_EXPIRY (R95). -/
def execHeatDecayPeriodExpiry (s : State) : Host.Outcome State Fault Refusal :=
  let s := s.begin
  after (if s.basin.state = .serving then s.onBasin fun b => b.decay (s.reg Reg.HEAT_QUANTUM) else s)

/-- AGE_TICK_EXPIRY (R95). -/
def execAgeTickExpiry (s : State) : Host.Outcome State Fault Refusal :=
  let s := s.begin
  after (if s.basin.state = .serving then s.onBasin fun b => { b with
      dst := b.dst.map fun p => (p.1, { p.2 with age := Nat.min 511 (p.2.age + 1) }) }
    else s)

/-- DST_DIAG_INDEX_WRITE (R104, Table 3-12). -/
def execDstDiagIndexWrite (v : Nat) (s : State) : Host.Outcome State Fault Refusal :=
  after (if v < 2 ^ 18 then s.begin.softWrite Reg.DST_DIAG_INDEX v else s.begin)

/-- DRAM_TRAINING_COMPLETE (R79, R80, R101, R102): once the early mount has shown what is recorded. -/
def execDramTrainingComplete (dimms : List Dimm) (failed : List (Nat × Nat)) (s : State) :
    Host.Outcome State Fault Refusal :=
  let s := s.begin
  after (if s.basin.state = .training ∧ s.nv.early then s.trained dimms failed else s)

end Sys2Proof.Machine
end

