-- ==== Sys2Proof/Machine/Cistern.lean ====
section
/-! DEFINITION. The meanings of the Cistern's commands (10). -/

namespace Sys2Proof.Machine

/-- CISTERN_SAMPLE (R315 to R337): one port's sample; the estimate it posts is taken where one is awaited (R335), and
judged for a hold (R214). -/
def execCisternSample (x : PortId) (v temp : Int) (moved differs : Bool) (dup : Nat × Nat) (s : State) :
    Host.Outcome State Fault Refusal :=
  after ((s.begin.sample x v temp moved (told differs dup)).posted x (s.cist.port x))

/-- IWAKE_TRIP (R316, R317): the estimator wakes and the port is in a discharge. -/
def execIwakeTrip (x : PortId) (s : State) : Host.Outcome State Fault Refusal :=
  let s := s.begin
  after (if !s.seq.aonUp ∨ !s.cist.loaded then s
    else ((s.onCPort x fun p => { p with iwake := true }).onCist fun c => { c with hibernating := false }).portMove x)

/-- HIBERNATE_DELAY_EXPIRY (R317): with no port in a discharge or charging, the estimator hibernates. -/
def execHibernateDelayExpiry (s : State) : Host.Outcome State Fault Refusal :=
  let s := s.begin
  let busy := [PortId.a, .b].any fun i =>
    let p := s.cist.port i
    p.discharge || s.pulling i || decide (p.state = .charging) || decide (p.learn = .chargeFull)
      || decide (p.learn = .recharge)
  after (if s.seq.aonUp && !busy then s.onCist fun c => { c with hibernating := true } else s)

/-- DISCHARGE_END (R316): a second has passed with no discharge condition; the port charges again or is READY. -/
def execDischargeEnd (x : PortId) (s : State) : Host.Outcome State Fault Refusal :=
  let s := s.begin
  let p := s.cist.port x
  after (if !p.discharge ∨ p.learnLoad ∨ s.drawsFrom x then s
    else
      let s := s.onCPort x fun p => { p with discharge := false, iwake := false }
      if p.state = .discharging then
        (s.onCPort x fun p => { p with state := if s.needsCharge x then .charging else .ready }).setConv
      else s)

/-- RELAX_TIME_EXPIRY (R316, R325): the port is relaxed and CONFLICT clears; a recommended relearn is asked for then
(R326; DEDUCED, log entry 33). -/
def execRelaxTimeExpiry (x : PortId) (s : State) : Host.Outcome State Fault Refusal :=
  let s := s.begin
  let p := s.cist.port x
  after (if p.discharge ∨ s.pulling x ∨ p.state = .charging ∨ p.learn = .chargeFull ∨ p.learn = .recharge then s
    else
      let s := s.onCPort x fun p => { p with relaxed := true, conflict := false }
      if p.relearnRec then s.learnOwn x else s)

/-- CHARGE_TERMINATION (R321, R327, Table 10-9): charge ended at V_FULL. -/
def execChargeTermination (x : PortId) (s : State) : Host.Outcome State Fault Refusal :=
  let s := s.begin
  let p := s.cist.port x
  let charging := decide (p.state = .charging) || decide (p.learn = .chargeFull) || decide (p.learn = .recharge)
  after (if !charging ∨ s.seq.mode ≠ .charge then s
    else
      let s := s.onSeq fun q => { q with chgDone := if q.chgDone.contains x then q.chgDone else q.chgDone ++ [x] }
      let s := s.onCPort x fun p => { p with
        sm := match p.table with
          | some m => if m.flat then 1 else p.sm
          | none => p.sm
        state := if p.state = .charging then .ready else p.state, newcomer := false
        learn := if p.learn = .chargeFull then .restFull
          else if p.learn = .recharge then (if p.learnCut then .none else .restCheck) else p.learn }
      let s := if p.learn = .recharge ∧ p.learnCut then (s.onCPort x fun p => { p with state := .ready }).learnDone x
        else s
      s.setConv)

/-- MODULE_ID_READ (R312, R313, R332): the ID read completes; `id` is the record when MAGIC and CRC are correct. -/
def execModuleIdRead (x : PortId) (id : Option ModId) (s : State) : Host.Outcome State Fault Refusal :=
  after ((s.begin.onCist fun c => { c with hibernating := false }).idRead x id)

/-- CURRENT_LIMIT (R333): the converter reports current limit on a port, or its end. -/
def execCurrentLimit (x : PortId) (on : Bool) (s : State) : Host.Outcome State Fault Refusal :=
  let s := s.begin
  after (if s.seq.aonUp then s.onCPort x fun p => { p with currentLimit := on } else s)

/-- SHORT_TIME_EXPIRY (R333, Table 10-8): current limit with the voltage below half V_EMPTY for SHORT_TIME. -/
def execShortTimeExpiry (x : PortId) (s : State) : Host.Outcome State Fault Refusal :=
  let s := s.begin
  let p := s.cist.port x
  let low := match p.table with
    | some m => decide (p.v < m.vEmpty)
    | none => false
  after (if s.seq.aonUp && p.currentLimit && low && p.enabled then
      (s.portFault x .latchedOff none).posted x p
    else s)

/-- CISTERN_TABLE_LOAD (R310, R313, R330, Table 10-11): tables and learned records come from the NV Store; `torn` names the ports
whose newest learned record is torn, so that the one before it governs. -/
def execCisternTableLoad (torn : List PortId) (s : State) : Host.Outcome State Fault Refusal :=
  let s := s.begin
  after (if s.cist.loaded ∨ s.dev ≠ .bringup ∨ !s.seq.coreUp then s
    else
      let recs := fun (i : PortId) => s.nv.visible.filterMap fun r => match r.data with
        | .learned l => if l.port = i then some l else none
        | _ => none
      let pick := fun (i : PortId) => if torn.contains i then (recs i).reverse[1]? else (recs i).getLast?
      let load := fun (i : PortId) (p : CPort) => { p with
        learned := pick i, savedRes := ((pick i).map (·.resFactor)).getD 1
        learnCount := ((pick i).map (·.learnCount)).getD 0 }
      let s := s.onCist fun c => { c with loaded := true, a := load .a c.a, b := load .b c.b }
      let s := torn.eraseDups.foldl (fun s i => s.fault (cistSrc i) .corrected) s
      -- Before the load RELEARN_REC stands for a write-back lost with AON power alone (R330).
      [PortId.a, .b].foldl (fun s i => if (s.cist.port i).relearnRec then s.fault (cistSrc i) .log else s) s)

/-- LEARN_PERIOD_EXPIRY (R326): management firmware asks for a learn, unless LEARN_PERIOD is 0. -/
def execLearnPeriodExpiry (x : PortId) (s : State) : Host.Outcome State Fault Refusal :=
  let s := s.begin
  after (if s.reg Reg.LEARN_PERIOD = 0 then s else s.learnOwn x)

/-- The port a command's slot names: 0 A, 1 B (DEDUCED, log entry 32). -/
def portOfSlot : List Nat → Option PortId
  | [0] => some .a
  | [1] => some .b
  | _ => none

/-- LEARN_START (R326, R439): asks for a learn of a port; ACK_UNPROTECTED is bit 1 of FLAGS. -/
def runLearnStart (p : Pkt) (s : State) : State :=
  s.vendor specLearnStart p fun o s => match portOfSlot p.slots with
    | some i => s.learnRequest i (bit p.flags 1) o
    | none => { s := s, status := St.INVALID_FIELD }

/-- LEARN_START. -/
def execLearnStart (p : Pkt) (s : State) : Host.Outcome State Fault Refusal := after (runLearnStart p s.begin)

/-- LEARN_REST_EXPIRY (R327): the rest before the discharge, after it, or before the final check has ended. -/
def execLearnRestExpiry (x : PortId) (s : State) : Host.Outcome State Fault Refusal :=
  let s := s.begin
  let p := s.cist.port x
  let on := fun (s : State) => s.onSeq fun q => { q with chgDone := q.chgDone.filter fun j => j != x }
  after (match p.learn with
    | .restFull =>
      if p.state ≠ .learning then s
      else on (s.onCPort x fun p => { p with
        s0 := p.sv, learnLoad := true, discharge := true, conflictSeen := false, relaxed := false
        vBefore := some (volts p.v), q := 0, e := 0, learn := .discharge })
    | .restEnd => ((s.learnJudge x).onCPort x fun p => { p with learn := .recharge, discharge := false }).setConv
    | .restCheck => on (s.onCPort x fun p => { p with
        learnLoad := true, discharge := true, vBefore := some (volts p.v), learn := .pulse })
    | _ => s)

/-- RES_CHECK_PERIOD_EXPIRY (R329): a READY, relaxed port that is not EMPTY starts its pulse. -/
def execResCheckPeriodExpiry (x : PortId) (s : State) : Host.Outcome State Fault Refusal :=
  let s := s.begin
  let p := s.cist.port x
  after (if p.state = .ready ∧ p.relaxed ∧ !p.empty ∧ p.learn = .none ∧ p.check = .none then
      s.onCPort x fun p => { p with
        learnLoad := true, discharge := true, conflictSeen := false, relaxed := false
        vBefore := some (volts p.v), check := .pulse }
    else s)

/-- RES_CHECK_PULSE_END (R329): the load goes off; RES_FACTOR moves a quarter of the way to what was measured. -/
def execResCheckPulseEnd (x : PortId) (s : State) : Host.Outcome State Fault Refusal :=
  let s := s.begin
  let p := s.cist.port x
  after (match p.table with
    | some m =>
      if (p.check = .pulse ∨ p.learn = .pulse) ∧ p.learnLoad then
        let now := match p.learned with
          | some l => l.resFactor
          | none => p.checkRes
        let seen := p.rStep / atState (resAxis m p.temp (m.rate.headD 0 : Nat)) p.sv
        let s := if p.vBefore.isNone then s.setResFactor x (max 1 (now + (seen - now) / 4)) else s
        s.onCPort x fun p => { p with
          learnLoad := false, vBefore := none
          check := if p.check = .pulse then .rebound else p.check
          learn := if p.learn = .pulse then .rebound else p.learn }
      else s
    | none => s)

/-- RES_CHECK_REBOUND_END (R329, R332): τ, in 0.1 s, is stored after an accepted learn and compared otherwise. -/
def execResCheckReboundEnd (x : PortId) (tau : Nat) (s : State) : Host.Outcome State Fault Refusal :=
  let s := s.begin
  let p := s.cist.port x
  let differs := match p.learned with
    | some l => decide (0 < l.tauRelax) &&
      decide (s.reg Reg.RELAX_SIG_TOL * l.tauRelax < 100 * (l.tauRelax - tau + (tau - l.tauRelax)))
    | none => false
  let suspect := fun (s : State) => if differs then
      ((s.onCPort x fun p => { p with swapSuspect := true }).fault (cistSrc x) .log).raise Ev.SWAP_SUSPECT
    else s
  after (if p.check = .rebound then suspect (s.onCPort x fun p => { p with check := .none })
    else if p.learn = .rebound then
      let s := if p.learnOk then s.onCPort x fun p => match p.learned with
          | some l => { p with learned := some { l with tauRelax := tau }, pendingRec := some { l with tauRelax := tau } }
          | none => p
        else suspect s
      ((s.onCPort x fun p => { p with state := .ready }).learnDone x).writePending x
    else s)

/-- LEARNED_RECORD_RETRY (R330): the pending record is appended if the input is healthy and quiet. -/
def execLearnedRecordRetry (x : PortId) (s : State) : Host.Outcome State Fault Refusal := after (s.begin.writePending x)

/-- States that accept PACK_REPLACED and PORT_CLEAR (Table 14-4). -/
def packStates (s : State) : Bool :=
  decide (s.dev = .aonOnly) || decide (s.dev = .bringup) || classO s || decide (s.dev = .sealed) || decide (s.dev = .fault)

/-- PACK_REPLACED (Table 14-4). -/
def specPackReplaced : VSpec :=
  { op := 0xC210, transports := [0, 1, 2, 3], aon := true, ok := packStates, persist := fun _ _ => true, count := (· == 1) }

/-- PACK_REPLACED (R332): the record is set aside, SWAP_SUSPECT clears, and a learn is asked for. -/
def runPackReplaced (p : Pkt) (s : State) : State :=
  s.vendor specPackReplaced p fun _ s => match portOfSlot p.slots with
    | some i =>
      let s := s.onCPort i fun p => { p.setAside with swapSuspect := false }
      { s := s.learnOwn i }
    | none => { s := s, status := St.INVALID_FIELD }

/-- PACK_REPLACED. -/
def execPackReplaced (p : Pkt) (s : State) : Host.Outcome State Fault Refusal := after (runPackReplaced p s.begin)

/-- PORT_CLEAR (Table 14-4). -/
def specPortClear : VSpec :=
  { op := 0xC212, transports := [0, 1, 2, 3], aon := true, ok := packStates, count := (· == 1) }

/-- PORT_CLEAR (Table 10-8): a LATCHED_OFF port goes to IDENTIFYING; no other port is in a state to clear. -/
def runPortClear (p : Pkt) (s : State) : State :=
  s.vendor specPortClear p fun _ s => match portOfSlot p.slots with
    | some i => if (s.cist.port i).state = .latchedOff then { s := s.portClear i } else { s := s, status := St.INVALID_STATE }
    | none => { s := s, status := St.INVALID_FIELD }

/-- PORT_CLEAR. -/
def execPortClear (p : Pkt) (s : State) : Host.Outcome State Fault Refusal := after (runPortClear p s.begin)

end Sys2Proof.Machine
end

