-- ==== Sys2Proof/Machine/Cmds.lean ====
section
/-! DEFINITION. The meanings of the identity, parameter, journal and maintenance commands, of PF1's direct registers and
of register writes (14). -/

namespace Sys2Proof.Machine

/-! ### Identity and status (R427) -/

/-- Parameters the AON domain holds (R505, Table 16-9). -/
def aonHeld (id : Nat) : Bool :=
  decide (id ≤ 0x0002) || id == 0x0010 || id == 0x0013 || id == 0x0F09 || id == 0x1315 || id == 0x1317
    || decide (0x2000 ≤ id ∧ id ≤ 0x2056) || decide (0x2100 ≤ id ∧ id ≤ 0x26FF) || id == 0x2706 || id == 0x2707
    || id == 0x2A00

/-- What the AON domain reads of a parameter it holds: REC_SEQ from its AON copy (Table 16-9). -/
def State.aonRead (s : State) (id : Nat) : Nat := if id = Reg.REC_SEQ then s.rec_.aonSeq else s.view id

/-- A value in a slot of IDENTIFY or GET_STATUS: with the core domain off, only AON-held values are shown (R427). -/
def State.slotValue (s : State) (id : Nat) : Nat :=
  if s.seq.coreUp then s.view id else if aonHeld id then s.aonRead id else 0

/-- A status command without parameters or journal entry, answered by firmware or the AON endpoint. -/
def specStatus (op n : Nat) : VSpec :=
  { op := op, transports := [0, 1, 2, 3, 4], aon := true, status := true, journal := false, count := (· == n) }

/-- IDENTIFY (R427). -/
def runIdentify (p : Pkt) (s : State) : State :=
  s.vendor (specStatus 0xC000 0) p fun _ s =>
    { s := s, slots := [Reg.PART_ID, Reg.DEVICE_REVISION, Reg.DEVICE_SERIAL, Reg.FW_VERSION_ACTIVE,
                        Reg.CMD_PAYLOAD_MAX, Reg.MLD_ENABLE].map s.slotValue }

/-- IDENTIFY. -/
def execIdentify (p : Pkt) (s : State) : Host.Outcome State Fault Refusal := after (runIdentify p s.begin)

/-- GET_STATUS (R427). -/
def runGetStatus (p : Pkt) (s : State) : State :=
  s.vendor (specStatus 0xC001 0) p fun _ s =>
    { s := s, slots := [Reg.DEVICE_STATE, Reg.PROTECTION_STATUS, Reg.SHUTDOWN_RECORD, Reg.FC_STATUS, Reg.FC_FIRST,
                        Reg.FC_IN_FAULT, Reg.CEILING, Reg.DIRTY_BYTES, Reg.JOURNAL_HEAD, Reg.REC_SEQ,
                        Reg.MAINT_ACTIVE].map s.slotValue }

/-- GET_STATUS. -/
def execGetStatus (p : Pkt) (s : State) : Host.Outcome State Fault Refusal := after (runGetStatus p s.begin)

/-! ### Parameters (R413 to R415, R428) -/

/-- Read one ID of a PARAM_GET: its two slots and the state after the read (R428). -/
def State.getOne (s : State) (id : Nat) : List Nat × State :=
  if (rowOf id).isNone ∨ 0x3200 ≤ id then ([id + at' St.INVALID_FIELD 16, 0], s)
  else if s.aonServes then
    if aonHeld id then ([id, s.aonRead id], s.readWakes id) else ([id + at' St.INVALID_STATE 16, 0], s)
  else
    let (v, s) := s.readReg id
    ([id, v], s.readWakes id)

/-- Read the IDs in turn. -/
def State.getAll (s : State) : List Nat → List Nat × State
  | [] => ([], s)
  | id :: l =>
    let (a, s) := s.getOne id
    let (b, s) := s.getAll l
    (a ++ b, s)

/-- PARAM_GET's row of Table 14-4. -/
def specParamGet : VSpec :=
  { op := 0xC010, transports := [0, 1, 2, 3, 4], aon := true, status := true, journal := false,
    count := fun n => decide (1 ≤ n ∧ n ≤ 64) }

/-- PARAM_GET (R428): bits above an ID's 16 are reserved (R10). -/
def runParamGet (p : Pkt) (s : State) : State :=
  s.vendor specParamGet p fun _ s =>
    if p.slots.any fun w => decide (65536 ≤ w) then { s := s, status := St.INVALID_FIELD }
    else
      let (slots, s) := s.getAll p.slots
      { s := s, slots := slots }

/-- PARAM_GET. -/
def execParamGet (p : Pkt) (s : State) : Host.Outcome State Fault Refusal := after (runParamGet p s.begin)

/-- Whole pairs, 1 to 64 of them (R428). -/
def pairCount (n : Nat) : Bool := n % 2 == 0 && decide (2 ≤ n ∧ n ≤ 128)

/-- PARAM_SET's row of Table 14-4. -/
def specParamSet : VSpec :=
  { op := 0xC011, transports := [0, 1, 2, 3, 5], ok := classO, inGroup := true, count := pairCount,
    persist := fun s p => s.persistedChange (pairsOf p.slots) }

/-- PARAM_SET (R415): a private stage and its commit. -/
def runParamSet (p : Pkt) (s : State) : State :=
  s.vendor specParamSet p fun _ s =>
    let d := s.commitEntries (stageAdd [] (pairsOf p.slots))
    { d with detail := d.detail % 65536 }

/-- PARAM_SET. -/
def execParamSet (p : Pkt) (s : State) : Host.Outcome State Fault Refusal := after (runParamSet p s.begin)

/-- PARAM_STAGE's row of Table 14-4. -/
def specParamStage : VSpec := { op := 0xC012, transports := [0, 1, 2, 3], ok := classO, count := pairCount }

/-- The originator's stage (R413). -/
def State.stageOf (s : State) (o : Origin) : List (Nat × Nat) := mget [] s.cmd.stages o.key

/-- The first entry of a list that a stage cannot take: a bad one, or the 65th (R413). -/
def stageRefuses (st : List (Nat × Nat)) : List (Nat × Nat) → Option Nat
  | [] => none
  | e :: l =>
    let st' := stageAdd st [e]
    if entryBad e ∨ 64 < st'.length then some e.1 else stageRefuses st' l

/-- PARAM_STAGE (R413). -/
def runParamStage (p : Pkt) (s : State) : State :=
  s.vendor specParamStage p fun o s =>
    let es := pairsOf p.slots
    match stageRefuses (s.stageOf o.origin) es with
    | some id => { s := s, status := St.INVALID_FIELD, detail := id % 65536 }
    | none => { s := s.onCmd fun x => { x with
        stages := mput o.origin.key (stageAdd (mget [] x.stages o.origin.key) es) x.stages } }

/-- PARAM_STAGE. -/
def execParamStage (p : Pkt) (s : State) : Host.Outcome State Fault Refusal := after (runParamStage p s.begin)

/-- PARAM_COMMIT's row of Table 14-4. -/
def specParamCommit : VSpec :=
  { op := 0xC013, transports := [0, 1, 2, 3], ok := classO, inGroup := true, count := (· == 0),
    persist := fun s p => s.persistedChange (s.stageOf (pktOwed p 0xC013 0).origin) }

/-- PARAM_COMMIT (R414): the stage is cleared by a commit, kept by a rejection. -/
def runParamCommit (p : Pkt) (s : State) : State :=
  s.vendor specParamCommit p fun o s =>
    let d := s.commitEntries (s.stageOf o.origin)
    if d.status = St.SUCCESS then
      { d with s := d.s.onCmd fun x => { x with stages := mdel o.origin.key x.stages } }
    else d

/-- PARAM_COMMIT. -/
def execParamCommit (p : Pkt) (s : State) : Host.Outcome State Fault Refusal := after (runParamCommit p s.begin)

/-- PARAM_DISCARD's row of Table 14-4. -/
def specParamDiscard : VSpec := { op := 0xC014, transports := [0, 1, 2, 3], ok := classO, count := (· == 0) }

/-- PARAM_DISCARD (R413). -/
def runParamDiscard (p : Pkt) (s : State) : State :=
  s.vendor specParamDiscard p fun o s => { s := s.onCmd fun x => { x with stages := mdel o.origin.key x.stages } }

/-- PARAM_DISCARD. -/
def execParamDiscard (p : Pkt) (s : State) : Host.Outcome State Fault Refusal := after (runParamDiscard p s.begin)

/-- PARAM_STAGE_READ's row of Table 14-4. -/
def specParamStageRead : VSpec :=
  { op := 0xC015, transports := [0, 1, 2, 3], ok := classO, journal := false, count := (· == 0) }

/-- PARAM_STAGE_READ (Table 14-4): the stage in the format of PARAM_SET. -/
def runParamStageRead (p : Pkt) (s : State) : State :=
  s.vendor specParamStageRead p fun o s => { s := s, slots := (s.stageOf o.origin).flatMap fun e => [e.1, e.2] }

/-- PARAM_STAGE_READ. -/
def execParamStageRead (p : Pkt) (s : State) : Host.Outcome State Fault Refusal := after (runParamStageRead p s.begin)

/-! ### The journal (R431) -/

/-- An entry as four slots (Table 14-7). -/
def JEntry.slots (e : JEntry) : List Nat :=
  (List.range 4).map fun i => ofBytes ((e.bytes.drop (8 * i)).take 8)

/-- The entries a reader sees: the journal in management SRAM (R433). With the core domain off there are none: the
mirrors are outside the pinned area, the one part of the NV Store the AON endpoint reads (R417; DEDUCED, log entry
26). -/
def State.journalNow (s : State) : List JEntry := if s.seq.coreUp then s.cmd.journal else []

/-- JOURNAL_READ (R431): a CSEQ and a count from 1 to 127. -/
def runJournalRead (p : Pkt) (s : State) : State :=
  s.vendor (specStatus 0xC020 2) p fun _ s =>
    let c := p.slots.getD 0 0
    let n := p.slots.getD 1 0
    if n = 0 ∨ 127 < n then { s := s, status := St.INVALID_FIELD }
    else match (s.journalNow.filter fun e => decide (c ≤ e.cseq)).take n with
      | [] => { s := s, status := St.NONE }
      | e :: l => { s := s, slots := b2n (decide (c < e.cseq)) :: (e :: l).flatMap JEntry.slots }

/-- JOURNAL_READ. -/
def execJournalRead (p : Pkt) (s : State) : Host.Outcome State Fault Refusal := after (runJournalRead p s.begin)

/-- JOURNAL_FIND (R431): the newest entry of a transport, logical device, FM flag, tag and opcode. -/
def runJournalFind (p : Pkt) (s : State) : State :=
  s.vendor (specStatus 0xC021 1) p fun _ s =>
    let w := p.slots.headD 0
    if field w 15 7 ≠ 0 then { s := s, status := St.INVALID_FIELD }
    else match s.journalNow.reverse.find? fun e => e.transport == field w 2 0 && e.ld == field w 5 3
        && b2n e.fm == field w 6 6 && e.tag == field w 31 16 && e.opcode == field w 47 32 with
      | some e => { s := s, slots := e.slots }
      | none => { s := s, status := St.NONE }

/-- JOURNAL_FIND. -/
def execJournalFind (p : Pkt) (s : State) : Host.Outcome State Fault Refusal := after (runJournalFind p s.begin)

/-! ### Maintenance (R439) -/

/-- MAINT_START (R439). -/
def runMaintStart (p : Pkt) (s : State) : State := s.vendor specMaintStart p (State.maintStart (p.slots.headD 0))

/-- MAINT_START. -/
def execMaintStart (p : Pkt) (s : State) : Host.Outcome State Fault Refusal := after (runMaintStart p s.begin)

/-- Stop an activity where its chapter stops it (R439): a learn ends early, a rehearsal ends, an on-line BIST drops the
partitions it has not run, an activation that has not restarted the core is dropped. -/
def State.actStop (s : State) (n : Nat) : State :=
  let s := if n = 1 then s.cutLearns 3
    else if n = 5 then s.rehearseOut.onSpill fun x => { x with state := if x.state = .rehearsing then .armed else x.state }
    else s
  let s := if n = 1 then s.onCmd fun c => { c with learnPort := none, learnAck := false } else s
  s.actFail n St.INVALID_STATE []

/-- MAINT_STOP's row of Table 14-4. -/
def specMaintStop : VSpec :=
  { op := 0xC101, transports := [0, 1, 2, 3, 4], ok := fun s => classN s || decide (s.dev = .preSpill),
    count := (· == 1) }

/-- MAINT_STOP (R426, R439): in PRE_SPILL for a suspended activity alone. -/
def runMaintStop (p : Pkt) (s : State) : State :=
  s.vendor specMaintStop p fun _ s =>
    let n := p.slots.headD 0
    if n = 0 ∨ 8 < n then { s := s, status := St.INVALID_FIELD }
    else
      let st := (s.cmd.act n).state
      if st = .idle ∨ (s.dev = .preSpill ∧ st ≠ .suspended) then { s := s, status := St.INVALID_STATE }
      else { s := s.actStop n }

/-- MAINT_STOP. -/
def execMaintStop (p : Pkt) (s : State) : Host.Outcome State Fault Refusal := after (runMaintStop p s.begin)

/-- MAINT_STATUS's row of Table 14-4. -/
def specMaintStatus : VSpec :=
  { op := 0xC102, transports := [0, 1, 2, 3, 4], status := true, journal := false, count := (· == 0) }

/-- MAINT_STATUS (R439). -/
def runMaintStatus (p : Pkt) (s : State) : State :=
  s.vendor specMaintStatus p fun _ s => { s := s, slots := s.cmd.acts.map fun a => a.2.word }

/-- MAINT_STATUS. -/
def execMaintStatus (p : Pkt) (s : State) : Host.Outcome State Fault Refusal := after (runMaintStatus p s.begin)

/-! ### Opcodes with no command (R422, R426) -/

/-- Opcodes Tables 14-4, 15-6 and 16-6 assign, and the diagnostics of camub. -/
def opAssigned (op : Nat) : Bool :=
  [0xC000, 0xC001, 0xC010, 0xC011, 0xC012, 0xC013, 0xC014, 0xC015, 0xC020, 0xC021, 0xC100, 0xC101, 0xC102, 0xC210,
   0xC211, 0xC212, 0xC220, 0xC221, 0xC222, 0xC223, 0xC230, 0xC240, 0xC241, 0xC300, 0xC301, 0xC302, 0xC310, 0xC311,
   0xC312, 0xC313, 0xC314, 0xC400, 0xC401, 0xC402, 0xC403, 0xC480, 0xC481].contains op
    || decide (0xC800 ≤ op ∧ op ≤ 0xCFFF)

/-- RESERVED_OPCODE (R422, R423, R426): UNSUPPORTED, not journalled; on a mailbox no reply packet for an unassigned
opcode of the vendor range. -/
def runReservedOpcode (p : Pkt) (s : State) : State :=
  if opAssigned p.opcode ∨ !s.reaches p.transport then s
  else if p.transport < 2 ∧ (p.short ∨ p.carried ≠ p.length) then
    s.emit (.mailbox p.mailbox Ret.invalidPayloadLength.code)
  else if p.transport < 2 ∧ p.mailbox ≠ p.opcode then s.emit (.mailbox p.mailbox Ret.invalidInput.code)
  else if p.transport < 2 then s.emit (.mailbox p.mailbox Ret.unsupported.code)
  else if p.short then s
  else if p.length % 8 ≠ 0 ∨ 4088 < p.length ∨ p.carried ≠ p.length then
    s.sendReply (pktOwed p p.opcode 0) St.INVALID_FIELD 0 0 []
  else s.sendReply (pktOwed p p.opcode 0) St.UNSUPPORTED 0 0 []

/-- RESERVED_OPCODE. -/
def execReservedOpcode (p : Pkt) (s : State) : Host.Outcome State Fault Refusal := after (runReservedOpcode p s.begin)

/-- A diagnostic's row of Table 14-4. -/
def specCamub (op : Nat) : VSpec :=
  { op := op, transports := [0, 1, 2, 3], status := true, journal := false, count := fun _ => true }

/-- CAMUB_DIAGNOSTIC (R426): a status command whose result the manual does not specify: a free status of Table 14-3
and a free number of free slots. -/
def runCamubDiagnostic (p : Pkt) (s : State) : State :=
  if p.opcode < 0xC800 ∨ 0xCFFF < p.opcode then s
  else s.vendor (specCamub p.opcode) p fun _ s =>
    let (st, s) := s.free 0xC800
    let (n, s) := s.free 0xC801
    let (slots, s) := s.freeWords 0xC802 (n % 512)
    { s := s, status := ([0, 2, 3, 4, 5, 6, 7, 8, 9, 10, 11] : List Nat).getD (st % 11) 0, slots := slots }

/-- CAMUB_DIAGNOSTIC. -/
def execCamubDiagnostic (p : Pkt) (s : State) : Host.Outcome State Fault Refusal :=
  after (runCamubDiagnostic p s.begin)

/-! ### PF1's direct registers and register writes (R11, R434, R435) -/

/-- A PARAM_SET of transport 5 (R435). -/
def barPkt (ld id v : Nat) : Pkt :=
  { transport := 5, ld := ld, opcode := 0xC011, length := 16, carried := 16, mailbox := 0, slots := [id, v % 2 ^ 48] }

/-- A write of an RWP register from the BAR (R435): a journalled PARAM_SET whose status CMD_LAST_STATUS shows. -/
def State.barSet (s : State) (ld offset id v : Nat) : State :=
  let t := runParamSet (barPkt ld id v) s
  match t.cmd.entry (s.cmd.cseq + 1) with
  | some e => t.setReg Reg.CMD_LAST_STATUS (offset % 65536 + at' e.status 16 + at' e.detail 32)
  | none => t

/-- PF1 is reached: the core domain runs and the link is up. -/
def State.pf1 (s : State) : Bool := s.seq.coreUp && s.port.up

/-- A logical device's PF1 is reached. -/
def State.pf1Of (s : State) (ld : Nat) : Bool := s.pf1 && s.lds.contains ld

/-- BAR_PARAM_WRITE (R435): the RWP direct registers are EV_MASK_0 to EV_MASK_5 (Table 14-8). -/
def execBarParamWrite (offset v : Nat) (s : State) (ld : Nat := 0) : Host.Outcome State Fault Refusal :=
  let s := s.begin
  after (if s.pf1Of ld ∧ 0x80C0 ≤ offset ∧ offset ≤ 0x80E8 ∧ offset % 8 = 0 then
      s.barSet ld offset (Reg.EV_MASK + (offset - 0x80C0) / 8) v
    else s)

/-- HOST_DOORBELL_RESEND (R435): the events whose route sends a message (R381), from the PF1 that was written. -/
def execHostDoorbellResend (s : State) (ld : Nat := 0) : Host.Outcome State Fault Refusal :=
  let s := s.begin
  after (if s.pf1Of ld then
      (List.range 288).foldl (fun s n =>
        if evBit s Reg.EV_STATUS n && !evBit s Reg.EV_MASK n && bit (s.reg (Reg.EV_ROUTE + n)) 6 then s.msixTo n ld else s) s
    else s)

/-- HOST_DOORBELL_LATCH (R435, R474): the counts PF1 shows (Table 14-8). -/
def execHostDoorbellLatch (s : State) : Host.Outcome State Fault Refusal :=
  let s := s.begin
  after (if s.pf1 then s.latchCounters [Reg.DIRTY_BYTES, Reg.JOURNAL_HEAD, Reg.JOURNAL_OLDEST, Reg.REC_SEQ] else s)

/-- JOURNAL_CURSOR_WRITE (R431). -/
def execJournalCursorWrite (v : Nat) (s : State) : Host.Outcome State Fault Refusal :=
  after (s.begin.softWrite Reg.JOURNAL_CURSOR (v % 2 ^ 48))

/-- REGISTER_WRITE (R10, R11): applied by the access code; a persisted value goes through the parameter commit
boundary, a reserved encoding leaves the field as it is. -/
def execRegisterWrite (id v : Nat) (s : State) : Host.Outcome State Fault Refusal :=
  let s := s.begin
  after (if persistedId id then (if s.pf1 then s.barSet 0 0 id v else s)
    else if settable id ∧ valueOk id (v % 2 ^ 48) ∧ s.writableNow id then s.softWrite id (v % 2 ^ 48)
    else s)

end Sys2Proof.Machine
end

