-- ==== Sys2Proof/Machine/Nv.lean ====
section
/-! DEFINITION. The NV Store's mounts, programs, compaction and scrub, and the meanings of its commands (13). -/

namespace Sys2Proof.Machine

/-! ### Resolution at BRINGUP (R402, R403) -/

/-- Two records share TYPE and KEY. -/
def NvData.same (a b : NvData) : Bool := a.type == b.type && a.key == b.key

/-- Records of a list in a group whose GROUP_END record stands on neither device. -/
def NvStore.openGroup (v : NvStore) (r : NvRec) : Bool := match r.group with
  | none => false
  | some g => !((v.a ++ v.b).any fun q => q.group == some g && q.groupEnd)

/-- Discard the groups without their end (R402). -/
def NvStore.dropOpen (v : NvStore) : NvStore :=
  { v with a := v.a.filter fun r => !v.openGroup r, b := v.b.filter fun r => !v.openGroup r }

/-- The newest record of a TYPE and KEY in a list. -/
def newestOf (l : List NvRec) (d : NvData) : Option NvRec :=
  l.foldl (fun acc r => if r.data.same d then
    match acc with
    | some q => if q.nseq ≤ r.nseq then some r else acc
    | none => some r
  else acc) none

/-- Resolve one TYPE and KEY by Table 13-5. -/
def State.nvResolve (s : State) (d : NvData) : State :=
  if s.nv.single then s
  else match newestOf s.nv.a d, newestOf s.nv.b d with
    | some x, some y =>
      if x.nseq = y.nseq then
        if x.data = y.data then s
        else
          let s := s.onNv fun v => { v with b := v.b.map fun r => if r.nseq = x.nseq ∧ r.data.same d then x else r }
          match d with
          | .counter _ _ _ => s
          | _ => (s.fault Src.NV_STORE .corrected).raise Ev.NV_DIVERGE
      else if y.nseq < x.nseq then (s.onNv fun v => { v with b := v.b ++ [x] }).fault Src.NV_STORE .corrected
      else (s.onNv fun v => { v with a := v.a ++ [y] }).fault Src.NV_STORE .corrected
    | some x, none => (s.onNv fun v => { v with b := v.b ++ [x] }).fault Src.NV_STORE .corrected
    | none, some y => (s.onNv fun v => { v with a := v.a ++ [y] }).fault Src.NV_STORE .corrected
    | none, none => s

/-- One payload of each TYPE and KEY stored, of the types `sel` takes. -/
def NvStore.keys (v : NvStore) (sel : NvData → Bool) : List NvData :=
  (v.a ++ v.b).foldl (fun l r => if sel r.data && !(l.any fun d => d.same r.data) then l ++ [r.data] else l) []

/-- Resolve the records of the types `sel` takes. -/
def State.resolve (s : State) (sel : NvData → Bool) : State :=
  let s := s.onNv NvStore.dropOpen
  (s.nv.keys sel).foldl (fun s d => s.nvResolve d) s

/-- The early set (R477). -/
def earlyRecord (d : NvData) : Bool := d.inVault || [0x45, 0x12, 0x13, 0x14, 0x51].contains d.type

/-- ROP registers whose records the early mount resolves (R11, R197, R224, R219). -/
def State.earlyRegs (s : State) : State :=
  let p := s.pointer
  let r := s.restoreRec
  let dsc := (s.nvGet fun d => match d with | .dsc c _ => some c | _ => none).getD 0
  (((((s.setReg Reg.SHUTDOWN_RECORD p.shutdown.code).maxReg Reg.MANIFEST_SEQ p.manifestSeq).setReg Reg.RETIRED_SEQ
    r.retiredSeq).setReg Reg.ACTIVE_SEQ r.activeSeq).setReg Reg.POISON_FLOOR r.poisonFloor).setReg
    Reg.DIRTY_SHUTDOWN_COUNT dsc

/-- EARLY_MOUNT (R397, R477): `ownA` and `ownB` say whether each device holds a valid header with this part's ID. -/
def execEarlyMount (ownA ownB : Bool) (s : State) : Host.Outcome State Fault Refusal :=
  let s := s.begin
  after (if s.nv.state ≠ .mounting ∨ s.dev ≠ .bringup then s
    else
      let h := fun b => if b then NvHeader.own else .foreign
      let s := s.onNv fun v => { v with
        headerA := h ownA, headerB := h ownB, resync := ownA != ownB
        a := if ownA || !ownB then v.a else [], b := if ownB || !ownA then v.b else [] }
      if !ownA ∧ !ownB then (s.onNv fun v => { v with state := .hold }).fault Src.NV_STORE .degraded
      else
        let s := if ownA != ownB then s.fault Src.NV_STORE .degraded else s
        -- A device without a header of this part is a replaced one: no longer FAILED, and resynchronised (R400).
        let s := s.onNv fun v => { v with failedA := v.failedA && ownA, failedB := v.failedB && ownB }
        ((s.resolve earlyRecord).earlyRegs).onNv fun v => { v with early := true })

/-! ### Full mount (R403, R408, R410, R384, R433, R371) -/

/-- Void a counter's cell that was cut mid-program (R408). -/
def tearCell : List Cell → List Cell
  | [] => []
  | .blank :: r => .void :: r
  | c :: r => c :: tearCell r

/-- A counter whose next cell was cut: void, short by one, reported (R408). -/
def State.tornCounter (s : State) (i : Nat) : State :=
  match counterRec s.nv.visible i with
  | none => s
  | some (n, base, cells) =>
    let d := NvData.counter i base (tearCell cells)
    let s := s.onNv fun v => { v with a := setCounter v.a i d n, b := setCounter v.b i d n }
    let id := Reg.NV_SHORT + i / 48
    (s.setReg id (setBit (s.reg id) (i % 48))).fault Src.NV_STORE .log

/-- Value of a catalogue counter. -/
def State.counterNow (s : State) (i : Nat) : Nat := match counterRec s.nv.visible i with
  | some (_, b, c) => counterValue b c
  | none => 0

/-- Registers that counter records hold (R407); the slot counters, kept in AON memory, only when AON was without
power. -/
def State.mountCounters (s : State) : State :=
  let s := ([(Reg.VAULT_COUNT, 0), (Reg.HOLD_COUNT, 1), (Reg.FC_RECOVERIES, 2), (Reg.TRUE_DONE, 3), (Reg.WHEELS_LOST, 4),
    (Reg.BLOCKS_GROWN_BAD, 5)] : List (Nat × Nat)).foldl (fun s p => s.setReg p.1 (s.counterNow p.2)) s
  if s.cold.isNone then s
  else (List.range 96).foldl (fun s i => s.setReg (Reg.SLOT_COUNTERS + 8 * (i / 4) + i % 4) (s.counterNow (32 + i))) s

/-- GEN and area that the CFG_IMAGE record names; a commissioned store's area 0, GEN 0, before one (DEDUCED, log entry 10). -/
def State.cfgNamed (s : State) : Nat × Nat :=
  (s.nvGet fun d => match d with | .cfgImage g a => some (g, a) | _ => none).getD (0, 0)

/-- Apply values of parameters the firmware knows. -/
def State.applyCfg (s : State) (l : List (Nat × Nat)) : State :=
  l.foldl (fun s p => if imageId p.1 then s.setReg p.1 p.2 else s) s

/-- Build the bank of persisted values (R410): `ok` is whether the governing image reads on either device. -/
def State.mountConfig (s : State) (ok : Bool) : State :=
  let (gen, area) := s.cfgNamed
  let img := if area = 0 then s.nv.image0 else s.nv.image1
  let s := { s with regs := s.regs.filter fun p => !imageId p.1 }
  let s := s.setReg Reg.CFG_GEN gen
  if ok then
    let ds := s.nv.visible.filterMap fun r => match r.data with
      | .cfgDelta id v g => if g = gen then some (id, v) else none
      | _ => none
    ((s.applyCfg img.entries).applyCfg ds).setReg Reg.CFG_DELTAS (Nat.min 2047 ds.length)
  else
    let lay := (s.nvGet fun d => match d with | .layout e _ => some e | _ => none).getD []
    let s := (s.applyCfg lay).setReg Reg.CFG_DELTAS 0
    let s := s.setReg Reg.CFG_STATUS (setBit (s.reg Reg.CFG_STATUS) 0)
    (s.fault Src.NV_STORE .degraded).raise Ev.CFG_DEFAULTED

/-- Resume the recorder: the writer at the row after the last one programmed (R386), REC_SEQ (R384) above the AON
copy, or 8,193 above what is stored when AON was without power. A SEQ given out and never written is covered by a
RECORDS_LOST record. -/
def State.mountRecorder (s : State) : State :=
  let evc := ((s.spill.manifests.getLast?).map (·.evClose)).getD 0
  let s := s.onRec fun x => if x.head.byte = 0 then x else x.nextRow
  let high := Nat.max (maxOf ((s.rec_.circ.map (·.2.seq)) ++ s.rec_.pinned.map (·.seq))) evc
  let first := s.rec_.durable + 1
  let s :=
    if s.cold.isNone then
      let next := Nat.max (Nat.max s.rec_.aonSeq (high + 1)) 1
      let kept := match s.rec_.queue.head? with
        | some q => q.seq
        | none => next
      (s.setReg Reg.REC_SEQ next).onRec fun x =>
        { x with aonSeq := next, gap := if first < kept then some (first, kept - 1) else x.gap }
    else
      -- What this start queued so far takes its place above the SEQs skipped.
      let next := if high = 0 then 1 else high + 8193
      let q := s.rec_.queue.zipIdx.map fun (r, i) => { r with seq := next + i }
      let top := next + q.length
      (s.setReg Reg.REC_SEQ top).onRec fun x =>
        { x with aonSeq := top, queue := q, gap := if first < next then some (first, next - 1) else none }
  let s := s.onRec fun x => { x with durable := Nat.max x.durable (minOf (s.reg Reg.REC_SEQ) (x.queue.map (·.seq)) - 1) }
  match s.cold with
  | some d => (s.record .powerLoss 0x1FF [d]).2
  | none => s

/-- Rebuild the command journal from its mirrors (R433). -/
def State.mountJournal (s : State) : State :=
  let es := s.nv.visible.filterMap fun r => match r.data with | .cmdJournal e => some e | _ => none
  -- The newest record of an entry is its completed one.
  let es := es.foldl (fun l e => if l.any fun q => q.cseq == e.cseq then l.map fun q => if q.cseq == e.cseq then e else q
    else l ++ [e]) ([] : List JEntry)
  let es := es.drop (es.length - 1024)
  let es := (sortBy (fun a b => decide (a.cseq ≤ b.cseq)) es).map fun e =>
    if e.status = 1 then { e with status := 0xC } else e
  let n := Nat.max (maxOf (es.map (·.cseq))) (if s.cold.isNone then s.cmd.aonCseq else 0)
  let mark : JEntry := { cseq := n + 1, transport := 6, ld := 0, fm := false, std := false, state := Dev.bringup.code,
                         persist := false, opcode := 0, tag := 0, digest := 0, status := 0, detail := 0,
                         evDone := s.reg Reg.REC_SEQ, flags := 0 }
  s.onCmd fun x => { x with journal := es ++ [mark], cseq := n + 1, aonCseq := n + 1 }

/-- FULL_MOUNT (R403, R410): `imgOk` is whether the governing image reads on A or B, `torn` the counters whose next cell
was cut. -/
def execFullMount (imgOk : Bool) (torn : List Nat) (s : State) : Host.Outcome State Fault Refusal :=
  let s := s.begin
  after (if s.nv.state ≠ .mounting ∨ s.dev ≠ .bringup then s
    else
      let s := s.resolve fun d => !earlyRecord d
      let s := torn.foldl (fun s i => s.tornCounter i) s
      let s := ((s.mountConfig imgOk).earlyRegs).mountCounters
      let s := s.mountRecorder.mountJournal.mountDomain
      let s := s.onNv fun v => { v with state := .running }
      if s.mgmt.state = .running then s.lastFatal else s)

/-! ### Programs and devices (R397, R399, R400) -/

/-- Mark a device FAILED (R400). -/
def State.nvFail (s : State) (devA : Bool) : State :=
  let s := s.onNv fun v => if devA then { v with failedA := true } else { v with failedB := true }
  -- What the survivor holds is complete; what only waited for the failed device goes on with the other.
  let s := s.onNv fun v => { v with buf := v.buf.filter fun u => !(u.onA && v.failedB) }
  s.fault Src.NV_STORE (if s.nv.failedA && s.nv.failedB then .fatal else .degraded)

/-- NV_RESYNC_COMPLETE (R397): both devices hold the same store again. -/
def execNvResyncComplete (s : State) : Host.Outcome State Fault Refusal :=
  let s := s.begin
  after (if !s.nv.resync then s
    else
      let l := if s.nv.headerA = .own then s.nv.a else s.nv.b
      (s.onNv fun v => { v with a := l, b := l, resync := false, failedA := false, failedB := false,
                                headerA := .own, headerB := .own }).fault Src.NV_STORE .corrected)

/-- NV_RECORD_PROGRAM_DONE (R399, R400): the program of the oldest update in flight ended on the device in turn. -/
def execNvRecordProgramDone (ok : Bool) (s : State) : Host.Outcome State Fault Refusal :=
  let s := s.begin
  after (match s.nv.buf with
    | [] => s
    | u :: rest =>
      let onA := !u.onA && !s.nv.downA
      if ok then
        let s := if 0 < u.tries then s.fault Src.NV_STORE .corrected else s
        if onA then
          let s := s.onNv fun v => { v with a := v.a ++ [u.rec_] }
          if s.nv.downB then s.onNv fun v => { v with buf := rest }
          else s.onNv fun v => { v with buf := { u with onA := true, tries := 0 } :: rest }
        else s.onNv fun v => { v with b := v.b ++ [u.rec_], buf := rest }
      else if u.tries + 1 < 3 then
        -- The next free slot of the same area takes it.
        s.onNv fun v => { v.room u.rec_.data with buf := { u with tries := u.tries + 1 } :: rest }
      else s.nvFail onA)

/-- NV_DEVICE_TIMEOUT (R400). -/
def execNvDeviceTimeout (devA : Bool) (s : State) : Host.Outcome State Fault Refusal :=
  let s := s.begin
  after (if s.nv.state = .down ∨ s.nv.state = .aonRead ∨ (if devA then s.nv.failedA else s.nv.failedB) then s
    else s.nvFail devA)

/-! ### Compaction and scrub (R404 to R406) -/

/-- A record is live (R404, R432). -/
def State.nvLive (s : State) (l : List NvRec) (r : NvRec) : Bool := match r.data with
  | .band r => (s.whl.band r.base).isSome
  | .bandPack l => l.any fun r => (s.whl.band r.base).isSome
  | .cmdJournal _ => decide ((l.filter fun q => q.data.type == 0x50 && decide (r.nseq < q.nseq)).length < 1024)
  | .cfgDelta _ _ g => g == s.cfgNamed.1 && newestOf l r.data == some r
  | _ => newestOf l r.data == some r

/-- The band records that a record holds (R404). -/
def NvData.bands : NvData → List BandRec
  | .band r => [r]
  | .bandPack l => l
  | _ => []

/-- Cut a list into pieces of `n`, by as many steps as it has elements. -/
def chunks {α : Type} (n : Nat) (l : List α) : List (List α) := go l.length l
where
  go : Nat → List α → List (List α)
    | 0, _ => []
    | _, [] => []
    | k + 1, l => l.take n :: go k (l.drop n)

/-- Sectors of the vault area are numbered from 400 in an erase. -/
abbrev vaultSector : Nat := 400

/-- Compact the oldest sector of an area: its live records move to the head with their NSEQ, the rest go, the erase
starts on A (R404, R405). -/
def State.compact (s : State) (vault : Bool) : State :=
  let v := s.nv
  let old := if vault then (v.vaultHead + 1 + v.vaultFree) % 8 else (v.logHead + 1 + v.logFree) % 361
  let inSec := fun (r : NvRec) => r.data.inVault == vault && r.sector == old
  let l := v.governing
  let live := l.filter fun r => inSec r && s.nvLive l r
  let moved := live.filter fun r => r.data.bands = []
  -- Band records of the sector are packed 32 at a time.
  let packs := (chunks 32 (live.flatMap fun r => r.data.bands.filter fun x => (s.whl.band x.base).isSome)).map NvData.bandPack
  let v := moved.foldl (fun v r => v.room r.data) v
  let head := if vault then v.vaultHead else v.logHead
  let move := fun (q : List NvRec) => (q.filter fun r => !inSec r || moved.any fun m => m.nseq == r.nseq && m.data == r.data).map
    fun r => if inSec r then { r with sector := head } else r
  let s := { s with nv := { v with
    a := move v.a, b := move v.b, erasing := some ((if vault then vaultSector + old else old), false) } }
  packs.foldl (fun s d => { s with nv := s.nv.durable d }) s

/-- LOG_COMPACTION (R404, R405): the vault area first when fewer than two of its sectors are erased. -/
def execLogCompaction (s : State) : Host.Outcome State Fault Refusal :=
  let s := s.begin
  after (if s.nv.state ≠ .running ∨ s.nv.erasing.isSome then s
    else if s.nv.vaultFree < 2 then s.compact true
    else if s.nv.logFree < s.reg Reg.NV_COMPACT_LOW then s.compact false
    else s)

/-- NOR_SECTOR_ERASE_DONE (R404): on A, then on B; then the sector is erased. -/
def execNorSectorEraseDone (s : State) : Host.Outcome State Fault Refusal :=
  let s := s.begin
  after (match s.nv.erasing with
    | none => s
    | some (k, onA) =>
      if s.nv.eraseSuspended then s
      else if !onA ∧ !s.nv.single then s.onNv fun v => { v with erasing := some (k, true) }
      else
        let s := s.onNv fun v => if vaultSector ≤ k then { v with erasing := none, vaultFree := v.vaultFree + 1 }
          else { v with erasing := none, logFree := v.logFree + 1 }
        if s.nv.state = .running ∧ 4 ≤ s.nv.logFree then
          let l := s.nv.held
          l.foldl (fun s d => s.nvWrite d) (s.onNv fun v => { v with held := [] })
        else s)

/-- NV_SCRUB (R406): `weak` are the NSEQs of the live records found weak. -/
def execNvScrub (weak : List Nat) (s : State) : Host.Outcome State Fault Refusal :=
  let s := s.begin
  after (if s.nv.state ≠ .running then s
    else
      let l := s.nv.governing
      (l.filter fun r => weak.contains r.nseq && s.nvLive l r && !(s.nv.buf.any fun u => u.rec_.data.same r.data)).foldl
        (fun s r => ((s.nvWrite r.data).addReg Reg.NV_WEAK_REWRITES 1).fault Src.NV_STORE .corrected) s)

/-- CFG_IMAGE_REWRITE (R411). -/
def execCfgImageRewrite (s : State) : Host.Outcome State Fault Refusal :=
  let s := s.begin
  after (if s.nv.state = .running ∧ s.reg Reg.CFG_REWRITE_AT ≤ s.reg Reg.CFG_DELTAS then s.writeImage else s)

end Sys2Proof.Machine
end

