-- ==== Sys2Proof/Machine/Rill.lean ====
section
/-! DEFINITION. The meanings of the Rill's commands (5). -/

namespace Sys2Proof.Machine

/-- An entry is a write-back candidate (R133, R160; in RESTORING only of an extent that is online, R164). -/
def State.candidate (s : State) (seg : Nat) (e : DstEntry) : Bool :=
  decide (e.state = .dirty)
    && (decide (s.rill.state = .flushing) || decide (s.reg Reg.RILL_MIN_AGE ≤ e.age) || s.weir.above
      || decide (4 * s.basin.freeEntries < s.reg Reg.DST_FREE_TARGET))
    && (decide (s.dev ≠ .restoring) || s.port.online.contains (s.extentOf (seg * 2 ^ 21)))

/-- The next candidate: ascending HEAT, descending AGE, ascending SEGMENT (R133). -/
def State.nextCandidate (s : State) : Option Nat :=
  ((s.basin.dst.filter fun p => s.candidate p.1 p.2).foldl (fun (acc : Option (Nat × DstEntry)) p => match acc with
    | some a => if specBefore p a then some p else acc
    | none => some p) none).map (·.1)

/-- RILL_CAPTURE (R133, R134, R136): one capture of the next candidate, where one is called for. -/
def execRillCapture (e : DstErr) (s : State) (ue : List Nat := []) : Host.Outcome State Fault Refusal :=
  let s := s.begin
  after (if (s.rill.state = .running ∨ s.rill.state = .flushing) ∧ !s.basin.frozen ∧ s.rill.reformat = none ∧ s.captureDue then
      match s.nextCandidate with
      | some seg =>
        let s := s.entryErr seg e
        -- The pages read: those of the capture, if it can be taken (Table 3-7).
        let c := match s.basin.entry seg with
          | some x => (s.kindOf seg x.d).1
          | none => 0
        let s := s.readErrs seg c ue
        (s.capture seg).getD s
      | none => s
    else s)

/-- WHEEL_CLOSED (R147): a wheel whose strips are all issued closes. -/
def execWheelClosed (n : Nat) (s : State) : Host.Outcome State Fault Refusal :=
  let s := s.begin
  after (if s.seq.coreUp ∧ (s.whl.wheel n).any (·.issued) then s.closeWheel n else s)

/-- WHEEL_IDLE_TIMEOUT (R147): an open wheel of the Rill's is filled and closed. -/
def execWheelIdleTimeout (n : Nat) (s : State) : Host.Outcome State Fault Refusal :=
  let s := s.begin
  after (if (s.rill.state = .running ∨ s.rill.state = .flushing ∨ s.rill.state = .held)
      ∧ (s.whl.wheel n).any (fun w => decide (w.stream ≠ .v) && !w.issued) then (s.fillWheel n).closeWheel n
    else s)

/-- The segment to merge next: of the most fine entries, the lowest of equals, not WRITING or SPILLING, not in flight
(R139). -/
def State.nextMerge (s : State) : Option Nat :=
  ((s.rill.fine.map fun p => p.1 / 512).eraseDups.filter fun g =>
      !(s.basin.entry g).any (fun e => decide (e.state = .writing) || decide (e.state = .spilling))
        && !(s.rill.relocs.any fun r => r.seg == g)).foldl (fun acc g => match acc with
    | some a =>
      let na := s.rill.fineCount a
      let ng := s.rill.fineCount g
      if na < ng ∨ (na = ng ∧ g < a) then some g else acc
    | none => some g) none

/-- Relocations may run (R139, R151, R154, R159, R232): the Rill runs out of RESTORING, no map reload, no re-format. -/
def State.relocates (s : State) : Bool :=
  decide (s.rill.state = .running) && decide (s.dev ≠ .restoring) && !s.rill.reloading && s.rill.reformat.isNone

/-- FINE_MAP_MERGE (R139). -/
def execFineMapMerge (s : State) : Host.Outcome State Fault Refusal :=
  let s := s.begin.rillGates
  after (if s.relocates && s.rill.merging then match s.nextMerge with
      | some g => (s.mergeSeg g).getD s
      | none => s
    else s)

/-- A wheel has units on their way elsewhere already. -/
def State.leaving (s : State) (n : Nat) : Bool := s.rill.relocs.any fun r => r.src.any fun p => p.2.wheel == n

/-- Closed wheels in SLC landing bands, or closed native wheels of the pool. -/
def State.closedWheels (s : State) (slc : Bool) : List (Nat × Wheel) :=
  s.whl.table.filter fun p =>
    (decide (p.2.state = .closed) || decide (p.2.state = .degraded)) && p.2.slc == slc
      && decide (p.2.stream ≠ .c) && decide (p.2.stream ≠ .v) && !s.leaving p.1

/-- The oldest closed landing wheel that holds a valid unit (R151): that of the lowest SEQ. -/
def State.oldestLanding (s : State) : Option Nat :=
  (((s.closedWheels true).filter fun p => !(s.rill.validIn p.1).isEmpty).foldl (fun (acc : Option (Nat × Wheel)) p =>
    match acc with
    | some a => if p.2.seqMin < a.2.seqMin then some p else acc
    | none => some p) none).map (·.1)

/-- MIGRATION (R151). -/
def execMigration (s : State) : Host.Outcome State Fault Refusal :=
  let s := s.begin.rillGates
  after (if s.relocates && s.rill.migrating then
      (match s.oldestLanding with
        | some n => (s.relocateWheel .migration n).getD s
        | none => s).eraseSpent
    else s)

/-- The closed native wheel of the lowest valid ratio at or below GC_VALID_MAX that still holds a valid unit (R154). -/
def State.nextGc (s : State) : Option Nat :=
  let cand := ((s.closedWheels false).filter fun p => !s.bandHeld p.2.band).map fun p =>
    (p.1, (s.rill.validIn p.1).length, 16 * Nat.max 1 p.2.d)
  ((cand.filter fun c => decide (0 < c.2.1 ∧ 100 * c.2.1 ≤ s.reg Reg.GC_VALID_MAX * c.2.2)).foldl
    (fun (acc : Option (Nat × Nat × Nat)) c => match acc with
      | some a => if c.2.1 * a.2.2 < a.2.1 * c.2.2 then some c else acc
      | none => some c) none).map (·.1)

/-- GARBAGE_COLLECTION (R154): wheels with no valid unit are erased, else the next is collected. -/
def execGarbageCollection (s : State) : Host.Outcome State Fault Refusal :=
  let s := s.begin.rillGates
  after (if s.relocates && s.rill.collecting then
      (match s.nextGc with
        | some n => (s.relocateWheel .collection n).getD s
        | none => s).eraseSpent
    else s)

/-- RELOCATION_COMPLETE (R153): the oldest copy whose wheels are all closed. -/
def execRelocationComplete (s : State) : Host.Outcome State Fault Refusal :=
  let s := s.begin
  after (if s.rill.state = .down ∨ s.rill.state = .loading ∨ s.rill.reloading then s
    else match s.rill.relocs.find? fun r => r.waits.isEmpty with
      | some r => (s.finishReloc r).eraseSpent
      | none => s)

/-- CHECKPOINT_WRITE (R155): `period` says that CKPT_PERIOD has expired; otherwise CKPT_BYTES of host data must have been
mapped. `failed` says that a program at the first position failed. -/
def execCheckpointWrite (failed : Bool) (s : State) (period : Bool := true) : Host.Outcome State Fault Refusal :=
  let s := s.begin
  after (if (s.rill.state = .running ∨ s.rill.state = .flushing) ∧ !s.rill.reloading ∧ s.rill.reformat = none
      ∧ (period ∨ s.reg Reg.CKPT_BYTES * MiB ≤ s.rill.mapped) then
      (if failed then s.checkpointFails else s).checkpoint s.fullDue
    else s)

/-! ### Loading the maps (R157, R158) -/

/-- The units of a wheel count for replay (R148, R158). -/
def State.replayable (s : State) (n : Nat) : Bool := match s.whl.wheel n with
  | some w => (decide (w.state = .closed) || decide (w.state = .degraded)) && decide (w.stream ≠ .c)
      && decide (w.stream ≠ .v)
  | none => false

/-- Replay one run (R158). `bad` are locations whose CRC fails. A large run is applied whole, through its unit of page
0. -/
def State.replayRun (s : State) (bad : List (Nat × Nat)) (x : Rill) (u : Run) : Rill :=
  if u.epoch ≠ s.reg Reg.FORMAT_EPOCH then x
  else
    let ok := fun (l : Loc) => s.replayable l.wheel && !bad.contains (l.wheel, l.unit)
    let whole := u.spans.all fun p => s.replayable p.1
    if u.reloc then
      if u.kind = .fine then
        x.mapRun u false [] (pageMap ((u.at.filter fun p => ok p.2 && (u.src.any fun q => q.1 == p.1 &&
          (x.fineOf (pageIdx u.seg p.1)).map (·.loc) == some q.2)).map (·.1)))
      else match u.locOf 0, u.src.head? with
        | some l, some (_, l0) =>
          if !whole || !ok l then x
          else if u.merged then
            (if u.src.all fun (p, q) => (x.copyOf u.seg p).map (·.2) == some q then x.mapRun u true [] 0 else x)
          else if (x.largeOf u.seg).map (·.loc) == some l0 then { x with large := mput u.seg { loc := l } x.large }
          else x
        | _, _ => x
    else if u.kind = .fine then
      (u.at.filter fun p => ok p.2).foldl (fun x p => x.replayFine s.basin.fineK u.seg p.1 u.seq p.2) x
    else match u.locOf 0 with
      | some l => if whole && ok l then x.replayLarge u.seg u.seq l else x
      | none => x

/-- Checkpoints of a chain that are valid, up to the first that is not. -/
def validChain (bad : List Nat) : List Ckpt → List Ckpt
  | [] => []
  | c :: l => if bad.contains c.seq then [] else c :: validChain bad l

/-- Index of a stream's cursor (Table 5-5). -/
def Stream.ix : Stream → Nat
  | .l => 0 | .f => 1 | .g => 2 | _ => 3

/-- Where replay of a stream ends: at the first wheel, void ones passed over, whose first data strip reads ERASED, since it was
never programmed (R157, R247). -/
def Wheels.replayEnd (x : Wheels) (st : Stream) (first : Nat) : Option Nat :=
  ((x.table.filter fun p => decide (p.2.stream = st) && decide (p.2.state ≠ .void) && decide (first ≤ p.2.order)
    && decide (p.2.filled < 16)).map (·.2.order)).min?

/-- Replay takes a wheel: every closed wheel where no checkpoint was loaded, else those from its stream's cursor to the stream's
end (R157, Table 5-6). -/
def State.replays (s : State) (last : Option Ckpt) (n : Nat) : Bool := match last, s.whl.wheel n with
  | none, _ => true
  | some c, some w =>
    let first := c.orders.getD w.stream.ix 0
    decide (first ≤ w.order) && (s.whl.replayEnd w.stream first).all fun e => decide (w.order < e)
  | some _, none => false

/-- Load the maps by Table 5-6 and replay. `badC` are checkpoints that do not verify, `badU` units whose CRC fails. A run is
replayed when replay takes any wheel that holds a unit of it (DEDUCED, log entry 244). -/
def State.loadMaps (s : State) (badC : List Nat) (badU : List (Nat × Nat)) : State :=
  let found := s.rill.ckpts.filter fun c => c.epoch == s.reg Reg.FORMAT_EPOCH
  let fulls := (found.filter (·.full)).reverse
  let deltas := fun (f : Ckpt) => found.filter fun c => !c.full && c.base == f.seq
  let newest := fulls.head?
  let pick := fulls.find? fun c => !badC.contains c.seq
  let s := match pick with
    | none => (s.fault Src.MAP_ENGINE .degraded).raise Ev.MAP_SCAN
    | some f =>
      if newest == some f && (deltas f).all (fun c => !badC.contains c.seq) then s
      else (s.fault Src.MAP_ENGINE .corrected).raise Ev.CKPT_FALLBACK
  let chain := match pick with
    | none => []
    | some f => f :: validChain badC (deltas f)
  let last := chain.getLast?
  let x := s.rill
  let x : Rill := { x with
    large := (last.map (·.large)).getD [], fine := (last.map (·.fine)).getD []
    ckpts := x.ckpts.filter fun c => c.epoch != s.reg Reg.FORMAT_EPOCH || decide (c.seq ≤ (last.map (·.seq)).getD 0) }
  let s := badU.foldl (fun s _ => s.fault Src.MAP_ENGINE .log) s
  s.onRill fun _ => (x.runs.filter fun u => u.spans.any fun p => s.replays last p.1).foldl (s.replayRun badU) x

/-- The WRITE_SEQ to resume at (R141). -/
def State.resumeSeq (s : State) : Nat :=
  let retired := s.restoreRec.retiredSeq
  let seen := s.rill.runs.filter fun u => u.epoch == s.reg Reg.FORMAT_EPOCH && u.spans.any fun p => s.replayable p.1
  1 + maxOf ((s.rill.ckpts.filter fun c => c.epoch == s.reg Reg.FORMAT_EPOCH).map (·.writeSeq) ++ seen.map (·.seq)
    ++ (s.spill.manifests.filter fun m => decide (retired < m.seq)).map (·.seqLast))

/-- MAP_LOAD (R157, R158, R141): once the wheels are recovered and the media identified. -/
def execMapLoad (badC : List Nat) (badU : List (Nat × Nat)) (s : State) : Host.Outcome State Fault Refusal :=
  let s := s.begin
  after (if s.rill.state = .loading ∧ s.whl.state = .serving ∧ s.res.state = .running then
      let top := maxOf (s.rill.ckpts.map (·.seq))
      let s := s.loadMaps badC badU
      let s := ((s.setReg Reg.WRITE_SEQ s.resumeSeq).setReg Reg.CKPT_SEQ top).setLandSize
      let s := if 0xFFFF00000000 ≤ s.reg Reg.WRITE_SEQ then s.seqLow else s
      let s := s.onRill fun x => { x with state := .running, captures := [], relocs := [], mapped := 0 }
      if s.reg Reg.SHUTDOWN_RECORD = Shut.clean.code then s else s.eraseDead
    else s)

/-- Act on the wheels that closed during a reload (R159). -/
def State.releaseHeld (s : State) : State :=
  let s := s.onRill fun x => { x with reloading := false, heldClosed := [] }
  (s.rill.captures.filter fun c => c.waits.isEmpty).foldl (fun s c => s.completeCapture c) s

/-- MAP_RELOAD (R159): an uncorrectable map line starts the reload, or with `done` the reload ends. -/
def execMapReload (done : Bool) (badC : List Nat) (badU : List (Nat × Nat)) (s : State) : Host.Outcome State Fault Refusal :=
  let s := s.begin
  after (if s.rill.state = .down ∨ s.rill.state = .loading then s
    else if done then
      (if s.rill.reloading then (s.loadMaps badC badU).releaseHeld else s)
    else if s.rill.reloading then s
    else (s.onRill fun x => { x with reloading := true }).fault Src.MAP_ENGINE .corrected)

/-! ### Flush, endurance, re-format (R160 to R163, R142) -/

/-- The close-out of an orderly shutdown up to its clean pointer record (R348, R352). -/
def State.cleanSeal (s : State) : State :=
  let s := (s.checkpoint true).onRill fun x => { x with state := .stopped }
  let s := (s.onRes fun r => { r with snapshot := r.blocks }).onPort fun h => { h with sealed := true }
  let s := s.pointerRec { manifestSeq := s.reg Reg.MANIFEST_SEQ, closed := true, shutdown := .clean }
  (s.setReg Reg.SERVICE_OPEN 0).onSeq fun x => { x with flush := none }

/-- FLUSH_REPORT (R160, R348): nothing is dirty and every wheel has closed. -/
def execFlushReport (s : State) : Host.Outcome State Fault Refusal :=
  let s := s.begin
  after (match s.seq.flush with
    | some (k, o) =>
      if s.rill.state = .flushing ∧ s.basin.dirtyBytes = 0 ∧ s.rill.captures = [] ∧ s.whl.lost = []
          ∧ [Stream.l, .f, .g, .c].all (fun st => (s.whl.openWheels st).isEmpty) then
        let s := s.cleanSeal
        match k with
        | .shutdown =>
          (match o with | some o => s.settle o St.SUCCESS 0 [] | none => s).powerDown
        | .reformat =>
          let s := s.enterMaintenance.setReg Reg.WRITE_SEQ 0
          s.onRill fun x => { x with
            state := .running, reformat := some ((s.reg Reg.FORMAT_EPOCH + 1) % 256)
            reformatCseq := (o.map (·.cseq)).getD 0 }
        | .bist =>
          let s := match o with | some o => s.settle o St.SUCCESS 0 [] | none => s
          ((s.enterMaintenance.setReg Reg.BIST_STATE 3).onMgmt fun m => { m with bistOff := true }).onBasin fun b =>
            { b with state := .held }
      else s
    | none => s)

/-- ENDURANCE_DAILY (R154, R162, R163). -/
def execEnduranceDaily (s : State) : Host.Outcome State Fault Refusal :=
  let s := s.begin
  after (if s.rill.state = .down ∨ s.rill.state = .loading then s
    else
      let avg := s.view Reg.ENDUR_PE_AVG
      let budget := s.view Reg.ENDUR_PE_BUDGET
      let day := s.reg Reg.DAY_OF_SERVICE
      let hist := (avg :: s.rill.peHistory).take 31
      let rate : Rat := if day < 30 then (avg : Rat) / Nat.max 1 day
        else ((avg : Rat) - (hist.getD 30 (hist.getLastD 0) : Nat)) / 30
      let proj : Rat := if rate = 0 then 65535 else ((budget : Rat) - avg) / rate
      let total : Rat := day + proj
      let target : Rat := s.reg Reg.ENDUR_LIFE_TARGET
      let w := min 1 (max 0 ((target - total) / (target / 4)))
      let s := if proj < 0 then s.putReg Reg.ENDUR_LIFE_PROJ (2 ^ 16) else s.putReg Reg.ENDUR_LIFE_PROJ proj.floor.toNat
      let s := s.setReg Reg.ENDUR_LIFE_USED (Nat.min 255 (ceilDiv (100 * avg) (Nat.max 1 budget)))
      let s := s.setReg Reg.ENDUR_WEAR_PRESSURE (w * 1024).floor.toNat
      let days := ((s.rill.gcNative, s.rill.gcHost) :: s.rill.gcDays).take 30
      let nat := sumOf (days.map (·.1))
      let hst := sumOf (days.map (·.2))
      let s := if hst = 0 then s else s.putReg Reg.WA_GC (1024 * nat / hst)
      let s := s.onRill fun x => { x with peHistory := hist, gcNative := 0, gcHost := 0, gcDays := days.take 29 }
      let s := if total < target then (s.fault Src.RILL .degraded).raise Ev.ENDURANCE_SHORT else s
      if budget ≤ avg then s.fault Src.RILL .degraded else s)

/-- REFORMAT's row of Table 14-4. -/
def specReformat : VSpec :=
  { op := 0xC230, transports := [0, 1, 2, 3], ok := classN, persist := fun _ _ => true, count := (· == 0) }

/-- REFORMAT (R142): the conditions, then the orderly shutdown up to its clean pointer record. -/
def runReformat (p : Pkt) (s : State) : State :=
  s.vendor specReformat p fun o s =>
    if s.port.committed ∨ s.view Reg.FORMAT_OLD_WHEELS ≠ 0 ∨ s.rill.state ≠ .running ∨ s.seq.flush.isSome then
      { s := s, status := St.INVALID_STATE }
    else { s := (s.onRill fun x => { x with state := .flushing }).onSeq fun x => { x with flush := some (.reformat, some o) },
           later := true }

/-- REFORMAT. -/
def execReformat (p : Pkt) (s : State) : Host.Outcome State Fault Refusal := after (runReformat p s.begin)

/-- Write one segment of the new epoch; a segment that reads zero and carries no poison stays unmapped (R142). -/
def State.rewriteSeg (s : State) (e seg : Nat) : Option State :=
  let all := BitVec.allOnes 512
  if (s.cellsOf seg all).isEmpty && (s.poisonIn seg all).isEmpty then some s
  else (State.placeWait .g 512 512 s []).map fun (spans, s) =>
    let (seq, s) := s.takeSeq
    let u : Run := { s.runOf seq seg .large all spans with epoch := e }
    let s := s.onRill fun x => { x with
      runs := x.runs ++ [u], large := match u.locOf 0 with
        | some l => mput seg { loc := l } x.large
        | none => x.large }
    s.onWhl fun x => x.noteSeq spans seq

/-- REFORMAT_REWRITE_COMPLETE (R142): the image under the new epoch, its full checkpoint, the switch, the restart. -/
def execReformatRewriteComplete (s : State) : Host.Outcome State Fault Refusal :=
  let s := s.begin
  after (match s.rill.reformat with
    | none => s
    | some e =>
      if s.dev ≠ .maintenance then s
      else
        let first := s.volBytes / 2 ^ 21
        let segs := (List.range (512 * s.extents)).map (first + ·)
        let start := s.onRill fun x => { x with large := [], fine := [] }
        match segs.foldl (fun o g => o.bind fun s => s.rewriteSeg e g) (some start) with
        | none => s
        | some s =>
          let s := (s.whl.openWheels .g).foldl (fun s n => (s.fillWheel n).closeWheel n) s
          let s := s.checkpoint true
          let s := s.nvGroup [.ckptLoc (s.reg Reg.CKPT_SEQ) 0 e, .restore { s.restoreRec with poisonFloor := 0 },
            .pointer { manifestSeq := s.reg Reg.MANIFEST_SEQ, closed := true, shutdown := .clean }]
          let s := (s.setReg Reg.FORMAT_EPOCH e).setReg Reg.POISON_FLOOR 0
          let s := s.onRill fun x => { x with reformat := none }
          let s := match s.cmd.owed.find? fun o => o.cseq == s.rill.reformatCseq with
            | some o => s.settle o St.SUCCESS 0 []
            | none => s
          s.coreRestart)

end Sys2Proof.Machine
end

