-- ==== Sys2Proof/Machine/Res.lean ====
section
/-! DEFINITION. The meanings of the Reservoir's commands (8), and of a strip program's end (5, 6). -/

namespace Sys2Proof.Machine

/-- FLASH_IDENTIFY (R242 to R245, R254 to R259): once the early mount has shown what is recorded. -/
def execFlashIdentify (found : List Target) (failed bad : List Nat) (bw : Nat) (s : State) : Host.Outcome State Fault Refusal :=
  let s := s.begin
  after (if s.dev = .bringup ∧ s.res.state = .identifying ∧ s.nv.early then s.identified found failed bad bw else s)

/-- The Reservoir reads. -/
def Reservoir.up (r : Reservoir) : Bool := decide (r.state = .running) || decide (r.state = .quiet)

/-- CODEWORD_READ (R143, R247 to R250). -/
def execCodewordRead (wheel column unit : Nat) (erased : Bool) (hit : Option Nat) (soft : Bool) (low high : Nat)
    (s : State) (crcBad : Bool := false) :
    Host.Outcome State Fault Refusal :=
  let s := s.begin
  after (if s.res.up && decide (unit < 16) then s.readCw wheel column unit erased hit soft crcBad low high else s)

/-- Bands that hold a block. -/
def Wheels.bandsWith (x : Wheels) (key : Nat) : List Band :=
  (x.bands.filter fun p => p.2.blocks.any fun q => q.key == key).map (·.2)

/-- Wheels of a band that hold a valid unit. -/
def State.bandWheels (s : State) (b : Band) : List Nat :=
  (s.whl.table.filter fun p => p.2.band == b.base && !(s.rill.validIn p.1).isEmpty).map (·.1)

/-- Passes of the retention scrub due on a block since its last program (R251, R252). -/
def State.scrubsDue (s : State) (key : Nat) : Nat :=
  let k := s.res.blk key
  (s.reg Reg.DAY_OF_SERVICE - k.progDay) * (if s.vaultBlock key then 4 else 1) / Nat.max 1 (s.reg Reg.RETENTION_PERIOD)

/-- The retention scrub takes a block (R251). -/
def State.scrubbed (s : State) (key : Nat) : Bool :=
  let k := s.res.blk key
  (if k.slc then (s.whl.bandsWith key).any fun b => s.vaultBlock key || !(s.bandWheels b).isEmpty
    else decide (k.state = .closed) || decide (k.state = .refresh))
    && decide (k.scrubs < s.scrubsDue key)

/-- The wheel and column of a block's strip of a row. -/
def Wheels.stripOf (x : Wheels) (key row : Nat) : Option (Nat × Nat) :=
  (x.bandsWith key).findSome? fun b =>
    ((List.range b.spokes.length).find? fun c => (b.spoke row c).any fun p => p.key == key).map fun c => (b.base * 512 + row, c)

/-- RETENTION_SCRUB (R251, R252, Table 8-5): a refresh target that fails within a day of its erase is a weak block. -/
def execRetentionScrub (key rber soft : Nat) (bad : List (Nat × Nat)) (s : State) :
    Host.Outcome State Fault Refusal :=
  let s := s.begin
  after (if s.res.state = .running ∧ s.scrubbed key then
      let k := s.res.blk key
      let s := s.onRes fun r => r.setBlk key { k with scrubs := s.scrubsDue key }
      let s := s.countReads key (s.res.part.rows k.slc * s.res.part.planes)
      let s := bad.foldl (fun s p => match s.whl.stripOf key p.1 with
        | some (n, c) => if p.2 < 16 then s.cwBad n c p.2 true else s
        | none => s) (s.cwSoft soft)
      let fails := decide (s.reg Reg.REFRESH_RBER < rber) || decide (0 < soft)
      if fails || !bad.isEmpty then
        let weak := fails && (s.whl.bandsWith key).any (fun b => decide (b.stream = .g))
          && decide (s.reg Reg.DAY_OF_SERVICE ≤ k.eraseDay + 1)
        let s := s.queueRefresh key
        if weak then s.badBlock key else s
      else s
    else s)

/-- BLOCK_REFRESH (R252, R264): the first queued block that neither truing nor reshape holds. -/
def execBlockRefresh (s : State) : Host.Outcome State Fault Refusal :=
  let s := s.begin
  after (if s.relocates ∧ s.res.state = .running then
      match s.res.refreshQ.find? fun k => (s.whl.bandsWith k).all fun b => !s.bandHeld b.base with
      | some k =>
        let ws := ((s.whl.bandsWith k).flatMap fun b => s.bandWheels b).filter fun n => !s.leaving n
        ((ws.foldl (fun o n => o.bind fun s => s.relocateWheel .refresh n) (some s)).getD s).eraseSpent
      | none => s
    else s)

/-- BLOCK_TABLE_SNAPSHOT (R254). -/
def execBlockTableSnapshot (s : State) : Host.Outcome State Fault Refusal :=
  let s := s.begin
  after (if s.res.state = .running then s.onRes fun r => { r with snapshot := r.blocks } else s)

/-- ERASE_COMPLETE (R249, R258, R262, Table 8-5): an erase suspended at an early warning does not end. -/
def execEraseComplete (key : Nat) (ok : Bool) (s : State) : Host.Outcome State Fault Refusal :=
  let s := s.begin
  after (if s.res.up ∧ (s.res.blk key).state = .erasing ∧ !s.res.eraseSuspended.contains key then
      let s := if ok then s.onRes fun r => r.erased key (s.reg Reg.DAY_OF_SERVICE) else s.badBlock key
      ((s.whl.bandsWith key).map (·.base)).foldl (fun s n => s.eraseDone n) s
    else s)

/-- TARGET_TIMEOUT (R256, R257): a LUN, or with `lun` none every LUN of a target. In PRE_SPILL and VAULTING a lost target
shows as slow spokes and is resolved after the vault. -/
def execTargetTimeout (port : Nat) (lun : Option Nat) (s : State) : Host.Outcome State Fault Refusal :=
  let s := s.begin
  after (if s.res.up ∧ s.dev ≠ .preSpill ∧ s.dev ≠ .vaulting ∧ s.res.serves port then
      let unit := match lun with
        | some l => port * 4 + l
        | none => 8192 + port
      let s := s.onRes fun r => { r with
        misses := (r.misses.filter fun p => decide (s.now < p.2 + 10000)) ++ [(unit, s.now)] }
      let c := port / 16
      let mates := (s.res.found.filter fun t => t.port / 16 == c && s.res.serves t.port).map (·.port)
      if mates.all (fun p => s.res.misses.any fun m => m.1 == 8192 + p && decide (s.now ≤ m.2 + 10)) then s.disableChannel c
      else if 3 ≤ (s.res.misses.filter fun m => m.1 == unit).length then
        (match lun with
          | some l => s.retireLun (port * 4 + l)
          | none => s.retireTarget port)
      else s
    else s)

/-- Note the time of an SLC-mode program of the landing buffer (R115). -/
def State.noteLanding (s : State) (w : Wheel) (port us : Nat) : State :=
  if w.slc ∧ (w.stream = .l ∨ w.stream = .f) then
    s.onWhl fun x => { x with landTimes := (x.landTimes.filter fun p => decide (s.now ≤ p.2.2 + 60000)) ++ [(port, us, s.now)] }
  else s

/-- STRIP_PROGRAM_DONE (R115, R147, R246, R291): `syndrome` says that the encoder's output failed its check; a program
slower than its bound is a slow event outside PRE_SPILL and VAULTING. -/
def execStripProgramDone (wheel column us : Nat) (s : State) (syndrome : Bool := false) :
    Host.Outcome State Fault Refusal :=
  let s := s.begin
  let s := if syndrome && s.res.up then s.fault Src.LDPC .fatal else s
  after (match s.whl.wheel wheel, (s.whl.bandOf wheel).bind fun b => b.1.spoke b.2 column with
    | some w, some p =>
      let nominal := if w.slc then s.res.part.tProgSlc else s.res.part.tProgNative
      let s := s.noteLanding w p.port us
      if s.dev = .preSpill ∨ s.dev = .vaulting ∨ !s.res.up ∨ us ≤ s.reg Reg.SLOW_SPOKE_FACTOR * nominal then s
      else
        let s := s.onWhl fun x => { x with
          slowEvents := (x.slowEvents.filter fun e => decide (s.now < e.2 + 1000 * s.reg Reg.SLOW_WINDOW)) ++ [(p.port, s.now)] }
        if s.reg Reg.SLOW_EVENTS_MAX ≤ (s.whl.slowEvents.filter fun e => e.1 == p.port).length then s.setSlow p.port true
        else s
    | _, _ => s)

/-- STRIP_PROGRAM_FAILED (R148, R189 to R191, Table 8-5). -/
def execStripProgramFailed (wheel column : Nat) (s : State) : Host.Outcome State Fault Refusal :=
  let s := s.begin
  after (match s.whl.wheel wheel, (s.whl.bandOf wheel).bind fun b => b.1.spoke b.2 column with
    | some w, some p =>
      if w.state ≠ .open_ ∨ !s.res.up then s
      else
        let s := s.badBlock p.key
        if w.stream = .v then (s.vErasure wheel column).fault Src.SPILLWAY .corrected
        else ((s.voidWheel wheel).endBand w.band).fault Src.RILL .corrected
    | _, _ => s)

end Sys2Proof.Machine
end

