-- ==== Sys2Proof/Machine/Erase.lean ====
section
/-! DEFINITION. The end of Sanitize, Secure Erase and Passphrase Secure Erase (2 R506, and what ends a hold: R101, R245,
R397, Table 7-4). -/

namespace Sys2Proof.Machine

/-- A block erased with the whole device: its ERASES stay, and a retired block is left as it is (R506). -/
def BlockRec.wiped (b : BlockRec) (day : Nat) : BlockRec :=
  if b.state = .retired then b else
    { b with
      state := .erased, band := none, reads := 0, scrubs := 0, low := 0, high := 0, entry := 0, fine := 0, slc := false,
      eraseDay := day }

/-- The flash is erased but for its retired blocks; ERASES and retirements stay (R506). -/
def Reservoir.wipe (r : Reservoir) (day : Nat) : Reservoir :=
  { r with
    blocks := r.blocks.map fun p => (p.1, p.2.wiped day)
    snapshot := r.snapshot.map fun p => (p.1, p.2.wiped day)
    misses := [], refreshQ := [], eraseSuspended := [] }

/-- No wheel, band, journal strip or lost record survives (R506). -/
def Wheels.wipe (x : Wheels) : Wheels :=
  { x with
    table := [], bands := [], l := {}, f := {}, g := {}, c := {}, v := {}, pending := [], journal := []
    trueQ := [], lost := [], folded := [], sets := x.sets.map fun p => (p.1, false), setNow := none }

/-- What R506 leaves of the device's records. -/
def State.eraseAll (s : State) : State :=
  let seq := s.reg Reg.CKPT_SEQ + 1
  let epoch := s.reg Reg.FORMAT_EPOCH
  let c : Ckpt := { seq := seq, full := true, base := seq, writeSeq := 0, epoch := epoch, cursors := [0, 0, 0, 0],
                    large := [], fine := [], heat := [] }
  let pending := s.whl.lost.map (·.1)
  let s := (s.onRes fun r => r.wipe (s.reg Reg.DAY_OF_SERVICE)).onWhl Wheels.wipe
  let s := (s.setReg Reg.CKPT_SEQ seq).setReg Reg.WRITE_SEQ 0
  let s := s.onRill fun x => { x with
    runs := [], large := [], fine := [], captures := [], relocs := [], ckpts := [c], mapped := 0, heldClosed := []
    reloading := false }
  let s := s.onBasin fun b => { b with dst := [], shadow := [], overflow := [], heat := [], cache := [], repair := [], token := {} }
  let s : State := { s with mem := [] }
  let s := s.onPort fun h => { h with poison := [] }
  let s := s.onSpill fun x => { x with manifests := [], runs := [], sanitizeIncomplete := false, released := [] }
  let s := s.onSip fun x => { x with chain := [], heat := [] }
  let p : PointerRec := { manifestSeq := s.reg Reg.MANIFEST_SEQ }
  let r : RestoreRec := { retiredSeq := s.reg Reg.MANIFEST_SEQ, dscSeq := s.restoreRec.dscSeq }
  let s := s.nvGroup [.ckptLoc seq 0 epoch, .pointer p, .restore r]
  let s := pending.foldl (fun s n => s.nvWrite (.lost n true)) s
  let s := ((s.setShutdown .none p.manifestSeq).setReg Reg.RETIRED_SEQ p.manifestSeq).setReg Reg.ACTIVE_SEQ 0
  [Reg.POISON_FLOOR, Reg.E_BYTE_MEAS, Reg.E_FIXED_MEAS, Reg.T_MEAS, Reg.T_MEAS_FLASH, Reg.L_MEAS].foldl
    (fun s id => s.setReg id 0) s

/-- Sanitize lays the NV Store out anew and ends NV_HOLD (R397, Table 13-6). -/
def State.layStore (s : State) : State :=
  if s.nv.state ≠ .hold then s
  else
    let s := s.onNv fun v => { v with
      state := .running, early := true, a := [], b := [], buf := [], held := [], headerA := .own, headerB := .own
      failedA := false, failedB := false, resync := false, logHead := 0, logUsed := 0, logFree := 360
      vaultHead := 0, vaultUsed := 0, vaultFree := 7, erasing := none, image0 := {}, image1 := {} }
    -- The Dirty Shutdown Count outlives it (Table 1-4).
    let c := s.reg Reg.DIRTY_SHUTDOWN_COUNT
    let s := ((s.mountConfig true).earlyRegs).mountCounters.mountRecorder.mountJournal.mountDomain
    if c = 0 then s else (s.nvDurable (.dsc c 0)).setReg Reg.DIRTY_SHUTDOWN_COUNT c

/-- The erase's journal entry completes; Passphrase Secure Erase and Secure Erase drop the user passphrase where theirs is
asked for (R430). -/
def State.eraseSettled (s : State) (cseq : Nat) : State :=
  let s := if s.port.eraseUser then (s.onPort fun h => { h with sec := h.sec.setPass false none }).saveSecurity else s
  let s := s.onPort fun h => { h with erasing := none, eraseUser := false }
  if cseq = 0 then s else (s.journalDone cseq St.SUCCESS 0).mirror cseq

/-- With no image left a population that stood in a hold serves (Table 3-8), and a flash in a hold is judged again (Tables
8-3, 8-7; log entry 108). -/
def State.holdsEnd (s : State) (bw : Nat) : State :=
  let s := if s.basin.state = .populationHold then s.acceptPop s.basin.found 3 else s
  if s.res.state = .hold then s.identified s.res.found s.res.failed [] bw else s

/-- SANITIZE_COMPLETE (R506): in MAINTENANCE the core domain restarts into BRINGUP (DEDUCED, log entry 37); in a hold the start goes
on; a sanitize that resumed at BRINGUP is followed by path 0x2 (Table 7-4). -/
def execSanitizeComplete (bw : Nat) (s : State) : Host.Outcome State Fault Refusal :=
  let s := s.begin
  after (match s.port.erasing with
    | none => s
    | some cseq =>
      let s := ((s.layStore.eraseAll).eraseSettled cseq)
      if s.dev = .maintenance then s.coreRestart
      else
        let s := s.holdsEnd bw
        if s.sip.path = 1 then (s.setReg Reg.RESTORE_PATH 2).onSip fun x => { x with path := 2 } else s)

end Sys2Proof.Machine
end

