-- ==== Sys2Proof/Machine/Faults.lean ====
section
/-! DEFINITION. The meanings of the fault collector's, the events' and the event recorder's commands (12). -/

namespace Sys2Proof.Machine

/-- FAULT_REPORT (R366 to R374): a report of a source with a severity code, a checker, and whether an injection made
it. -/
def execFaultReport (src sev chk : Nat) (inj : Bool) (s : State) : Host.Outcome State Fault Refusal :=
  let s := s.begin
  after (if 48 ≤ src ∨ !s.seq.aonUp ∨ (!s.seq.coreUp ∧ !aonSource src) then s
    else s.fault src (Sev.ofCode sev) chk inj)

/-- FC_STATUS_WRITE (R366). -/
def execFcStatusWrite (v : Nat) (s : State) : Host.Outcome State Fault Refusal :=
  after (s.begin.softWrite Reg.FC_STATUS v)

/-- FC_FIRST_CLEAR (R370). -/
def execFcFirstClear (s : State) : Host.Outcome State Fault Refusal := after (s.begin.softWrite Reg.FC_FIRST (2 ^ 9))

/-- FC_QUIET_EXPIRY (R375, R376): the quiet period counts from step 6 when a vault runs. -/
def execFcQuietExpiry (s : State) : Host.Outcome State Fault Refusal :=
  let s := s.begin
  after (if s.reg Reg.FC_IN_FAULT = 0 ∨ s.fc.state ≠ .stopped ∨ s.dev = .vaulting then s
    else if s.reg Reg.FC_RECOVERY_LIMIT ≤ s.recentExits then s.onFc fun x => { x with state := .limited }
    else s.faultExit 0)

/-- FAULT_RESTART's row of Table 14-4. -/
def specFaultRestart : VSpec :=
  { op := 0xC240, transports := [0, 1, 2, 3, 4], aon := true
    ok := fun s => decide (s.reg Reg.FC_IN_FAULT = 1) && decide (s.dev ≠ .preSpill)
    persist := fun _ _ => true, count := (· == 0) }

/-- Take an exit that FAULT_RESTART asked for, once its reply has gone (R376). -/
def State.restartAsked (s : State) : State :=
  if s.fc.restartWaits ∧ s.dev ≠ .vaulting then s.faultExit 1 else s

/-- FAULT_RESTART (R376). -/
def runFaultRestart (p : Pkt) (s : State) : State :=
  (s.vendor specFaultRestart p fun _ s => { s := s.onFc fun x => { x with restartWaits := true } }).restartAsked

/-- FAULT_RESTART. -/
def execFaultRestart (p : Pkt) (s : State) : Host.Outcome State Fault Refusal := after (runFaultRestart p s.begin)

/-- FI_CTRL_WRITE (R377): any write that arms, out of ONLINE and MAINTENANCE or with an injection armed, is rejected. -/
def execFiCtrlWrite (v : Nat) (s : State) : Host.Outcome State Fault Refusal :=
  let s := s.begin
  after (if s.fiAccepts ∧ valueOk Reg.FI_CTRL v then s.softWrite Reg.FI_CTRL v else s)

/-- INJECTION_DONE (R377): the last operation has been checked. -/
def execInjectionDone (s : State) : Host.Outcome State Fault Refusal :=
  let s := s.begin
  after (match s.fc.armed with
    | none => s
    | some v =>
      let s := (s.record .injection 0x1FF [v, s.fc.injReports]).2
      s.disarm.raise Ev.INJECTION_DONE)

/-- EV_STATUS_WRITE (R379). -/
def execEvStatusWrite (k v : Nat) (s : State) : Host.Outcome State Fault Refusal :=
  after (if k < 6 then s.begin.softWrite (Reg.EV_STATUS + k) v else s.begin)

/-- Send the messages held for a vector of a logical device's PF1, as one, if it can be delivered and an event among them
is still set and unmasked (R381). -/
def State.deliverHeld (s : State) (ld v : Nat) : State :=
  if !canDeliver s ld v then s
  else
    let live := (s.port.fn1 ld).msix.held.any fun h => h.1 == v && evBit s Reg.EV_STATUS h.2 && !evBit s Reg.EV_MASK h.2
    let s := s.onPf1 ld fun p => { p with msix := { p.msix with held := p.msix.held.filter fun h => h.1 != v } }
    if live then s.emit (.msix ld v) else s

/-- HELD_MSIX_DELIVERY (R381): MSI-X of a logical device's PF1 is enabled with `masked` the vectors masked in its table; one
message per vector that can be delivered, for events still set and unmasked. -/
def execHeldMsixDelivery (masked : List Nat) (s : State) (ld : Nat := 0) : Host.Outcome State Fault Refusal :=
  let s := s.begin
  let s := if s.seq.coreUp then s.onPf1 ld fun p => { p with msix := { p.msix with
      enable := true, funcMask := false, masked := masked } }
    else s
  after ((((s.port.fn1 ld).msix.held.map (·.1)).eraseDups).foldl (fun s v => s.deliverHeld ld v) s)

/-- EV_ALERT_INTERVAL_EXPIRY (R383). -/
def execEvAlertIntervalExpiry (n : Nat) (s : State) : Host.Outcome State Fault Refusal :=
  let s := s.begin
  let k := mget 0 s.fc.alertRecur n
  after (if k = 0 ∨ !s.seq.aonUp then s
    else (s.emit (.alert n 0 s.dev.code k)).onFc fun x => { x with
      alertLast := mput n (s.now + 1) x.alertLast, alertRecur := mset 0 x.alertRecur n 0 })

/-- Queue the RECORDS_LOST record that is due (R384, R386). -/
def State.recordLost (s : State) : State :=
  if (s.rec_.gap.isNone ∧ s.rec_.lostNoSeq = 0) ∨ 1024 ≤ s.rec_.queue.length then s
  else
    let (a, b) := s.rec_.gap.getD (0, 0)
    match s.record .recordsLost Ev.RECORDS_LOST [a, b, s.rec_.lostNoSeq % 2 ^ 32] with
    | (none, s) => s
    | (some q, s) => (s.onRec fun x => { x with gap := none, lostNoSeq := 0 }).raise Ev.RECORDS_LOST q

/-- RECORD_QUEUE_WRITE (R385 to R387). -/
def execRecordQueueWrite (s : State) : Host.Outcome State Fault Refusal :=
  let s := s.begin
  let recent := s.rec_.writes.filter fun t => decide (s.now < t + 1000)
  after (if s.recWindow ∨ !(decide (s.nv.state = .running) || decide (s.nv.state = .quiet))
      ∨ s.reg Reg.REC_RATE_MAX ≤ recent.length then s
    else ((s.onRec fun x => { x with writes := recent }).writeRecord).recordLost)

/-- REC_CURSOR_WRITE (R389). -/
def execRecCursorWrite (v : Nat) (s : State) : Host.Outcome State Fault Refusal :=
  after (s.begin.softWrite Reg.REC_CURSOR (v % 2 ^ 48))

/-- REC_ADVANCE (R389). -/
def execRecAdvance (s : State) : Host.Outcome State Fault Refusal := after (s.begin.softWrite Reg.REC_ADVANCE 1)

/-- One bit of the recorder's CRC-16: polynomial 0x1021, not reflected (Table 12-11). -/
def crc16Bits : Nat → Nat → Nat
  | 0, c => c
  | n + 1, c => crc16Bits n ((if bit c 15 then (2 * c) ^^^ 0x1021 else 2 * c) % 65536)

/-- CRC-16 over bytes, initial value 0xFFFF, no final XOR (Table 12-11). -/
def crc16 (bs : List Nat) : Nat := bs.foldl (fun c b => crc16Bits 8 (c ^^^ (b * 256))) 0xFFFF

/-- The two header words of a record as stored (Table 12-11). -/
def Rec.header (r : Rec) (trunc : Bool) : List Nat :=
  let b1 := r.plen + at' (b2n trunc) 5
  let head := b1 :: bytesOf r.type.code 2 ++ bytesOf r.seq 6
  let tail := bytesOf r.event 2 ++ [r.state, 0]
  let crc := crc16 (head ++ tail ++ r.payload.flatMap fun w => bytesOf w 8)
  let all := 0xA5 :: head ++ bytesOf crc 2 ++ tail
  [ofBytes (all.take 8), ofBytes (all.drop 8)]

/-- EVREC_READ's row of Table 14-4. -/
def specEvrecRead : VSpec :=
  { op := 0xC241, transports := [0, 1, 2, 3, 4], aon := true, status := true, journal := false, count := (· == 1) }

/-- EVREC_READ (R391): the AON endpoint serves it from the pinned area alone. -/
def runEvrecRead (p : Pkt) (s : State) : State :=
  s.vendor specEvrecRead p fun _ s =>
    let x : Recorder := if s.aonServes then { s.rec_ with circ := [] } else s.rec_
    match x.atOrAbove (p.slots.headD 0) with
    | none => { s := s, status := St.NONE }
    | some (w, r) =>
      let cut := match w with
        | .pin _ => r.truncated
        | _ => false
      { s := s, slots := r.header cut ++ r.payload }

/-- EVREC_READ. -/
def execEvrecRead (p : Pkt) (s : State) : Host.Outcome State Fault Refusal := after (runEvrecRead p s.begin)

end Sys2Proof.Machine
end

