-- ==== Sys2Proof/Machine/Mgmt.lean ====
section
/-! DEFINITION. The meanings of the management, clock, thermal, ageing, firmware, BIST and AON power commands (16, and
R506 of 2). -/

namespace Sys2Proof.Machine

/-! ### Restarts and start (R466 to R469, R478, R484) -/

/-- LOCKSTEP_MISMATCH (R467). -/
def execLockstepMismatch (s : State) : Host.Outcome State Fault Refusal := after s.begin.mgmtRestart

/-- WATCHDOG_EXPIRY (R467). -/
def execWatchdogExpiry (s : State) : Host.Outcome State Fault Refusal := after s.begin.mgmtRestart

/-- MGMT_SRAM_DOUBLE_BIT_ERROR (R467, R488): `journal` names the entries of the affected line, in the journal region. -/
def execMgmtSramDoubleBitError (journal : Option (List Nat)) (s : State) : Host.Outcome State Fault Refusal :=
  let s := s.begin
  after (if !s.seq.coreUp then s
    else
      let s := s.fault Src.MGMT_SRAM .contained
      match journal with
      | some l => s.onCmd fun x => { x with journal := x.journal.filter fun e => !l.contains e.cseq }
      | none => s.mgmtRestart)

/-- MGMT_RUNNING (R467, R484). -/
def execMgmtRunning (genuine : Bool) (s : State) : Host.Outcome State Fault Refusal := after (s.begin.mgmtRuns genuine)

/-- BOOT_ROM_START (R478): once FW_BOOT is resolved (R477). -/
def execBootRomStart (okA okB : Bool) (s : State) : Host.Outcome State Fault Refusal :=
  let s := s.begin
  after (if s.mgmt.state = .bootRom ∧ !s.mgmt.started ∧ !s.mgmt.recovery ∧ s.nv.early then s.bootRom okA okB else s)

/-- ACTIVATION_TIMEOUT (R484). -/
def execActivationTimeout (s : State) : Host.Outcome State Fault Refusal := after s.begin.activationFailed

/-! ### Clocks, counters, temperature, ageing (R470, R473 to R475, R479, R481) -/

/-- A clock newly lost (Table 16-2). -/
def State.clockLost (s : State) (n : Nat) : State :=
  if n = 0 ∨ n = 2 then s.fault Src.CLOCKS .fatal
  else if n = 1 ∨ n = 3 ∨ n = 27 then s.fault Src.CLOCKS .degraded
  else if n ≤ 11 then ((s.loseModule (n - 4) 0).loseModule (n - 4) 1).fault Src.CLOCKS .fatal
  else if n ≤ 19 then
    ((List.range 4).foldl (fun s i => s.disableChannel (4 * (n - 12) + i)) s).fault Src.CLOCKS .degraded
  else if n = 20 then
    let s := if s.port.up then s.portReset.onPort fun h => { h with
        up := false, width := 0, rate := 0, flit256 := false, lowLat := false, memCapable := false }
      else s
    (s.fault Src.HOST_LINK .log).fault Src.CLOCKS .log
  else if n ≤ 26 then (s.mirDown (n - 21)).fault Src.CLOCKS .log
  else s

/-- CLOCK_CHECK_WINDOW (R473): `lost` holds a bit for each of the 28 clocks. -/
def execClockCheckWindow (lost : Nat) (s : State) : Host.Outcome State Fault Refusal :=
  let s := s.begin
  after (if !s.seq.coreUp then s
    else
      let new := setBits (clearBits (lost % 2 ^ 28) (s.reg Reg.CLOCK_STATUS)) 28
      new.foldl (fun s n => s.clockLost n) (s.setReg Reg.CLOCK_STATUS (lost % 2 ^ 28)))

/-- A temperature as an 8-bit two's complement register shows it. -/
def temp8 (t : Int) : Nat := (t % 256).toNat

/-- The temperature an 8-bit register shows. -/
def temp8Of (v : Nat) : Int := if v < 128 then v else (v : Int) - 256

/-- THERMAL_SAMPLE (R475): the eight sensors, °C. -/
def execThermalSample (t : List Int) (s : State) : Host.Outcome State Fault Refusal :=
  let s := s.begin
  after (if !s.seq.coreUp ∨ t.length ≠ 8 then s
    else
      let hot := t.foldl (fun a b => if a < b then b else a) (t.headD 0)
      let s := t.zipIdx.foldl (fun s p => s.setReg (Reg.DIE_SENSOR + p.2) (temp8 p.1)) s
      let s := s.setReg Reg.TJ_NOW (temp8 hot)
      let s := if temp8Of (s.reg Reg.TJ_PEAK) < hot then s.setReg Reg.TJ_PEAK (temp8 hot) else s
      let warn : Int := s.reg Reg.TJ_WARN
      let crit : Int := s.reg Reg.TJ_CRIT
      let s := if s.mgmt.tjWarn then
          (if hot ≤ warn - 5 then s.onMgmt fun m => { m with tjWarn := false } else s)
        else if warn ≤ hot then (s.onMgmt fun m => { m with tjWarn := true }).fault Src.THERMAL .degraded else s
      if s.mgmt.tjCrit then (if hot < crit then s.onMgmt fun m => { m with tjCrit := false } else s)
      else if crit ≤ hot then (s.onMgmt fun m => { m with tjCrit := true }).fault Src.THERMAL .fatal else s)

/-- The ageing monitors hold their last values: the partition in hand is their own (R486). -/
def State.ageHeld (s : State) : Bool :=
  decide (s.cmd.bist.state = .running) && s.mgmt.bistLeft.head? == some 13

/-- AGE_PERIOD_EXPIRY (R479): the slack of the 12 path-delay monitors, ps. -/
def execAgePeriodExpiry (slacks : List Nat) (s : State) : Host.Outcome State Fault Refusal :=
  let s := s.begin
  after (if s.mgmt.state ≠ .running ∨ slacks.length ≠ 12 then s
    else
      let s := if s.ageHeld then s
        else slacks.zipIdx.foldl (fun s p => s.setReg (Reg.PATH_DELAY + p.2) (Nat.min 1023 p.1)) s
      let least := minOf 1023 ((List.range 12).map fun i => s.reg (Reg.PATH_DELAY + i))
      let now := s.reg Reg.VCORE_NOW
      let step := s.reg Reg.VCORE_STEP
      let s := s.setReg Reg.AGE_SLACK_MIN least
      let low := decide (least < s.reg Reg.AGE_SLACK_LOW)
      let s := if low then s.putReg Reg.VCORE_TARGET (now + step)
        else if s.reg Reg.AGE_SLACK_HIGH < least then s.putReg Reg.VCORE_TARGET (now - step) else s
      let s := if low && decide (s.reg Reg.VCORE_MAX ≤ now) then s.fault Src.AGEING_MON .degraded else s
      if least ≤ s.reg Reg.AGE_SLACK_FATAL then s.fault Src.AGEING_MON .fatal else s)

/-- DRAM_TREND_DAILY (R481): the day's count of each rank joins its 30 days; a projection below DRAM_TREND_DAYS is
reported and asks for the spare rank. The slope's rule is free. -/
def execDramTrendDaily (s : State) : Host.Outcome State Fault Refusal :=
  let s := s.begin
  after (if s.mgmt.state ≠ .running then s
    else
      let today := s.lastDay s.basin.rankErrs
      let ranks := ((today.map (·.1)) ++ s.mgmt.ceDaily.map (·.1)).eraseDups
      ranks.foldl (fun s r =>
        let l := ((today.filter fun p => p.1 == r).length :: mget [] s.mgmt.ceDaily r).take 30
        let s := s.onMgmt fun m => { m with ceDaily := mput r l m.ceDaily }
        if Config.trendProjection l (s.reg Reg.RANK_CE_LIMIT) < s.reg Reg.DRAM_TREND_DAYS then
          let s := s.fault Src.AGEING_MON .log (words := [r])
          if s.reg Reg.RANK_SPARE_ENABLE = 1 then s.askSpare r else s
        else s) s)

/-- DAY_OF_SERVICE_TICK (R470). -/
def execDayOfServiceTick (s : State) : Host.Outcome State Fault Refusal :=
  let s := s.begin
  after (if s.seq.aonUp then s.addReg Reg.DAY_OF_SERVICE 1 else s)

/-- COUNTER_LATCH (R474). -/
def execCounterLatch (v : Nat) (s : State) : Host.Outcome State Fault Refusal :=
  let s := s.begin
  after (if v % 2 = 1 then s.softWrite Reg.COUNTER_LATCH 1 else s)

/-! ### Firmware commands (R482 to R484, Table 16-6) -/

/-- FW_INFO's row of Table 16-6. -/
def specFwInfo : VSpec := specStatus 0xC400 0

/-- FW_INFO: active slot, VERSION and SVN of both slots, FW_SVN_MIN, FW_LAST_RESULT; what the AON domain does not hold
reads 0 with the core domain off, as in R427. -/
def runFwInfo (p : Pkt) (s : State) : State :=
  s.vendor specFwInfo p fun _ s =>
    let m := s.mgmt
    let l := [m.active, fwField m.slotA 4 6, m.svn 0, fwField m.slotB 4 6, m.svn 1, s.reg Reg.FW_SVN_MIN,
      s.reg Reg.FW_LAST_RESULT]
    { s := s, slots := if s.seq.coreUp then l else l.map fun _ => 0 }

/-- FW_INFO. -/
def execFwInfo (p : Pkt) (s : State) : Host.Outcome State Fault Refusal := after (runFwInfo p s.begin)

/-- FW_WRITE's row of Table 16-6. -/
def specFwWrite : VSpec :=
  { op := 0xC401, transports := [0, 1, 2, 3], ok := classO, count := fun n => decide (1 ≤ n ∧ n ≤ 511) }

/-- FW_WRITE (R483): six image bytes a slot; the bytes beyond the slot's end are ignored. -/
def runFwWrite (p : Pkt) (s : State) : State :=
  s.vendor specFwWrite p fun _ s =>
    let w := p.slots.headD 0
    let n := w % 2
    let at_ := field w 47 8
    if field w 7 1 ≠ 0 ∨ slotBytes ≤ at_ then { s := s, status := St.INVALID_FIELD }
    else if n = s.mgmt.active ∨ s.pldmBusy ∨ s.mgmt.activation.isSome then { s := s, status := St.INVALID_STATE }
    else
      let bytes := ((p.slots.drop 1).flatMap fun v => bytesOf v 6).take (slotBytes - at_)
      { s := s.onMgmt fun m => m.onSlot n fun img => imgPuts img at_ bytes }

/-- FW_WRITE. -/
def execFwWrite (p : Pkt) (s : State) : Host.Outcome State Fault Refusal := after (runFwWrite p s.begin)

/-- FW_VERIFY's row of Table 16-6. -/
def specFwVerify : VSpec := { op := 0xC402, transports := [0, 1, 2, 3], ok := classO, count := (· == 1) }

/-- FW_VERIFY (R482): a failed check reads in FW_LAST_RESULT. -/
def runFwVerify (genuine : Bool) (p : Pkt) (s : State) : State :=
  s.vendor specFwVerify p fun _ s =>
    let n := p.slots.headD 0
    if 2 ≤ n then { s := s, status := St.INVALID_FIELD }
    else
      let r := s.slotCheck n genuine
      { s := if r = 0 then s else s.setReg Reg.FW_LAST_RESULT r }

/-- FW_VERIFY. -/
def execFwVerify (p : Pkt) (genuine : Bool) (s : State) : Host.Outcome State Fault Refusal :=
  after (runFwVerify genuine p s.begin)

/-- FW_ACTIVATE's row of Table 16-6. -/
def specFwActivate : VSpec :=
  { op := 0xC403, transports := [0, 1, 2, 3, 4], ok := classN, persist := fun _ _ => true, count := (· == 0) }

/-- FW_ACTIVATE (R484). -/
def runFwActivate (p : Pkt) (s : State) : State :=
  s.vendor specFwActivate p fun o s =>
    if s.mgmt.activation.isSome ∨ s.pldmBusy then { s := s, status := St.INVALID_STATE } else s.activate o false

/-- FW_ACTIVATE. -/
def execFwActivate (p : Pkt) (s : State) : Host.Outcome State Fault Refusal := after (runFwActivate p s.begin)

/-! ### PLDM for Firmware Update (R483, R484) -/

/-- QUERY_DEVICE_IDENTIFIERS (R483): the PCI vendor of the device's identifiers is not stated: a free word. -/
def execQueryDeviceIdentifiers (transport : Nat) (s : State) : Host.Outcome State Fault Refusal :=
  after (s.begin.pldmReq transport fun s =>
    let (id, s) := s.free 0x4816
    s.pldmRsp 0x01 0 [id])

/-- GET_FIRMWARE_PARAMETERS (R483): one component, 0x4816, with the active image's and the other slot's VERSION. -/
def execGetFirmwareParameters (transport : Nat) (s : State) : Host.Outcome State Fault Refusal :=
  after (s.begin.pldmReq transport fun s =>
    let m := s.mgmt
    s.pldmRsp 0x02 0 [0x4816, fwField (m.slot m.active) 4 6, fwField (m.slot (1 - m.active)) 4 6])

/-- REQUEST_UPDATE (R483): `max` is the largest transfer. Never while a vendor activation is in hand. -/
def execRequestUpdate (transport max : Nat) (s : State) : Host.Outcome State Fault Refusal :=
  after (s.begin.pldmReq transport fun s =>
    if s.pldmBusy then s.pldmRsp 0x10 0x81
    else if s.mgmt.activation.isSome then s.pldmRsp 0x10 0x8A
    else ((s.pldmTo .learn).onMgmt fun m => { m with pldmMax := max }).pldmRsp 0x10 0 [0, 0])

/-- PASS_COMPONENT_TABLE (R483): `last` is the end of the table, `id` the component; another one is not supported. -/
def execPassComponentTable (transport id : Nat) (last : Bool) (s : State) : Host.Outcome State Fault Refusal :=
  after (s.begin.pldmReq transport fun s =>
    if !s.pldmBusy then s.pldmRsp 0x13 0x80
    else if s.mgmt.pldm ≠ .learn then s.pldmRsp 0x13 0x84
    else (if last then s.pldmTo .ready else s).pldmRsp 0x13 0 (if id = 0x4816 then [0, 0] else [1, 6]))

/-- UPDATE_COMPONENT (R483): the inactive slot is erased for the image, and its first bytes are asked for. -/
def execUpdateComponent (transport id size : Nat) (s : State) : Host.Outcome State Fault Refusal :=
  after (s.begin.pldmReq transport fun s =>
    if !s.pldmBusy then s.pldmRsp 0x14 0x80
    else if s.mgmt.pldm ≠ .ready then s.pldmRsp 0x14 0x84
    else if id ≠ 0x4816 then s.pldmRsp 0x14 0 [1, 6]
    else if slotBytes < size then s.pldmRsp 0x14 0x82
    else
      let s := (s.pldmTo .download).onMgmt fun m =>
        { m.onSlot (1 - m.active) fun _ => [] with pldmAt := 0, pldmSize := size }
      (s.pldmRsp 0x14 0 [0, 0]).pldmNext)

/-- REQUEST_FIRMWARE_DATA (R483): the response to it, with the image's next bytes; an error has it asked again. -/
def execRequestFirmwareData (transport cc : Nat) (data : List Nat) (s : State) : Host.Outcome State Fault Refusal :=
  after (s.begin.pldmReq transport fun s =>
    if s.mgmt.pldm ≠ .download ∨ s.mgmt.pldmSize ≤ s.mgmt.pldmAt then s
    else if cc ≠ 0 then s.pldmNext
    else
      let m := s.mgmt
      let d := data.take (Nat.min (Nat.max 32 m.pldmMax) (m.pldmSize - m.pldmAt))
      (s.onMgmt fun m => { m.onSlot (1 - m.active) fun img => imgPuts img m.pldmAt d with
        pldmAt := m.pldmAt + d.length }).pldmNext)

/-- TRANSFER_COMPLETE (R482, R483): the response to it; the image is checked and the verdict sent. -/
def execTransferComplete (transport : Nat) (genuine : Bool) (s : State) : Host.Outcome State Fault Refusal :=
  after (s.begin.pldmReq transport fun s =>
    if s.mgmt.pldm ≠ .download ∨ s.mgmt.pldmAt < s.mgmt.pldmSize then s
    else
      let r := s.slotCheck (1 - s.mgmt.active) genuine
      let s := s.pldmTo .verify
      if r = 0 then s.emit (.pldm 0x17 0 [0])
      else ((s.setReg Reg.FW_LAST_RESULT r).onMgmt fun m => { m with pldmSize := 0, pldmAt := 0 }).emit (.pldm 0x17 0 [1]))

/-- VERIFY_COMPLETE (R483): the response to it; an image in order is applied. -/
def execVerifyComplete (transport : Nat) (s : State) : Host.Outcome State Fault Refusal :=
  after (s.begin.pldmReq transport fun s =>
    if s.mgmt.pldm ≠ .verify ∨ s.mgmt.pldmSize = 0 then s
    else (s.pldmTo .apply).emit (.pldm 0x18 0 [0, 0]))

/-- APPLY_COMPLETE (R478, R483): the response to it; the image stands in the slot. In recovery mode it is started at
once. -/
def execApplyComplete (transport : Nat) (s : State) : Host.Outcome State Fault Refusal :=
  after (s.begin.pldmReq transport fun s =>
    if s.mgmt.pldm ≠ .apply then s
    else if s.mgmt.recovery then
      let n := 1 - s.mgmt.active
      ((s.pldmTo .idle).nvDurable (.fwBoot n false)).startSlot n
    else s.pldmTo .ready)

/-- ACTIVATE_FIRMWARE (R484): `now` asks for the self-contained activation; without it there is none to wait for. -/
def execActivateFirmware (transport : Nat) (now : Bool) (s : State) : Host.Outcome State Fault Refusal :=
  after (s.begin.pldmReq transport fun s =>
    if !s.pldmBusy then s.pldmRsp 0x1A 0x80
    else if s.mgmt.pldm ≠ .ready then s.pldmRsp 0x1A 0x84
    else if s.mgmt.pldmSize = 0 then s.pldmRsp 0x1A 0x85
    else if !now then (s.pldmTo .idle).pldmRsp 0x1A 0 [0]
    else if s.dev ≠ .online ∨ s.mgmt.activation.isSome then
      (s.setReg Reg.FW_LAST_RESULT 5).pldmRsp 0x1A 1
    else
      let d := s.activate firmwareOwed true
      if d.status ≠ St.SUCCESS then d.s.pldmRsp 0x1A 1 else d.s.pldmTo .activate)

/-- PLDM_GET_STATUS (R483): current and previous state. -/
def execPldmGetStatus (transport : Nat) (s : State) : Host.Outcome State Fault Refusal :=
  after (s.begin.pldmReq transport fun s => s.pldmRsp 0x1B 0 [s.mgmt.pldm.code, s.mgmt.pldmPrev.code])

/-- CANCEL_UPDATE_COMPONENT (R483). -/
def execCancelUpdateComponent (transport : Nat) (s : State) : Host.Outcome State Fault Refusal :=
  after (s.begin.pldmReq transport fun s =>
    match s.mgmt.pldm with
    | .idle => s.pldmRsp 0x1C 0x80
    | .download | .verify | .apply =>
      ((s.pldmTo .ready).onMgmt fun m => { m with pldmSize := 0, pldmAt := 0 }).pldmRsp 0x1C 0
    | .learn | .ready | .activate => s.pldmRsp 0x1C 0x84)

/-- CANCEL_UPDATE (R483). -/
def execCancelUpdate (transport : Nat) (s : State) : Host.Outcome State Fault Refusal :=
  after (s.begin.pldmReq transport fun s =>
    if !s.pldmBusy then s.pldmRsp 0x1D 0x80
    else if s.mgmt.pldm = .activate then s.pldmRsp 0x1D 0x84
    else ((s.pldmTo .idle).onMgmt fun m => { m with pldmSize := 0, pldmAt := 0 }).pldmRsp 0x1D 0 [0, 0])

/-! ### BIST (R485 to R487) -/

/-- BIST_RUN's row of Table 16-6. -/
def specBistRun : VSpec :=
  { op := 0xC480, transports := [0, 1, 2, 3], ok := classN, persist := fun _ _ => true, count := (· == 1) }

/-- BIST_RUN (R486, R487): on line as BIST_ONLINE, or off line after an orderly shutdown. -/
def runBistRun (p : Pkt) (s : State) : State :=
  s.vendor specBistRun p fun o s =>
    let w := p.slots.headD 0
    let l := setBits (w % 65536) 16
    if 65536 ≤ w ∨ l = [] then { s := s, status := St.INVALID_FIELD }
    else if s.mgmt.bistLeft ≠ [] then { s := s, status := St.INVALID_STATE }
    else if l.all bistOnline then
      let d := s.actRequest 8 o
      if d.status ≠ St.SUCCESS then d else { d with s := d.s.onMgmt fun m => { m with bistLeft := l } }
    else if s.port.committed ∨ s.rill.state ≠ .running ∨ s.seq.flush.isSome then { s := s, status := St.INVALID_STATE }
    else
      let s := (s.setReg Reg.BIST_STATE 2).onMgmt fun m => { m with bistLeft := l }
      { s := (s.onRill fun x => { x with state := .flushing }).onSeq fun x => { x with flush := some (.bist, some o) },
        later := true }

/-- BIST_RUN. -/
def execBistRun (p : Pkt) (s : State) : Host.Outcome State Fault Refusal := after (runBistRun p s.begin)

/-- BIST_STATUS's row of Table 16-6. -/
def specBistStatus : VSpec :=
  { op := 0xC481, transports := [0, 1, 2, 3, 4], status := true, journal := false, count := (· == 0) }

/-- BIST_STATUS: BIST_STATE, BIST_PASS, BIST_FAIL_MASK, the 16 signatures. -/
def runBistStatus (p : Pkt) (s : State) : State :=
  s.vendor specBistStatus p fun _ s =>
    { s := s, slots := [s.reg Reg.BIST_STATE, s.reg Reg.BIST_PASS, s.reg Reg.BIST_FAIL_MASK]
        ++ (List.range 16).map fun n => s.reg (Reg.BIST_SIG + n) }

/-- BIST_STATUS. -/
def execBistStatus (p : Pkt) (s : State) : Host.Outcome State Fault Refusal := after (runBistStatus p s.begin)

/-- BIST_PARTITION_DONE (R485 to R487): the partition in hand ends with a signature. -/
def execBistPartitionDone (sig : Nat) (s : State) : Host.Outcome State Fault Refusal :=
  let s := s.begin
  after (match s.mgmt.bistLeft with
    | [] => s
    | n :: rest =>
      let off := s.mgmt.bistOff && decide (s.dev = .maintenance)
      let on := !s.mgmt.bistOff && decide (s.cmd.bist.state = .running)
      if !off && !on then s
      else
        let s := (s.bistResult n sig).onMgmt fun m => { m with bistLeft := rest }
        if rest ≠ [] then s
        else if off then s.bistRestart
        else (s.setReg Reg.BIST_STATE 0).actEnd 8)

/-! ### AON power and I3C (R470, R471, R496) -/

/-- ENTDAA (R471). -/
def execEntdaa (addr : Nat) (s : State) : Host.Outcome State Fault Refusal :=
  let s := s.begin
  after (if s.seq.aonUp ∧ addr < 128 then s.onMgmt fun m => { m with i3c := some addr } else s)

/-- AON_POWER_UP (R470, R347, Tables 11-10, 13-6): the AON domain supervises, the ports are identified. -/
def execAonPowerUp (s : State) : Host.Outcome State Fault Refusal :=
  let s := s.begin
  after (if s.dev ≠ .off then s
    else
      let s := (s.onSeq fun x => { x with aonUp := true }).onNv fun v => { v with state := .aonRead }
      s.setDev .aonOnly)

/-- A register of the AON domain that its reset clears (R470). -/
def aonKeeps (id : Nat) : Bool :=
  geomReg id || (match accessOf id with
    | some .rop | some .rwp | some .rwsp => true
    | _ => false)

/-- What the loss of AON power leaves (R470, R330): what stands on flash and in the NV Store. A learned record pending is
lost, and its learn is asked for again. -/
def State.aonLost (s : State) : State :=
  let pend := fun (i : PortId) => (s.cist.port i).pendingRec.isSome
  let was := s.dev.code
  let t := s.coreOff false
  let t := { t with
    dev := .off, prev := .off, cold := some was, fc := {}
    rec_ := { circ := t.rec_.circ, head := t.rec_.head, pinned := t.rec_.pinned, durable := t.rec_.durable }
    nv := { t.nv with state := .down }
    cmd := {}
    cist := { a := { relearnRec := pend .a }, b := { relearnRec := pend .b } }
    basin := { t.basin with state := .down, token := {} }
    spill := { t.spill with present := false, warned := false, failA := false, failB := false, disagree := false }
    sip := {}
    mgmt := { t.mgmt with i3c := none }
    seq := { lostOpen := s.seq.lostOpen || decide (s.reg Reg.SERVICE_OPEN ≠ 0) }
    regs := t.regs.filter fun p => aonKeeps p.1 }
  let t := if pend .a then t.setReg Reg.LEARN_RESULT_A 5 else t
  if pend .b then t.setReg (Reg.LEARN_RESULT_A + 1) 5 else t

/-- AON_POWER_LOSS (R470, R496). -/
def execAonPowerLoss (s : State) : Host.Outcome State Fault Refusal :=
  let s := s.begin
  after (if s.seq.aonUp then s.aonLost else s)

end Sys2Proof.Machine
end

