-- ==== Sys2Proof/Machine/Seq.lean ====
section
/-! DEFINITION. The sequencer's steps under way, the reactions to PG drops, and the meanings of its commands, of PMBus,
of the reset outputs and of the holdup converter (11). -/

namespace Sys2Proof.Machine

/-! ### Steps (R344, R349) -/

/-- The present step has completed: what it raised runs; then its DELAY, or the next step. -/
def State.stepDone (s : State) (t : Step) : State :=
  let up := decide (s.seq.active = .powerUp) || decide (s.seq.active = .restore)
  let s := if up then s.slotsRun t.slots else s
  if t.delay = 0 then s.nextStep 32
  else s.onSeq fun x => { x with step := some { t with phase := .delay } }

/-- Run POWER_DOWN after a failed start; POWER_UP follows after POWERUP_RETRY_DELAY, or after SYSRESET_OFF_TIME with
`sys`, while attempts are left (R349, R350). -/
def State.startFailed (s : State) (sys : Bool) : State :=
  let n := s.seq.attempts + 1
  let again := decide (n < s.reg Reg.POWERUP_ATTEMPTS)
  let s := if s.seq.active = .restore then s.endHold 4 .broken else s
  (s.onSeq fun x => { x with attempts := n }).powerDown.onSeq fun x =>
    { x with retryWaits := again && !sys, sysResetWaits := again && sys }

/-- An on-step of POWER_UP or RESTORE failed on a slot, which the event names with the step (R349). -/
def State.stepFailed (s : State) (slot : Nat) : State :=
  ((s.fault Src.SEQUENCER .degraded).raise Ev.SEQ_FAILED 0 0 [s.seq.stepNo, slot]).startFailed false

/-! ### Side steps (R350) -/

/-- The side step that works on a slot. -/
def State.sideOf (s : State) (n : Nat) : Option SideStep := s.seq.side.find? fun d => d.step.slots.contains n

/-- Replace the side step that works on a slot. -/
def State.setSide (s : State) (n : Nat) (d : Option SideStep) : State := s.onSeq fun x => { x with
  side := x.side.flatMap fun e => if e.step.slots.contains n then d.toList else [e] }

/-- SYSTEM_RESET by device state (R36, Table 11-4). A DIMM slot lost in VAULTING starts no action: its dirty lines are
poison. -/
def State.systemReset (s : State) (n : Nat) : State :=
  if s.dev = .vaulting ∧ s.slotKind n = 1 then s.loseModule (n / 2) (n % 2)
  else
  let outs := (List.range 8).filter fun i => bit (s.reg (Reg.RST_CFG + i)) 5 && bit (s.reg (Reg.RST_CFG + i)) 17
  let s := (s.fault Src.SEQUENCER .degraded).onSeq fun x => { x with
    side := [], released := x.released.filter (fun i => !outs.contains i), stretch := x.stretch.filter fun i => !outs.contains i }
  match s.dev with
  | .restoring | .online | .preSpill | .maintenance => s.commit 5
  | .bringup => s.startFailed true
  | .vaulting => ((s.voidHold.onSpill fun x => { x with vault := none }).setDev .fault).powerDown
  | .sealed | .fault => s.powerDown
  | .kickstand => s.endHoldDown 4 .broken
  | .off | .aonOnly => s

/-- An attempt of a retry failed: another one, or the ESCALATE reaction (R350). -/
def State.retryFailed (s : State) (n : Nat) : State :=
  let s := s.setSide n none
  if mget 0 s.seq.tries n < field (s.slotCfg n) 40 39 then s.startRetry n
  else
    let s := (s.onSeq fun x => { x with tries := mdel n x.tries }).dropEn [n]
    if bit (s.slotCfg n) 41 then s.systemReset n else s.shutGroup (s.slotGroup n)

/-- A side step failed: a retry's attempt, or a group's restart, which shuts the group down again. -/
def State.sideFailed (s : State) (n : Nat) (d : SideStep) : State := match d.retry with
  | some _ => s.retryFailed n
  | none => (s.setSide n none).shutGroup (s.slotGroup n)

/-- A side step completed: its slots run; a restart goes on with its next step. -/
def State.sideDone (s : State) (n : Nat) (d : SideStep) : State :=
  let s := (s.setSide n none).slotsRun d.step.slots
  let s := match d.retry with
    | some m => (s.onSeq fun x => { x with tries := mdel m x.tries }).fault Src.SEQUENCER .corrected
    | none => s
  match d.rest with
  | [] => s
  | l :: rest => s.raiseSide { step := { slots := l }, rest := rest, retry := none }

/-- A PG drop on a running slot (R345, R350). A slot in a hold ends it; under IGNORE the slot goes on running; no retry
raises a slot while the rails fall, since a sequence that removes power always finishes (R344). -/
def State.pgDrop (s : State) (n : Nat) : State :=
  let s := s.countSlot n 0
  let s := if s.slotReaction n = 0 ∧ s.dev ≠ .kickstand then s else s.stopSlots [n]
  let s := s.raise (Ev.RAIL_0 + n)
  if s.dev = .kickstand then
    (s.onSip fun x => { x with hold := { x.hold with pgLost := true } }).systemReset n
  else match s.slotReaction n with
    | 1 => if s.seq.state = .falling then s.dropEn [n] else s.startRetry n
    | 2 => s.shutGroup (s.slotGroup n)
    | 3 => s.systemReset n
    | _ => s.fault Src.SEQUENCER .log

/-! ### Meanings -/

/-- POWER_ON's row of Table 14-4. -/
def specPowerOn : VSpec :=
  { op := 0xC223, transports := [2, 3], aon := true, ok := fun s => decide (s.dev = .aonOnly), count := (· == 0) }

/-- POWER_ON (R347): POWER_UP now, or when a POWER_DOWN in progress has ended. -/
def runPowerOn (p : Pkt) (s : State) : State :=
  s.vendor specPowerOn p fun _ s =>
    let s := s.onSeq fun x => { x with attempts := 0 }
    { s := if s.seq.state = .railsOff then s.powerUp else s.onSeq fun x => { x with stay := true } }

/-- POWER_ON. -/
def execPowerOn (p : Pkt) (s : State) : Host.Outcome State Fault Refusal := after (runPowerOn p s.begin)

/-- PG_RISE (R344). -/
def execPgRise (slot : Nat) (s : State) : Host.Outcome State Fault Refusal :=
  let s := s.begin
  after (if !s.seq.aonUp ∨ 24 ≤ slot ∨ s.seq.pg.contains slot ∨ s.slotKind slot = 0 then s
    else
      let s := s.onSeq fun x => { x with pg := x.pg ++ [slot] }
      let ready := fun (t : Step) => decide (t.phase = .waitPg) && t.slots.all fun n => s.seq.pg.contains n
      let up := decide (s.seq.state = .rising)
      s.onSeq fun x => { x with
        step := x.step.map fun t => if up && ready t then { t with phase := .stable } else t
        side := x.side.map fun d => if !d.off && ready d.step then { d with step := { d.step with phase := .stable } } else d })

/-- STABILITY_TIMER_EXPIRY (R344): of the sequence's step, or of the side step that works on a slot. -/
def execStabilityTimerExpiry (slot : Option Nat) (s : State) : Host.Outcome State Fault Refusal :=
  let s := s.begin
  after (match slot with
    | none => match s.seq.step with
      | some t => if t.phase = .stable then s.stepDone t else s
      | none => s
    | some n => match s.sideOf n with
      | some d => if d.step.phase = .stable then s.sideDone n d else s
      | none => s)

/-- STEP_DELAY_EXPIRY (R343). -/
def execStepDelayExpiry (s : State) : Host.Outcome State Fault Refusal :=
  let s := s.begin
  after (match s.seq.step with
    | some t => if t.phase = .delay then (s.onSeq fun x => { x with step := none }).nextStep 32 else s
    | none => s)

/-- PG_TIMEOUT (R344): an on-step fails, a retry's attempt fails, an off-step goes on past a stuck PG. -/
def execPgTimeout (slot : Nat) (s : State) : Host.Outcome State Fault Refusal :=
  let s := s.begin
  after (match s.seq.step.filter (fun t => t.slots.contains slot), s.sideOf slot with
    | some t, _ =>
      if t.phase ≠ .waitPg then s
      else if s.seq.state = .rising then
        if s.seq.pg.contains slot then s else (s.countSlot slot 2).stepFailed slot
      else if s.seq.pg.contains slot then
        let s := ((s.countSlot slot 2).fault Src.SEQUENCER .log).raise Ev.RAIL_STUCK_ON 0 0 [slot]
        let t := { t with slots := t.slots.filter (· ≠ slot) }
        if t.slots.any fun n => s.seq.pg.contains n then s.onSeq fun x => { x with step := some t } else s.stepDone t
      else s
    | none, some d =>
      if d.off ∨ d.step.phase ≠ .waitPg ∨ s.seq.pg.contains slot then s else (s.countSlot slot 2).sideFailed slot d
    | none, none => s)

/-- PG_DROP (R344, R345, R350): the end of an off-step's rail, chatter in an on-step, or a drop on a running slot. -/
def execPgDrop (slot : Nat) (s : State) : Host.Outcome State Fault Refusal :=
  let s := s.begin
  after (if !s.seq.pg.contains slot then s
    else
      let s := s.onSeq fun x => { x with pg := x.pg.filter (· ≠ slot) }
      match s.seq.step.filter (fun t => decide (t.phase ≠ .delay) && t.slots.contains slot), s.sideOf slot with
      | some t, _ =>
        if s.seq.state = .rising then
          let s := (s.countSlot slot 3).fault Src.SEQUENCER .log
          let t := { t with phase := .waitPg, chatter := t.chatter + 1 }
          if s.reg Reg.CHATTER_MAX < t.chatter then s.stepFailed slot else s.onSeq fun x => { x with step := some t }
        else if t.slots.any fun n => s.seq.pg.contains n then s else s.stepDone t
      | none, some d =>
        if d.off then s
        else if d.retry.isSome then s.retryFailed slot
        else
          let s := (s.countSlot slot 3).fault Src.SEQUENCER .log
          let d := { d with step := { d.step with phase := .waitPg, chatter := d.step.chatter + 1 } }
          if s.reg Reg.CHATTER_MAX < d.step.chatter then s.sideFailed slot d else s.setSide slot (some d)
      | none, none => if s.seq.running.contains slot then s.pgDrop slot else s)

/-- RETRY_OFF_TIME_EXPIRY (R350). -/
def execRetryOffTimeExpiry (slot : Nat) (s : State) : Host.Outcome State Fault Refusal :=
  let s := s.begin
  after (match s.sideOf slot with
    | some d => if d.off then (s.setSide slot none).raiseSide d else s
    | none => s)

/-- POWERUP_RETRY_DELAY_EXPIRY (R349): once the POWER_DOWN has ended. -/
def execPowerupRetryDelayExpiry (s : State) : Host.Outcome State Fault Refusal :=
  let s := s.begin
  after (if s.seq.retryWaits then
      if s.seq.state = .railsOff then s.powerUp else s.onSeq fun x => { x with retryWaits := false, stay := true }
    else s)

/-- SYSRESET_OFF_TIME_EXPIRY (R350). -/
def execSysresetOffTimeExpiry (s : State) : Host.Outcome State Fault Refusal :=
  let s := s.begin
  after (if s.seq.sysResetWaits then
      if s.seq.state = .railsOff then s.powerUp else s.onSeq fun x => { x with sysResetWaits := false, stay := true }
    else s)

/-- BRINGUP and class O (Table 14-4). -/
def bringupOrO (s : State) : Bool := decide (s.dev = .bringup) || classO s

/-- GROUP_RESTART's row of Table 14-4. -/
def specGroupRestart : VSpec := { op := 0xC221, transports := [0, 1, 2, 3], ok := bringupOrO, count := (· == 1) }

/-- GROUP_RESTART (R350): the group's slots as on-steps in POWER_UP order. -/
def runGroupRestart (p : Pkt) (s : State) : State :=
  s.vendor specGroupRestart p fun _ s =>
    let g := p.slots.headD 0
    if 8 ≤ g then { s := s, status := St.INVALID_FIELD }
    else if !s.seq.groupOff.contains g then { s := s, status := St.INVALID_STATE }
    else
      let steps := (s.upList.map fun t => t.1.filter fun n => s.slotGroup n == g).filter (· ≠ [])
      let s := s.onSeq fun x => { x with groupOff := x.groupOff.filter (· ≠ g) }
      match steps with
      | [] => { s := s }
      | l :: rest => { s := s.raiseSide { step := { slots := l }, rest := rest } }

/-- GROUP_RESTART. -/
def execGroupRestart (p : Pkt) (s : State) : Host.Outcome State Fault Refusal := after (runGroupRestart p s.begin)

/-- RST_PULSE's row of Table 14-4. -/
def specRstPulse : VSpec := { op := 0xC222, transports := [0, 1, 2, 3], ok := bringupOrO, count := (· == 1) }

/-- RST_PULSE (R356): refused for an output whose slot is not running, or that is not enabled. -/
def runRstPulse (p : Pkt) (s : State) : State :=
  s.vendor specRstPulse p fun _ s =>
    let n := p.slots.headD 0
    if 8 ≤ n then { s := s, status := St.INVALID_FIELD }
    else if !(s.outputsOf s.seq.running).contains n then { s := s, status := St.INVALID_STATE }
    else { s := s.onSeq fun x => { x with
      released := x.released.filter (· ≠ n), stretch := if x.stretch.contains n then x.stretch else x.stretch ++ [n] } }

/-- RST_PULSE. -/
def execRstPulse (p : Pkt) (s : State) : Host.Outcome State Fault Refusal := after (runRstPulse p s.begin)

/-- RESET_STRETCH_EXPIRY (R356). -/
def execResetStretchExpiry (n : Nat) (s : State) : Host.Outcome State Fault Refusal :=
  let s := s.begin
  after (if s.seq.stretch.contains n then s.onSeq fun x => { x with
      stretch := x.stretch.filter (· ≠ n), released := x.released ++ [n] }
    else s)

/-- ORDERLY_SHUTDOWN's row of Table 14-4. -/
def specOrderlyShutdown : VSpec :=
  { op := 0xC220, transports := [0, 1, 2, 3, 4], ok := classN, persist := fun _ _ => true, count := (· == 0) }

/-- ORDERLY_SHUTDOWN (R348): the Rill enters FLUSHING; the reply follows the flush. -/
def runOrderlyShutdown (p : Pkt) (s : State) : State :=
  s.vendor specOrderlyShutdown p fun o s =>
    if s.rill.state ≠ .running ∨ s.seq.flush.isSome then { s := s, status := St.INVALID_STATE }
    else { s := (s.onRill fun x => { x with state := .flushing }).onSeq fun x => { x with flush := some (.shutdown, some o) },
           later := true }

/-- ORDERLY_SHUTDOWN. -/
def execOrderlyShutdown (p : Pkt) (s : State) : Host.Outcome State Fault Refusal := after (runOrderlyShutdown p s.begin)

/-- FLUSH_TIMEOUT (R348): the shutdown is abandoned, the device stays online. -/
def execFlushTimeout (s : State) : Host.Outcome State Fault Refusal :=
  let s := s.begin
  after (if s.seq.flush.isSome then s.dropFlush.raise Ev.FLUSH_TIMEOUT else s)

/-! ### PMBus (R353 to R355) -/

/-- PMBus slaves of used slots. -/
def State.pmSlaves (s : State) : List Nat :=
  (((List.range 24).filter fun n => s.slotKind n != 0 && bit (s.slotCfg n) 11).map fun n => field (s.slotCfg n) 10 6).eraseDups
    |>.filter (· < 16)

/-- One command to a slave, its page selected first (R353, Table 11-5). -/
def State.pmAccess (s : State) (n c v : Nat) : State :=
  (s.emit (.pmbus n 0x00 (s.reg (Reg.PMBUS_SLAVE + 16 * n + 1)))).emit (.pmbus n c v)

/-- VOUT_MODE and PMBUS_REVISION read at BRINGUP: a slave whose mode is not ULINEAR16 (mode bits [7:5] 0) is not used
(R353; the bits PRESUMED from PMBus 1.3, log entry 29). -/
def State.pmMode (s : State) (n mode : Nat) : State :=
  let s := (s.pmAccess n 0x20 0).pmAccess n 0x98 0
  s.onSeq fun x => { x with slaves := mput n { mget {} x.slaves n with used := mode / 32 == 0, voutMode := mode } x.slaves }

/-- Read a slave's STATUS_WORD (R353): when it shows a fault the detail words are read and the faults cleared. -/
def State.pmStatus (s : State) (n status : Nat) : State :=
  let s := s.pmAccess n 0x79 0
  let s := if bit status 15 then s.pmAccess n 0x7A 0 else s
  let s := if bit status 14 then s.pmAccess n 0x7B 0 else s
  let s := if bit status 2 then s.pmAccess n 0x7D 0 else s
  let s := if status = 0 then s else s.pmAccess n 0x03 0
  s.onSeq fun x =>
    let q := mget {} x.slaves n
    { x with slaves := mput n { q with telemetry := status :: q.telemetry.drop 1 } x.slaves }

/-- PMBUS_POLL_EXPIRY (R353): `vals` gives for each slave that answered the five values read; a poll in BRINGUP reads
VOUT_MODE too, which `modes` gives. -/
def execPmbusPollExpiry (vals : List (Nat × List Nat)) (s : State) (modes : List (Nat × Nat) := []) :
    Host.Outcome State Fault Refusal :=
  let s := s.begin
  let s := if s.seq.coreUp ∧ s.dev = .bringup then
      (modes.filter fun p => s.pmSlaves.contains p.1).foldl (fun s p => s.pmMode p.1 p.2) s
    else s
  after (if !s.seq.coreUp then s
    else s.pmSlaves.foldl (fun s n =>
      if !(mget {} s.seq.slaves n).used then s
      else match vals.find? fun v => v.1 == n with
        | none => s
        | some (_, l) =>
          let s := s.pmStatus n (l.headD 0)
          let s := [0x88, 0x8B, 0x8C, 0x8D].foldl (fun s c => s.pmAccess n c 0) s
          s.onSeq fun x =>
            let q := mget {} x.slaves n
            { x with slaves := mput n { q with telemetry := l.take 5, stale := false } x.slaves }) s)

/-- PMBUS_ALERT (R353): `words` gives the STATUS_WORD of each slave. -/
def execPmbusAlert (words : List (Nat × Nat)) (s : State) : Host.Outcome State Fault Refusal :=
  let s := s.begin
  after (if !s.seq.coreUp then s
    else s.pmSlaves.foldl (fun s n => match words.find? fun v => v.1 == n with
      | some (_, w) => s.pmStatus n w
      | none => s) s)

/-- The slave of the core voltage's slot. -/
def State.vcoreSlave (s : State) : Nat := field (s.slotCfg (s.reg Reg.VCORE_SLOT)) 10 6

/-- PMBUS_TRANSACTION_DONE (R354, R355): an attempt succeeded, or failed; the third failure marks the slave stale. -/
def execPmbusTransactionDone (slave : Nat) (ok pec : Bool) (s : State) : Host.Outcome State Fault Refusal :=
  let s := s.begin
  let q := mget {} s.seq.slaves slave
  let put := fun (s : State) (q : PmSlave) => s.onSeq fun x => { x with slaves := mput slave q x.slaves }
  let vcore := decide (slave = s.vcoreSlave)
  after (if !s.seq.coreUp then s
    else if ok then
      let s' := put s { q with tries := 0 }
      let s' := if 0 < q.tries ∧ pec then s'.fault Src.PMBUS .corrected else s'
      match vcore, s'.seq.voutWrite with
      | true, some v => (s'.setReg Reg.VCORE_NOW v).onSeq fun x => { x with voutWrite := none }
      | _, _ => s'
    else if q.tries + 1 < 3 then put s { q with tries := q.tries + 1 }
    else
      let s' := put s { q with tries := 0, stale := true }
      let s' := if vcore then s'.onSeq fun x => { x with voutWrite := none } else s'
      s'.fault Src.PMBUS .degraded)

/-- PMBUS_BUS_STUCK (R354). -/
def execPmbusBusStuck (s : State) : Host.Outcome State Fault Refusal :=
  let s := s.begin
  after (if s.seq.coreUp then s.emit .pmbusClear else s)

/-- A voltage in mV as ULINEAR16 with the exponent of VOUT_MODE [4:0] (R353). -/
def ulinear16 (mode mv : Nat) : Nat :=
  let n := mode % 32
  if 16 ≤ n then mv * 2 ^ (32 - n) / 1000 % 65536 else mv / 1000 / 2 ^ n % 65536

/-- VCORE_TARGET_POSTED (R355): one clamped step towards the target, when a write may be made. -/
def State.postVcore (s : State) (mv : Nat) : State :=
  let lo := s.reg Reg.VCORE_MIN
  let hi := s.reg Reg.VCORE_MAX
  let v := if mv < lo then lo else if hi < mv then hi else mv
  let now := s.reg Reg.VCORE_NOW
  let step := s.reg Reg.VCORE_STEP
  let v := if now + step < v then now + step else if v + step < now then now - step else v
  if s.reg Reg.AVS_ENABLE = 0 ∨ s.seq.avsStopped ∨ !classO s ∨ s.spill.warned ∨ s.seq.voutWrite.isSome ∨ v = now
      ∨ (s.seq.lastVout ≠ 0 ∧ s.now < s.seq.lastVout) ∨ !bit (s.slotCfg (s.reg Reg.VCORE_SLOT)) 11
      ∨ !(mget {} s.seq.slaves s.vcoreSlave).used then s
  else
    let n := s.vcoreSlave
    let s := s.pmAccess n 0x21 (ulinear16 (mget {} s.seq.slaves n).voutMode v)
    s.onSeq fun x => { x with voutWrite := some v, lastVout := s.now + 1 }

/-- VCORE_TARGET_POSTED (R355). -/
def execVcoreTargetPosted (mv : Nat) (s : State) : Host.Outcome State Fault Refusal :=
  let s := s.begin
  after (if s.seq.coreUp then s.postVcore mv else s)

/-- VOUT_READBACK (R355): `mv` is what READ_VOUT shows 2 ms after a write. -/
def execVoutReadback (mv : Nat) (s : State) : Host.Outcome State Fault Refusal :=
  let s := s.begin
  let v := s.reg Reg.VCORE_NOW
  after (if !s.seq.coreUp ∨ s.seq.lastVout = 0 then s
    else
      let s := s.pmAccess s.vcoreSlave 0x8B 0
      if 15 < mv - v + (v - mv) then (s.fault Src.PMBUS .degraded).onSeq fun x => { x with avsStopped := true } else s)

/-! ### The holdup converter (R358, R359) -/

/-- HOLDUP_FAULT (R359): the levels of HOLDUP_FAULT_N and HOLDUP_PG. -/
def execHoldupFault (faultN pg : Bool) (s : State) : Host.Outcome State Fault Refusal :=
  let s := s.begin
  after (if s.seq.aonUp then (s.onSeq fun x => { x with faultN := faultN, holdupPg := pg }).convJudge else s)

/-- CONVERTER_STANDBY_EXPIRY (R358). -/
def execConverterStandbyExpiry (s : State) : Host.Outcome State Fault Refusal :=
  let s := s.begin
  after (if s.seq.standby then (s.onSeq fun x => { x with standby := false }).setConv else s)

/-- SEQ_COUNTER_FLUSH (R360): at most every 60 s. -/
def execSeqCounterFlush (s : State) : Host.Outcome State Fault Refusal :=
  let s := s.begin
  after (if s.seq.lastCounters = 0 ∨ s.seq.lastCounters + 59999 ≤ s.now then s.flushCounters else s)

end Sys2Proof.Machine
end

