-- ==== Sys2Proof/Machine/Mir.lean ====
section
/-! DEFINITION. The meanings of the Mirsen domain's commands: links, FAIL_NOTICE, messages, timers, and the domain
opcodes (15). -/

namespace Sys2Proof.Machine

/-! ### Links (R444, R445, R451, R453) -/

/-- MIRSEN_LINK_UP (R444, R451, R461): the neighbour's HELLO and the measured flight; `links` are the domain's links that
are up, as the manager knows them. -/
def execMirsenLinkUp (port serial member depth flight : Nat) (links : List (Nat × Nat × Nat × Nat)) (s : State) :
    Host.Outcome State Fault Refusal :=
  let s := s.begin
  after (if 6 ≤ port ∨ !s.seq.coreUp ∨ (mget {} s.mir.ports port).up then s
    else
      let s := s.onMPort port fun p => { p with up := true, serial := serial, member := member, depth := depth, flight := flight }
      let s := s.raise (Ev.MIRSEN_PORT_0 + port)
      let s := s.onMir fun x => { x with state := if x.state = .orphan ∧ port < 2 then .unsynced else x.state }
      (s.redepth.reportJoined).judgeLinks links)

/-- MIRSEN_LINK_DOWN (R444, R463). -/
def execMirsenLinkDown (port : Nat) (links : List (Nat × Nat × Nat × Nat)) (s : State) : Host.Outcome State Fault Refusal :=
  let s := s.begin
  after (if (mget {} s.mir.ports port).up then (s.mirDown port).judgeLinks links else s)

/-- FRAME_ACK_TIMEOUT (R444, R453): of a port's frames `acked` have been acknowledged, and the next is retried; after
eight retries the link goes down. -/
def execFrameAckTimeout (port acked : Nat) (s : State) : Host.Outcome State Fault Refusal :=
  let s := s.begin
  let mine := (s.mir.unacked.filter fun u => u.port == port).drop acked
  let rest := s.mir.unacked.filter fun u => u.port != port
  after (match mine with
    | [] => s
    | u :: l =>
      if 8 ≤ u.tries then (s.onMir fun x => { x with unacked := rest ++ u :: l }).mirDown port
      else
        let s := s.onMir fun x => { x with unacked := rest ++ { u with tries := u.tries + 1 } :: l }
        let s := s.onMPort port fun p => { p with retries := p.retries + 1 }
        (s.emit (.frame port u.type u.hdr u.payload)).fault Src.MIRSEN_LINK .log)

/-- HELLO (R445, R446, R461, R463): the neighbour on a port. A HELLO of the same DOMAIN_ID joins the unit. -/
def execHello (h : MHdr) (serial member depth : Nat) (s : State) : Host.Outcome State Fault Refusal :=
  let s := s.begin
  after (if !s.mirHears h.port then s
    else if h.domain ≠ s.reg Reg.DOMAIN_ID then s.fault Src.MIRSEN_LINK .log
    else
      let s := s.onMPort h.port fun p => { p with serial := serial, member := member, depth := depth }
      let s := s.onMir fun x => { x with
        state := if x.state = .linking then .unsynced else x.state, routes := mput member h.port x.routes }
      let s := s.reportJoined
      let s := if member = s.reg Reg.MEMBER_NO then s.fault Src.MIRSEN_ROLE .degraded else s
      let other := mget {} s.mir.ports (1 - h.port)
      let s := if h.port < 2 ∧ other.up ∧ other.serial = serial then s.fault Src.MIRSEN_LINK .degraded else s
      let s := s.redepth
      if s.mir.role = .manager ∧ (s.mir.roster.any fun r => r.member == member) then s.sendSync member else s)

/-! ### FAIL_NOTICE (R447 to R450, R456, R457) -/

/-- What the manager does at a notice: under INDEPENDENT the generation advances, and the originator, or under ALL_OR_NONE
every member, counts as not yet reported; the grants of the members that commit end (R450, R456, R457). The alternate
marks its replica, from which it may take over (Table 15-8). -/
def State.noticeAtManager (s : State) (origin : Nat) (all : Bool) : State :=
  let hit := fun (m : Nat) => all || m == origin
  let s := if s.mir.role = .none ∨ s.mir.role = .worker then s
    else s.onMir fun x => { x with grants := x.grants.filter fun g => !hit g.member }
  match s.mir.role with
  | .none | .worker => s
  | .alternate => s.onMir fun x => { x with
      roster := x.roster.map fun r => if hit r.member then { r with reported := false } else r }
  | .manager =>
    let s := s.onRoster ((s.mir.roster.map (·.member)).filter hit) fun r => { r with reported := false }
    if all then s else s.nextCgen

/-- FAIL_NOTICE (R448, R449): the first copy in order of a notice not held is forwarded and acted on. -/
def execFailNotice (port origin cgen domain : Nat) (crcOk : Bool) (s : State) : Host.Outcome State Fault Refusal :=
  let s := s.begin
  after (if !crcOk ∨ domain ≠ s.reg Reg.DOMAIN_ID ∨ !s.seq.coreUp ∨ !(mget {} s.mir.ports port).up
      ∨ s.mir.notices.contains (origin, cgen) then s
    else
      let s := s.keepNotice origin cgen
      let s := (s.portsUp.filter (· ≠ port)).foldl (fun s p => s.emit (.notice p origin cgen domain)) s
      let all := s.allOrNone
      let s := s.noticeAtManager origin all
      if all then s.commit 3 else s.raise Ev.DOMAIN_FAIL_NOTICE)

/-! ### Messages (R453, Table 15-4) -/

/-- HEARTBEAT_PERIOD_EXPIRY (R453): a member reports to the manager, the manager floods MGR_BEAT. -/
def execHeartbeatPeriodExpiry (s : State) : Host.Outcome State Fault Refusal :=
  let s := s.begin
  after (if s.mgmt.state ≠ .running then s
    else if s.mir.role = .manager then
      s.flood 0x03 [s.reg Reg.ROLE_EPOCH, s.reg Reg.CGEN, s.reg Reg.DOMAIN_POLICY, s.reg Reg.DOMAIN_STATE]
    else if s.mir.state = .unsynced ∨ s.mir.state = .synced then
      s.sendTo 0x02 0 [s.dev.code, s.view Reg.PROTECTION_STATUS, s.reg Reg.CGEN] (toRole := true)
    else s)

/-- MEMBER_HEARTBEAT (R450, R452): a member heard for the first time in this start, or again after it was missing, has
joined and gets SYNC. -/
def execMemberHeartbeat (h : MHdr) (dev prot cgen : Nat) (s : State) : Host.Outcome State Fault Refusal :=
  after (s.begin.receive h 0x02 [dev, prot, cgen] true fun s =>
    match s.mir.roster.find? fun r => r.member == h.src with
    | none => s
    | some r =>
      let joined := r.missing || (mget 0 s.mir.heard h.src == 0)
      let s := s.onMir fun x => { x with heard := mput h.src (s.now + 1) x.heard }
      let s := if r.missing then s.onRoster [h.src] fun r => { r with missing := false } else s
      if joined then s.sendSync h.src else s)

/-- A member takes the domain shutdown state from the manager (R456). -/
def State.takeState (s : State) (v : Nat) : State :=
  if v % 8 = s.reg Reg.DOMAIN_STATE then s else (s.setReg Reg.DOMAIN_STATE (v % 8)).raise Ev.DOMAIN_STATE_CHANGE

/-- MGR_BEAT (R453, R455). -/
def execMgrBeat (h : MHdr) (epoch cgen policy state : Nat) (s : State) : Host.Outcome State Fault Refusal :=
  after (s.begin.receive h 0x03 [epoch, cgen, policy, state] true fun s =>
    if s.mir.role = .manager then s
    else (s.onMir fun x => { x with lastBeat := s.now + 1, manager := some h.src, query := none }).takeState state)

/-- ROLE_ASSIGN (R454 to R456): roles of a newer epoch are taken, and a member reports. `cands` are the members with
ROLE_CFG 2 that a unit named manager reaches. -/
def execRoleAssign (h : MHdr) (epoch mgr alt : Nat) (cands : List Nat) (s : State) : Host.Outcome State Fault Refusal :=
  after (s.begin.receive h 0x04 [epoch, mgr, alt] false fun s =>
    if epoch < s.reg Reg.ROLE_EPOCH then s.refuseStale h
    else
      let s := if s.mir.role = .manager ∧ epoch = s.reg Reg.ROLE_EPOCH then s else s.adoptRoles epoch mgr alt cands
      if s.mir.role = .manager then s else s.sendReport)

/-- SYNC (R450, R461): CGEN, policy and DOMAIN_ID are taken; the limits are the manager's own to judge by. -/
def execSync (h : MHdr) (cgen policy domain : Nat) (limits : List Nat) (s : State) : Host.Outcome State Fault Refusal :=
  after (s.begin.receive h 0x05 ([cgen, policy, domain] ++ limits) true fun s =>
    if s.mir.role = .manager ∨ !(decide (s.mir.state = .unsynced) || decide (s.mir.state = .synced)) then s
    else
      let s := (s.setReg Reg.CGEN cgen).setReg Reg.DOMAIN_ID domain
      let s := if s.mir.role = .none then s.takeRole .worker (s.reg Reg.ROLE_EPOCH) else s
      (s.onMir fun x => { x with state := .synced, syncAll := policy == 1, manager := some h.src }).domainRec)

/-- REPORT (R450, R456). -/
def execReport (h : MHdr) (record commitId manifestSeq : Nat) (s : State) : Host.Outcome State Fault Refusal :=
  after (s.begin.receive h 0x06 [record, commitId, manifestSeq] true fun s =>
    if s.mir.roster.any fun r => r.member == h.src then (s.takeReport h.src record commitId).sendSync h.src else s)

/-- STATE (R456). -/
def execState (h : MHdr) (v size reported : Nat) (s : State) : Host.Outcome State Fault Refusal :=
  after (s.begin.receive h 0x07 [v, size, reported] true fun s =>
    if s.mir.role = .manager then s
    else (s.onMir fun x => { x with members := size, reported := reported }).takeState v)

/-- GRANT_REQ (R457, R458): granted under the limit of Table 15-5, else refused with the count of holders. -/
def execGrantReq (h : MHdr) (activity cseq : Nat) (unprotected : Bool) (s : State) : Host.Outcome State Fault Refusal :=
  after (s.begin.receive h 0x08 [activity, cseq, b2n unprotected] true fun s =>
    let member := s.mir.roster.any fun r => r.member == h.src
    let ok := member && domainAct activity && s.judgeGrant activity h.src unprotected
    let s := if ok then s.addGrant activity h.src else s
    s.sendReplyMsg 0x09 h.src h.mseq [activity, cseq, b2n ok,
      (s.mir.grants.filter fun g => g.activity == activity).length])

/-- GRANT (R437, R457): the answer to a request; one for a request that has ended gives the grant back. -/
def execGrant (h : MHdr) (activity cseq : Nat) (granted : Bool) (holders : Nat) (s : State) :
    Host.Outcome State Fault Refusal :=
  after (s.begin.receive h 0x09 [activity, cseq, b2n granted, holders] true fun s =>
    match s.mir.asks.find? fun q => q.1 == h.mseq with
    | none => if granted then s.sendTo 0x0A 0 [activity, cseq] (toRole := true) else s
    | some (_, n) =>
      let s := s.onMir fun x => { x with asks := x.asks.filter fun q => q.1 != h.mseq }
      if (s.cmd.act n).state ≠ .waitDomain ∨ (s.cmd.act n).grant ≠ some h.mseq then
        (if granted then s.sendTo 0x0A 0 [n, cseq] (toRole := true) else s)
      else if granted then s.actRun n
      else (s.setAct n fun a => { a with grant := none }).actFail n St.DOMAIN_REFUSED [])

/-- GRANT_RELEASE (R457). -/
def execGrantRelease (h : MHdr) (activity cseq : Nat) (s : State) : Host.Outcome State Fault Refusal :=
  after (s.begin.receive h 0x0A [activity, cseq] true fun s => s.dropGrant activity h.src)

/-- REPLICA (R446, R457): the alternate holds roster, grants (activity, member) and CGEN. -/
def execReplica (h : MHdr) (cgen : Nat) (roster : List (Nat × Nat × Nat × Nat)) (grants : List (Nat × Nat)) (s : State) :
    Host.Outcome State Fault Refusal :=
  after (s.begin.receive h 0x0B (cgen :: (roster.flatMap fun r => [r.1, r.2.1, r.2.2.1, r.2.2.2])
      ++ grants.flatMap fun g => [g.1, g.2]) true fun s =>
    s.onMir fun x => { x with
      replCgen := some cgen
      roster := roster.map fun r =>
        { member := r.1, serial := r.2.1, record := field r.2.2.1 2 0, commitId := r.2.2.2
          reported := bit r.2.2.1 3, missing := bit r.2.2.1 4 }
      grants := grants.map fun g => { activity := g.1, member := g.2 } })

/-- EVENT (R459): collected in the ring of the latest 4,096. -/
def execEvent (h : MHdr) (slots : List Nat) (s : State) : Host.Outcome State Fault Refusal :=
  after (s.begin.receive h 0x0C slots true fun s =>
    s.onMir fun x =>
      let e : RingEv := { seq := x.ringSeq + 1, member := h.src, recSeq := s.reg Reg.REC_SEQ, payload := slots.take 8 }
      let l := x.ring ++ [e]
      { x with ring := l.drop (l.length - 4096), ringSeq := x.ringSeq + 1 })

/-! ### Takeover (R455) -/

/-- The member misses MGR_BEAT: none for MGR_TIMEOUT. -/
def State.missesBeat (s : State) : Bool :=
  s.mir.lastBeat == 0 || decide (s.mir.lastBeat - 1 + s.reg Reg.MGR_TIMEOUT ≤ s.now)

/-- TAKEOVER_QUERY (R455). -/
def execTakeoverQuery (h : MHdr) (epoch : Nat) (s : State) : Host.Outcome State Fault Refusal :=
  after (s.begin.receive h 0x0F [epoch] true fun s =>
    if s.mir.role ≠ .manager ∧ s.missesBeat then s.sendReplyMsg 0x10 h.src h.mseq [] else s)

/-- The alternate takes over (R454, R455): next epoch, ROLE_ASSIGN, service from the replica. -/
def State.takeOver (s : State) (cands : List Nat) : State :=
  let s := s.becomeManager (s.reg Reg.ROLE_EPOCH + 1)
  ((s.appoint cands).fault Src.MIRSEN_ROLE .corrected).syncAll

/-- TAKEOVER_ACK (R455): with more than half of the roster the alternate takes over. -/
def execTakeoverAck (h : MHdr) (cands : List Nat) (s : State) : Host.Outcome State Fault Refusal :=
  after (s.begin.receive h 0x10 [] true fun s =>
    match s.mir.query with
    | none => s
    | some l =>
      if s.mir.role ≠ .alternate ∨ l.contains h.src ∨ !(s.mir.roster.any fun r => r.member == h.src) then s
      else
        let l := l ++ [h.src]
        let s := s.onMir fun x => { x with query := some l }
        if s.mir.roster.length < 2 * l.length then s.takeOver cands else s)

/-- TAKEOVER_WINDOW_EXPIRY (R455): without a quorum there is no takeover. -/
def execTakeoverWindowExpiry (s : State) : Host.Outcome State Fault Refusal :=
  after (s.begin.onMir fun x => { x with query := none })

/-- Members heard within MGR_TIMEOUT; the manager counts itself. -/
def State.heardNow (s : State) : Nat :=
  (s.mir.roster.filter fun r => r.member == s.reg Reg.MEMBER_NO
    || (let t := mget 0 s.mir.heard r.member; t != 0 && decide (s.now < t - 1 + s.reg Reg.MGR_TIMEOUT))).length

/-- MGR_TIMEOUT_EXPIRY (R455): the alternate floods TAKEOVER_QUERY; a manager that hears no more than half of the roster
demotes itself. -/
def execMgrTimeoutExpiry (s : State) : Host.Outcome State Fault Refusal :=
  let s := s.begin
  after (if s.mgmt.state ≠ .running then s
    else if s.mir.role = .alternate then
      (s.onMir fun x => { x with query := some [] }).flood 0x0F [s.reg Reg.ROLE_EPOCH]
    else if s.mir.role = .manager ∧ 2 * s.heardNow ≤ s.mir.roster.length then s.demote
    else s)

/-! ### Role resolution (R454) -/

/-- Send a refused message again to the unit that now holds its role. -/
def State.sendAgain (s : State) (mseq : Nat) : State :=
  match s.mir.sent.find? fun q => q.1 == mseq with
  | none => s
  | some (_, type, role, payload) =>
    if (if role = 0 then s.mir.manager else s.mir.alternate) = some (s.reg Reg.MEMBER_NO) then s
    else
      let s := s.sendTo type role payload (toRole := true)
      let m := s.mir.mseq
      -- A grant request goes on under its new MSEQ.
      match s.mir.asks.find? fun q => q.1 == mseq with
      | some (_, n) => (s.onMir fun x => { x with asks := x.asks.map fun q => if q.1 = mseq then (m, n) else q }).setAct n
          fun a => { a with grant := if a.grant = some mseq then some m else a.grant }
      | none => s

/-- STALE (R454, R463): a refused relay is answered ROLE_STALE; otherwise the roles named are taken where they are newer,
and the message is sent again. -/
def execStale (h : MHdr) (epoch mgr alt : Nat) (cands : List Nat) (s : State) : Host.Outcome State Fault Refusal :=
  after (s.begin.receive h 0x11 [epoch, mgr, alt] false fun s =>
    let s := if s.reg Reg.ROLE_EPOCH < epoch then s.adoptRoles epoch mgr alt cands else s
    match s.mir.relays.find? fun q => q.1 == h.mseq with
    | some (m, o) => (s.onMir fun x => { x with relays := x.relays.filter fun q => q.1 != m }).settle o St.ROLE_STALE 0 []
    | none => s.sendAgain h.mseq)

/-- RESOLVE (R454): answered by STALE. -/
def execResolve (h : MHdr) (s : State) : Host.Outcome State Fault Refusal :=
  after (s.begin.receive h 0x12 [] false fun s => s.sendStale h)

/-! ### Timers (R452, R457) -/

/-- ORPHAN_TIME_EXPIRY (R452, R461): no upstream link is up; under ALL_OR_NONE in effect the member commits. -/
def execOrphanTimeExpiry (s : State) : Host.Outcome State Fault Refusal :=
  let s := s.begin
  after (if s.mir.role = .manager ∨ s.upPort.isSome ∨ !s.seq.coreUp
      ∨ !(decide (s.mir.state = .unsynced) || decide (s.mir.state = .synced)) then s
    else
      let s := s.fault Src.MIRSEN_LINK .degraded
      let s := if s.allOrNone then s.failNotice.commit 3 else s
      s.onMir fun x => { x with state := if x.state = .unsynced ∨ x.state = .synced then .orphan else x.state })

/-- MEMBER_TIMEOUT_EXPIRY (R452, R457): the member is MISSING, its grants end, a missing alternate is replaced; under
ALL_OR_NONE in effect the manager commits itself. -/
def execMemberTimeoutExpiry (member : Nat) (cands : List Nat) (s : State) : Host.Outcome State Fault Refusal :=
  let s := s.begin
  after (if s.mir.role ≠ .manager ∨ s.mgmt.state ≠ .running ∨ member = s.reg Reg.MEMBER_NO
      ∨ !(s.mir.roster.any fun r => r.member == member && !r.missing) then s
    else
      let s := s.onMir fun x => { x with
        grants := x.grants.filter fun g => g.member != member, heard := mdel member x.heard }
      let s := (s.onRoster [member] fun r => { r with missing := true }).fault Src.MIRSEN_LINK .degraded
      let s := if s.mir.alternate = some member then s.appoint cands else s
      if s.allOrNone then s.failNotice.commit 3 else s)

/-- GRANT_WAIT_EXPIRY (R457): a request without an answer is refused. -/
def execGrantWaitExpiry (activity : Nat) (s : State) : Host.Outcome State Fault Refusal :=
  let s := s.begin
  after (if (s.cmd.act activity).state ≠ .waitDomain ∨ activity = 0 ∨ 8 < activity then s
    else
      let m := (s.cmd.act activity).grant
      let s := s.onMir fun x => { x with asks := x.asks.filter fun q => some q.1 != m }
      (s.setAct activity fun a => { a with grant := none }).actFail activity St.DOMAIN_REFUSED [])

/-! ### Domain opcodes (R460, Table 15-6) -/

/-- DOMAIN_STATUS's row of Table 15-6. -/
def specDomainStatus : VSpec :=
  { op := 0xC300, transports := [0, 1, 2, 3, 4], status := true, journal := false, count := (· == 0) }

/-- DOMAIN_STATUS. -/
def runDomainStatus (p : Pkt) (s : State) : State :=
  s.vendor specDomainStatus p fun _ s =>
    { s := s, slots := [Reg.MIRSEN_STATE, Reg.DOMAIN_ROLE, Reg.ROLE_EPOCH, Reg.MEMBER_NO, Reg.DOMAIN_ID, Reg.CGEN,
        Reg.DOMAIN_POLICY, Reg.DOMAIN_STATE, Reg.PORTS_UP].map s.view }

/-- DOMAIN_STATUS. -/
def execDomainStatus (p : Pkt) (s : State) : Host.Outcome State Fault Refusal := after (runDomainStatus p s.begin)

/-- This unit is the manager. -/
def isManager (s : State) : Bool := decide (s.mir.role = .manager)

/-- A roster entry as two slots (R446). -/
def RosterRec.slots (r : RosterRec) : List Nat :=
  [r.serial + at' r.member 48, r.record + at' r.commitId 8 + at' (b2n r.reported) 56 + at' (b2n r.missing) 57]

/-- DOMAIN_ROSTER_READ's row of Table 15-6. -/
def specDomainRosterRead : VSpec :=
  { op := 0xC301, transports := [0, 1, 2, 3], status := true, journal := false, ok := isManager, count := (· == 2) }

/-- DOMAIN_ROSTER_READ: from a member number, up to 127 entries. -/
def runDomainRosterRead (p : Pkt) (s : State) : State :=
  s.vendor specDomainRosterRead p fun _ s =>
    let first := p.slots.getD 0 0
    let n := p.slots.getD 1 0
    if n = 0 ∨ 127 < n then { s := s, status := St.INVALID_FIELD }
    else
      let l := sortBy (fun a b => decide (a.member ≤ b.member)) (s.mir.roster.filter fun r => decide (first ≤ r.member))
      { s := s, slots := (l.take n).flatMap RosterRec.slots }

/-- DOMAIN_ROSTER_READ. -/
def execDomainRosterRead (p : Pkt) (s : State) : Host.Outcome State Fault Refusal :=
  after (runDomainRosterRead p s.begin)

/-- DOMAIN_EVENT_READ's row of Table 15-6. -/
def specDomainEventRead : VSpec :=
  { op := 0xC302, transports := [0, 1, 2, 3], status := true, journal := false, ok := isManager, count := (· == 1) }

/-- DOMAIN_EVENT_READ (R459): from a collection sequence, up to 60 events; each with its sequence, source, arrival and the
two words of Table 12-10 that the manual fixes. -/
def runDomainEventRead (p : Pkt) (s : State) : State :=
  s.vendor specDomainEventRead p fun _ s =>
    { s := s, slots := ((s.mir.ring.filter fun e => decide (p.slots.headD 0 ≤ e.seq)).take 60).flatMap fun e =>
        [e.seq, e.member, e.recSeq, e.payload.getD 0 0, e.payload.getD 1 0] }

/-- DOMAIN_EVENT_READ. -/
def execDomainEventRead (p : Pkt) (s : State) : Host.Outcome State Fault Refusal :=
  after (runDomainEventRead p s.begin)

/-- DOMAIN_FORM's row of Table 15-6. -/
def specDomainForm : VSpec :=
  { op := 0xC310, transports := [0, 1, 2, 3], persist := fun _ _ => true, count := (· == 1)
    ok := fun s => classO s && s.reg Reg.ROLE_CFG == 1 }

/-- SYNC to every other member under another DOMAIN_ID in the header. -/
def State.syncAs (s : State) (old : Nat) : State :=
  (s.mir.roster.filter fun r => r.member != s.reg Reg.MEMBER_NO).foldl (fun s r =>
    let (h, s) := s.newMsg r.member false false false
    match (match s.routeTo r.member with | some p => some p | none => s.upPort) with
    | some p => s.sendFrame p 0x05 { h with domain := old }
        ([s.reg Reg.CGEN, s.reg Reg.DOMAIN_POLICY, s.reg Reg.DOMAIN_ID]
          ++ (List.range 4).map fun k => s.reg (Reg.DOMAIN_MAX_LEARN + k))
    | none => s) s

/-- Form the domain (R446, R450, R454, R455): the roster holds this unit and every member reached, each number once.
ROLE_ASSIGN and SYNC go out under the old DOMAIN_ID, which the members still hold; SYNC hands the new one out. -/
def State.formDomain (s : State) (id : Nat) (reached : List (Nat × Nat)) (cands : List Nat) : State :=
  let own := s.reg Reg.MEMBER_NO
  let all := (own, s.reg Reg.DEVICE_SERIAL) :: reached.filter fun m => m.1 != own
  let nums := (all.map (·.1)).eraseDups
  let s := if nums.length < reached.length + 1 then s.fault Src.MIRSEN_ROLE .degraded else s
  let l : List RosterRec := nums.map fun m =>
    { member := m, serial := ((all.find? fun a => a.1 == m).map (·.2)).getD 0, reported := true }
  let s := s.onMir fun x => { x with roster := l, grants := [], replCgen := none }
  let s := (s.becomeManager (s.reg Reg.ROLE_EPOCH + 1)).appoint cands
  let old := s.reg Reg.DOMAIN_ID
  let s := ((s.setReg Reg.DOMAIN_ID id).syncAs old).domainRec
  (s.rosterRec nums).replica.sendReport

/-- DOMAIN_FORM: the identifier is the packet's; a unit needs a member number to be in a roster. -/
def runDomainForm (reached : List (Nat × Nat)) (cands : List Nat) (p : Pkt) (s : State) : State :=
  s.vendor specDomainForm p fun _ s =>
    let id := p.slots.headD 0
    if 2 ^ 13 ≤ id then { s := s, status := St.INVALID_FIELD }
    else if s.reg Reg.MEMBER_NO = 0x7FF then { s := s, status := St.INVALID_STATE }
    else { s := s.formDomain id reached cands }

/-- DOMAIN_FORM. -/
def execDomainForm (p : Pkt) (reached : List (Nat × Nat)) (cands : List Nat) (s : State) :
    Host.Outcome State Fault Refusal := after (runDomainForm reached cands p s.begin)

/-- DOMAIN_ADMIT's row of Table 15-6. -/
def specDomainAdmit : VSpec :=
  { op := 0xC311, transports := [0, 1, 2, 3], persist := fun _ _ => true, count := (· == 2)
    ok := fun s => classO s && isManager s }

/-- DOMAIN_ADMIT: one member by serial and MEMBER_NO, whose number must be free (R446). -/
def runDomainAdmit (p : Pkt) (s : State) : State :=
  s.vendor specDomainAdmit p fun _ s =>
    let serial := p.slots.getD 0 0
    let m := p.slots.getD 1 0
    if 1024 ≤ m ∨ (s.mir.roster.any fun r => r.member == m || r.serial == serial) then
      { s := s, status := St.INVALID_FIELD }
    else
      let s := s.onMir fun x => { x with roster := x.roster ++ [{ member := m, serial := serial, reported := true }] }
      { s := (((s.rosterRec [m]).replica).deriveState).sendSync m }

/-- DOMAIN_ADMIT. -/
def execDomainAdmit (p : Pkt) (s : State) : Host.Outcome State Fault Refusal := after (runDomainAdmit p s.begin)

/-- DOMAIN_REMOVE's row of Table 15-6. -/
def specDomainRemove : VSpec :=
  { op := 0xC312, transports := [0, 1, 2, 3], persist := fun _ _ => true, count := (· == 1)
    ok := fun s => classO s && isManager s }

/-- DOMAIN_REMOVE (R452, R456): a member other than the manager itself. -/
def runDomainRemove (cands : List Nat) (p : Pkt) (s : State) : State :=
  s.vendor specDomainRemove p fun _ s =>
    let m := p.slots.headD 0
    if m = s.reg Reg.MEMBER_NO ∨ !(s.mir.roster.any fun r => r.member == m) then { s := s, status := St.INVALID_FIELD }
    else
      let s := s.onMir fun x => { x with
        roster := x.roster.filter fun r => r.member != m, grants := x.grants.filter fun g => g.member != m
        heard := mdel m x.heard }
      let s := ((s.rosterRec [m]).replica).deriveState
      { s := if s.mir.alternate = some m then s.appoint cands else s }

/-- DOMAIN_REMOVE. -/
def execDomainRemove (p : Pkt) (cands : List Nat) (s : State) : Host.Outcome State Fault Refusal :=
  after (runDomainRemove cands p s.begin)

/-- DOMAIN_RELAY's row of Table 15-6. -/
def specDomainRelay : VSpec :=
  { op := 0xC313, transports := [0, 1, 2, 3], status := true, count := fun n => decide (2 ≤ n ∧ n ≤ 33) }

/-- DOMAIN_RELAY (R453, R460): slot 0 the member, slot 1 OPCODE, TAG and FLAGS of the packet, then its parameters. The
reply waits for CMD_REPLY. -/
def runDomainRelay (p : Pkt) (s : State) : State :=
  s.vendor specDomainRelay p fun o s =>
    let m := p.slots.getD 0 0
    let w := p.slots.getD 1 0
    let params := p.slots.drop 2
    if 1024 ≤ m ∨ m = s.reg Reg.MEMBER_NO then { s := s, status := St.INVALID_FIELD }
    else match (match s.routeTo m with | some q => some q | none => s.upPort) with
      | none => { s := s, status := St.INVALID_STATE }
      | some _ =>
        let s := s.sendTo 0x0D m ([field w 15 0, field w 31 16, field w 47 32, 8 * params.length] ++ params)
        { s := s.onMir fun x => { x with relays := x.relays ++ [(x.mseq, o)] }, later := true }

/-- DOMAIN_RELAY. -/
def execDomainRelay (p : Pkt) (s : State) : Host.Outcome State Fault Refusal := after (runDomainRelay p s.begin)

/-- DOMAIN_HANDOVER's row of Table 15-6. -/
def specDomainHandover : VSpec :=
  { op := 0xC314, transports := [0, 1, 2, 3], count := (· == 0), ok := fun s => classN s && isManager s }

/-- DOMAIN_HANDOVER (R455): the alternate is named manager under the next epoch, and this unit becomes a worker. -/
def runDomainHandover (p : Pkt) (s : State) : State :=
  s.vendor specDomainHandover p fun _ s =>
    match s.mir.alternate with
    | none => { s := s, status := St.INVALID_STATE }
    | some a =>
      let s := s.replica.addReg Reg.ROLE_EPOCH 1
      let s := s.flood 0x04 [s.reg Reg.ROLE_EPOCH, a, 0x7FF]
      let s := s.onMir fun x => { x with manager := some a, alternate := none }
      { s := (s.takeRole .worker (s.reg Reg.ROLE_EPOCH)).domainRec }

/-- DOMAIN_HANDOVER. -/
def execDomainHandover (p : Pkt) (s : State) : Host.Outcome State Fault Refusal := after (runDomainHandover p s.begin)

/-! ### Relayed commands (R422, R453, R460) -/

/-- Run a packet by its opcode. What a relay cannot carry, the verdict of a signature and the members that formation
reaches, belongs to opcodes that transport 4 may not issue. -/
def runOpcode (p : Pkt) (s : State) : State := match p.opcode with
  | 0xC000 => runIdentify p s
  | 0xC001 => runGetStatus p s
  | 0xC010 => runParamGet p s
  | 0xC011 => runParamSet p s
  | 0xC012 => runParamStage p s
  | 0xC013 => runParamCommit p s
  | 0xC014 => runParamDiscard p s
  | 0xC015 => runParamStageRead p s
  | 0xC020 => runJournalRead p s
  | 0xC021 => runJournalFind p s
  | 0xC100 => runMaintStart p s
  | 0xC101 => runMaintStop p s
  | 0xC102 => runMaintStatus p s
  | 0xC210 => runPackReplaced p s
  | 0xC211 => runLearnStart p s
  | 0xC212 => runPortClear p s
  | 0xC220 => runOrderlyShutdown p s
  | 0xC221 => runGroupRestart p s
  | 0xC222 => runRstPulse p s
  | 0xC223 => runPowerOn p s
  | 0xC230 => runReformat p s
  | 0xC240 => runFaultRestart p s
  | 0xC241 => runEvrecRead p s
  | 0xC300 => runDomainStatus p s
  | 0xC301 => runDomainRosterRead p s
  | 0xC302 => runDomainEventRead p s
  | 0xC310 => runDomainForm [] [] p s
  | 0xC311 => runDomainAdmit p s
  | 0xC312 => runDomainRemove [] p s
  | 0xC313 => runDomainRelay p s
  | 0xC314 => runDomainHandover p s
  | 0xC400 => runFwInfo p s
  | 0xC401 => runFwWrite p s
  | 0xC402 => runFwVerify false p s
  | 0xC403 => runFwActivate p s
  | 0xC480 => runBistRun p s
  | 0xC481 => runBistStatus p s
  | op => if 0xC800 ≤ op ∧ op ≤ 0xCFFF then runCamubDiagnostic p s else runReservedOpcode p s

/-- CMD (R430, R453, R454): a packet of another member on transport 4; a stale one is refused ROLE_STALE. -/
def execCmd (h : MHdr) (p : Pkt) (s : State) : Host.Outcome State Fault Refusal :=
  let p : Pkt := { p with transport := 4, ld := 0, fm := false, member := h.src, mseq := h.mseq }
  after (s.begin.receive h 0x0D ([p.opcode, p.tag, p.flags, p.length] ++ p.slots) false fun s =>
    if s.stale h then (s.refuseStale h).countStatus 4 St.ROLE_STALE else runOpcode p s)

/-- CMD_REPLY (R453, R460): the pending relay's reply: OPCODE, TAG and STATUS, CSEQ, DETAIL, the result. -/
def execCmdReply (h : MHdr) (opcode tag status cseq detail : Nat) (slots : List Nat) (s : State) :
    Host.Outcome State Fault Refusal :=
  after (s.begin.receive h 0x0E ([opcode, tag, status, cseq, detail] ++ slots) true fun s =>
    match s.mir.relays.find? fun q => q.1 == h.mseq with
    | none => s
    | some (m, o) =>
      let s := s.onMir fun x => { x with relays := x.relays.filter fun q => q.1 != m }
      s.settle o St.SUCCESS 0 ([opcode % 65536 + at' (tag % 65536) 16 + at' (status % 65536) 32, cseq, detail] ++ slots))

end Sys2Proof.Machine
end

