-- ==== Sys2Proof/Machine/Port.lean ====
section
/-! DEFINITION. The meanings of the host port's commands (2). -/

namespace Sys2Proof.Machine

/-! ### CXL.mem -/

/-- MEMWR (R13, R57, R60); `err` is an error the DST entry or its bitmap slot shows (R85, R92). -/
def execMemwr (ld hpa tag : Nat) (data : Line) (poison : Bool) (err : DstErr) (s : State) :
    Host.Outcome State Fault Refusal :=
  after ((s.begin.dstErr ld hpa err).memWrite ld hpa tag data poison)

/-- MEMWRPTL (R13, R30, R60). -/
def execMemwrptl (ld hpa tag : Nat) (data : Line) (en : BitVec 64) (err : DstErr) (s : State) (poison : Bool := false) :
    Host.Outcome State Fault Refusal :=
  after ((s.begin.dstErr ld hpa err).memWritePtl ld hpa tag data en poison)

/-- MEMRD (R57, R67). -/
def execMemrd (ld hpa tag lat : Nat) (err : ReadErr) (s : State) : Host.Outcome State Fault Refusal :=
  after (s.begin.memRead ld hpa tag lat err)

/-- MEMRDDATA (R60): a read. -/
def execMemrddata (ld hpa tag lat : Nat) (err : ReadErr) (s : State) : Host.Outcome State Fault Refusal :=
  after (s.begin.memRead ld hpa tag lat err)

/-- MEMSPECRD (R60): a hint, which this model drops. -/
def execMemspecrd (s : State) : Host.Outcome State Fault Refusal := after s.begin

/-- UNSUPPORTED_MEM_REQUEST (R60). -/
def execUnsupportedMemRequest (tag : Nat) (s : State) : Host.Outcome State Fault Refusal :=
  let s := s.begin
  after (if s.memServes then (s.emit (.memUnsupported tag)).fault Src.CXL_MEM .log else s)

/-- GPF requests are completed: the link is up and the port not sealed (R69). -/
def State.gpfServes (s : State) : Bool := s.port.up && !s.port.sealed

/-- GPF_PHASE1 (R24, R25). -/
def execGpfPhase1 (ld : Nat) (s : State) : Host.Outcome State Fault Refusal :=
  let s := s.begin
  after (if s.gpfServes then
      let l := if s.port.gpfStarted.contains ld then s.port.gpfStarted else s.port.gpfStarted ++ [ld]
      (s.emit (.gpfDone 1 ld)).onPort fun h => { h with gpfStarted := l }
    else s)

/-- GPF_PHASE2 (R24, R25): its completion to the last host that started GPF ends the window. -/
def execGpfPhase2 (ld : Nat) (tFlash : Int) (s : State) : Host.Outcome State Fault Refusal :=
  let s := s.begin
  after (if !s.gpfServes then s
    else
      let started := s.port.gpfStarted.contains ld
      let s := (s.emit (.gpfDone 2 ld)).onPort fun h => { h with gpfStarted := h.gpfStarted.filter (· ≠ ld) }
      if started ∧ s.port.gpfStarted = [] ∧ s.dev = .vaulting ∧ s.port.windowOpen then s.seal tFlash else s)

/-! ### Link and resets -/

/-- LINK_TRAINED (R41, R42): below 16 GT/s CXL.io alone is in service. Where PF2 is presented, its diagnostic windows open
with the link (DESIGN CHOICE, log entry 224). -/
def execLinkTrained (width rate : Nat) (flit256 lowLat : Bool) (s : State) : Host.Outcome State Fault Refusal :=
  let s := s.begin
  after (if !s.mayTrain ∨ !s.linkOk width rate then s
    else
      let s := if s.port.up then s else s.portReset
      let s := s.onPort fun h => { h with
        up := true, width := width, rate := rate
        flit256 := decide (16 ≤ rate) && (flit256 || rate == 64)
        lowLat := lowLat && rate == 64
        memCapable := decide (16 ≤ rate) && !s.mgmt.recovery
        pf2 := if h.up then h.pf2 else { h.pf2 with diagOpen := true } }
      if rate < 16 then s.fault Src.HOST_LINK .degraded else s)

/-- LINK_DOWN (R43, R45): `down` is the link down, otherwise Recovery. Requests not completed are none between two
commands. While the link is down LINK_STATUS reads 0 in every field (DESIGN CHOICE, log entry 2). -/
def execLinkDown (down : Bool) (s : State) : Host.Outcome State Fault Refusal :=
  let s := s.begin
  after (if down then s.portReset.onPort fun h => { h with
      up := false, width := 0, rate := 0, flit256 := false, lowLat := false, memCapable := false }
    else s)

/-- HOT_RESET (R36, R45). -/
def execHotReset (s : State) : Host.Outcome State Fault Refusal :=
  let s := s.begin
  after (if s.port.up then s.portReset else s)

/-- FLR_PF0 (R36, R45): configuration and CXL.io state return to defaults; decoders and committed ranges stay, CXL.mem service
goes on. -/
def execFlrPf0 (s : State) : Host.Outcome State Fault Refusal :=
  let s := s.begin
  after (if s.port.up then s.onPort fun h => { h with ioKeys := [], ioStreams := [] } else s)

/-- FLR_PF1 (R45) of a logical device's PF1. -/
def execFlrPf1 (ld : Nat) (s : State) : Host.Outcome State Fault Refusal :=
  let s := s.begin
  after (if s.port.up then s.flr1 (· == ld) else s)

/-- FLR_PF2 (R45). -/
def execFlrPf2 (s : State) : Host.Outcome State Fault Refusal :=
  let s := s.begin
  after (if s.port.up then s.onPort fun h => { h with pf2 := {} } else s)

/-- CXL_RESET (R36, R45, R46). -/
def execCxlReset (memClr : Bool) (s : State) : Host.Outcome State Fault Refusal :=
  let s := s.begin
  after (if !s.port.up then s
    else
      let s := s.portReset
      if memClr then s.declareClear s.volBytes else s)

/-- VOLATILE_PAGE_CLEARED (R47). -/
def execVolatilePageCleared (s : State) : Host.Outcome State Fault Refusal :=
  let s := s.begin
  after (if s.port.clearAt < s.port.clearEnd then s.onPort fun h => { h with
      clearAt := Nat.min h.clearEnd (h.clearAt + 4096) }
    else s)

/-! ### IDE and SPDM (R70 to R73) -/

/-- IDE_INTEGRITY_FAILURE (R72). -/
def execIdeIntegrityFailure (s : State) : Host.Outcome State Fault Refusal :=
  let s := s.begin
  after (if s.port.ideSecure then
      (s.onPort fun h => { h with ideSecure := false, ideFailed := true, ideKeys := 0 }).fault Src.CXL_MEM .contained
    else s)

/-- CXL_IDE_KM (R70, Table 2-9): in a secured session over DOE on PF0; one CXL.mem stream, CXL.io's link stream and four
selective ones. A stream starts once its keys are programmed. -/
def execCxlIdeKm (session : Nat) (m : IdeMsg) (s : State) (via : SpdmVia := .doe) :
    Host.Outcome State Fault Refusal :=
  let s := s.begin
  let ack := fun (s : State) (st : Nat) => s.spdmRsp 0x7E [session, st]
  let bad := fun (mem : Bool) (stream : Nat) => decide ((if mem then 0 else 4) < stream)
  after (if !s.spdmUp via then s
    else if via ≠ .doe ∨ !s.port.spdm.live via session then s.spdmErr 0x02
    else match m with
      | .query => ack s 0
      | .keyProg mem stream =>
        if bad mem stream then ack s 1
        else ack (s.onPort fun h => if mem then { h with ideKeys := h.ideKeys + 1 }
          else { h with ioKeys := insertAsc stream (h.ioKeys.filter (· ≠ stream)) }) 0
      | .setGo mem stream skid =>
        if bad mem stream ∨ (mem ∧ s.port.ideKeys = 0) ∨ (!mem ∧ !s.port.ioKeys.contains stream) then ack s 1
        else if mem then ack (s.onPort fun h => { h with ideSecure := true, ideFailed := false, ideSkid := skid }) 0
        else ack (s.onPort fun h => { h with ioStreams := insertAsc stream (h.ioStreams.filter (· ≠ stream)) }) 0
      | .setStop mem stream =>
        if mem then ack (s.onPort fun h => { h with ideSecure := false, ideKeys := 0 }) 0
        else ack (s.onPort fun h => { h with
          ioKeys := h.ioKeys.filter (· ≠ stream), ioStreams := h.ioStreams.filter (· ≠ stream) }) 0)

/-- GET_VERSION (R73): SPDM 1.2; the transport's connection starts again, its sessions end. -/
def execGetVersion (s : State) (via : SpdmVia := .doe) : Host.Outcome State Fault Refusal :=
  let s := s.begin
  after (if s.spdmUp via then
      (s.onSpdm fun x => { x.setConn via { version := true } with
        sessions := x.sessions.filter fun q => decide (q.via ≠ via) }).spdmRsp 0x04 [0x12]
    else s)

/-- GET_CAPABILITIES (R73, Table 2-10). -/
def execGetCapabilities (s : State) (via : SpdmVia := .doe) : Host.Outcome State Fault Refusal :=
  let s := s.begin
  after (if !s.spdmUp via then s
    else if !(s.port.spdm.conn via).version then s.spdmErr 0x04
    else (s.onSpdm fun x => x.setConn via { x.conn via with capabilities := true }).spdmRsp 0x61 [spdmCaps])

/-- NEGOTIATE_ALGORITHMS (R73): the one set of Table 2-10; `offered` says that the requester offers it. -/
def execNegotiateAlgorithms (offered : Bool) (s : State) (via : SpdmVia := .doe) :
    Host.Outcome State Fault Refusal :=
  let s := s.begin
  after (if !s.spdmUp via then s
    else if !(s.port.spdm.conn via).capabilities then s.spdmErr 0x04
    else if !offered then s.spdmErr 0x01
    else (s.onSpdm fun x => x.setConn via { x.conn via with algorithms := true }).spdmRsp 0x63 spdmAlgorithms)

/-- GET_DIGESTS (R73): the slots that hold a chain, and their digests. -/
def execGetDigests (s : State) (via : SpdmVia := .doe) : Host.Outcome State Fault Refusal :=
  let s := s.begin
  after (if !s.spdmUp via then s
    else if !(s.port.spdm.conn via).algorithms then s.spdmErr 0x04
    else s.spdmRsp 0x01 (maskOf s.certSlots :: s.certSlots.map Config.certDigest))

/-- GET_CERTIFICATE (R73). -/
def execGetCertificate (slot : Nat) (s : State) (via : SpdmVia := .doe) :
    Host.Outcome State Fault Refusal :=
  let s := s.begin
  after (if !s.spdmUp via then s
    else if !(s.port.spdm.conn via).algorithms then s.spdmErr 0x04
    else if s.certSlots.contains slot then s.spdmRsp 0x02 [slot, Config.certDigest slot]
    else s.spdmErr 0x01)

/-- CHALLENGE (R73): the answer's signature is a free value. -/
def execChallenge (slot : Nat) (s : State) (via : SpdmVia := .doe) :
    Host.Outcome State Fault Refusal :=
  let s := s.begin
  after (if !s.spdmUp via then s
    else if !(s.port.spdm.conn via).algorithms then s.spdmErr 0x04
    else if s.certSlots.contains slot then
      let (sig, s) := s.free 0x83
      s.spdmRsp 0x03 [slot, Config.certDigest slot, sig]
    else s.spdmErr 0x01)

/-- GET_MEASUREMENTS (R73): 0 asks for their number, 1 to 5 for one, 255 for all; the digests are free values. -/
def execGetMeasurements (index : Nat) (s : State) (via : SpdmVia := .doe) :
    Host.Outcome State Fault Refusal :=
  let s := s.begin
  after (if !s.spdmUp via then s
    else if !(s.port.spdm.conn via).algorithms then s.spdmErr 0x04
    else if index = 0 then s.spdmRsp 0x60 [5]
    else if index ≤ 5 ∨ index = 255 then
      let which := if index = 255 then [1, 2, 3, 4, 5] else [index]
      let (l, s) := s.freeWords 0xE0 which.length
      s.spdmRsp 0x60 (which.length :: (which.zip l).flatMap fun p => [p.1, p.2])
    else s.spdmErr 0x01)

/-- KEY_EXCHANGE (R73): at most 4 sessions. -/
def execKeyExchange (slot : Nat) (s : State) (via : SpdmVia := .doe) :
    Host.Outcome State Fault Refusal :=
  let s := s.begin
  after (if !s.spdmUp via then s
    else if !(s.port.spdm.conn via).algorithms then s.spdmErr 0x04
    else if !s.certSlots.contains slot then s.spdmErr 0x01
    else if 4 ≤ s.port.spdm.sessions.length then s.spdmErr 0x0A
    else
      let id := s.port.spdm.nextId
      (s.onSpdm fun x => { x with sessions := x.sessions ++ [{ id := id, via := via }], nextId := id + 1 }).spdmRsp
        0x64 [id])

/-- FINISH (R73). -/
def execFinish (session : Nat) (s : State) (via : SpdmVia := .doe) :
    Host.Outcome State Fault Refusal :=
  let s := s.begin
  after (if !s.spdmUp via then s
    else if !(s.port.spdm.sessions.any (fun q => q.id == session && decide (q.via = via) && !q.established)) then
      s.spdmErr 0x02
    else (s.onSpdm fun x => { x with sessions := x.sessions.map fun q =>
      if q.id = session then { q with established := true } else q }).spdmRsp 0x65 [session])

/-- HEARTBEAT (R73). -/
def execHeartbeat (session : Nat) (s : State) (via : SpdmVia := .doe) :
    Host.Outcome State Fault Refusal :=
  let s := s.begin
  after (if !s.spdmUp via then s
    else if s.port.spdm.live via session then s.spdmRsp 0x68 [session] else s.spdmErr 0x02)

/-- KEY_UPDATE (R73). -/
def execKeyUpdate (session : Nat) (s : State) (via : SpdmVia := .doe) :
    Host.Outcome State Fault Refusal :=
  let s := s.begin
  after (if !s.spdmUp via then s
    else if !s.port.spdm.live via session then s.spdmErr 0x02
    else (s.onSpdm fun x => { x with sessions := x.sessions.map fun q =>
      if q.id = session then { q with keyGen := q.keyGen + 1 } else q }).spdmRsp 0x69 [session])

/-- END_SESSION (R73). -/
def execEndSession (session : Nat) (s : State) (via : SpdmVia := .doe) :
    Host.Outcome State Fault Refusal :=
  let s := s.begin
  after (if !s.spdmUp via then s
    else if !s.port.spdm.live via session then s.spdmErr 0x02
    else (s.onSpdm fun x => { x with sessions := x.sessions.filter fun q => q.id != session }).spdmRsp 0x6C [session])

/-! ### Status commands (R508) -/

/-- IDENTIFY_MEMORY_DEVICE (R508, R49, R64): firmware version, total, volatile and static persistent capacity in bytes,
records of an event log, ranges of the poison list. -/
def execIdentifyMemoryDevice (c : Cxl) (s : State) : Host.Outcome State Fault Refusal :=
  after (s.begin.stdStatus c 0x4000 fun s =>
    let (v, p) := s.alloc c.ld
    ([s.view Reg.FW_VERSION_ACTIVE, v + p * GiB, v, if s.port.whole then p * GiB else 0, 256,
      s.reg Reg.POISON_LIST_MAX], s))

/-- GET_PARTITION_INFO (R508, R49): active volatile and persistent capacity, and the next ones. -/
def execGetPartitionInfo (c : Cxl) (s : State) : Host.Outcome State Fault Refusal :=
  after (s.begin.stdStatus c 0x4100 fun s =>
    let (v, p) := s.alloc c.ld
    let nv := if s.reg Reg.MLD_ENABLE = 1 then (mget (0, 0) s.port.allocs c.ld).1 else
      if c.ld = 0 then s.reg Reg.VOLATILE_SIZE else 0
    let np := if s.reg Reg.MLD_ENABLE = 1 then (mget (0, 0) s.port.allocs c.ld).2 else
      if c.ld = 0 then s.basin.host / GiB - 64 * nv else 0
    ([v, if s.port.whole then p * GiB else 0, nv * 64 * GiB, if s.reg Reg.HOST_CAP_MODE = 1 then np * GiB else 0], s))

/-- GET_HEALTH_INFO (R162, R508): media status of Table 2-8, Life Used, temperature, Dirty Shutdown Count. -/
def execGetHealthInfo (c : Cxl) (s : State) : Host.Outcome State Fault Refusal :=
  after (s.begin.stdStatus c 0x4200 fun s =>
    ([s.port.media.code, Nat.min 100 (s.reg Reg.ENDUR_LIFE_USED), s.view Reg.TJ_NOW, s.reg Reg.DIRTY_SHUTDOWN_COUNT], s))

/-- GET_ALERT_CONFIGURATION (R508): its thresholds are not stated. -/
def execGetAlertConfiguration (c : Cxl) (s : State) : Host.Outcome State Fault Refusal :=
  after (s.begin.stdStatus c 0x4201 fun s => s.freeWords 0x4201 1)

/-- GET_SHUTDOWN_STATE (R31). -/
def execGetShutdownState (c : Cxl) (s : State) : Host.Outcome State Fault Refusal :=
  after (s.begin.stdStatus c 0x4203 fun s => ([b2n s.port.shutdownDirty], s))

/-- SET_SHUTDOWN_STATE (R31): stored, with no effect on the Dirty Shutdown Count. -/
def execSetShutdownState (c : Cxl) (dirty : Bool) (s : State) : Host.Outcome State Fault Refusal :=
  after (s.begin.stdFull c 0x4204 fun s => s.stdJournal c 0x4204 (digestOf [b2n dirty]) fun s =>
    (.success, (s.nvDurable (.shutdownState dirty)).onPort fun h => { h with shutdownDirty := dirty }))

/-- GET_SECURITY_STATE (R74). -/
def execGetSecurityState (c : Cxl) (s : State) : Host.Outcome State Fault Refusal :=
  after (s.begin.stdStatus c 0x4500 fun s => ([s.port.sec.word], s))

/-- SET_PASSPHRASE (R74). -/
def execSetPassphrase (c : Cxl) (master : Bool) (cur new : BitVec 256) (s : State) : Host.Outcome State Fault Refusal :=
  after (s.begin.stdFull c 0x4501 fun s => s.stdJournal c 0x4501 0 fun s => s.setPassphrase master cur new)

/-- DISABLE_PASSPHRASE (R74). -/
def execDisablePassphrase (c : Cxl) (master : Bool) (cur : BitVec 256) (s : State) : Host.Outcome State Fault Refusal :=
  after (s.begin.stdFull c 0x4502 fun s => s.stdJournal c 0x4502 0 fun s => s.disablePassphrase master cur)

/-- UNLOCK (R74, R235). -/
def execUnlock (c : Cxl) (pass : BitVec 256) (s : State) : Host.Outcome State Fault Refusal :=
  after (s.begin.stdFull c 0x4503 fun s => s.stdJournal c 0x4503 0 fun s => s.unlock pass)

/-- FREEZE_SECURITY_STATE (R74). -/
def execFreezeSecurityState (c : Cxl) (s : State) : Host.Outcome State Fault Refusal :=
  after (s.begin.stdFull c 0x4504 fun s => s.stdJournal c 0x4504 (digestOf []) fun s =>
    (.success, (s.onPort fun h => { h with sec := { h.sec with frozen := true } }).saveSecurity))

/-- PASSPHRASE_SECURE_ERASE (R74, R76). -/
def execPassphraseSecureErase (c : Cxl) (master : Bool) (pass : BitVec 256) (s : State) :
    Host.Outcome State Fault Refusal :=
  let s := s.begin
  after (if !s.stdReaches c ∨ s.restricted ∨ s.port.committed then s.startErase c 0x4505 0 true
    else if s.port.sec.frozen then s.cxlRet 0x4505 .invalidSecurityState
    else if (s.port.sec.pass master).any (fun p => p != pass) then s.cxlRet 0x4505 .incorrectPassphrase
    else s.startErase c 0x4505 0 true)

/-- SANITIZE (R76, R508). -/
def execSanitize (c : Cxl) (s : State) : Host.Outcome State Fault Refusal :=
  after (s.begin.startErase c 0x4400 (digestOf []) false)

/-- SECURE_ERASE (R76). -/
def execSecureErase (c : Cxl) (s : State) : Host.Outcome State Fault Refusal :=
  after (s.begin.startErase c 0x4401 (digestOf []) false)

/-! ### Event logs (R64, R380) -/

/-- The fields of a log's record; a vendor record carries Ubnan's identifier (R64). -/
def LogRec.fields (x : LogRec) : List Nat :=
  if x.kind = 0 then [0, Config.vendorRecordId, x.event, x.seq, x.state, x.sev] else [x.kind, x.addr, b2n x.more, x.handle, x.state]

/-- GET_EVENT_RECORDS (R64): overflow count with the timestamps of the first and the last record lost, records held, and
the oldest records, as many as a payload takes. The Dynamic Capacity log is the logical device's own (R59). -/
def execGetEventRecords (c : Cxl) (log : Nat) (s : State) : Host.Outcome State Fault Refusal :=
  let s := s.begin
  after (if 4 < log then (if s.stdReaches c then s.cxlRet 0x0100 .invalidLog else s)
    else s.stdStatus c 0x0100 fun s =>
      let l := mget [] s.port.logs (logKey (log + 1) c.ld)
      let o := mget {} s.port.logOver (logKey (log + 1) c.ld)
      ([o.count, o.first, o.last, l.length] ++ (l.take 31).flatMap LogRec.fields, s))

/-- CLEAR_EVENT_RECORDS (R64): the `n` oldest, or all; the overflow count ends with them. -/
def execClearEventRecords (c : Cxl) (log n : Nat) (all : Bool) (s : State) : Host.Outcome State Fault Refusal :=
  let s := s.begin
  after (if !s.stdReaches c then s
    else if 4 < log then s.cxlRet 0x0101 .invalidLog
    else
      let l := mget [] s.port.logs (logKey (log + 1) c.ld)
      if !all ∧ l.length < n then s.cxlRet 0x0101 .invalidHandle
      else (s.onPort fun h => { h with
        logs := mset [] h.logs (logKey (log + 1) c.ld) (if all then [] else l.drop n)
        logOver := if all ∨ 0 < n then mset {} h.logOver (logKey (log + 1) c.ld) {} else h.logOver }).cxlRet 0x0101 .success)

/-- GET_EVENT_INTERRUPT_POLICY (R508, R380). -/
def execGetEventInterruptPolicy (c : Cxl) (s : State) : Host.Outcome State Fault Refusal :=
  after (s.begin.stdStatus c 0x0102 fun s => ((List.range 5).map fun i => mget 0 (s.port.fn1 c.ld).logVectors (i + 1), s))

/-- SET_EVENT_INTERRUPT_POLICY (R380): vectors of the five logs, 0 to 63. -/
def execSetEventInterruptPolicy (c : Cxl) (vs : List Nat) (s : State) : Host.Outcome State Fault Refusal :=
  after (s.begin.stdFull c 0x0103 fun s =>
    if vs.length ≠ 5 ∨ vs.any (fun v => decide (64 ≤ v)) then s.cxlRet 0x0103 .invalidInput
    else (s.onPf1 c.ld fun x => { x with logVectors := (vs.zipIdx).map fun p => (p.2 + 1, p.1) }).cxlRet 0x0103
      .success)

/-! ### Firmware, logs, time (R483, R508) -/

/-- GET_FW_INFO (R483): two slots, the active one, their versions. -/
def execGetFwInfo (c : Cxl) (s : State) : Host.Outcome State Fault Refusal :=
  after (s.begin.stdStatus c 0x0200 fun s =>
    ([2, s.mgmt.active + 1, fwField s.mgmt.slotA 4 6, fwField s.mgmt.slotB 4 6], s))

/-- TRANSFER_FW (R483): Unsupported. -/
def execTransferFw (c : Cxl) (s : State) : Host.Outcome State Fault Refusal :=
  after (s.begin.stdFull c 0x0201 fun s => s.cxlRet 0x0201 .unsupported)

/-- ACTIVATE_FW (R483): Unsupported. -/
def execActivateFw (c : Cxl) (s : State) : Host.Outcome State Fault Refusal :=
  after (s.begin.stdFull c 0x0202 fun s => s.cxlRet 0x0202 .unsupported)

/-- GET_SUPPORTED_LOGS (R508): which logs is not stated. -/
def execGetSupportedLogs (c : Cxl) (s : State) : Host.Outcome State Fault Refusal :=
  after (s.begin.stdStatus c 0x0400 fun s => s.freeWords 0x0400 1)

/-- GET_LOG (R508): a log's contents are not stated. -/
def execGetLog (c : Cxl) (s : State) : Host.Outcome State Fault Refusal :=
  after (s.begin.stdStatus c 0x0401 fun s => s.freeWords 0x0401 1)

/-- GET_TIMESTAMP (R508): a command that sets it is not among those supported. -/
def execGetTimestamp (c : Cxl) (s : State) : Host.Outcome State Fault Refusal :=
  after (s.begin.stdStatus c 0x0300 fun s => ([s.port.timestamp], s))

/-! ### Poison (R61 to R63) -/

/-- GET_POISON_LIST (R62): the ranges in `len` bytes from `start`. -/
def execGetPoisonList (c : Cxl) (start len : Nat) (s : State) : Host.Outcome State Fault Refusal :=
  after (s.begin.stdStatus c 0x4300 fun s => (s.poisonFields c.ld (s.poisonIn' s.port.poison c.ld start len), s))

/-- INJECT_POISON (R63): in ONLINE only. -/
def execInjectPoison (c : Cxl) (dpa : Nat) (s : State) : Host.Outcome State Fault Refusal :=
  after (s.begin.stdFull c 0x4301 fun s => s.stdJournal c 0x4301 (digestOf [dpa]) fun s =>
    if s.dev ≠ .online then (.mediaDisabled, s)
    else match s.poisonAddr c.ld dpa with
      | none => (.invalidPhysicalAddress, s)
      | some a => (.success, (if s.persistent a then s.dirtyPage a else s).poisonAt a .injected))

/-- CLEAR_POISON (R30, R63): the line takes the data given. -/
def execClearPoison (c : Cxl) (dpa : Nat) (data : Line) (s : State) : Host.Outcome State Fault Refusal :=
  after (s.begin.stdFull c 0x4302 fun s => s.stdJournal c 0x4302 (digestOf [dpa]) fun s =>
    match s.poisonAddr c.ld dpa with
    | none => (.invalidPhysicalAddress, s)
    | some a =>
      let s := if s.persistent a then s.dirtyPage a else s
      let s : State := { s with mem := writeLine s.mem a (BitVec.allOnes 64) data }
      (.success, (s.unpoison a).onBasin fun b => { b with repair := b.repair.filter (· ≠ a / 64) }))

/-- GET_SCAN_MEDIA_CAPABILITIES (R61): the time a scan takes is not stated. -/
def execGetScanMediaCapabilities (c : Cxl) (s : State) : Host.Outcome State Fault Refusal :=
  after (s.begin.stdStatus c 0x4303 fun s => s.freeWords 0x4303 1)

/-- SCAN_MEDIA (R61, R62): finds every poisoned line of the range, for the logical device that asked. -/
def execScanMedia (c : Cxl) (start len : Nat) (s : State) : Host.Outcome State Fault Refusal :=
  after (s.begin.stdFull c 0x4304 fun s =>
    (s.onPort fun h => { h with scans := mput c.ld (s.poisonIn' h.poison c.ld start len) h.scans }).cxlRet 0x4304
      .backgroundStarted)

/-- GET_SCAN_MEDIA_RESULTS (R61). -/
def execGetScanMediaResults (c : Cxl) (s : State) : Host.Outcome State Fault Refusal :=
  after (s.begin.stdFull c 0x4305 fun s =>
    match s.port.scans.find? fun q => q.1 == c.ld with
    | some q => s.cxlRet 0x4305 .success ((mergeLines q.2).flatMap fun x => [x.1 * 64, x.2.1, x.2.2.code])
    | none => s.cxlRet 0x4305 .unsupported)

/-! ### Dynamic Capacity and logical devices (R49 to R59) -/

/-- GET_DYNAMIC_CAPACITY_CONFIGURATION (R42, R49, R53): regions; base, length, block size of region 0 and whether it is
shareable. -/
def execGetDynamicCapacityConfiguration (c : Cxl) (s : State) : Host.Outcome State Fault Refusal :=
  after (s.begin.stdStatus c 0x4800 fun s =>
    let (v, p) := s.ranges c.ld
    (if s.port.whole ∨ s.slowLink then [0] else [1, v, p, GiB, b2n s.port.caps.sharing], s))

/-- GET_DYNAMIC_CAPACITY_EXTENT_LIST (R508): the extents the host has accepted. -/
def execGetDynamicCapacityExtentList (c : Cxl) (s : State) : Host.Outcome State Fault Refusal :=
  after (s.begin.stdStatus c 0x4801 fun s =>
    let l := s.port.extents.filter fun p => p.1 / 8192 == c.ld && decide (p.2 = .accepted)
    (l.length :: l.map fun p => p.1 % 8192, s))

/-- ADD_DYNAMIC_CAPACITY_RESPONSE (R54, Table 2-5). -/
def execAddDynamicCapacityResponse (c : Cxl) (accepted declined : List Nat) (s : State) :
    Host.Outcome State Fault Refusal :=
  after (s.begin.stdFull c 0x4802 fun s =>
    let (r, s) := s.dcAnswer c.ld accepted declined
    s.cxlRet 0x4802 r)

/-- RELEASE_DYNAMIC_CAPACITY (R55, Table 2-5). -/
def execReleaseDynamicCapacity (c : Cxl) (es : List Nat) (s : State) : Host.Outcome State Fault Refusal :=
  after (s.begin.stdFull c 0x4803 fun s =>
    let (r, s) := s.dcRelease c.ld es
    s.cxlRet 0x4803 r)

/-- SET_LD_ALLOCATIONS (R51, R58): from the fabric manager over MCTP, for the LD_COUNT logical devices; the allocations
must fit and take effect at the next BRINGUP. While SHUTDOWN_RECORD does not read NONE it is invalid in the present state,
which its return code says as Inject Poison's does (log entry 99). -/
def execSetLdAllocations (c : Cxl) (start : Nat) (l : List (Nat × Nat)) (s : State) : Host.Outcome State Fault Refusal :=
  after (s.begin.stdFull c 0x5402 fun s =>
    if c.transport < 2 then s.cxlRet 0x5402 .unsupported
    else s.stdJournal { c with fm := true } 0x5402 (digestOf (l.flatMap fun p => [p.1, p.2])) fun s =>
      if s.reg Reg.SHUTDOWN_RECORD ≠ Shut.none.code then (.mediaDisabled, s)
      else
        let new := (l.zipIdx).foldl (fun m p => mset (0, 0) m (start + p.2) p.1) s.port.allocs
        let vol := s.reg Reg.VOLATILE_SIZE
        let ext := s.basin.host / GiB - 64 * vol
        if s.reg Reg.LD_COUNT < start + l.length ∨ vol < sumOf (new.map fun p => p.2.1) ∨ ext < sumOf (new.map fun p => p.2.2) then
          (.invalidInput, s)
        else (.success, s.onPort fun h => { h with allocs := new }))

/-- QOS_FRACTION_SET (R59): a logical device's limit or allocation fraction. -/
def execQosFractionSet (ld : Nat) (limit : Bool) (v : Nat) (s : State) : Host.Outcome State Fault Refusal :=
  let s := s.begin
  after (if !s.firmwareUp ∨ 8 ≤ ld then s
    else s.onPort fun h => if limit then { h with qosLimit := mset 0 h.qosLimit ld (v % 256) }
      else { h with qosAlloc := mset 0 h.qosAlloc ld (v % 256) })

/-- HDM_DECODER_COMMIT (R52, Table 2-4): `on` commits the next decoder, otherwise the last one is uncommitted. -/
def execHdmDecoderCommit (ld : Nat) (on : Bool) (base size skip ways gran : Nat) (lock : Bool) (s : State)
    (hdmH : Bool := true) :
    Host.Outcome State Fault Refusal :=
  let s := s.begin
  after (if !s.port.up ∨ !s.lds.contains ld then s
    else if on then s.commitDecoder ld base size skip ways gran lock hdmH
    else s.uncommitDecoder ld)

/-! ### DOE (R44, R67) -/

/-- The number of the FM-owned logical device, which the spec does not give: CXL's LD-ID 0xFFFF (PRESUMED, log entry 225). -/
abbrev fmOwned : Nat := 0xFFFF

/-- A function is presented to a logical device's host (R44): PF0 and PF1 to each, PF2 in single-logical operation and to
the FM-owned logical device. -/
def State.presents (s : State) (ld fn : Nat) : Bool :=
  s.port.up && (if fn = 2 then (if s.port.mld then ld == fmOwned else ld == 0) else decide (fn < 2) && s.lds.contains ld)

/-- CDAT_TABLE_ACCESS (R42, R44, R67): the ranges presented and their latencies, 400 ns read and 350 ns write. -/
def execCdatTableAccess (ld : Nat) (s : State) : Host.Outcome State Fault Refusal :=
  let s := s.begin
  after (if s.presents ld 0 then
      let (v, p) := s.ranges ld
      s.emit (.doe 2 [v, p, 400, 350])
    else s)

/-- DOE_DISCOVERY (R44, Table 2-2): PF0 lists Discovery, CMA, Secured CMA and Table Access; PF1 and PF2 Discovery alone. -/
def execDoeDiscovery (ld fn : Nat) (s : State) : Host.Outcome State Fault Refusal :=
  let s := s.begin
  after (if !s.presents ld fn then s
    else s.emit (.doe 0 (if fn = 0 then [0, 1, 2, 0x1E98] else [0])))

/-- OTHER_STANDARD_CXL_COMMAND (R508): Media Disabled in the restricted states; elsewhere a command the device does not
list is unsupported. -/
def execOtherStandardCxlCommand (c : Cxl) (op : Nat) (s : State) : Host.Outcome State Fault Refusal :=
  after (s.begin.stdFull c op fun s => s.cxlRet op .unsupported)

end Sys2Proof.Machine
end

