-- ==== Sys2Proof/Machine/Siphon.lean ====
section
/-! DEFINITION. The meanings of the Siphon's and the Kickstand's commands (7). -/

namespace Sys2Proof.Machine

/-- HOLD_TIME_LIMIT (R214, Table 7-2). -/
def execHoldTimeLimit (s : State) : Host.Outcome State Fault Refusal :=
  let s := s.begin
  after (if s.dev = .kickstand ∧ s.sip.hold.state = .holding then
      (s.onSip fun x => { x with hold := { x.hold with elapsed := s.reg Reg.KICK_HOLD_MAX } }).endHoldDown 2 .ended
    else s)

/-- SEALED_RESTART_DELAY_EXPIRY (R215). -/
def execSealedRestartDelayExpiry (s : State) : Host.Outcome State Fault Refusal :=
  let s := s.begin
  after (if s.dev = .sealed ∧ s.spill.present then s.coreRestart else s)

/-- SEALED_INPUT_LOSS (R215). -/
def execSealedInputLoss (s : State) : Host.Outcome State Fault Refusal :=
  let s := s.begin
  after (if s.dev = .sealed then (s.onSpill fun x => { x with present := false }).powerDown else s)

/-- START_PATH_CHOICE (R217): once the population is accepted and the maps are loaded. -/
def execStartPathChoice (badA badB : List Nat) (bitmaps token : Bool) (s : State) : Host.Outcome State Fault Refusal :=
  let s := s.begin
  after (if s.dev = .bringup ∧ s.sip.state = .evaluating ∧ s.sip.path = 0 ∧ s.basin.state = .serving
      ∧ s.rill.state = .running then
      s.choosePath { badA := badA, badB := badB, bitmaps := bitmaps, token := token }
    else s)

/-- BRINGUP_EXIT (R129, R217, R226, R229). -/
def execBringupExit (s : State) : Host.Outcome State Fault Refusal :=
  let s := s.begin
  after (if s.dev = .bringup ∧ s.sip.state = .evaluating ∧ 2 ≤ s.sip.path ∧ s.weir.state = .planning
      ∧ s.res.state = .running ∧ s.nv.state = .running ∧ s.port.erasing = none
      ∧ s.mgmt.state = .running then s.leaveBringup
    else s)

/-- EXTENT_FETCH_COMPLETE (R227, R229, Table 7-11). -/
def execExtentFetchComplete (e : Nat) (bad : List (Nat × Nat)) (rebuilt : Bool) (s : State) :
    Host.Outcome State Fault Refusal :=
  let s := s.begin
  let flying := (s.sip.order.take s.sip.issued).drop s.sip.online
  after (if s.dev ≠ .restoring ∨ s.sip.state ≠ .fetching ∨ !flying.contains e ∨ s.sip.fetched.contains e then s
    else
      let lost := s.unreadable e bad
      let s := (s.restoreExtent e bad).onSip fun x => { x with fetched := x.fetched ++ [e] }
      let s := if rebuilt then s.fault Src.SIPHON .corrected else s
      let s := if lost then s.fault Src.SIPHON .degraded else s
      s.onlineReady (s.sip.order.length + 1))

/-- SETTLE_COMPLETE (R231). -/
def execSettleComplete (seg : Nat) (s : State) : Host.Outcome State Fault Refusal :=
  let s := s.begin
  after (if s.dev = .restoring then s.settleSeg seg else s)

/-- CHAIN_RETIRE (R233). -/
def execChainRetire (s : State) : Host.Outcome State Fault Refusal :=
  let s := s.begin
  after (if s.dev = .restoring ∧ s.sip.state = .settling ∧ s.sip.settles = [] then s.retire else s)

/-- RESTORE_STALL (R238). -/
def execRestoreStall (s : State) : Host.Outcome State Fault Refusal :=
  let s := s.begin
  after (if s.sip.state = .fetching then (s.fault Src.SIPHON .degraded).raise Ev.RESTORE_STALL else s)

end Sys2Proof.Machine
end

