-- ==== Sys2Proof/Machine/Spill.lean ====
section
/-! DEFINITION. The meanings of the input supervision's and the Spillway's commands (6). -/

namespace Sys2Proof.Machine

/-- INPUT_PRESENT (R195, R214, R215, R347): readings whose governing one has stood at or above RECOVERY_THRESHOLD. -/
def execInputPresent (mvA mvB : Nat) (s : State) : Host.Outcome State Fault Refusal :=
  let s := s.begin.noteInput mvA mvB
  after (if s.inputReaches Reg.RECOVERY_THRESHOLD then s.inputPresent else s)

/-- EARLY_WARNING (R168, R175): readings whose governing one has stood below EW_THRESHOLD. -/
def execEarlyWarning (mvA mvB : Nat) (s : State) : Host.Outcome State Fault Refusal :=
  let s := s.begin.noteInput mvA mvB
  after (if s.inputMv.isSome ∧ !s.inputReaches Reg.EW_THRESHOLD then s.earlyWarning true else s)

/-- RECOVERY (R168, R179): readings whose governing one has stood at or above RECOVERY_THRESHOLD. -/
def execRecovery (mvA mvB : Nat) (s : State) : Host.Outcome State Fault Refusal :=
  let s := s.begin.noteInput mvA mvB
  after (if s.inputReaches Reg.RECOVERY_THRESHOLD then s.recovery else s)

/-- UNDERVOLTAGE_COMMIT (R168, R169): readings whose governing one has stood below COMMIT_THRESHOLD; without an early
warning before it, it raises that too. -/
def execUndervoltageCommit (mvA mvB : Nat) (s : State) : Host.Outcome State Fault Refusal :=
  let s := s.begin.noteInput mvA mvB
  after (if s.inputMv.isSome ∧ !s.inputReaches Reg.COMMIT_THRESHOLD ∧ s.dev.warns then (s.earlyWarning false).commit 1
    else s)

/-- RIDE_THROUGH_EXPIRY (R168): commit cause 0x2. -/
def execRideThroughExpiry (s : State) : Host.Outcome State Fault Refusal :=
  let s := s.begin
  after (if s.spill.timer.isSome ∧ s.spill.warned then s.commit 2 else s)

/-- CHAIN_DISAGREEMENT (R171, R500): readings that differ by more than 120 mV. -/
def execChainDisagreement (mvA mvB : Nat) (s : State) : Host.Outcome State Fault Refusal :=
  let s := s.begin
  after (if !s.seq.aonUp ∨ s.spill.failA ∨ s.spill.failB ∨ mvA - mvB + (mvB - mvA) ≤ 120 then s
    else ((s.onSpill fun x => { x with disagree := true }).noteInput mvA mvB).fault Src.INPUT_MON .degraded)

/-- CHAIN_FAILURE (R171): the other chain governs; with both failed the input is absent and the report is FATAL. -/
def execChainFailure (a : Bool) (s : State) : Host.Outcome State Fault Refusal :=
  let s := s.begin
  after (if !s.seq.aonUp ∨ (if a then s.spill.failA else s.spill.failB) then s
    else
      let s := (s.onSpill fun x => if a then { x with failA := true } else { x with failB := true }).judgeInput
      s.fault Src.INPUT_MON (if s.inputMv.isNone then .fatal else .degraded))

/-- CHAIN_RESTORED (R171): the chain samples within range again and governs once more. -/
def execChainRestored (a : Bool) (mv : Nat) (s : State) : Host.Outcome State Fault Refusal :=
  after (s.begin.onSpill fun x =>
    if a then { x with failA := false, chainA := mv } else { x with failB := false, chainB := mv }).judgeInput

/-- GPF_WINDOW_END (R24, R185): the port is sealed and the drain begins. -/
def execGpfWindowEnd (tFlash : Int) (s : State) : Host.Outcome State Fault Refusal := after (s.begin.seal tFlash)

/-- SPECULATIVE_CAPTURE (R176, R184); `ue` are the lines that read uncorrectable (Table 3-7). -/
def execSpeculativeCapture (s : State) (ue : List Nat := []) : Host.Outcome State Fault Refusal :=
  after (s.begin.speculate ue)

/-- UNDO_COMPLETE (R179). -/
def execUndoComplete (s : State) : Host.Outcome State Fault Refusal := after s.begin.undo

/-- DAMP_QUIET_EXPIRY (R182). -/
def execDampQuietExpiry (s : State) : Host.Outcome State Fault Refusal :=
  let s := s.begin
  after (if s.reg Reg.DAMPED = 1 ∧ !s.spill.warned then
      (s.setReg Reg.DAMPED 0).setReg Reg.DAMPING_CAP 524288 else s)

/-- DRAIN_RUN (R186, R192): `cut` is the number of the run's pages issued when close-out arrives, if it arrives within the
run, `err` an error found in the segment's entry or bitmap slot, `ue` the lines that read uncorrectable. -/
def execDrainRun (cut : Option Nat) (s : State) (err : DstErr := .none) (ue : List Nat := []) :
    Host.Outcome State Fault Refusal :=
  after (s.begin.drainRun cut err ue)

/-- SLOT_SET_DRAINED (R99, R187): a set below the highest whose pages are all issued and whose wheels have closed. -/
def execSlotSetDrained (k : Nat) (s : State) : Host.Outcome State Fault Refusal :=
  let s := s.begin
  after (match s.spill.vault with
    | some v =>
      let left := (s.toDrain v).any fun x => x.1 == k
      if k < s.basin.topSet ∧ s.setClosed k
          ∧ ((s.spill.state = .draining ∧ !left) ∨ s.spill.state = .closing) then s.reportSet k
      else s
    | none => s)

/-- SLOW_SPOKE_TIMEOUT (R189): the strip of a column of a stream V wheel becomes an erasure, its target is dropped and
joins the slow set. -/
def execSlowSpokeTimeout (wheel column : Nat) (s : State) : Host.Outcome State Fault Refusal :=
  let s := s.begin
  let port := ((s.whl.bandOf wheel).bind fun b => b.1.spoke b.2 column).map (·.port)
  after (match s.whl.wheel wheel, port with
    | some w, some p =>
      if (s.dev = .preSpill ∨ s.dev = .vaulting) ∧ w.stream = .v ∧ w.state = .open_ then
        let s := if s.spill.dropped.contains p then s
          else (s.onSpill fun x => { x with dropped := x.dropped ++ [p] }).addReg Reg.VAULT_SLOW_DROPS 1
        ((s.setSlow p true).vErasure wheel column).fault Src.SPILLWAY .log
      else s
    | _, _ => s)

/-- DRAIN_STALL_TIMEOUT (R208): FATAL, and close-out at once. -/
def execDrainStallTimeout (s : State) : Host.Outcome State Fault Refusal :=
  let s := s.begin
  after (if s.spill.state = .draining then (s.fault Src.SPILLWAY .fatal).closeOut else s)

/-- VAULT_METADATA_WRITTEN (R196): step 3. -/
def execVaultMetadataWritten (tMed : Nat) (s : State) : Host.Outcome State Fault Refusal :=
  after (s.begin.metadataDone tMed)

/-- JOURNAL_DESCRIPTORS_WRITTEN (R196): step 4. -/
def execJournalDescriptorsWritten (copyA copyB : Bool) (s : State) : Host.Outcome State Fault Refusal :=
  after (s.begin.journalStepDone copyA copyB)

/-- How the copies of a manifest fare (R198): A and B are attempted first, then each failed copy again, four attempts in
all, of which those numbered in `fails` fail. Answers the failed attempts of A and of B, and the copies written. -/
def manifestTries (fails : List Nat) : Nat → Nat → List Bool → Nat × Nat × Bool × Bool
  | 0, _, _ => (0, 0, false, false)
  | _, _, [] => (0, 0, false, false)
  | f + 1, i, b :: q =>
    if fails.contains i then
      let (x, y, a', b') := manifestTries fails f (i + 1) (q ++ [b])
      if b then (x, y + 1, a', b') else (x + 1, y, a', b')
    else
      let (x, y, a', b') := manifestTries fails f (i + 1) q
      if b then (x, y, a', true) else (x, y, true, b')

/-- Step 5 is done (R198): the manifest stands in a journal strip, each copy past the blocks that failed to program it. -/
def State.manifestDone (s : State) (fails : List Nat) : State :=
  match s.spill.vault with
  | none => s
  | some v =>
    if s.spill.state ≠ .closing ∨ v.step ≠ .manifest ∨ s.mgmt.state ≠ .running then s
    else
      let (fa, fb, okA, okB) := manifestTries fails 4 0 [false, true]
      let s := (s.journalFail 0 fa).journalFail 1 fb
      let (a, b, _, _) := s.journalPlace
      let s := if okA || okB then s.journalPut (some v.man.seq) okA okB else s
      let m := { v.man with
        copies := b2n okA + b2n okB, jlocA := if okA then s.res.jloc a else 0, jlocB := if okB then s.res.jloc b else 0 }
      let s := s.onVault fun v => { v with step := .pointer, man := m }
      let s := if m.copies = 0 then s.fault Src.SPILLWAY .degraded
        else if m.copies = 1 then s.fault Src.SPILLWAY .corrected else s
      -- With no copy the entry stands for the extents in the metadata wheels alone (R221); the sequence is taken
      -- all the same (DEDUCED, log entry 36).
      (s.onSpill fun x => { x with manifests := x.manifests ++ [m] }).setReg Reg.MANIFEST_SEQ m.seq

/-- MANIFEST_WRITTEN (R198): step 5; the attempts are numbered from 0, A's first and B's first before those made again. -/
def execManifestWritten (failA failB : Bool) (again : List Nat) (s : State) : Host.Outcome State Fault Refusal :=
  after (s.begin.manifestDone ((if failA then [0] else []) ++ (if failB then [1] else []) ++ again.map (· + 2)))

/-- CLOSING_POINTER_WRITTEN (R204): step 6. -/
def execClosingPointerWritten (s : State) : Host.Outcome State Fault Refusal := after s.begin.pointerDone

/-- REHEARSE_PERIOD_EXPIRY (R205): management firmware asks for REHEARSE. -/
def execRehearsePeriodExpiry (s : State) : Host.Outcome State Fault Refusal :=
  let s := s.begin
  after (if s.mgmt.state = .running then s.actSchedule 5 else s)

/-- REHEARSAL_COMPLETE (R205): medians, slow marks set or cleared, targets whose SLC entry failed excluded; the blocks
it used are erased again. `slow` are the targets found slow, `noSlc` those that failed SLC-mode entry. -/
def execRehearsalComplete (tMed : Nat) (slow noSlc : List Nat) (s : State) : Host.Outcome State Fault Refusal :=
  let s := s.begin
  after (if s.spill.state ≠ .rehearsing ∨ s.cmd.rehearse.state ≠ .running then s
    else
      let s := (s.res.found.map (·.port)).foldl (fun s p => s.setSlow p (slow.contains p)) s
      let code := if noSlc ≠ [] then 3 else if slow ≠ [] then 2 else 1
      let s := ((s.setReg Reg.REHEARSE_T_MED tMed).setReg Reg.REHEARSE_RESULT code).setReg Reg.REHEARSE_LAST
        (s.reg Reg.DAY_OF_SERVICE)
      let s := s.rehearseOut.onSpill fun x => { x with state := .armed, noSlc := noSlc }
      let s := if code = 3 then s.fault Src.SPILLWAY .degraded else if code = 2 then s.fault Src.SPILLWAY .log else s
      s.actEnd 5)

/-- Sets of the reserve that the target asks for (R259). -/
def State.setsFor (s : State) : Nat :=
  ceilDiv (s.reg Reg.RESERVE_TARGET * MiB) (Nat.max 1 (setBytes s.res (s.reg Reg.RESERVE_DATA_SPOKES)))

/-- RESERVE_REPLENISH (R181): one more erased set while the reserve is below its target, from the erased blocks of the
reserve that no set counts, a released set first, or from erased pool blocks; one erased set less, its blocks back in
the pool, while the reserve stays at the target without it. -/
def execReserveReplenish (s : State) : Host.Outcome State Fault Refusal :=
  let s := s.begin
  let tgt := s.reg Reg.RESERVE_TARGET
  let one := setBytes s.res (s.reg Reg.RESERVE_DATA_SPOKES) / MiB
  let need := lanesOf s.res .v (s.spokesOf .v + 2) * (s.spokesOf .v + 2)
  let sets := (s.whl.sets.filter fun p => !p.2).length
  let erased := sets * one
  after (if s.rill.state ≠ .running then s
    else if erased < tgt then
      let fits := decide ((sets + 1) * need ≤ s.res.usable .reserve)
      match s.spill.released, fits with
      | n :: rest, true =>
        (s.onSpill fun x => { x with released := rest }).onWhl fun x => { x with sets := mput n false x.sets }
      | _, fits =>
        if !fits && decide (s.res.usable .pool < need) then s
        else
          let n := maxOf (s.whl.sets.map (·.1) ++ s.spill.released) + 1
          (if fits then s else s.onRes fun r => r.moveBlocks .pool .reserve need).onWhl fun x =>
            { x with sets := mput n false x.sets }
    else if tgt + one ≤ erased then
      match (s.whl.sets.filter fun p => !p.2).getLast? with
      | some (n, _) =>
        (s.onRes fun r => r.moveBlocks .reserve .pool need).onWhl fun x =>
          { x with sets := x.sets.filter fun p => p.1 != n }
      | none => s
    else s)

/-- RESERVE_LOW_TIMEOUT (R208): ten minutes below the target in ARMED. -/
def execReserveLowTimeout (s : State) : Host.Outcome State Fault Refusal :=
  let s := s.begin
  after (if s.spill.state = .armed ∧ s.reserveErased < s.reg Reg.RESERVE_TARGET then s.fault Src.SPILLWAY .degraded
    else s)

end Sys2Proof.Machine
end

