-- ==== Sys2Proof/Machine/Weir.lean ====
section
/-! DEFINITION. The meanings of the Weir's commands (4). -/

namespace Sys2Proof.Machine

/-- What the manifest of the vault before this BRINGUP measures (R116): e and the fixed cost with t, T and L, or a
rejection. `readable` says that the manifest reads. -/
def State.measure (s : State) (readable : Bool) : State :=
  let p := s.pointer
  if !(readable && p.closed && p.copies != 0 && (p.shutdown == .vaultedComplete || p.shutdown == .vaultedShort)) then s
  else match s.spill.manifests.find? fun m => m.seq == p.manifestSeq with
  | none => s
  | some m =>
    if !m.measValid || !m.valid then s
    else
      let bytes := m.unitsDrained * 4096
      let de : Int := (m.eStart : Int) - m.eEnd
      let fixed : Int := (m.eCommit : Int) - m.eClose - de
      let eb : Int := s.reg Reg.E_BYTE_BASE
      let fb : Int := s.reg Reg.E_FIXED_BASE
      if 8 * GiB ≤ bytes ∧ eb * bytes ≤ 2 * (de * GiB) ∧ de * GiB ≤ 2 * eb * bytes ∧ fb ≤ 2 * fixed ∧ fixed ≤ 2 * fb then
        let s := (((s.setReg Reg.E_BYTE_MEAS (ceilDiv (de.toNat * GiB) bytes)).setReg Reg.E_FIXED_MEAS
          fixed.toNat).setReg Reg.T_MEAS m.tMed).setReg Reg.T_MEAS_FLASH (twos 8 m.tFlash)
        (s.setReg Reg.L_MEAS m.lElig).onWhl fun w => { w with flipOldD := none }
      else s.fault Src.WEIR .log

/-- What the arbiter does at a re-plan: requests that wait for it, then one suspension while energy is overdrawn (R436,
R438). -/
def State.arbiterReplan (s : State) : State :=
  if s.dev ≠ .online then s else s.actReplanned.suspendHolders 0 (·.energy) 1

/-- FIRST_REPLAN (R116, R129). -/
def execFirstReplan (temp : Int) (differs : Bool) (dup : Nat) (readable : Bool) (s : State) :
    Host.Outcome State Fault Refusal :=
  let s := s.begin
  after (if s.dev = .bringup ∧ s.seq.coreUp ∧ s.weir.state = .dormant then
      (s.measure readable).replan temp (told differs dup) true false
    else s)

/-- PERIODIC_REPLAN (R118). -/
def execPeriodicReplan (temp : Int) (differs : Bool) (dup : Nat) (s : State) : Host.Outcome State Fault Refusal :=
  let s := s.begin
  after (if s.weir.state = .planning then (s.replan temp (told differs dup) false true).arbiterReplan else s)

/-- TRIGGERED_REPLAN (R118): taken when one of its causes stands; it does not shift the periodic schedule. -/
def execTriggeredReplan (temp : Int) (differs : Bool) (dup : Nat) (s : State) : Host.Outcome State Fault Refusal :=
  let s := s.begin
  after (if s.weir.state = .planning ∧ s.replanDue then (s.replan temp (told differs dup) false false).arbiterReplan else s)

/-- REPLAN_TIMEOUT (Table 4-6): the result is discarded and the ceiling halved. -/
def execReplanTimeout (s : State) : Host.Outcome State Fault Refusal :=
  let s := s.begin
  after (if s.seq.coreUp ∧ s.weir.state ≠ .latched then
      let c := s.reg Reg.CEILING / 4 * 2
      let s := (s.setReg Reg.CEILING c).setReg Reg.CEILING_LIMITER 4
      (s.setReg Reg.TARGET_FILL (s.targetFill c)).fault Src.WEIR .degraded
    else s)

/-- DEVLOAD_EVALUATION (R122). -/
def execDevloadEvaluation (s : State) : Host.Outcome State Fault Refusal :=
  let s := s.begin
  after (if s.weir.state = .planning then
      let d := s.basin.dirtyBytes
      let g : Int := (d : Int) - s.weir.dirtyAtEval
      let s := s.onWeir fun w => { w with growth := g, dirtyAtEval := d }
      (s.setReg Reg.DIRTY_RATE (twos 32 (g.tdiv 1000))).devLoad true
    else s)

/-- ESTIMATE_STALE (R110, Table 4-6): the module is excluded until its estimate advances. -/
def execEstimateStale (i : PortId) (s : State) : Host.Outcome State Fault Refusal :=
  let s := s.begin
  let was := match i with | .a => s.weir.staleA | .b => s.weir.staleB
  after (if s.seq.coreUp ∧ s.weir.state ≠ .latched ∧ !was ∧ (s.cist.port i).state ≠ .absent then
      (s.onWeir fun w => match i with | .a => { w with staleA := true } | .b => { w with staleB := true }).fault
        Src.WEIR .log
    else s)

end Sys2Proof.Machine
end

