-- ==== Sys2Proof/Machine/Whl.lean ====
section
/-! DEFINITION. The meanings of the wheel engine's commands (9). -/

namespace Sys2Proof.Machine

/-- JOURNAL_STRIP_ISSUE (R281, R282): `failA` and `failB` are failed attempts of the copies, four at most. -/
def execJournalStripIssue (failA failB : Nat) (s : State) : Host.Outcome State Fault Refusal :=
  let s := s.begin
  after (if s.whl.pending ≠ [] ∧ s.whl.state = .serving ∧ s.res.up then
      let s := (s.journalFail 0 (Nat.min 4 failA)).journalFail 1 (Nat.min 4 failB)
      let s := s.journalStrip (decide (failA < 4)) (decide (failB < 4))
      if failA < 4 ∧ failB < 4 ∧ 0 < failA + failB then s.fault Src.WHEEL_JOURNAL .corrected else s
    else s)

/-- Copy a strip held in one copy to the next position of the other copy's order (R282). -/
def State.remirror (s : State) (j : JStrip) : State :=
  let (a, b, pa, pb) := s.journalPlace
  let day := s.reg Reg.DAY_OF_SERVICE
  let new : JStrip := { j with
    copyA := true, copyB := true, placeA := if j.copyA then j.placeA else a, placeB := if j.copyB then j.placeB else b }
  (s.onWhl fun x => { x with
    journal := x.journal.map (fun k => if k = j then new else k), jposA := pa, jposB := pb }).onRes fun r =>
      r.journalRow (if j.copyA then b else a) day

/-- JOURNAL_REMIRROR (R282): every strip in one copy has two again. -/
def execJournalRemirror (s : State) : Host.Outcome State Fault Refusal :=
  let s := s.begin
  let single := s.whl.journal.filter fun j => j.copyA != j.copyB
  after (if s.whl.state = .serving ∧ s.res.state = .running ∧ s.dev = .online ∧ single ≠ [] then
      (single.foldl (fun s j => s.remirror j) s).fault Src.WHEEL_JOURNAL .corrected
    else s)

/-- The state parity_test gives a wheel (R288): `void` says that the test fails; `cols` are its columns with unreadable
units. A wheel whose P or Q is not programmed reads erased there. -/
def Wheel.tested (w : Wheel) (void : Bool) (cols : List Nat) : Wheel :=
  if void || !w.parity || decide (2 < cols.length) then { w with state := .void, journalled := true }
  else { w with state := if cols = [] then .closed else .degraded, erasures := cols, journalled := true, issued := true }

/-- One wheel at recovery (R285, R287, R289): by its governing descriptor, by parity_test, or as it was where the journal
that named it has been let go. Answers whether it was tested. -/
def recoverWheel (named : List Nat) (gov : Option Desc) (void : List Nat) (bad : List (Nat × Nat)) (n : Nat) (w : Wheel) :
    Wheel × Bool :=
  let test : Wheel × Bool := if w.journalled && !named.contains n then (w, false)
    else (w.tested (void.contains n) ((bad.filter fun p => p.1 == n).map (·.2)).eraseDups, true)
  match gov with
  | none => test
  | some d => match d.type with
    | .close => ({ w with state := if d.erasures = [] then .closed else .degraded, erasures := d.erasures }, false)
    | .void => ({ w with state := .void }, false)
    | .lost => ({ w with state := .lost }, false)
    | .trued => (w, false)
    | .open_ => test

/-- WHEEL_RECOVERY (R287 to R290): `head` is whether the journal's head was found, `badA` and `badB` the strips whose
copies do not read, `void` the wheels parity_test voids, `bad` their (wheel, column) pairs with unreadable units. -/
def execWheelRecovery (head : Bool) (badA badB void : List Nat) (bad : List (Nat × Nat)) (s : State) :
    Host.Outcome State Fault Refusal :=
  let s := s.begin
  after (if s.whl.state = .recovering ∧ s.res.state = .running then
      let named := s.whl.journal.flatMap fun j => j.descs.map (·.wheel)
      let jr := s.whl.journal.map fun j => { j with
        copyA := j.copyA && head && !badA.contains j.jseq, copyB := j.copyB && head && !badB.contains j.jseq }
      let none' := decide (jr ≠ []) && jr.all fun j => !j.copyA && !j.copyB
      let some' := jr.any fun j => !j.copyA && !j.copyB
      let one := jr.any fun j => j.copyA != j.copyB
      let x : Wheels := { s.whl with journal := jr }
      let res : List (Nat × Wheel × Bool) := x.table.map fun p =>
        if p.2.stream = .v then
          (p.1, { p.2 with state := if p.2.state = .open_ then .void else p.2.state, journalled := true }, false)
        else
          let r := recoverWheel named (x.governing p.1) void bad p.1 p.2
          (p.1, r.1, r.2)
      let tested := res.filter fun p => p.2.2
      let ds : List Desc := tested.map fun p =>
        { wheel := p.1, type := if p.2.1.state = .void then .void else .close, stream := p.2.1.stream, erasures := p.2.1.erasures }
      let s := s.onWhl fun _ => { x with
        state := .serving, table := res.map fun p => (p.1, p.2.1), pending := ds, trueQ := [] }
      let s := if ds = [] then s else s.journalStrip true true
      let s := (s.setReg Reg.RECOVERY_LAST (if none' then 2 else if some' then 1 else 0)).setReg Reg.RECOVERY_TESTED tested.length
      let s := if none' || some' then s.fault Src.WHEEL_JOURNAL .degraded
        else if one then s.fault Src.WHEEL_JOURNAL .corrected else s
      let s := s.judgeWheels
      let s := s.queueTrue (fun p => spokeDown s.res p) false 0
      s.queueTrue (fun p => s.whl.slowSet.contains p.port) true 1
    else s)

/-- TRUE_COLUMN (R293 to R296): the next column, with the band's other queued columns in one pass. `bad` are (row, column ×
16 + position) units found unreadable on the way. -/
def execTrueColumn (bad : List (Nat × Nat)) (s : State) : Host.Outcome State Fault Refusal :=
  let s := s.begin
  after (if s.cmd.true_.state = .running ∧ s.dev = .online ∧ s.whl.state = .serving ∧ s.res.state = .running then
      match s.nextTrue with
      | none => s.trueEnd
      | some j =>
        let s := bad.foldl (fun s p => s.cwBad (j.base * 512 + p.1) (p.2 / 16) (p.2 % 16) true) s
        ((s.whl.trueQ.filter fun q => q.base == j.base).foldl (fun s q => s.trueColumn q) s).trueEnd
    else s)

/-- LOST_FOLDS_COMPLETE (R296): folds whose wheels have closed are mapped; with the last one the record reads FOLDED. -/
def execLostFoldsComplete (n : Nat) (s : State) : Host.Outcome State Fault Refusal :=
  let s := s.begin
  after (match s.whl.lost.find? fun p => p.1 == n with
    | none => s
    | some (_, segs) =>
      if s.rill.state = .down ∨ s.rill.state = .loading then s
      else
        let done := s.sip.folds.filter fun f => segs.contains f.1 && f.2.2.isEmpty
        let s := done.foldl (fun s f => s.mapFold f.1 f.2.1) s
        let gone := done.map (·.1)
        let s := s.onSip fun x => { x with folds := x.folds.filter fun f => !gone.contains f.1 }
        let s := s.onWhl fun x => { x with lost := x.lost.map fun p => (p.1, p.2.filter fun g => !gone.contains g) }
        if (s.whl.lost.any fun p => p.1 == n && p.2.isEmpty) then
          ((s.onWhl fun x => { x with lost := x.lost.filter fun p => p.1 != n, folded := x.folded ++ [n] }).nvWrite
            (.lost n true)).eraseSpent
        else s)

/-- SCRUB_DEEP_WHEEL (R253, R298, Table 9-8a): `weak` are columns whose blocks R251 refreshes, `soft` codewords that
needed soft decode, `bad` unreadable units as column × 16 + position. -/
def execScrubDeepWheel (n : Nat) (weak bad : List Nat) (find : ParityFind) (s : State) (soft : Nat := 0) :
    Host.Outcome State Fault Refusal :=
  let s := s.begin
  after (if s.cmd.scrubDeep.state = .running ∧ s.whl.state = .serving ∧ s.res.state = .running ∧ s.deepLeft.contains n then
      match s.whl.bandOf n with
      | none => s
      | some (b, row) =>
        let cols := (List.range b.spokes.length).filterMap fun c => (b.spoke row c).map fun p => (c, p.key)
        let s := cols.foldl (fun s p => s.countReads p.2 s.res.part.planes) s
        let s := bad.foldl (fun s u => s.cwBad n (u / 16) (u % 16) true) (s.cwSoft soft)
        let s := (cols.filter fun p => weak.contains p.1 || bad.any fun u => u / 16 == p.1).foldl (fun s p => s.queueRefresh p.2) s
        let s := if find = .none then s
          else
            let s := (s.addReg Reg.PARITY_MISMATCH 1).fault Src.WHEEL_PARITY (if find = .other then .degraded else .corrected)
            match cols.head? with
            | some p => s.queueRefresh p.2
            | none => s
        (s.onWhl fun x => { x with deepDone := x.deepDone ++ [n] }).deepEnd
    else s)

/-- RESHAPE_WHEEL (R299, R300). -/
def execReshapeWheel (s : State) : Host.Outcome State Fault Refusal :=
  let s := s.begin
  after (if s.cmd.reshape.state = .running ∧ s.relocates ∧ s.reg Reg.RESHAPE_FROM ≠ 0 then s.reshapeNext else s)

/-- RESERVE_BUILD_STEP (R301, R302): another set of the new reserve is laid out; after the flip a set of the old one is
released, and with the last one RESHAPE ends. -/
def execReserveBuildStep (s : State) : Host.Outcome State Fault Refusal :=
  let s := s.begin
  after (if s.cmd.reshape.state = .running ∧ s.reg Reg.RESHAPE_FROM = 0 ∧ s.res.state = .running then
      match s.whl.build, s.whl.oldSets with
      | some b, _ => s.buildStep b
      | none, some (_, n) =>
        let s := s.releaseSets (n - 1)
        if n ≤ 1 then s.actEnd 3 else s
      | none, none => s.actEnd 3
    else s)

/-- RESERVE_FLIP (R301, R302): only in ONLINE, with the Spillway ARMED and no stream V wheel open. A record that is torn leaves
the old reserve active. -/
def execReserveFlip (s : State) (torn : Bool := false) : Host.Outcome State Fault Refusal :=
  let s := s.begin
  after (match s.whl.build with
    | some b =>
      if s.cmd.reshape.state = .running ∧ s.buildFull b ∧ s.res.reserveReady ∧ s.dev = .online ∧ s.spill.state = .armed
          ∧ s.whl.openWheels .v = [] ∧ !torn then s.flip b else s
    | none => s)

/-- WHEEL_DIAG_INDEX_WRITE (R309, Table 9-14). -/
def execWheelDiagIndexWrite (v : Nat) (s : State) : Host.Outcome State Fault Refusal :=
  after (if v < 2 ^ 29 then s.begin.softWrite Reg.WHEEL_DIAG_INDEX v else s.begin)

end Sys2Proof.Machine
end

