-- ==== Sys2Proof/Machine/Dispatch.lean ====
section
/-! DEFINITION. One arm per command. -/

namespace Sys2Proof.Machine

/-- What a command does to everything but the queue of waiting commands. -/
def exec (i : Instr) (s : State) : Host.Outcome State Fault Refusal :=
  match i with
  | .aonPowerUp => Sys2Proof.Machine.execAonPowerUp s
  | .aonPowerLoss => Sys2Proof.Machine.execAonPowerLoss s
  | .inputPresent mvA mvB => Sys2Proof.Machine.execInputPresent mvA mvB s
  | .earlyWarning mvA mvB => Sys2Proof.Machine.execEarlyWarning mvA mvB s
  | .recovery mvA mvB => Sys2Proof.Machine.execRecovery mvA mvB s
  | .undervoltageCommit mvA mvB => Sys2Proof.Machine.execUndervoltageCommit mvA mvB s
  | .rideThroughExpiry => Sys2Proof.Machine.execRideThroughExpiry s
  | .chainDisagreement mvA mvB => Sys2Proof.Machine.execChainDisagreement mvA mvB s
  | .chainFailure a => Sys2Proof.Machine.execChainFailure a s
  | .gpfWindowEnd tFlash => Sys2Proof.Machine.execGpfWindowEnd tFlash s
  | .memwr ld hpa tag data poison err => Sys2Proof.Machine.execMemwr ld hpa tag data poison err s
  | .memwrptl ld hpa tag data en err poison => Sys2Proof.Machine.execMemwrptl ld hpa tag data en err s poison
  | .memrd ld hpa tag lat err => Sys2Proof.Machine.execMemrd ld hpa tag lat err s
  | .memrddata ld hpa tag lat err => Sys2Proof.Machine.execMemrddata ld hpa tag lat err s
  | .memspecrd => Sys2Proof.Machine.execMemspecrd s
  | .unsupportedMemRequest tag => Sys2Proof.Machine.execUnsupportedMemRequest tag s
  | .gpfPhase1 ld => Sys2Proof.Machine.execGpfPhase1 ld s
  | .gpfPhase2 ld tFlash => Sys2Proof.Machine.execGpfPhase2 ld tFlash s
  | .linkTrained width rate flit256 lowLat => Sys2Proof.Machine.execLinkTrained width rate flit256 lowLat s
  | .linkDown down => Sys2Proof.Machine.execLinkDown down s
  | .hotReset => Sys2Proof.Machine.execHotReset s
  | .flrPf0 => Sys2Proof.Machine.execFlrPf0 s
  | .flrPf1 ld => Sys2Proof.Machine.execFlrPf1 ld s
  | .flrPf2 => Sys2Proof.Machine.execFlrPf2 s
  | .cxlReset memClr => Sys2Proof.Machine.execCxlReset memClr s
  | .volatilePageCleared => Sys2Proof.Machine.execVolatilePageCleared s
  | .ideIntegrityFailure => Sys2Proof.Machine.execIdeIntegrityFailure s
  | .cxlIdeKm session m via => Sys2Proof.Machine.execCxlIdeKm session m s via
  | .getVersion via => Sys2Proof.Machine.execGetVersion s via
  | .getCapabilities via => Sys2Proof.Machine.execGetCapabilities s via
  | .negotiateAlgorithms offered via => Sys2Proof.Machine.execNegotiateAlgorithms offered s via
  | .getDigests via => Sys2Proof.Machine.execGetDigests s via
  | .getCertificate slot via => Sys2Proof.Machine.execGetCertificate slot s via
  | .challenge slot via => Sys2Proof.Machine.execChallenge slot s via
  | .getMeasurements index via => Sys2Proof.Machine.execGetMeasurements index s via
  | .keyExchange slot via => Sys2Proof.Machine.execKeyExchange slot s via
  | .finish session via => Sys2Proof.Machine.execFinish session s via
  | .heartbeat session via => Sys2Proof.Machine.execHeartbeat session s via
  | .keyUpdate session via => Sys2Proof.Machine.execKeyUpdate session s via
  | .endSession session via => Sys2Proof.Machine.execEndSession session s via
  | .identifyMemoryDevice c => Sys2Proof.Machine.execIdentifyMemoryDevice c s
  | .getPartitionInfo c => Sys2Proof.Machine.execGetPartitionInfo c s
  | .getHealthInfo c => Sys2Proof.Machine.execGetHealthInfo c s
  | .getAlertConfiguration c => Sys2Proof.Machine.execGetAlertConfiguration c s
  | .getShutdownState c => Sys2Proof.Machine.execGetShutdownState c s
  | .setShutdownState c dirty => Sys2Proof.Machine.execSetShutdownState c dirty s
  | .getSecurityState c => Sys2Proof.Machine.execGetSecurityState c s
  | .setPassphrase c master cur new => Sys2Proof.Machine.execSetPassphrase c master cur new s
  | .disablePassphrase c master cur => Sys2Proof.Machine.execDisablePassphrase c master cur s
  | .unlock c pass => Sys2Proof.Machine.execUnlock c pass s
  | .freezeSecurityState c => Sys2Proof.Machine.execFreezeSecurityState c s
  | .passphraseSecureErase c master pass => Sys2Proof.Machine.execPassphraseSecureErase c master pass s
  | .sanitize c => Sys2Proof.Machine.execSanitize c s
  | .secureErase c => Sys2Proof.Machine.execSecureErase c s
  | .sanitizeComplete bw => Sys2Proof.Machine.execSanitizeComplete bw s
  | .getEventRecords c log => Sys2Proof.Machine.execGetEventRecords c log s
  | .clearEventRecords c log n all => Sys2Proof.Machine.execClearEventRecords c log n all s
  | .getEventInterruptPolicy c => Sys2Proof.Machine.execGetEventInterruptPolicy c s
  | .setEventInterruptPolicy c vs => Sys2Proof.Machine.execSetEventInterruptPolicy c vs s
  | .getFwInfo c => Sys2Proof.Machine.execGetFwInfo c s
  | .transferFw c => Sys2Proof.Machine.execTransferFw c s
  | .activateFw c => Sys2Proof.Machine.execActivateFw c s
  | .getSupportedLogs c => Sys2Proof.Machine.execGetSupportedLogs c s
  | .getLog c => Sys2Proof.Machine.execGetLog c s
  | .getTimestamp c => Sys2Proof.Machine.execGetTimestamp c s
  | .getPoisonList c start len => Sys2Proof.Machine.execGetPoisonList c start len s
  | .injectPoison c dpa => Sys2Proof.Machine.execInjectPoison c dpa s
  | .clearPoison c dpa data => Sys2Proof.Machine.execClearPoison c dpa data s
  | .getScanMediaCapabilities c => Sys2Proof.Machine.execGetScanMediaCapabilities c s
  | .scanMedia c start len => Sys2Proof.Machine.execScanMedia c start len s
  | .getScanMediaResults c => Sys2Proof.Machine.execGetScanMediaResults c s
  | .getDynamicCapacityConfiguration c => Sys2Proof.Machine.execGetDynamicCapacityConfiguration c s
  | .getDynamicCapacityExtentList c => Sys2Proof.Machine.execGetDynamicCapacityExtentList c s
  | .addDynamicCapacityResponse c accepted declined => Sys2Proof.Machine.execAddDynamicCapacityResponse c accepted declined s
  | .releaseDynamicCapacity c es => Sys2Proof.Machine.execReleaseDynamicCapacity c es s
  | .setLdAllocations c start l => Sys2Proof.Machine.execSetLdAllocations c start l s
  | .patrolScrubStep f => Sys2Proof.Machine.execPatrolScrubStep f s
  | .softPprComplete row left => Sys2Proof.Machine.execSoftPprComplete row left s
  | .cleanLineRepair line => Sys2Proof.Machine.execCleanLineRepair line s
  | .dimmSpareComplete => Sys2Proof.Machine.execDimmSpareComplete s
  | .dramCommandTimeout channel slot => Sys2Proof.Machine.execDramCommandTimeout channel slot s
  | .heatDecayPeriodExpiry => Sys2Proof.Machine.execHeatDecayPeriodExpiry s
  | .ageTickExpiry => Sys2Proof.Machine.execAgeTickExpiry s
  | .dstDiagIndexWrite v => Sys2Proof.Machine.execDstDiagIndexWrite v s
  | .dramTrainingComplete dimms failed => Sys2Proof.Machine.execDramTrainingComplete dimms failed s
  | .firstReplan temp differs dup readable => Sys2Proof.Machine.execFirstReplan temp differs dup readable s
  | .periodicReplan temp differs dup => Sys2Proof.Machine.execPeriodicReplan temp differs dup s
  | .triggeredReplan temp differs dup => Sys2Proof.Machine.execTriggeredReplan temp differs dup s
  | .replanTimeout => Sys2Proof.Machine.execReplanTimeout s
  | .devloadEvaluation => Sys2Proof.Machine.execDevloadEvaluation s
  | .rillCapture e ue => Sys2Proof.Machine.execRillCapture e s ue
  | .stripProgramDone wheel column us syndrome => Sys2Proof.Machine.execStripProgramDone wheel column us s syndrome
  | .stripProgramFailed wheel column => Sys2Proof.Machine.execStripProgramFailed wheel column s
  | .wheelClosed n => Sys2Proof.Machine.execWheelClosed n s
  | .wheelIdleTimeout n => Sys2Proof.Machine.execWheelIdleTimeout n s
  | .fineMapMerge => Sys2Proof.Machine.execFineMapMerge s
  | .migration => Sys2Proof.Machine.execMigration s
  | .garbageCollection => Sys2Proof.Machine.execGarbageCollection s
  | .relocationComplete => Sys2Proof.Machine.execRelocationComplete s
  | .checkpointWrite failed period => Sys2Proof.Machine.execCheckpointWrite failed s period
  | .mapLoad badC badU => Sys2Proof.Machine.execMapLoad badC badU s
  | .mapReload done badC badU => Sys2Proof.Machine.execMapReload done badC badU s
  | .flushReport => Sys2Proof.Machine.execFlushReport s
  | .enduranceDaily => Sys2Proof.Machine.execEnduranceDaily s
  | .reformat p => Sys2Proof.Machine.execReformat p s
  | .reformatRewriteComplete => Sys2Proof.Machine.execReformatRewriteComplete s
  | .speculativeCapture ue => Sys2Proof.Machine.execSpeculativeCapture s ue
  | .undoComplete => Sys2Proof.Machine.execUndoComplete s
  | .dampQuietExpiry => Sys2Proof.Machine.execDampQuietExpiry s
  | .drainRun cut err ue => Sys2Proof.Machine.execDrainRun cut s err ue
  | .slotSetDrained k => Sys2Proof.Machine.execSlotSetDrained k s
  | .slowSpokeTimeout wheel column => Sys2Proof.Machine.execSlowSpokeTimeout wheel column s
  | .drainStallTimeout => Sys2Proof.Machine.execDrainStallTimeout s
  | .vaultMetadataWritten tMed => Sys2Proof.Machine.execVaultMetadataWritten tMed s
  | .journalDescriptorsWritten copyA copyB => Sys2Proof.Machine.execJournalDescriptorsWritten copyA copyB s
  | .manifestWritten failA failB again => Sys2Proof.Machine.execManifestWritten failA failB again s
  | .closingPointerWritten => Sys2Proof.Machine.execClosingPointerWritten s
  | .rehearsePeriodExpiry => Sys2Proof.Machine.execRehearsePeriodExpiry s
  | .rehearsalComplete tMed slow noSlc => Sys2Proof.Machine.execRehearsalComplete tMed slow noSlc s
  | .reserveReplenish => Sys2Proof.Machine.execReserveReplenish s
  | .reserveLowTimeout => Sys2Proof.Machine.execReserveLowTimeout s
  | .holdTimeLimit => Sys2Proof.Machine.execHoldTimeLimit s
  | .sealedRestartDelayExpiry => Sys2Proof.Machine.execSealedRestartDelayExpiry s
  | .sealedInputLoss => Sys2Proof.Machine.execSealedInputLoss s
  | .startPathChoice badA badB bitmaps token => Sys2Proof.Machine.execStartPathChoice badA badB bitmaps token s
  | .bringupExit => Sys2Proof.Machine.execBringupExit s
  | .extentFetchComplete e bad rebuilt => Sys2Proof.Machine.execExtentFetchComplete e bad rebuilt s
  | .settleComplete seg => Sys2Proof.Machine.execSettleComplete seg s
  | .chainRetire => Sys2Proof.Machine.execChainRetire s
  | .restoreStall => Sys2Proof.Machine.execRestoreStall s
  | .flashIdentify found failed bad bw => Sys2Proof.Machine.execFlashIdentify found failed bad bw s
  | .codewordRead wheel column unit erased hit soft low high crcBad => Sys2Proof.Machine.execCodewordRead wheel column unit erased hit soft low high s crcBad
  | .retentionScrub key rber soft bad => Sys2Proof.Machine.execRetentionScrub key rber soft bad s
  | .blockRefresh => Sys2Proof.Machine.execBlockRefresh s
  | .blockTableSnapshot => Sys2Proof.Machine.execBlockTableSnapshot s
  | .eraseComplete key ok => Sys2Proof.Machine.execEraseComplete key ok s
  | .targetTimeout port lun => Sys2Proof.Machine.execTargetTimeout port lun s
  | .journalStripIssue failA failB => Sys2Proof.Machine.execJournalStripIssue failA failB s
  | .journalRemirror => Sys2Proof.Machine.execJournalRemirror s
  | .wheelRecovery head badA badB void bad => Sys2Proof.Machine.execWheelRecovery head badA badB void bad s
  | .trueColumn bad => Sys2Proof.Machine.execTrueColumn bad s
  | .lostFoldsComplete n => Sys2Proof.Machine.execLostFoldsComplete n s
  | .scrubDeepWheel n weak bad find soft => Sys2Proof.Machine.execScrubDeepWheel n weak bad find s soft
  | .reshapeWheel => Sys2Proof.Machine.execReshapeWheel s
  | .reserveBuildStep => Sys2Proof.Machine.execReserveBuildStep s
  | .reserveFlip torn => Sys2Proof.Machine.execReserveFlip s torn
  | .cisternTableLoad torn => Sys2Proof.Machine.execCisternTableLoad torn s
  | .cisternSample x v temp moved differs dup => Sys2Proof.Machine.execCisternSample x v temp moved differs dup s
  | .iwakeTrip x => Sys2Proof.Machine.execIwakeTrip x s
  | .hibernateDelayExpiry => Sys2Proof.Machine.execHibernateDelayExpiry s
  | .dischargeEnd x => Sys2Proof.Machine.execDischargeEnd x s
  | .relaxTimeExpiry x => Sys2Proof.Machine.execRelaxTimeExpiry x s
  | .chargeTermination x => Sys2Proof.Machine.execChargeTermination x s
  | .moduleIdRead x id => Sys2Proof.Machine.execModuleIdRead x id s
  | .shortTimeExpiry x => Sys2Proof.Machine.execShortTimeExpiry x s
  | .learnPeriodExpiry x => Sys2Proof.Machine.execLearnPeriodExpiry x s
  | .learnStart p => Sys2Proof.Machine.execLearnStart p s
  | .learnRestExpiry x => Sys2Proof.Machine.execLearnRestExpiry x s
  | .resCheckPeriodExpiry x => Sys2Proof.Machine.execResCheckPeriodExpiry x s
  | .resCheckPulseEnd x => Sys2Proof.Machine.execResCheckPulseEnd x s
  | .resCheckReboundEnd x tau => Sys2Proof.Machine.execResCheckReboundEnd x tau s
  | .learnedRecordRetry x => Sys2Proof.Machine.execLearnedRecordRetry x s
  | .packReplaced p => Sys2Proof.Machine.execPackReplaced p s
  | .portClear p => Sys2Proof.Machine.execPortClear p s
  | .powerOn p => Sys2Proof.Machine.execPowerOn p s
  | .pgRise slot => Sys2Proof.Machine.execPgRise slot s
  | .stabilityTimerExpiry slot => Sys2Proof.Machine.execStabilityTimerExpiry slot s
  | .stepDelayExpiry => Sys2Proof.Machine.execStepDelayExpiry s
  | .pgTimeout slot => Sys2Proof.Machine.execPgTimeout slot s
  | .pgDrop slot => Sys2Proof.Machine.execPgDrop slot s
  | .retryOffTimeExpiry slot => Sys2Proof.Machine.execRetryOffTimeExpiry slot s
  | .powerupRetryDelayExpiry => Sys2Proof.Machine.execPowerupRetryDelayExpiry s
  | .sysresetOffTimeExpiry => Sys2Proof.Machine.execSysresetOffTimeExpiry s
  | .groupRestart p => Sys2Proof.Machine.execGroupRestart p s
  | .rstPulse p => Sys2Proof.Machine.execRstPulse p s
  | .resetStretchExpiry n => Sys2Proof.Machine.execResetStretchExpiry n s
  | .orderlyShutdown p => Sys2Proof.Machine.execOrderlyShutdown p s
  | .flushTimeout => Sys2Proof.Machine.execFlushTimeout s
  | .pmbusPollExpiry vals modes => Sys2Proof.Machine.execPmbusPollExpiry vals s modes
  | .pmbusAlert words => Sys2Proof.Machine.execPmbusAlert words s
  | .pmbusTransactionDone slave ok pec => Sys2Proof.Machine.execPmbusTransactionDone slave ok pec s
  | .pmbusBusStuck => Sys2Proof.Machine.execPmbusBusStuck s
  | .vcoreTargetPosted mv => Sys2Proof.Machine.execVcoreTargetPosted mv s
  | .voutReadback mv => Sys2Proof.Machine.execVoutReadback mv s
  | .holdupFault faultN pg => Sys2Proof.Machine.execHoldupFault faultN pg s
  | .converterStandbyExpiry => Sys2Proof.Machine.execConverterStandbyExpiry s
  | .seqCounterFlush => Sys2Proof.Machine.execSeqCounterFlush s
  | .faultReport src sev chk inj => Sys2Proof.Machine.execFaultReport src sev chk inj s
  | .fcStatusWrite v => Sys2Proof.Machine.execFcStatusWrite v s
  | .fcFirstClear => Sys2Proof.Machine.execFcFirstClear s
  | .fcQuietExpiry => Sys2Proof.Machine.execFcQuietExpiry s
  | .faultRestart p => Sys2Proof.Machine.execFaultRestart p s
  | .fiCtrlWrite v => Sys2Proof.Machine.execFiCtrlWrite v s
  | .injectionDone => Sys2Proof.Machine.execInjectionDone s
  | .evStatusWrite k v => Sys2Proof.Machine.execEvStatusWrite k v s
  | .heldMsixDelivery masked ld => Sys2Proof.Machine.execHeldMsixDelivery masked s ld
  | .evAlertIntervalExpiry n => Sys2Proof.Machine.execEvAlertIntervalExpiry n s
  | .recordQueueWrite => Sys2Proof.Machine.execRecordQueueWrite s
  | .recCursorWrite v => Sys2Proof.Machine.execRecCursorWrite v s
  | .recAdvance => Sys2Proof.Machine.execRecAdvance s
  | .evrecRead p => Sys2Proof.Machine.execEvrecRead p s
  | .earlyMount ownA ownB => Sys2Proof.Machine.execEarlyMount ownA ownB s
  | .fullMount imgOk torn => Sys2Proof.Machine.execFullMount imgOk torn s
  | .nvResyncComplete => Sys2Proof.Machine.execNvResyncComplete s
  | .nvRecordProgramDone ok => Sys2Proof.Machine.execNvRecordProgramDone ok s
  | .nvDeviceTimeout devA => Sys2Proof.Machine.execNvDeviceTimeout devA s
  | .logCompaction => Sys2Proof.Machine.execLogCompaction s
  | .nvScrub weak => Sys2Proof.Machine.execNvScrub weak s
  | .cfgImageRewrite => Sys2Proof.Machine.execCfgImageRewrite s
  | .paramGet p => Sys2Proof.Machine.execParamGet p s
  | .paramSet p => Sys2Proof.Machine.execParamSet p s
  | .paramStage p => Sys2Proof.Machine.execParamStage p s
  | .paramCommit p => Sys2Proof.Machine.execParamCommit p s
  | .paramDiscard p => Sys2Proof.Machine.execParamDiscard p s
  | .paramStageRead p => Sys2Proof.Machine.execParamStageRead p s
  | .identify p => Sys2Proof.Machine.execIdentify p s
  | .getStatus p => Sys2Proof.Machine.execGetStatus p s
  | .journalRead p => Sys2Proof.Machine.execJournalRead p s
  | .journalFind p => Sys2Proof.Machine.execJournalFind p s
  | .journalCursorWrite v => Sys2Proof.Machine.execJournalCursorWrite v s
  | .maintStart p => Sys2Proof.Machine.execMaintStart p s
  | .maintStop p => Sys2Proof.Machine.execMaintStop p s
  | .maintStatus p => Sys2Proof.Machine.execMaintStatus p s
  | .reservedOpcode p => Sys2Proof.Machine.execReservedOpcode p s
  | .camubDiagnostic p => Sys2Proof.Machine.execCamubDiagnostic p s
  | .barParamWrite offset v ld => Sys2Proof.Machine.execBarParamWrite offset v s ld
  | .hostDoorbellResend ld => Sys2Proof.Machine.execHostDoorbellResend s ld
  | .hostDoorbellLatch => Sys2Proof.Machine.execHostDoorbellLatch s
  | .registerWrite id v => Sys2Proof.Machine.execRegisterWrite id v s
  | .mirsenLinkUp port serial member depth flight links => Sys2Proof.Machine.execMirsenLinkUp port serial member depth flight links s
  | .mirsenLinkDown port links => Sys2Proof.Machine.execMirsenLinkDown port links s
  | .failNotice port origin cgen domain crcOk => Sys2Proof.Machine.execFailNotice port origin cgen domain crcOk s
  | .frameAckTimeout port acked => Sys2Proof.Machine.execFrameAckTimeout port acked s
  | .hello h serial member depth => Sys2Proof.Machine.execHello h serial member depth s
  | .heartbeatPeriodExpiry => Sys2Proof.Machine.execHeartbeatPeriodExpiry s
  | .memberHeartbeat h dev prot cgen => Sys2Proof.Machine.execMemberHeartbeat h dev prot cgen s
  | .mgrBeat h epoch cgen policy state => Sys2Proof.Machine.execMgrBeat h epoch cgen policy state s
  | .roleAssign h epoch mgr alt cands => Sys2Proof.Machine.execRoleAssign h epoch mgr alt cands s
  | .sync h cgen policy domain limits => Sys2Proof.Machine.execSync h cgen policy domain limits s
  | .report h record commitId manifestSeq => Sys2Proof.Machine.execReport h record commitId manifestSeq s
  | .state h v size reported => Sys2Proof.Machine.execState h v size reported s
  | .grantReq h activity cseq unprotected => Sys2Proof.Machine.execGrantReq h activity cseq unprotected s
  | .grant h activity cseq granted holders => Sys2Proof.Machine.execGrant h activity cseq granted holders s
  | .grantRelease h activity cseq => Sys2Proof.Machine.execGrantRelease h activity cseq s
  | .replica h cgen roster grants => Sys2Proof.Machine.execReplica h cgen roster grants s
  | .event h slots => Sys2Proof.Machine.execEvent h slots s
  | .cmd h p => Sys2Proof.Machine.execCmd h p s
  | .cmdReply h opcode tag status cseq detail slots => Sys2Proof.Machine.execCmdReply h opcode tag status cseq detail slots s
  | .takeoverQuery h epoch => Sys2Proof.Machine.execTakeoverQuery h epoch s
  | .takeoverAck h cands => Sys2Proof.Machine.execTakeoverAck h cands s
  | .stale h epoch mgr alt cands => Sys2Proof.Machine.execStale h epoch mgr alt cands s
  | .resolve h => Sys2Proof.Machine.execResolve h s
  | .orphanTimeExpiry => Sys2Proof.Machine.execOrphanTimeExpiry s
  | .memberTimeoutExpiry member cands => Sys2Proof.Machine.execMemberTimeoutExpiry member cands s
  | .mgrTimeoutExpiry => Sys2Proof.Machine.execMgrTimeoutExpiry s
  | .takeoverWindowExpiry => Sys2Proof.Machine.execTakeoverWindowExpiry s
  | .grantWaitExpiry activity => Sys2Proof.Machine.execGrantWaitExpiry activity s
  | .domainStatus p => Sys2Proof.Machine.execDomainStatus p s
  | .domainRosterRead p => Sys2Proof.Machine.execDomainRosterRead p s
  | .domainEventRead p => Sys2Proof.Machine.execDomainEventRead p s
  | .domainForm p reached cands => Sys2Proof.Machine.execDomainForm p reached cands s
  | .domainAdmit p => Sys2Proof.Machine.execDomainAdmit p s
  | .domainRemove p cands => Sys2Proof.Machine.execDomainRemove p cands s
  | .domainRelay p => Sys2Proof.Machine.execDomainRelay p s
  | .domainHandover p => Sys2Proof.Machine.execDomainHandover p s
  | .lockstepMismatch => Sys2Proof.Machine.execLockstepMismatch s
  | .watchdogExpiry => Sys2Proof.Machine.execWatchdogExpiry s
  | .mgmtSramDoubleBitError journal => Sys2Proof.Machine.execMgmtSramDoubleBitError journal s
  | .mgmtRunning genuine => Sys2Proof.Machine.execMgmtRunning genuine s
  | .bootRomStart okA okB => Sys2Proof.Machine.execBootRomStart okA okB s
  | .clockCheckWindow lost => Sys2Proof.Machine.execClockCheckWindow lost s
  | .thermalSample t => Sys2Proof.Machine.execThermalSample t s
  | .agePeriodExpiry slacks => Sys2Proof.Machine.execAgePeriodExpiry slacks s
  | .dramTrendDaily => Sys2Proof.Machine.execDramTrendDaily s
  | .dayOfServiceTick => Sys2Proof.Machine.execDayOfServiceTick s
  | .counterLatch v => Sys2Proof.Machine.execCounterLatch v s
  | .wheelDiagIndexWrite v => Sys2Proof.Machine.execWheelDiagIndexWrite v s
  | .fwInfo p => Sys2Proof.Machine.execFwInfo p s
  | .fwWrite p => Sys2Proof.Machine.execFwWrite p s
  | .fwVerify p genuine => Sys2Proof.Machine.execFwVerify p genuine s
  | .fwActivate p => Sys2Proof.Machine.execFwActivate p s
  | .activationTimeout => Sys2Proof.Machine.execActivationTimeout s
  | .queryDeviceIdentifiers transport => Sys2Proof.Machine.execQueryDeviceIdentifiers transport s
  | .getFirmwareParameters transport => Sys2Proof.Machine.execGetFirmwareParameters transport s
  | .requestUpdate transport max => Sys2Proof.Machine.execRequestUpdate transport max s
  | .passComponentTable transport id last => Sys2Proof.Machine.execPassComponentTable transport id last s
  | .updateComponent transport id size => Sys2Proof.Machine.execUpdateComponent transport id size s
  | .requestFirmwareData transport cc data => Sys2Proof.Machine.execRequestFirmwareData transport cc data s
  | .transferComplete transport genuine => Sys2Proof.Machine.execTransferComplete transport genuine s
  | .verifyComplete transport => Sys2Proof.Machine.execVerifyComplete transport s
  | .applyComplete transport => Sys2Proof.Machine.execApplyComplete transport s
  | .activateFirmware transport now => Sys2Proof.Machine.execActivateFirmware transport now s
  | .pldmGetStatus transport => Sys2Proof.Machine.execPldmGetStatus transport s
  | .cancelUpdateComponent transport => Sys2Proof.Machine.execCancelUpdateComponent transport s
  | .cancelUpdate transport => Sys2Proof.Machine.execCancelUpdate transport s
  | .bistRun p => Sys2Proof.Machine.execBistRun p s
  | .bistStatus p => Sys2Proof.Machine.execBistStatus p s
  | .bistPartitionDone sig => Sys2Proof.Machine.execBistPartitionDone sig s
  | .hdmDecoderCommit ld on base size skip ways gran lock hdmH => Sys2Proof.Machine.execHdmDecoderCommit ld on base size skip ways gran lock s hdmH
  | .currentLimit x on => Sys2Proof.Machine.execCurrentLimit x on s
  | .norSectorEraseDone => Sys2Proof.Machine.execNorSectorEraseDone s
  | .chainRestored a mv => Sys2Proof.Machine.execChainRestored a mv s
  | .estimateStale x => Sys2Proof.Machine.execEstimateStale x s
  | .entdaa addr => Sys2Proof.Machine.execEntdaa addr s
  | .cdatTableAccess ld => Sys2Proof.Machine.execCdatTableAccess ld s
  | .doeDiscovery ld fn => Sys2Proof.Machine.execDoeDiscovery ld fn s
  | .otherStandardCxlCommand c op => Sys2Proof.Machine.execOtherStandardCxlCommand c op s
  | .qosFractionSet ld limit v => Sys2Proof.Machine.execQosFractionSet ld limit v s

end Sys2Proof.Machine
end

