-- ==== Sys2Proof/Machine/Idle.lean ====
section
/-! DEFINITION. What passes when no command waits: one millisecond (DESIGN CHOICE, log entry 4). -/

namespace Sys2Proof.Machine

/-- BREACH_TIME holds the milliseconds spent above the ceiling while the Weir plans (R124). -/
def State.countBreach (s : State) : State :=
  if s.weir.state = .planning && s.weir.above then s.addReg Reg.BREACH_TIME 1 else s

/-- In a hold the AON domain counts HOLD_ELAPSED in seconds (R214), at the model clock's whole seconds (DESIGN CHOICE, log entry 4). -/
def State.countHold (s : State) : State :=
  if s.dev = .kickstand && s.sip.hold.state = .holding && s.now % 1000 = 0 then
    s.onSip fun x => { x with hold := { x.hold with elapsed := x.hold.elapsed + 1 } }
  else s

/-- Frames that no FRAME_ACK_TIMEOUT has named were acknowledged within the millisecond (R453, DESIGN CHOICE, log entry 4). -/
def State.framesAcked (s : State) : State := s.onMir fun x => { x with unacked := [] }

/-- What has become dirty by the end of a millisecond, over the last WEIR_PERIOD (R121). -/
def State.noteInflow (s : State) : State :=
  if s.weir.state = .planning then
    s.onWeir fun w => { w with
      inflow := ((s.now, s.basin.dirtyBytes + w.cleaned + w.cleanedBefore) :: w.inflow).take (s.reg Reg.WEIR_PERIOD + 1) }
  else s

/-- One millisecond without a command (DESIGN CHOICE, log entry 4). -/
def State.tick (s : State) : State :=
  { s with now := s.now + 1, out := [] }.countBreach.countHold.framesAcked.noteInflow

end Sys2Proof.Machine
end

