-- ==== Sys2Proof/Safety.lean ====
section
/-! DEFINITION. What counts as a safe run, and the invariants claims are stated with. -/

namespace Sys2Proof.Machine

/-- A run of `k` steps that stops nowhere. -/
def SafeRun (k : Nat) (s : State) : Prop := ∃ t, Sys2Proof.core.run k s = .next t

/-- Every stored parameter lies within its register's width, none is listed at its default, and the list's keys rise: equal
register files are equal lists (R9, R429). -/
def State.RegsOk (s : State) : Prop :=
  risingFrom none s.regs = true
    ∧ ∀ p ∈ s.regs, p.2 < 2 ^ paramWidth p.1 ∧ p.2 ≠ paramDefault p.1

/-- Host memory keeps its canonical form. -/
def State.MemOk (s : State) : Prop := memWf s.mem = true

/-- PROTECTION_STATUS shows the code that Table 1-2a gives the machine's state (R22). -/
def State.ProtectionShown (s : State) : Prop := s.reg Reg.PROTECTION_STATUS = s.protectionCode

/-- Nothing is left to follow a command: what follows every command changes nothing. -/
def State.Settled (s : State) : Prop := s.fin = s

/-- The parts of the state, by field. -/
inductive Part where
  | dev | prev | cold | now | regs | freeCtr | mem | fc | rec_ | nv | cmd | cist | weir | basin | rill | res | whl | spill | sip | seq | port | mir | mgmt | out | pending
deriving DecidableEq, Repr

/-- Two states agree on a part. -/
def State.agree (s t : State) : Part → Prop
  | .dev => t.dev = s.dev
  | .prev => t.prev = s.prev
  | .cold => t.cold = s.cold
  | .now => t.now = s.now
  | .regs => t.regs = s.regs
  | .freeCtr => t.freeCtr = s.freeCtr
  | .mem => t.mem = s.mem
  | .fc => t.fc = s.fc
  | .rec_ => t.rec_ = s.rec_
  | .nv => t.nv = s.nv
  | .cmd => t.cmd = s.cmd
  | .cist => t.cist = s.cist
  | .weir => t.weir = s.weir
  | .basin => t.basin = s.basin
  | .rill => t.rill = s.rill
  | .res => t.res = s.res
  | .whl => t.whl = s.whl
  | .spill => t.spill = s.spill
  | .sip => t.sip = s.sip
  | .seq => t.seq = s.seq
  | .port => t.port = s.port
  | .mir => t.mir = s.mir
  | .mgmt => t.mgmt = s.mgmt
  | .out => t.out = s.out
  | .pending => t.pending = s.pending

/-- `t` is `s` but for the parts listed: the frame of a command. -/
def State.SameBut (s t : State) (l : List Part) : Prop := ∀ p, p ∉ l → s.agree t p

/-- Registers an event or its records may change: its status bit, the recorder's sequence and loss count, one-shot snapshot
triggers. -/
def eventReg (id : Nat) : Bool :=
  id == Reg.REC_SEQ || id == Reg.REC_LOST || decide (Reg.EV_STATUS ≤ id ∧ id < Reg.EV_STATUS + 6)
    || decide (Reg.SNAP_TRIGGER ≤ id ∧ id < Reg.SNAP_TRIGGER + 4)

/-- Registers a fault report may change: the collector's status words and counters, the count of injections left
(R377), and those of its event. -/
def reportReg (id : Nat) : Bool :=
  eventReg id || decide (Reg.FC_STATUS ≤ id ∧ id < Reg.FC_STATUS + 8)
    || decide (Reg.FC_COUNT ≤ id ∧ id < Reg.FC_COUNT + 48) || id == Reg.FI_REMAINING

/-- The packet counters: those of every status and of every transport (Table 14-6). -/
def counterReg (id : Nat) : Bool :=
  decide (Reg.GLOBAL_COUNTER ≤ id ∧ id < Reg.GLOBAL_COUNTER + 11)
    || decide (Reg.TRANSPORT_COUNT ≤ id ∧ id < Reg.TRANSPORT_COUNT + 64)

/-- Every register but those `l` names reads as before. -/
def State.RegsBut (s t : State) (l : Nat → Bool) : Prop := ∀ id, l id = false → t.reg id = s.reg id

/-- The command is carried out: `exec` answers a next state, and the state its own effect leaves, before what follows every
command (`State.fin`: reports' reactions, waiting activities, the Weir's comparison, PROTECTION_STATUS), is as `P` says. -/
def Answers (c : Instr) (s : State) (P : State → Prop) : Prop := ∃ t, exec c s = .next t.fin ∧ P t

/-- A vendor packet that the interpreter accepts and runs (R422 to R430): it reaches firmware whole over one of its row's
transports, its originator has nothing outstanding, REPLAY_CHECK is off, the state and the fields are allowed, and every
entry and every reply owed is older than the CSEQ it takes. -/
structure Accepted (v : VSpec) (p : Pkt) (s : State) : Prop where
  reaches : s.reaches p.transport = true
  firmware : s.aonServes = false
  whole : p.short = false ∧ p.carried = p.length ∧ p.length % 8 = 0 ∧ p.length ≤ 4088
  mailbox : p.transport < 2 → p.mailbox = v.op
  transport : p.transport ∈ v.transports
  free : v.status = true ∨ ∀ q ∈ s.cmd.owed, q.origin ≠ (pktOwed p v.op 0).origin
  fresh : bit p.flags 0 = false
  older : (∀ q ∈ s.cmd.owed, q.cseq ≤ s.cmd.cseq) ∧ ∀ e ∈ s.cmd.journal, e.cseq ≤ s.cmd.cseq
  state : v.ok s = true
  fields : pktOk p v = true
  quiet : v.persist s p = true → s.nv.state ≠ .quiet

/-- A vendor packet that the AON endpoint accepts and runs, over MCTP on I3C (Table 14-1, R468). -/
structure AcceptedAon (v : VSpec) (p : Pkt) (s : State) : Prop where
  reaches : s.reaches p.transport = true
  serves : s.aonServes = true
  mctp : p.transport = 3
  whole : p.short = false ∧ p.carried = p.length ∧ p.length % 8 = 0 ∧ p.length ≤ 4088
  transport : 3 ∈ v.transports
  aon : v.aon = true
  state : v.ok s = true
  fields : pktOk p v = true

/-- The reply to a packet has gone out with a status and result slots (R423, R424). -/
def Replied (v : VSpec) (p : Pkt) (t : State) (status : Nat) (slots : List Nat) : Prop :=
  ∃ cseq detail, Out.reply (pktOwed p v.op 0).origin v.op p.tag status cseq detail slots ∈ t.out

/-- A vendor command is accepted, answered with a status and slots, and leaves what `P` says. -/
def Runs (c : Pkt → Instr) (v : VSpec) (p : Pkt) (s : State) (status : Nat) (slots : List Nat) (P : State → Prop) : Prop :=
  Answers (c p) s fun t => Replied v p t status slots ∧ P t

/-- The message that a Mirsen command is the arrival of, HELLO apart. -/
def msgOf : Instr → Option MHdr
  | .memberHeartbeat h _ _ _ | .mgrBeat h _ _ _ _ | .roleAssign h _ _ _ _ | .sync h _ _ _ _ | .report h _ _ _
  | .state h _ _ _ | .grantReq h _ _ _ | .grant h _ _ _ _ | .grantRelease h _ _ | .replica h _ _ _ | .event h _
  | .cmd h _ | .cmdReply h _ _ _ _ _ _ | .takeoverQuery h _ | .takeoverAck h _ | .stale h _ _ _ _ | .resolve h => some h
  | _ => none

/-- A message that the unit acts on itself: heard on a port that is up, of its domain, sent by another member, and a flood
not seen before, or addressed to a role it holds or to its own number (R453, R454). -/
structure Heard (h : MHdr) (s : State) : Prop where
  hears : s.mirHears h.port = true
  domain : h.domain = s.reg Reg.DOMAIN_ID
  other : h.src ≠ s.reg Reg.MEMBER_NO
  mine : (h.flood = true ∧ (h.src, h.mseq) ∉ s.mir.seen)
    ∨ (h.flood = false ∧ h.toRole = true ∧ s.holds h.dst = true)
    ∨ (h.flood = false ∧ h.toRole = false ∧ h.dst = s.reg Reg.MEMBER_NO)

/-- A reply that can go out by itself: not marked discarded, its originator one of transports 0 to 3, and no other reply owed
under its CSEQ. -/
structure Due (o : Owed) (s : State) : Prop where
  kept : o.discard = false
  transport : o.origin.transport < 4
  sole : ∀ q ∈ s.cmd.owed, q.cseq = o.cseq → q = o

/-- The reply owed has gone out with a status and slots. -/
def Answered (o : Owed) (t : State) (status : Nat) (slots : List Nat) : Prop :=
  ∃ cseq detail, Out.reply o.origin o.opcode o.tag status cseq detail slots ∈ t.out

/-- A frame of a type and payload has gone out to a member. -/
def FrameTo (t : State) (type dst : Nat) (payload : List Nat) : Prop :=
  ∃ p h, Out.frame p type h payload ∈ t.out ∧ h.dst = dst

end Sys2Proof.Machine
end

