-- ==== Sys2Proof/WellFormed.lean ====
section
/-! DEFINITION. Well-formed commands: operands within the widths and counts the specification gives what they stand for. -/

namespace Sys2Proof

/-- A vendor packet's fields have the widths of Table 14-2, its transport is a code of Table 14-1 that carries packets,
its logical device is one of at most 8 (R58), and its slots are 64-bit words (R9), at most 511 of them (R423). -/
def Pkt.wf (p : Pkt) : Bool :=
  decide (p.transport < 5) && decide (p.ld < 8) && decide (p.opcode < 2 ^ 16) && decide (p.tag < 2 ^ 16)
    && decide (p.flags < 2 ^ 16) && decide (p.length < 2 ^ 16) && decide (p.mailbox < 2 ^ 16)
    && p.slots.all (fun w => decide (w < 2 ^ 64)) && decide (p.slots.length ≤ 511)
    && decide (p.member < 2 ^ 11) && decide (p.mseq < 2 ^ 16)

/-- A Mirsen header names one of six ports (R444), and its fields have the widths of Table 15-3. -/
def MHdr.wf (h : MHdr) : Bool :=
  decide (h.port < 6) && decide (h.src < 2 ^ 11) && decide (h.dst < 2 ^ 11) && decide (h.epoch < 2 ^ 24)
    && decide (h.hops < 2 ^ 8) && decide (h.mseq < 2 ^ 16) && decide (h.domain < 2 ^ 13)

/-- A standard command comes over a mailbox or MCTP (R422), from one of at most 8 logical devices (R58). -/
def Cxl.wf (c : Cxl) : Bool := decide (c.transport < 4) && decide (c.ld < 8)

/-- A module stands in one of eight channels with two slots each (Table 11-2's numbering), and its capacity is a code of
Table 3-12. -/
def Dimm.wf (d : Dimm) : Bool := decide (d.channel < 8) && decide (d.slot < 2) && decide (d.cap < 4)

/-- A flash target answers on one of 512 target ports, with at least one LUN. -/
def Target.wf (t : Target) : Bool := decide (t.port < 512) && decide (t.luns ≠ 0)

/-- A patrol scrub's finding names a module of the population's places, or a DPA and segments within 64 bits. -/
def ScrubFind.wf : ScrubFind → Bool
  | .corrected channel slot _ _ => decide (channel < 8) && decide (slot < 2)
  | .badLine dpa => decide (dpa < 2 ^ 48)
  | _ => true

/-- A CXL.io stream is the link stream, 0, or one of the selective ones, an 8-bit number. -/
def IdeMsg.wf : IdeMsg → Bool
  | .query => true
  | .keyProg _ n => decide (n < 2 ^ 8)
  | .setGo _ n _ => decide (n < 2 ^ 8)
  | .setStop _ n => decide (n < 2 ^ 8)

/-- Every command's operands, within their ranges. -/
def Instr.wf : Instr → Bool
  | .aonPowerUp => true
  | .aonPowerLoss => true
  | .inputPresent _ _ => true
  | .earlyWarning _ _ => true
  | .recovery _ _ => true
  | .undervoltageCommit _ _ => true
  | .rideThroughExpiry => true
  | .chainDisagreement _ _ => true
  | .chainFailure _ => true
  | .gpfWindowEnd _ => true
  | .memwr ld hpa _ _ _ _ => decide (ld < 8) && decide (hpa < 2 ^ 64)
  | .memwrptl ld hpa _ _ _ _ _ => decide (ld < 8) && decide (hpa < 2 ^ 64)
  | .memrd ld hpa _ _ _ => decide (ld < 8) && decide (hpa < 2 ^ 64)
  | .memrddata ld hpa _ _ _ => decide (ld < 8) && decide (hpa < 2 ^ 64)
  | .memspecrd => true
  | .unsupportedMemRequest _ => true
  | .gpfPhase1 ld => decide (ld < 8)
  | .gpfPhase2 ld _ => decide (ld < 8)
  | .linkTrained _ _ _ _ => true
  | .linkDown _ => true
  | .hotReset => true
  | .flrPf0 => true
  | .flrPf1 ld => decide (ld < 8)
  | .flrPf2 => true
  | .cxlReset _ => true
  | .volatilePageCleared => true
  | .ideIntegrityFailure => true
  | .cxlIdeKm _ m _ => m.wf
  | .getVersion _ => true
  | .getCapabilities _ => true
  | .negotiateAlgorithms _ _ => true
  | .getDigests _ => true
  | .getCertificate slot _ => decide (slot < 8)
  | .challenge slot _ => decide (slot < 8)
  | .getMeasurements _ _ => true
  | .keyExchange slot _ => decide (slot < 8)
  | .finish _ _ => true
  | .heartbeat _ _ => true
  | .keyUpdate _ _ => true
  | .endSession _ _ => true
  | .identifyMemoryDevice c => c.wf
  | .getPartitionInfo c => c.wf
  | .getHealthInfo c => c.wf
  | .getAlertConfiguration c => c.wf
  | .getShutdownState c => c.wf
  | .setShutdownState c _ => c.wf
  | .getSecurityState c => c.wf
  | .setPassphrase c _ _ _ => c.wf
  | .disablePassphrase c _ _ => c.wf
  | .unlock c _ => c.wf
  | .freezeSecurityState c => c.wf
  | .passphraseSecureErase c _ _ => c.wf
  | .sanitize c => c.wf
  | .secureErase c => c.wf
  | .sanitizeComplete _ => true
  | .getEventRecords c log => c.wf && decide (log < 5)
  | .clearEventRecords c log _ _ => c.wf && decide (log < 5)
  | .getEventInterruptPolicy c => c.wf
  | .setEventInterruptPolicy c vs => c.wf && vs.length == 5
  | .getFwInfo c => c.wf
  | .transferFw c => c.wf
  | .activateFw c => c.wf
  | .getSupportedLogs c => c.wf
  | .getLog c => c.wf
  | .getTimestamp c => c.wf
  | .getPoisonList c _ _ => c.wf
  | .injectPoison c dpa => c.wf && decide (dpa < 2 ^ 64)
  | .clearPoison c dpa _ => c.wf && decide (dpa < 2 ^ 64)
  | .getScanMediaCapabilities c => c.wf
  | .scanMedia c _ _ => c.wf
  | .getScanMediaResults c => c.wf
  | .getDynamicCapacityConfiguration c => c.wf
  | .getDynamicCapacityExtentList c => c.wf
  | .addDynamicCapacityResponse c _ _ => c.wf
  | .releaseDynamicCapacity c _ => c.wf
  | .setLdAllocations c _ _ => c.wf
  | .patrolScrubStep f => f.wf
  | .softPprComplete _ _ => true
  | .cleanLineRepair _ => true
  | .dimmSpareComplete => true
  | .dramCommandTimeout channel slot => decide (channel < 8) && decide (slot < 2)
  | .heatDecayPeriodExpiry => true
  | .ageTickExpiry => true
  | .dstDiagIndexWrite v => decide (v < 2 ^ 48)
  | .dramTrainingComplete dimms _ => dimms.all (·.wf)
  | .firstReplan _ _ _ _ => true
  | .periodicReplan _ _ _ => true
  | .triggeredReplan _ _ _ => true
  | .replanTimeout => true
  | .devloadEvaluation => true
  | .rillCapture _ _ => true
  | .stripProgramDone _ column _ _ => decide (column < 16)
  | .stripProgramFailed _ column => decide (column < 16)
  | .wheelClosed _ => true
  | .wheelIdleTimeout _ => true
  | .fineMapMerge => true
  | .migration => true
  | .garbageCollection => true
  | .relocationComplete => true
  | .checkpointWrite _ _ => true
  | .mapLoad _ _ => true
  | .mapReload _ _ _ => true
  | .flushReport => true
  | .enduranceDaily => true
  | .reformat p => p.wf
  | .reformatRewriteComplete => true
  | .speculativeCapture _ => true
  | .undoComplete => true
  | .dampQuietExpiry => true
  | .drainRun _ _ _ => true
  | .slotSetDrained k => decide (k < 2)
  | .slowSpokeTimeout _ column => decide (column < 16)
  | .drainStallTimeout => true
  | .vaultMetadataWritten _ => true
  | .journalDescriptorsWritten _ _ => true
  | .manifestWritten _ _ again => again.all fun i => decide (i < 2)
  | .closingPointerWritten => true
  | .rehearsePeriodExpiry => true
  | .rehearsalComplete _ _ _ => true
  | .reserveReplenish => true
  | .reserveLowTimeout => true
  | .holdTimeLimit => true
  | .sealedRestartDelayExpiry => true
  | .sealedInputLoss => true
  | .startPathChoice _ _ _ _ => true
  | .bringupExit => true
  | .extentFetchComplete _ _ _ => true
  | .settleComplete _ => true
  | .chainRetire => true
  | .restoreStall => true
  | .flashIdentify found _ _ _ => found.all (·.wf)
  | .codewordRead _ column unit _ _ _ _ _ _ => decide (column < 16) && decide (unit < 16)
  | .retentionScrub _ _ _ _ => true
  | .blockRefresh => true
  | .blockTableSnapshot => true
  | .eraseComplete _ _ => true
  | .targetTimeout port _ => decide (port < 512)
  | .journalStripIssue _ _ => true
  | .journalRemirror => true
  | .wheelRecovery _ _ _ _ _ => true
  | .trueColumn _ => true
  | .lostFoldsComplete _ => true
  | .scrubDeepWheel _ _ _ _ _ => true
  | .reshapeWheel => true
  | .reserveBuildStep => true
  | .reserveFlip _ => true
  | .cisternTableLoad _ => true
  | .cisternSample _ _ _ _ _ _ => true
  | .iwakeTrip _ => true
  | .hibernateDelayExpiry => true
  | .dischargeEnd _ => true
  | .relaxTimeExpiry _ => true
  | .chargeTermination _ => true
  | .moduleIdRead _ _ => true
  | .shortTimeExpiry _ => true
  | .learnPeriodExpiry _ => true
  | .learnStart p => p.wf
  | .learnRestExpiry _ => true
  | .resCheckPeriodExpiry _ => true
  | .resCheckPulseEnd _ => true
  | .resCheckReboundEnd _ _ => true
  | .learnedRecordRetry _ => true
  | .packReplaced p => p.wf
  | .portClear p => p.wf
  | .powerOn p => p.wf
  | .pgRise slot => decide (slot < 24)
  | .stabilityTimerExpiry _ => true
  | .stepDelayExpiry => true
  | .pgTimeout slot => decide (slot < 24)
  | .pgDrop slot => decide (slot < 24)
  | .retryOffTimeExpiry slot => decide (slot < 24)
  | .powerupRetryDelayExpiry => true
  | .sysresetOffTimeExpiry => true
  | .groupRestart p => p.wf
  | .rstPulse p => p.wf
  | .resetStretchExpiry _ => true
  | .orderlyShutdown p => p.wf
  | .flushTimeout => true
  | .pmbusPollExpiry _ _ => true
  | .pmbusAlert _ => true
  | .pmbusTransactionDone _ _ _ => true
  | .pmbusBusStuck => true
  | .vcoreTargetPosted _ => true
  | .voutReadback _ => true
  | .holdupFault _ _ => true
  | .converterStandbyExpiry => true
  | .seqCounterFlush => true
  | .faultReport src sev _ _ => decide (src < 48) && decide (sev < 8)
  | .fcStatusWrite v => decide (v < 2 ^ 48)
  | .fcFirstClear => true
  | .fcQuietExpiry => true
  | .faultRestart p => p.wf
  | .fiCtrlWrite v => decide (v < 2 ^ 48)
  | .injectionDone => true
  | .evStatusWrite k v => decide (k < 6) && decide (v < 2 ^ 48)
  | .heldMsixDelivery _ ld => decide (ld < 8)
  | .evAlertIntervalExpiry _ => true
  | .recordQueueWrite => true
  | .recCursorWrite v => decide (v < 2 ^ 48)
  | .recAdvance => true
  | .evrecRead p => p.wf
  | .earlyMount _ _ => true
  | .fullMount _ _ => true
  | .nvResyncComplete => true
  | .nvRecordProgramDone _ => true
  | .nvDeviceTimeout _ => true
  | .logCompaction => true
  | .nvScrub _ => true
  | .cfgImageRewrite => true
  | .paramGet p => p.wf
  | .paramSet p => p.wf
  | .paramStage p => p.wf
  | .paramCommit p => p.wf
  | .paramDiscard p => p.wf
  | .paramStageRead p => p.wf
  | .identify p => p.wf
  | .getStatus p => p.wf
  | .journalRead p => p.wf
  | .journalFind p => p.wf
  | .journalCursorWrite v => decide (v < 2 ^ 48)
  | .maintStart p => p.wf
  | .maintStop p => p.wf
  | .maintStatus p => p.wf
  | .reservedOpcode p => p.wf
  | .camubDiagnostic p => p.wf
  | .barParamWrite offset v ld => decide (ld < 8) && decide (offset % 8 = 0) && decide (v < 2 ^ 64)
  | .hostDoorbellResend ld => decide (ld < 8)
  | .hostDoorbellLatch => true
  | .registerWrite id v => decide (id < 2 ^ 16) && decide (v < 2 ^ 48)
  | .mirsenLinkUp port serial member _ _ _ => decide (port < 6) && decide (serial < 2 ^ 48) && decide (member < 2 ^ 11)
  | .mirsenLinkDown port _ => decide (port < 6)
  | .failNotice port origin cgen domain _ => decide (port < 6) && decide (origin < 2 ^ 11) && decide (cgen < 2 ^ 24) && decide (domain < 2 ^ 13)
  | .frameAckTimeout port _ => decide (port < 6)
  | .hello h serial member _ => h.wf && decide (serial < 2 ^ 48) && decide (member < 2 ^ 11)
  | .heartbeatPeriodExpiry => true
  | .memberHeartbeat h _ _ cgen => h.wf && decide (cgen < 2 ^ 24)
  | .mgrBeat h epoch cgen _ _ => h.wf && decide (epoch < 2 ^ 24) && decide (cgen < 2 ^ 24)
  | .roleAssign h epoch mgr alt cands => h.wf && decide (epoch < 2 ^ 24) && decide (mgr < 2 ^ 11) && decide (alt < 2 ^ 11) && cands.all (fun m => decide (m < 2 ^ 10))
  | .sync h cgen _ domain _ => h.wf && decide (cgen < 2 ^ 24) && decide (domain < 2 ^ 13)
  | .report h _ commitId _ => h.wf && decide (commitId < 2 ^ 48)
  | .state h v _ _ => h.wf && decide (v < 2 ^ 48)
  | .grantReq h _ _ _ => h.wf
  | .grant h _ _ _ _ => h.wf
  | .grantRelease h _ _ => h.wf
  | .replica h cgen _ _ => h.wf && decide (cgen < 2 ^ 24)
  | .event h slots => h.wf && decide (slots.length ≤ 8)
  | .cmd h p => h.wf && p.wf
  | .cmdReply h _ _ _ _ _ _ => h.wf
  | .takeoverQuery h epoch => h.wf && decide (epoch < 2 ^ 24)
  | .takeoverAck h cands => h.wf && cands.all (fun m => decide (m < 2 ^ 10))
  | .stale h epoch mgr alt cands => h.wf && decide (epoch < 2 ^ 24) && decide (mgr < 2 ^ 11) && decide (alt < 2 ^ 11) && cands.all (fun m => decide (m < 2 ^ 10))
  | .resolve h => h.wf
  | .orphanTimeExpiry => true
  | .memberTimeoutExpiry member cands => decide (member < 2 ^ 11) && cands.all (fun m => decide (m < 2 ^ 10))
  | .mgrTimeoutExpiry => true
  | .takeoverWindowExpiry => true
  | .grantWaitExpiry _ => true
  | .domainStatus p => p.wf
  | .domainRosterRead p => p.wf
  | .domainEventRead p => p.wf
  | .domainForm p _ cands => p.wf && cands.all (fun m => decide (m < 2 ^ 10))
  | .domainAdmit p => p.wf
  | .domainRemove p cands => p.wf && cands.all (fun m => decide (m < 2 ^ 10))
  | .domainRelay p => p.wf
  | .domainHandover p => p.wf
  | .lockstepMismatch => true
  | .watchdogExpiry => true
  | .mgmtSramDoubleBitError _ => true
  | .mgmtRunning _ => true
  | .bootRomStart _ _ => true
  | .clockCheckWindow lost => decide (lost < 2 ^ 28)
  | .thermalSample t => t.length == 8
  | .agePeriodExpiry slacks => slacks.length == 12
  | .dramTrendDaily => true
  | .dayOfServiceTick => true
  | .counterLatch v => decide (v < 2 ^ 48)
  | .wheelDiagIndexWrite v => decide (v < 2 ^ 48)
  | .fwInfo p => p.wf
  | .fwWrite p => p.wf
  | .fwVerify p _ => p.wf
  | .fwActivate p => p.wf
  | .activationTimeout => true
  | .queryDeviceIdentifiers transport => decide (transport = 2 ∨ transport = 3)
  | .getFirmwareParameters transport => decide (transport = 2 ∨ transport = 3)
  | .requestUpdate transport _ => decide (transport = 2 ∨ transport = 3)
  | .passComponentTable transport id _ => decide (transport = 2 ∨ transport = 3) && decide (id < 2 ^ 16)
  | .updateComponent transport id _ => decide (transport = 2 ∨ transport = 3) && decide (id < 2 ^ 16)
  | .requestFirmwareData transport _ _ => decide (transport = 2 ∨ transport = 3)
  | .transferComplete transport _ => decide (transport = 2 ∨ transport = 3)
  | .verifyComplete transport => decide (transport = 2 ∨ transport = 3)
  | .applyComplete transport => decide (transport = 2 ∨ transport = 3)
  | .activateFirmware transport _ => decide (transport = 2 ∨ transport = 3)
  | .pldmGetStatus transport => decide (transport = 2 ∨ transport = 3)
  | .cancelUpdateComponent transport => decide (transport = 2 ∨ transport = 3)
  | .cancelUpdate transport => decide (transport = 2 ∨ transport = 3)
  | .bistRun p => p.wf
  | .bistStatus p => p.wf
  | .bistPartitionDone _ => true
  | .hdmDecoderCommit ld _ _ _ _ _ _ _ _ => decide (ld < 8)
  | .currentLimit _ _ => true
  | .norSectorEraseDone => true
  | .chainRestored _ _ => true
  | .estimateStale _ => true
  | .entdaa addr => decide (addr < 2 ^ 7)
  | .cdatTableAccess ld => decide (ld < 8)
  | .doeDiscovery ld fn => (decide (ld < 8) || decide (ld = 0xFFFF)) && decide (fn < 3)
  | .otherStandardCxlCommand c op => c.wf && decide (op < 2 ^ 16)
  | .qosFractionSet ld _ v => decide (ld < 8) && decide (v < 2 ^ 48)

end Sys2Proof
end

