-- ==== Sys2Proof/Certificates/Slice0/Obligations.lean ====
section
/-! DEFINITION. The statements for the provers. -/

open Sys2Proof Sys2Proof.Machine

/-- A step is the front command's effect, or a millisecond. With a command at the front of the queue, a step is exec
of that command on the state with the queue's rest. With none waiting a step is one millisecond (the model's choice,
DESIGN CHOICE, log entry 4): the clock advances, BREACH_TIME counts while the Weir plans above the ceiling, the dirty
bytes of the last WEIR_PERIOD are noted for the inflow of R121, a hold's seconds count, frames are acknowledged, and
nothing else changes. (R124, R214, 04_weir.md, 07_siphon_restore.md) -/
def Obligations.Step_takes_the_front : Prop :=
  (∀ c l s, s.pending = c :: l → step s = exec c { s with pending := l })
  ∧ ∀ s, s.pending = [] → ∃ t, step s = .next t ∧ t.now = s.now + 1 ∧ t.out = []
    ∧ (s.weir.state = .planning → s.weir.above = true → s.reg Reg.BREACH_TIME + 1 < 2 ^ 32 →
        t.reg Reg.BREACH_TIME = s.reg Reg.BREACH_TIME + 1)
    ∧ (s.weir.above = false → t.regs = s.regs ∧ t.freeCtr = s.freeCtr)
    ∧ (s.dev = .kickstand → s.sip.hold.state = .holding → (s.now + 1) % 1000 = 0 →
        t.sip.hold.elapsed = s.sip.hold.elapsed + 1)
    ∧ (s.dev ≠ .kickstand → t.sip = s.sip)
    ∧ t.mir = { s.mir with unacked := [] }
    ∧ (s.weir.state ≠ .planning → t.weir = s.weir)
    ∧ (s.weir.state = .planning → { t.weir with inflow := s.weir.inflow } = s.weir)
    ∧ s.SameBut t [.now, .out, .regs, .freeCtr, .sip, .mir, .weir] ∧ s.RegsBut t (· == Reg.BREACH_TIME)

/-- Every step answers, and PROTECTION_STATUS shows the state after it. From every state in which PROTECTION_STATUS
shows the code that Table 1-2a gives it, the highest that applies, every step, whatever the command, answers a next
state in which PROTECTION_STATUS shows its code again; and whatever a command leaves, what follows it brings
PROTECTION_STATUS up to date. (R22, R109, R123, 01_persistence_guarantees.md) -/
def Obligations.Step_keeps_protection : Prop :=
  (∀ s : State, s.ProtectionShown → ∃ t, step s = .next t ∧ t.ProtectionShown)
  ∧ ∀ c s, ∃ t, exec c s = .next t ∧ t.ProtectionShown

/-- The state at reset. At reset the device is OFF with no rail up, the queue, memory and what has gone out are empty,
every register reads its default, PROTECTION_STATUS shows its code, and the register file and memory have their
canonical form. The choice of OFF as the reset state is the model's (DESIGN CHOICE, log entry 1). (R9, R22, R429,
01_persistence_guarantees.md) -/
def Obligations.Reset_state : Prop :=
  State.reset.dev = .off ∧ State.reset.pending = [] ∧ State.reset.mem = [] ∧ State.reset.out = []
  ∧ State.reset.seq.aonUp = false ∧ State.reset.seq.coreUp = false
  ∧ (∀ id, State.reset.reg id = paramDefault id)
  ∧ State.reset.reg Reg.PROTECTION_STATUS = 4 ∧ State.reset.ProtectionShown
  ∧ State.reset.RegsOk ∧ State.reset.MemOk

/-- CXL.mem writes. A write whose address is served stores the line (a partial write its enabled bytes) at the address
it decodes to and is completed; every other byte of memory reads as before. A full write poisons the line or clears
its poison; a partial one leaves a poisoned line poisoned and poisons it where its own data are poisoned. A write to
the persistent partition leaves its page dirty. A write not served is completed and counted, and stores nothing. A
write that reaches no memory of the device, or comes while CXL.mem is not served, changes nothing. The DevLoad of a
completion is at least DEVLOAD_LEVEL; the port's own part of it is a free value (the model's choice, log entry 220).
(R13, R30, R57, R60, R90, R91, 02_host_port.md) -/
def Obligations.Mem_writes : Prop :=
  (∀ ld hpa tag data pois err s a, s.reach ld hpa = .served a →
    Answers (.memwr ld hpa tag data pois err) s fun t =>
      readLine t.mem a = data ∧ (∀ b, b < a ∨ a + 64 ≤ b → readByte t.mem b = readByte s.mem b)
        ∧ t.poisoned a = pois ∧ (∃ d, .memCmp tag d ∈ t.out ∧ s.reg Reg.DEVLOAD_LEVEL ≤ d)
        ∧ (s.persistent a = true → t.pageDirty a = true))
  ∧ (∀ ld hpa tag data pois s a, s.reach ld hpa = .served a → s.persistent a = false →
    Answers (.memwr ld hpa tag data pois .none) s fun t =>
      (∀ seg, (t.basin.entry seg).map (·.d) = (s.basin.entry seg).map (·.d)) ∧ t.basin.overflow = s.basin.overflow
        ∧ s.SameBut t [.out, .mem, .port, .basin, .freeCtr])
  ∧ (∀ ld hpa tag data en pois err s a, s.reach ld hpa = .served a →
    Answers (.memwrptl ld hpa tag data en err pois) s fun t =>
      (∀ n, n < 64 → readByte t.mem (a + n) = if en.getLsbD n then lineByte data n else readByte s.mem (a + n))
        ∧ (∀ b, b < a ∨ a + 64 ≤ b → readByte t.mem b = readByte s.mem b)
        ∧ t.poisoned a = (pois || s.poisoned a) ∧ (∃ d, .memCmp tag d ∈ t.out ∧ s.reg Reg.DEVLOAD_LEVEL ≤ d)
        ∧ (s.persistent a = true → t.pageDirty a = true))
  ∧ (∀ ld hpa tag data pois err s a, s.reach ld hpa = .notServed a → s.reg Reg.OFFLINE_ACCESS_COUNT + 1 < 2 ^ 32 →
    Answers (.memwr ld hpa tag data pois err) s fun t =>
      t.reg Reg.OFFLINE_ACCESS_COUNT = s.reg Reg.OFFLINE_ACCESS_COUNT + 1 ∧ (∃ d, .memCmp tag d ∈ t.out)
        ∧ s.SameBut t [.out, .regs, .port, .freeCtr])
  ∧ (∀ ld hpa tag data en pois err s a, s.reach ld hpa = .notServed a → s.reg Reg.OFFLINE_ACCESS_COUNT + 1 < 2 ^ 32 →
    Answers (.memwrptl ld hpa tag data en err pois) s fun t =>
      t.reg Reg.OFFLINE_ACCESS_COUNT = s.reg Reg.OFFLINE_ACCESS_COUNT + 1 ∧ (∃ d, .memCmp tag d ∈ t.out)
        ∧ s.SameBut t [.out, .regs, .port, .freeCtr])
  ∧ (∀ ld hpa tag data pois err s, s.reach ld hpa = .unclaimed →
    Answers (.memwr ld hpa tag data pois err) s fun t => t = s.begin)
  ∧ ∀ ld hpa tag data en pois err s, s.reach ld hpa = .unclaimed →
    Answers (.memwrptl ld hpa tag data en err pois) s fun t => t = s.begin

/-- CXL.mem reads, speculative reads and unsupported requests. A read whose address is served answers the line held
there, poisoned exactly when the line is poisoned, waits for its repair, or shows an uncorrectable error now; no byte
of memory changes. A read not served answers zeros as poisoned and is counted. MemRdData is a read. LAT_RD_PEAK takes
a higher latency that its 16 bits hold (above them the model's choice is a free value, log entry 3). A read that
reaches no memory changes nothing. A speculative read changes nothing. Another opcode is answered as unsupported, with
a LOG report of CXL_MEM. (R57, R60, R61, R67, 02_host_port.md) -/
def Obligations.Mem_reads : Prop :=
  (∀ ld hpa tag lat err s a, s.reach ld hpa = .served a →
    Answers (.memrd ld hpa tag lat err) s fun t =>
      (∃ d, .memData tag (readLine s.mem a) (s.poisoned a || s.basin.repair.contains (a / 64) || decide (err = .uncorrected)) d ∈ t.out
          ∧ s.reg Reg.DEVLOAD_LEVEL ≤ d)
        ∧ t.mem = s.mem ∧ t.dev = s.dev)
  ∧ (∀ ld hpa tag lat s a, s.reach ld hpa = .served a →
    lat < 65536 →
    Answers (.memrd ld hpa tag lat .none) s fun t =>
      t.reg Reg.LAT_RD_PEAK = max (s.reg Reg.LAT_RD_PEAK) lat
        ∧ t.basin.repair = s.basin.repair ∧ s.SameBut t [.out, .regs, .basin, .freeCtr])
  ∧ (∀ ld hpa tag lat err s a, s.reach ld hpa = .served a →
    Answers (.memrddata ld hpa tag lat err) s fun t =>
      (∃ d, .memData tag (readLine s.mem a) (s.poisoned a || s.basin.repair.contains (a / 64) || decide (err = .uncorrected)) d ∈ t.out)
        ∧ t.mem = s.mem ∧ t.dev = s.dev)
  ∧ (∀ ld hpa tag lat err s a, s.reach ld hpa = .notServed a → s.reg Reg.OFFLINE_ACCESS_COUNT + 1 < 2 ^ 32 →
    Answers (.memrd ld hpa tag lat err) s fun t =>
      (∃ d, .memData tag 0 true d ∈ t.out)
        ∧ t.reg Reg.OFFLINE_ACCESS_COUNT = s.reg Reg.OFFLINE_ACCESS_COUNT + 1
        ∧ s.SameBut t [.out, .regs, .port, .freeCtr])
  ∧ (∀ ld hpa tag lat err s, s.reach ld hpa = .unclaimed → Answers (.memrd ld hpa tag lat err) s fun t => t = s.begin)
  ∧ (∀ s, Answers .memspecrd s fun t => t = s.begin)
  ∧ (∀ tag s, s.memServes = true → s.seq.coreUp = true →
    Answers (.unsupportedMemRequest tag) s fun t =>
      .memUnsupported tag ∈ t.out ∧ bit (t.reg Reg.FC_STATUS) Src.CXL_MEM = true
        ∧ s.SameBut t [.out, .regs, .freeCtr, .rec_, .fc, .port, .mir] ∧ s.RegsBut t reportReg)

/-- Where a host address leads. CXL.mem is served only with the link up at 16 GT/s or more, the port not sealed, no
integrity failure standing, and in RESTORING, ONLINE, PRE_SPILL or the window of VAULTING; otherwise every address is
unclaimed, as is one no committed decoder of its logical device covers. With one decoder without interleave on a
device that is not multi-logical, an offset below the volatile capacity leads to that line; one above it to its line
of the persistent partition, served when its extent is online and, in Dynamic Capacity mode, accepted by the host, and
not served otherwise. (R42, R49, R52, R57, R72, 02_host_port.md) -/
def Obligations.Address_rules : Prop :=
  (∀ (s : State), s.memServes = true ↔ s.port.up = true ∧ s.port.memCapable = true ∧ s.port.ideFailed = false
      ∧ s.port.sealed = false ∧ (s.dev = .restoring ∨ s.dev = .online ∨ s.dev = .preSpill
        ∨ (s.dev = .vaulting ∧ s.port.windowOpen = true)))
  ∧ (∀ (s : State) ld hpa, s.memServes = false ∨ (∀ d ∈ s.port.decs ld, hpa < d.base ∨ d.base + d.size ≤ hpa) →
      s.reach ld hpa = .unclaimed)
  ∧ (∀ (s : State) hpa d, s.memServes = true → s.port.mld = false → s.port.decs 0 = [d] → d.ways = 1 →
      0 < d.granularity → d.base ≤ hpa → hpa < d.base + d.size → d.dpaBase + (hpa - d.base) < s.volBytes →
      s.reach 0 hpa = .served ((d.dpaBase + (hpa - d.base)) / 64 * 64))
  ∧ (∀ (s : State) hpa d a, s.memServes = true → s.port.mld = false → s.port.decs 0 = [d] → d.ways = 1 →
      0 < d.granularity → d.base ≤ hpa → hpa < d.base + d.size → a = d.dpaBase + (hpa - d.base) → s.volBytes ≤ a →
      a < s.volBytes + s.extents * GiB →
      s.reach 0 hpa =
        if s.extServed 0 (s.extentOf (a / 64 * 64)) then .served (a / 64 * 64) else .notServed (a / 64 * 64))

/-- GPF, the link, the resets and the clearing of the volatile partition. GPF Phase 1 is completed and its host has
started GPF; Phase 2 outside a vault is completed and it has no longer. A training at an allowed width and rate brings
the link up, with CXL.mem capable at 16 GT/s or more outside recovery mode; below that it is a DEGRADED report. Link
down, hot reset and CXL Reset uncommit every decoder and keep the memory, but a CXL Reset with Mem Clr Enable, after
which the volatile partition reads zero and every other byte as before. An FLR of PF0 keeps the decoders; one of PF1
returns that logical device's PF1 alone to defaults, its replies discarded, and closes the journal's window, one
parameter that every PF1 shows; one of PF2 closes the diagnostic windows. That a link down shows LINK_STATUS 0 and a
reset forgets an integrity failure are the model's choices (log entries 2 and 223). The background clearing goes on by
one page. (R25, R41, R42, R43, R45, R46, R47, 02_host_port.md) -/
def Obligations.Link_and_resets : Prop :=
  (∀ ld s, s.gpfServes = true → Answers (.gpfPhase1 ld) s fun t =>
    t.out = [.gpfDone 1 ld] ∧ ld ∈ t.port.gpfStarted ∧ (∀ x ∈ s.port.gpfStarted, x ∈ t.port.gpfStarted)
      ∧ s.SameBut t [.out, .port])
  ∧ (∀ ld tf s, s.gpfServes = true → s.dev ≠ .vaulting → Answers (.gpfPhase2 ld tf) s fun t =>
    t.out = [.gpfDone 2 ld] ∧ t.port.gpfStarted = s.port.gpfStarted.filter (· ≠ ld) ∧ s.SameBut t [.out, .port])
  ∧ (∀ w r f l s, s.mayTrain = true → s.linkOk w r = true → 16 ≤ r →
    Answers (.linkTrained w r f l) s fun t =>
      t.port.up = true ∧ t.port.width = w ∧ t.port.rate = r ∧ t.port.memCapable = !s.mgmt.recovery
        ∧ (s.port.up = true → t.port.decoders = s.port.decoders) ∧ s.SameBut t [.out, .port, .cmd, .regs])
  ∧ (∀ w r f l s, s.mayTrain = true → s.linkOk w r = true → r < 16 →
    Answers (.linkTrained w r f l) s fun t =>
      t.port.up = true ∧ t.port.memCapable = false ∧ bit (t.reg Reg.FC_STATUS) Src.HOST_LINK = true
        ∧ t.mem = s.mem ∧ t.dev = s.dev)
  ∧ (∀ s, Answers (.linkDown true) s fun t =>
    t.port.up = false ∧ t.port.memCapable = false ∧ t.port.decoders = [] ∧ t.port.pf1 = []
      ∧ t.port.poison = s.port.poison ∧ t.port.extents = s.port.extents ∧ s.SameBut t [.out, .port, .cmd, .regs])
  ∧ (∀ s, Answers (.linkDown false) s fun t => t = s.begin)
  ∧ (∀ s, s.port.up = true → Answers .hotReset s fun t =>
    t.port.decoders = [] ∧ t.port.up = true ∧ t.port.poison = s.port.poison ∧ s.SameBut t [.out, .port, .cmd, .regs])
  ∧ (∀ s, s.port.up = true → Answers .flrPf0 s fun t =>
    t.port.decoders = s.port.decoders ∧ t.port.up = true ∧ t.port.ioKeys = [] ∧ t.port.ioStreams = []
      ∧ t.port.pf1 = s.port.pf1 ∧ t.port.pf2 = s.port.pf2 ∧ s.SameBut t [.out, .port])
  ∧ (∀ ld s, s.port.up = true → Answers (.flrPf1 ld) s fun t =>
    t.port.fn1 ld = {} ∧ (∀ k, k ≠ ld → t.port.fn1 k = s.port.fn1 k) ∧ t.cmd.window = 0
      ∧ t.cmd.journal = s.cmd.journal ∧ t.port.decoders = s.port.decoders ∧ t.port.pf2 = s.port.pf2
      ∧ (∀ q ∈ s.cmd.owed, q.origin = { transport := 0, ld := ld } →
          { q with discard := true } ∈ t.cmd.owed) ∧ s.SameBut t [.out, .port, .cmd, .regs])
  ∧ (∀ s, s.port.up = true → Answers .flrPf2 s fun t => t.port.pf2 = {} ∧ t.port.pf1 = s.port.pf1 ∧ t.port.decoders = s.port.decoders ∧ s.SameBut t [.out, .port])
  ∧ (∀ s, s.port.up = true → Answers (.cxlReset false) s fun t =>
    t.port.decoders = [] ∧ t.mem = s.mem ∧ s.SameBut t [.out, .port, .cmd, .regs])
  ∧ (∀ s, s.port.up = true → Answers (.cxlReset true) s fun t =>
    t.port.decoders = [] ∧ (∀ a, a < s.volBytes → readByte t.mem a = 0)
      ∧ (∀ a, s.volBytes ≤ a → readByte t.mem a = readByte s.mem a) ∧ s.SameBut t [.out, .port, .cmd, .regs, .mem])
  ∧ (∀ s, s.port.clearAt < s.port.clearEnd → Answers .volatilePageCleared s fun t =>
    t.port.clearAt = min s.port.clearEnd (s.port.clearAt + 4096) ∧ s.SameBut t [.out, .port])

/-- IDE keys, integrity failure and the SPDM requests. An integrity failure of a Secure CXL.mem stream leaves it
Insecure with its keys dropped and a CONTAINED report. In a live session over DOE a key programmed for CXL.mem is kept
and SET_GO makes the stream Secure; outside such a session CXL_IDE_KM is an error that changes nothing. GET_VERSION
starts the transport's connection again and ends its sessions; capabilities and algorithms follow in order, and a
request out of order is an error that changes nothing. Digests and certificates are those of the slots that hold a
chain. KEY_EXCHANGE opens a session while fewer than 4 are open, FINISH establishes it, HEARTBEAT answers in a live
one, KEY_UPDATE changes its key, END_SESSION closes it. The numbers of requests, responses and errors are those of the
public SPDM standard, which the model takes (PRESUMED, log entry 29). (R70, R72, R73, 02_host_port.md) -/
def Obligations.Ide_and_spdm : Prop :=
  (∀ s, s.port.ideSecure = true → s.seq.coreUp = true → Answers .ideIntegrityFailure s fun t =>
    t.port.ideSecure = false ∧ t.port.ideFailed = true ∧ t.port.ideKeys = 0
      ∧ bit (t.reg Reg.FC_STATUS) Src.CXL_MEM = true ∧ t.memServes = false
      ∧ s.SameBut t [.out, .regs, .freeCtr, .rec_, .fc, .port, .mir])
  ∧ (∀ n s, s.spdmUp .doe = true → s.port.spdm.live .doe n = true →
    Answers (.cxlIdeKm n (.keyProg true 0) .doe) s fun t =>
      t.port.ideKeys = s.port.ideKeys + 1 ∧ t.out = [.spdm 0x7E [n, 0]] ∧ s.SameBut t [.out, .port])
  ∧ (∀ n k s, s.spdmUp .doe = true → s.port.spdm.live .doe n = true → s.port.ideKeys ≠ 0 →
    Answers (.cxlIdeKm n (.setGo true 0 k) .doe) s fun t =>
      t.port.ideSecure = true ∧ t.port.ideFailed = false ∧ t.port.ideSkid = k ∧ s.SameBut t [.out, .port])
  ∧ (∀ via n m s, s.spdmUp via = true → via ≠ .doe ∨ s.port.spdm.live via n = false →
    Answers (.cxlIdeKm n m via) s fun t => t.out = [.spdm 0x7F [2]] ∧ s.SameBut t [.out])
  ∧ (∀ via s, s.spdmUp via = true → Answers (.getVersion via) s fun t =>
    (t.port.spdm.conn via).version = true ∧ (t.port.spdm.conn via).algorithms = false
      ∧ (∀ q ∈ t.port.spdm.sessions, q.via ≠ via) ∧ s.SameBut t [.out, .port])
  ∧ (∀ via s, s.spdmUp via = true → (s.port.spdm.conn via).version = true → Answers (.getCapabilities via) s fun t =>
    t.port.spdm.conn via = { s.port.spdm.conn via with capabilities := true }
      ∧ (∀ v, v ≠ via → t.port.spdm.conn v = s.port.spdm.conn v) ∧ s.SameBut t [.out, .port])
  ∧ (∀ via s, s.spdmUp via = true → (s.port.spdm.conn via).capabilities = true →
    Answers (.negotiateAlgorithms true via) s fun t =>
      t.port.spdm.conn via = { s.port.spdm.conn via with algorithms := true }
        ∧ (∀ v, v ≠ via → t.port.spdm.conn v = s.port.spdm.conn v) ∧ s.SameBut t [.out, .port])
  ∧ (∀ via s, s.spdmUp via = true → (s.port.spdm.conn via).algorithms = true → Answers (.getDigests via) s fun t =>
    t.out = [.spdm 1 (maskOf s.certSlots :: s.certSlots.map Config.certDigest)] ∧ s.SameBut t [.out])
  ∧ (∀ via k s, s.spdmUp via = true → (s.port.spdm.conn via).algorithms = true → k ∈ s.certSlots →
    Answers (.getCertificate k via) s fun t => t.out = [.spdm 2 [k, Config.certDigest k]] ∧ s.SameBut t [.out])
  ∧ (∀ via k s, s.spdmUp via = true → (s.port.spdm.conn via).algorithms = true → k ∈ s.certSlots →
    Answers (.challenge k via) s fun t =>
      (∃ sig, t.out = [.spdm 3 [k, Config.certDigest k, sig]]) ∧ s.SameBut t [.out, .freeCtr])
  ∧ (∀ via n s, s.spdmUp via = true → (s.port.spdm.conn via).algorithms = true → 1 ≤ n → n ≤ 5 →
    Answers (.getMeasurements n via) s fun t => (∃ m, t.out = [.spdm 0x60 [1, n, m]]) ∧ s.SameBut t [.out, .freeCtr])
  ∧ (∀ via s, s.spdmUp via = true → (s.port.spdm.conn via).algorithms = false → Answers (.getDigests via) s fun t =>
    t.out = [.spdm 0x7F [4]] ∧ s.SameBut t [.out])
  ∧ (∀ via k s, s.spdmUp via = true → (s.port.spdm.conn via).algorithms = true → k ∈ s.certSlots →
    s.port.spdm.sessions.length < 4 → Answers (.keyExchange k via) s fun t =>
      t.port.spdm.sessions = s.port.spdm.sessions ++ [{ id := s.port.spdm.nextId, via := via }]
        ∧ t.out = [.spdm 0x64 [s.port.spdm.nextId]] ∧ s.SameBut t [.out, .port])
  ∧ (∀ via n s, s.spdmUp via = true → (∃ q ∈ s.port.spdm.sessions, q.id = n ∧ q.via = via ∧ q.established = false) →
    Answers (.finish n via) s fun t =>
      t.port.spdm.live via n = true ∧ t.out = [.spdm 0x65 [n]] ∧ s.SameBut t [.out, .port])
  ∧ (∀ via n s, s.spdmUp via = true → s.port.spdm.live via n = true → Answers (.heartbeat n via) s fun t =>
    t.out = [.spdm 0x68 [n]] ∧ s.SameBut t [.out])
  ∧ (∀ via n s, s.spdmUp via = true → s.port.spdm.live via n = true → Answers (.keyUpdate n via) s fun t =>
    t.port.spdm.sessions = (s.port.spdm.sessions.map fun q => if q.id = n then { q with keyGen := q.keyGen + 1 } else q)
      ∧ s.SameBut t [.out, .port])
  ∧ (∀ via n s, s.spdmUp via = true → s.port.spdm.live via n = true → Answers (.endSession n via) s fun t =>
    t.port.spdm.live via n = false ∧ (∀ v m, m ≠ n → t.port.spdm.live v m = s.port.spdm.live v m)
      ∧ s.SameBut t [.out, .port])

/-- The standard CXL status commands. A status command of R508 over a transport that serves standard commands answers
Success with its fields, in any device state, and changes nothing but what goes out (and the count of free values
where the manual states no contents). The fields are those of the logical device's allocation, the health words with
Life Used at most 100, the stored shutdown state, the security word, the log's overflow count with the times of the
first and last record lost, its length and its oldest records, the logs' vectors, the firmware slots, the timestamp,
the poison ranges, the Dynamic Capacity region, none while the link is below 16 GT/s, and the extents the host has
accepted. The numbers of commands and of media states are those of the CXL specification, which the model takes
(PRESUMED, log entry 29). (R31, R49, R62, R64, R162, R483, R508, 02_host_port.md) -/
def Obligations.Cxl_status_commands : Prop :=
  (∀ c s, s.stdReaches c = true → Answers (.identifyMemoryDevice c) s fun t =>
    t.out = [.cxl 0x4000 0 [s.view Reg.FW_VERSION_ACTIVE, (s.alloc c.ld).1 + (s.alloc c.ld).2 * GiB, (s.alloc c.ld).1,
        if s.port.whole then (s.alloc c.ld).2 * GiB else 0, 256, s.reg Reg.POISON_LIST_MAX]] ∧ s.SameBut t [.out])
  ∧ (∀ c s, s.stdReaches c = true → s.reg Reg.MLD_ENABLE ≠ 1 → c.ld = 0 → Answers (.getPartitionInfo c) s fun t =>
    t.out = [.cxl 0x4100 0 [(s.alloc 0).1, if s.port.whole then (s.alloc 0).2 * GiB else 0,
        s.reg Reg.VOLATILE_SIZE * 64 * GiB,
        if s.reg Reg.HOST_CAP_MODE = 1 then (s.basin.host / GiB - 64 * s.reg Reg.VOLATILE_SIZE) * GiB else 0]]
      ∧ s.SameBut t [.out])
  ∧ (∀ c s, s.stdReaches c = true → Answers (.getHealthInfo c) s fun t =>
    t.out = [.cxl 0x4200 0 [s.port.media.code, min 100 (s.reg Reg.ENDUR_LIFE_USED), s.view Reg.TJ_NOW,
        s.reg Reg.DIRTY_SHUTDOWN_COUNT]] ∧ s.SameBut t [.out])
  ∧ (∀ c s, s.stdReaches c = true → Answers (.getAlertConfiguration c) s fun t =>
    (∃ w, t.out = [.cxl 0x4201 0 [w]]) ∧ s.SameBut t [.out, .freeCtr])
  ∧ (∀ c s, s.stdReaches c = true → Answers (.getShutdownState c) s fun t =>
    t.out = [.cxl 0x4203 0 [b2n s.port.shutdownDirty]] ∧ s.SameBut t [.out])
  ∧ (∀ c s, s.stdReaches c = true → Answers (.getSecurityState c) s fun t =>
    t.out = [.cxl 0x4500 0 [s.port.sec.word]] ∧ s.SameBut t [.out])
  ∧ (∀ c log s, s.stdReaches c = true → log < 5 → Answers (.getEventRecords c log) s fun t =>
    t.out = [.cxl 0x0100 0 ([(mget {} s.port.logOver (logKey (log + 1) c.ld)).count,
          (mget {} s.port.logOver (logKey (log + 1) c.ld)).first, (mget {} s.port.logOver (logKey (log + 1) c.ld)).last,
          (mget [] s.port.logs (logKey (log + 1) c.ld)).length]
        ++ ((mget [] s.port.logs (logKey (log + 1) c.ld)).take 31).flatMap LogRec.fields)] ∧ s.SameBut t [.out])
  ∧ (∀ c s, s.stdReaches c = true → Answers (.getEventInterruptPolicy c) s fun t =>
    t.out = [.cxl 0x0102 0 ([1, 2, 3, 4, 5].map fun k => mget 0 (s.port.fn1 c.ld).logVectors k)] ∧ s.SameBut t [.out])
  ∧ (∀ c s, s.stdReaches c = true → Answers (.getFwInfo c) s fun t =>
    t.out = [.cxl 0x0200 0 [2, s.mgmt.active + 1, fwField s.mgmt.slotA 4 6, fwField s.mgmt.slotB 4 6]]
      ∧ s.SameBut t [.out])
  ∧ (∀ c s, s.stdReaches c = true → Answers (.getSupportedLogs c) s fun t =>
    (∃ w, t.out = [.cxl 0x0400 0 [w]]) ∧ s.SameBut t [.out, .freeCtr])
  ∧ (∀ c s, s.stdReaches c = true → Answers (.getLog c) s fun t =>
    (∃ w, t.out = [.cxl 0x0401 0 [w]]) ∧ s.SameBut t [.out, .freeCtr])
  ∧ (∀ c s, s.stdReaches c = true → Answers (.getTimestamp c) s fun t =>
    t.out = [.cxl 0x0300 0 [s.port.timestamp]] ∧ s.SameBut t [.out])
  ∧ (∀ c a n s, s.stdReaches c = true → Answers (.getPoisonList c a n) s fun t =>
    t.out = [.cxl 0x4300 0 (s.poisonFields c.ld (s.poisonIn' s.port.poison c.ld a n))] ∧ s.SameBut t [.out])
  ∧ (∀ c s, s.stdReaches c = true → Answers (.getScanMediaCapabilities c) s fun t =>
    (∃ w, t.out = [.cxl 0x4303 0 [w]]) ∧ s.SameBut t [.out, .freeCtr])
  ∧ (∀ c s, s.stdReaches c = true → Answers (.getDynamicCapacityConfiguration c) s fun t =>
    t.out = [.cxl 0x4800 0 (if s.port.whole = true ∨ s.slowLink = true then [0]
        else [1, (s.alloc c.ld).1, (s.alloc c.ld).2 * GiB, GiB, b2n s.port.caps.sharing])] ∧ s.SameBut t [.out])
  ∧ (∀ c s, s.stdReaches c = true → Answers (.getDynamicCapacityExtentList c) s fun t =>
    (∃ l : List Nat, t.out = [.cxl 0x4801 0 (l.length :: l)]
      ∧ ∀ e, e < 8192 → (e ∈ l ↔ (extKey c.ld e, ExtState.accepted) ∈ s.port.extents)) ∧ s.SameBut t [.out])

/-- The other standard CXL commands, security among them. In the restricted states a standard command that is no
status command answers Media Disabled and changes nothing. Elsewhere Set Shutdown State stores the state and leaves
DIRTY_SHUTDOWN_COUNT; a passphrase is set, disabled and unlocked as R74 says, and a failed unlock counts; Freeze
freezes; Clear Event Records drops the oldest records or all of a log; the interrupt policy takes five vectors below
64; the firmware commands of CXL are Unsupported; a media scan finds every poisoned line of its range for the logical
device that asked, and its results are those ranges. A command the device does not list is Unsupported. The numbers of
return codes are those of the CXL specification, which the model takes (PRESUMED, log entry 29). (R31, R61, R64, R74,
R235, R380, R430, R483, R508, 02_host_port.md) -/
def Obligations.Cxl_commands : Prop :=
  (∀ c op s, s.stdReaches c = true → s.restricted = true → Answers (.otherStandardCxlCommand c op) s fun t =>
    t.out = [.cxl op 7 []] ∧ s.SameBut t [.out])
  ∧ (∀ c op s, s.stdReaches c = true → s.restricted = false → Answers (.otherStandardCxlCommand c op) s fun t =>
    t.out = [.cxl op 3 []] ∧ s.SameBut t [.out])
  ∧ (∀ c dirty s, s.stdReaches c = true → s.restricted = true → Answers (.setShutdownState c dirty) s fun t =>
    t.out = [.cxl 0x4204 7 []] ∧ s.SameBut t [.out])
  ∧ (∀ c dirty s, s.stdReaches c = true → s.restricted = false → (∀ e ∈ s.cmd.journal, e.cseq ≤ s.cmd.cseq) →
    4 ≤ s.nv.logFree → Answers (.setShutdownState c dirty) s fun t =>
      t.port.shutdownDirty = dirty ∧ t.out = [.cxl 0x4204 0 []]
        ∧ t.reg Reg.DIRTY_SHUTDOWN_COUNT = s.reg Reg.DIRTY_SHUTDOWN_COUNT
        ∧ (∃ e ∈ t.cmd.journal, e.cseq = s.cmd.cseq + 1 ∧ e.std = true ∧ e.status = St.SUCCESS)
        ∧ s.SameBut t [.out, .port, .nv, .cmd])
  ∧ (∀ c master cur new s, s.stdReaches c = true → s.restricted = false → s.port.sec.frozen = false →
    s.port.sec.locked = false → s.port.sec.pass master = none ∨ s.port.sec.pass master = some cur →
    Answers (.setPassphrase c master cur new) s fun t =>
      t.port.sec.pass master = some new ∧ t.port.sec.pass (!master) = s.port.sec.pass (!master)
        ∧ .cxl 0x4501 0 [] ∈ t.out ∧ t.mem = s.mem ∧ t.dev = s.dev)
  ∧ (∀ c master cur s, s.stdReaches c = true → s.restricted = false → s.port.sec.frozen = false →
    s.port.sec.locked = false → s.port.sec.pass master = some cur →
    Answers (.disablePassphrase c master cur) s fun t =>
      t.port.sec.pass master = none ∧ t.port.sec.pass (!master) = s.port.sec.pass (!master)
        ∧ .cxl 0x4502 0 [] ∈ t.out ∧ t.mem = s.mem ∧ t.dev = s.dev)
  ∧ (∀ c pass s, s.stdReaches c = true → s.restricted = false → s.port.sec.frozen = false → s.port.sec.locked = true →
    s.port.sec.fails < 5 → s.port.sec.user = some pass → s.sip.state ≠ .lockWait →
    Answers (.unlock c pass) s fun t =>
      t.port.sec.locked = false ∧ t.port.sec.fails = 0 ∧ .cxl 0x4503 0 [] ∈ t.out ∧ t.mem = s.mem ∧ t.sip = s.sip)
  ∧ (∀ c pass s, s.stdReaches c = true → s.restricted = false → s.port.sec.frozen = false → s.port.sec.locked = true →
    s.port.sec.fails < 5 → s.port.sec.user ≠ some pass →
    Answers (.unlock c pass) s fun t =>
      t.port.sec.locked = true ∧ t.port.sec.fails = s.port.sec.fails + 1 ∧ .cxl 0x4503 0x14 [] ∈ t.out)
  ∧ (∀ c pass s, s.stdReaches c = true → s.restricted = false → 5 ≤ s.port.sec.fails →
    Answers (.unlock c pass) s fun t => t.port.sec = s.port.sec ∧ .cxl 0x4503 0x13 [] ∈ t.out)
  ∧ (∀ c s, s.stdReaches c = true → s.restricted = false → Answers (.freezeSecurityState c) s fun t =>
    t.port.sec = { s.port.sec with frozen := true } ∧ .cxl 0x4504 0 [] ∈ t.out ∧ t.mem = s.mem)
  ∧ (∀ c log n all s k, s.stdReaches c = true → log < 5 → k = logKey (log + 1) c.ld →
    all = true ∨ n ≤ (mget [] s.port.logs k).length →
    Answers (.clearEventRecords c log n all) s fun t =>
      mget [] t.port.logs k = (if all then [] else (mget [] s.port.logs k).drop n)
        ∧ (∀ m, m ≠ k → mget [] t.port.logs m = mget [] s.port.logs m)
        ∧ t.out = [.cxl 0x0101 0 []] ∧ s.SameBut t [.out, .port])
  ∧ (∀ c vs s, s.stdReaches c = true → s.restricted = false → vs.length = 5 → (∀ v ∈ vs, v < 64) →
    Answers (.setEventInterruptPolicy c vs) s fun t =>
      (∀ k, k < 5 → mget 0 (t.port.fn1 c.ld).logVectors (k + 1) = vs.getD k 0) ∧ t.out = [.cxl 0x0103 0 []]
        ∧ s.SameBut t [.out, .port])
  ∧ (∀ c s, s.stdReaches c = true → s.restricted = false → Answers (.transferFw c) s fun t =>
    t.out = [.cxl 0x0201 3 []] ∧ s.SameBut t [.out])
  ∧ (∀ c s, s.stdReaches c = true → s.restricted = false → Answers (.activateFw c) s fun t =>
    t.out = [.cxl 0x0202 3 []] ∧ s.SameBut t [.out])
  ∧ (∀ c a n s, s.stdReaches c = true → s.restricted = false → Answers (.scanMedia c a n) s fun t =>
    mget [] t.port.scans c.ld = s.poisonIn' s.port.poison c.ld a n
      ∧ (∀ k, k ≠ c.ld → mget [] t.port.scans k = mget [] s.port.scans k) ∧ t.out = [.cxl 0x4304 1 []]
      ∧ s.SameBut t [.out, .port])
  ∧ (∀ c q s, s.stdReaches c = true → s.restricted = false → (s.port.scans.find? fun p => p.1 == c.ld) = some q →
    Answers (.getScanMediaResults c) s fun t =>
      t.out = [.cxl 0x4305 0 ((mergeLines q.2).flatMap fun x => [x.1 * 64, x.2.1, x.2.2.code])] ∧ s.SameBut t [.out])

/-- Inject Poison and Clear Poison. Inject Poison of a line that is served, in ONLINE, poisons it and no other line,
makes its page dirty where it is persistent, stores nothing and succeeds. Clear Poison of a line that is served stores
the data given in the line, clears its poison and no other line's, changes no byte outside the line and succeeds. For
an address that the logical device is not presented or that is not served, either command answers Invalid Physical
Address and changes no poison and no byte of memory. Out of ONLINE, outside the restricted states, Inject Poison
changes no poison and answers Media Disabled. The numbers of the opcodes and return codes are the model's, PRESUMED
(log entry 29). (R30, R63, R430, 02_host_port.md) -/
def Obligations.Poison_commands : Prop :=
  (∀ c dpa s a, s.stdReaches c = true → s.dev = .online → s.poisonAddr c.ld dpa = some a →
    Answers (.injectPoison c dpa) s fun t =>
      t.poisoned a = true ∧ (s.persistent a = true → t.pageDirty a = true) ∧ t.mem = s.mem ∧ .cxl 0x4301 0 [] ∈ t.out
        ∧ (∀ b, b / 64 ≠ a / 64 → t.poisoned b = s.poisoned b))
  ∧ (∀ c dpa s, s.stdReaches c = true → s.restricted = false → s.dev ≠ .online →
    Answers (.injectPoison c dpa) s fun t => t.port.poison = s.port.poison ∧ .cxl 0x4301 7 [] ∈ t.out)
  ∧ (∀ c dpa data s a, s.stdReaches c = true → s.restricted = false → s.poisonAddr c.ld dpa = some a →
    Answers (.clearPoison c dpa data) s fun t =>
      t.poisoned a = false ∧ readLine t.mem a = data ∧ (∀ b, b < a ∨ a + 64 ≤ b → readByte t.mem b = readByte s.mem b)
        ∧ (∀ b, b / 64 ≠ a / 64 → t.poisoned b = s.poisoned b) ∧ .cxl 0x4302 0 [] ∈ t.out)
  ∧ (∀ c dpa data s, s.stdReaches c = true → s.restricted = false → s.poisonAddr c.ld dpa = none →
    Answers (.clearPoison c dpa data) s fun t =>
      t.port.poison = s.port.poison ∧ t.mem = s.mem ∧ .cxl 0x4302 0xF [] ∈ t.out)
  ∧ (∀ c dpa s, s.stdReaches c = true → s.dev = .online → s.poisonAddr c.ld dpa = none →
    Answers (.injectPoison c dpa) s fun t =>
      t.port.poison = s.port.poison ∧ t.mem = s.mem ∧ .cxl 0x4301 0xF [] ∈ t.out)

/-- Dynamic Capacity, logical devices, decoders and DOE. In Dynamic Capacity mode, outside the restricted states: the
extents an answer accepts stand accepted and it succeeds, and those it declines stand declined while some extent is
not yet online; an answer that names an extent not offered is Invalid Extent List and changes nothing. Released
extents stand released and are served no more. With SHUTDOWN_RECORD at NONE and none set before, an allocation that
fits is stored for logical device 0 and those in force stay. A QoS limit or allocation fraction is stored for its
device and no other. A decoder that meets Table 2-4 and fits is committed as the first or behind the last one of its
logical device; one whose target type is not HDM-H is not committed; the last one is uncommitted unless it is locked.
DOE on PF0 answers its discovery and the ranges presented, none below 16 GT/s, with 400 ns and 350 ns; the discovery
of a function other than PF0 answers DOE discovery alone. The DPA a decoder starts at follows the one before it, as
CXL has it, and the numbers of opcodes, return codes and DOE object types are the model's (PRESUMED, log entry 29).
(R44, R51, R52, R54, R55, R58, R59, R67, 02_host_port.md) -/
def Obligations.Capacity_commands : Prop :=
  (∀ c acc dec s, s.stdReaches c = true → s.restricted = false → s.port.whole = false →
    (∃ e ∈ acc ++ dec, s.extState c.ld e ≠ some .offered) →
    Answers (.addDynamicCapacityResponse c acc dec) s fun t => t.out = [.cxl 0x4802 0x1E []] ∧ s.SameBut t [.out])
  ∧ (∀ c acc dec s, s.stdReaches c = true → s.restricted = false → s.port.whole = false →
    (∀ e ∈ acc ++ dec, e < 8192 ∧ s.extState c.ld e = some .offered) → (∀ e ∈ acc, e ∉ dec) →
    (∀ e ∈ s.sip.order, e < 8192) → (∀ k, ∀ e ∈ mget [] s.port.reoffer k, e < 8192 ∧ (k = c.ld → e ∉ acc)) →
    Answers (.addDynamicCapacityResponse c acc dec) s fun t =>
      (∀ e ∈ acc, t.extState c.ld e = some .accepted)
        ∧ (s.port.online.length ≠ s.extents → ∀ e ∈ dec, t.extState c.ld e = some .declined)
        ∧ .cxl 0x4802 0 [] ∈ t.out ∧ s.SameBut t [.out, .port])
  ∧ (∀ c es s, s.stdReaches c = true → s.restricted = false → s.port.whole = false →
    (∀ e ∈ es, e < 8192 ∧ s.extState c.ld e = some .accepted) →
    Answers (.releaseDynamicCapacity c es) s fun t =>
      (∀ e ∈ es, t.extState c.ld e = some .released ∧ t.extServed c.ld e = false) ∧ t.out = [.cxl 0x4803 0 []]
        ∧ s.SameBut t [.out, .port])
  ∧ (∀ c v p s, s.stdReaches c = true → s.restricted = false → 2 ≤ c.transport → 1 ≤ s.reg Reg.LD_COUNT →
    s.port.allocs = [] →
    s.reg Reg.SHUTDOWN_RECORD = 0 → v ≤ s.reg Reg.VOLATILE_SIZE →
    p ≤ s.basin.host / GiB - 64 * s.reg Reg.VOLATILE_SIZE → (∀ e ∈ s.cmd.journal, e.cseq ≤ s.cmd.cseq) →
    Answers (.setLdAllocations c 0 [(v, p)]) s fun t =>
      mget (0, 0) t.port.allocs 0 = (v, p) ∧ t.port.allocsInForce = s.port.allocsInForce ∧ .cxl 0x5402 0 [] ∈ t.out
        ∧ s.SameBut t [.out, .port, .cmd])
  ∧ (∀ ld v s, s.firmwareUp = true → ld < 8 → v < 256 → Answers (.qosFractionSet ld true v) s fun t =>
    mget 0 t.port.qosLimit ld = v ∧ t.port.qosAlloc = s.port.qosAlloc
      ∧ (∀ k, k ≠ ld → mget 0 t.port.qosLimit k = mget 0 s.port.qosLimit k) ∧ s.SameBut t [.out, .port])
  ∧ (∀ ld v s, s.firmwareUp = true → ld < 8 → v < 256 → Answers (.qosFractionSet ld false v) s fun t =>
    mget 0 t.port.qosAlloc ld = v ∧ t.port.qosLimit = s.port.qosLimit
      ∧ (∀ k, k ≠ ld → mget 0 t.port.qosAlloc k = mget 0 s.port.qosAlloc k) ∧ s.SameBut t [.out, .port])
  ∧ (∀ ld base size skip ways gran lock s, s.port.up = true → ld ∈ s.lds → s.port.decs ld = [] →
    decoderOk base size skip ways gran true = true → skip + size / ways ≤ (s.alloc ld).1 + (s.alloc ld).2 * GiB →
    Answers (.hdmDecoderCommit ld true base size skip ways gran lock true) s fun t =>
      t.port.decs ld = [{ base := base, size := size, dpaBase := skip, ways := ways, granularity := gran, lock := lock }]
        ∧ (∀ k, k ≠ ld → t.port.decs k = s.port.decs k) ∧ s.SameBut t [.out, .port])
  ∧ (∀ ld base size skip ways gran lock s l d, s.port.up = true → ld ∈ s.lds → s.port.decs ld = l ++ [d] → l.length < 7 →
    decoderOk base size skip ways gran true = true → d.base + d.size ≤ base →
    d.dpaBase + d.size / d.ways + skip + size / ways ≤ (s.alloc ld).1 + (s.alloc ld).2 * GiB →
    Answers (.hdmDecoderCommit ld true base size skip ways gran lock true) s fun t =>
      t.port.decs ld = l ++ [d, { base := base, size := size, dpaBase := d.dpaBase + d.size / d.ways + skip, ways := ways,
                                  granularity := gran, lock := lock }]
        ∧ (∀ k, k ≠ ld → t.port.decs k = s.port.decs k) ∧ s.SameBut t [.out, .port])
  ∧ (∀ ld base size skip ways gran lock s, s.port.up = true → ld ∈ s.lds →
    Answers (.hdmDecoderCommit ld true base size skip ways gran lock false) s fun t => t = s.begin)
  ∧ (∀ ld base size skip ways gran lock h s d l, s.port.up = true → ld ∈ s.lds → s.port.decs ld = l ++ [d] →
    Answers (.hdmDecoderCommit ld false base size skip ways gran lock h) s fun t =>
      t.port.decs ld = (if d.lock then s.port.decs ld else l) ∧ s.SameBut t [.out, .port])
  ∧ (∀ ld s, s.port.up = true → ld ∈ s.lds → Answers (.cdatTableAccess ld) s fun t =>
    t.out = [.doe 2 (if s.port.rate < 16 then [0, 0, 400, 350] else [(s.alloc ld).1, (s.alloc ld).2 * GiB, 400, 350])]
      ∧ s.SameBut t [.out])
  ∧ (∀ ld s, s.port.up = true → ld ∈ s.lds → Answers (.doeDiscovery ld 0) s fun t =>
    t.out = [.doe 0 [0, 1, 2, 0x1E98]] ∧ s.SameBut t [.out])
  ∧ (∀ ld fn s, s.presents ld fn = true → fn ≠ 0 → Answers (.doeDiscovery ld fn) s fun t =>
    t.out = [.doe 0 [0]] ∧ s.SameBut t [.out])

/-- Sanitize, the erases and their end. In ONLINE, with no decoder committed and no erase, flush or re-format under
way, Sanitize, Secure Erase and Passphrase Secure Erase with the right passphrase each answer Background Started, take
the next CSEQ, put the device in MAINTENANCE with every activity idle, and change no byte of memory; outside the
restricted states, with a decoder committed, each is answered Unsupported and nothing else changes. A Passphrase
Secure Erase with a wrong passphrase is answered Incorrect Passphrase and nothing else changes. The end of an erase in
a start on path 0x1 leaves no data, no dirty bit, no map, no run, no manifest, no wheel, no band and no poison,
SHUTDOWN_RECORD at NONE, path 0x2 and the next CKPT_SEQ. The end of one in MAINTENANCE leaves no data, no dirty bit,
no map, no band, no manifest and no poison and restarts the device into BRINGUP, which is the model's reading
(DEDUCED, log entry 37). The numbers of the opcodes and return codes are the model's, PRESUMED (log entry 29). (R74,
R76, R430, R506, 02_host_port.md) -/
def Obligations.Whole_device_erases : Prop :=
  (∀ c s, s.stdReaches c = true → s.dev = .online → s.port.committed = false → s.port.erasing = none →
    s.seq.flush = none → s.rill.reformat = none →
    Answers (.sanitize c) s fun t =>
      t.dev = .maintenance ∧ t.port.erasing = some (s.cmd.cseq + 1) ∧ t.port.eraseUser = false
        ∧ t.cmd.cseq = s.cmd.cseq + 1 ∧ .cxl 0x4400 1 [] ∈ t.out ∧ t.mem = s.mem ∧ (∀ n, (t.cmd.act n).state = .idle))
  ∧ (∀ c s, s.stdReaches c = true → s.dev = .online → s.port.committed = false → s.port.erasing = none →
    s.seq.flush = none → s.rill.reformat = none →
    Answers (.secureErase c) s fun t =>
      t.dev = .maintenance ∧ t.port.erasing = some (s.cmd.cseq + 1) ∧ t.port.eraseUser = false
        ∧ t.cmd.cseq = s.cmd.cseq + 1 ∧ .cxl 0x4401 1 [] ∈ t.out ∧ t.mem = s.mem ∧ (∀ n, (t.cmd.act n).state = .idle))
  ∧ (∀ c master pass s, s.stdReaches c = true → s.dev = .online → s.port.committed = false → s.port.erasing = none →
    s.seq.flush = none → s.rill.reformat = none → s.port.sec.frozen = false → s.port.sec.pass master = some pass →
    Answers (.passphraseSecureErase c master pass) s fun t =>
      t.dev = .maintenance ∧ t.port.erasing = some (s.cmd.cseq + 1) ∧ t.port.eraseUser = true
        ∧ t.cmd.cseq = s.cmd.cseq + 1 ∧ .cxl 0x4505 1 [] ∈ t.out ∧ t.mem = s.mem ∧ (∀ n, (t.cmd.act n).state = .idle))
  ∧ (∀ c master pass p s, s.stdReaches c = true → s.dev = .online → s.port.committed = false →
    s.port.sec.frozen = false → s.port.sec.pass master = some p → p ≠ pass →
    Answers (.passphraseSecureErase c master pass) s fun t => t.out = [.cxl 0x4505 0x14 []] ∧ s.SameBut t [.out])
  ∧ (∀ c s, s.stdReaches c = true → s.restricted = false → s.port.committed = true →
    Answers (.sanitize c) s fun t => t.out = [.cxl 0x4400 3 []] ∧ s.SameBut t [.out])
  ∧ (∀ c s, s.stdReaches c = true → s.restricted = false → s.port.committed = true →
    Answers (.secureErase c) s fun t => t.out = [.cxl 0x4401 3 []] ∧ s.SameBut t [.out])
  ∧ (∀ c master pass s, s.stdReaches c = true → s.restricted = false → s.port.committed = true →
    Answers (.passphraseSecureErase c master pass) s fun t => t.out = [.cxl 0x4505 3 []] ∧ s.SameBut t [.out])
  ∧ (∀ bw cseq s, s.port.erasing = some cseq → s.dev = .maintenance → s.nv.state = .running → s.whl.lost = [] →
    Answers (.sanitizeComplete bw) s fun t =>
      t.dev = .bringup ∧ t.mem = [] ∧ t.basin.dst = [] ∧ t.rill.large = [] ∧ t.rill.fine = [] ∧ t.whl.bands = []
        ∧ t.spill.manifests = [] ∧ t.port.poison = [] ∧ t.port.erasing = none)
  ∧ (∀ bw s, s.port.erasing = some 0 → s.port.eraseUser = false → s.dev = .bringup → s.sip.path = 1 →
    s.nv.state = .running → s.whl.lost = [] → s.basin.state ≠ .populationHold → s.res.state ≠ .hold →
    Answers (.sanitizeComplete bw) s fun t =>
      t.mem = [] ∧ t.basin.dst = [] ∧ t.basin.overflow = [] ∧ t.rill.runs = [] ∧ t.rill.large = [] ∧ t.rill.fine = []
        ∧ t.whl.table = [] ∧ t.whl.bands = [] ∧ t.spill.manifests = [] ∧ t.port.poison = [] ∧ t.port.erasing = none
        ∧ t.reg Reg.SHUTDOWN_RECORD = 0 ∧ t.reg Reg.RESTORE_PATH = 2 ∧ t.sip.path = 2
        ∧ (s.reg Reg.CKPT_SEQ + 1 < 2 ^ 32 → t.reg Reg.CKPT_SEQ = s.reg Reg.CKPT_SEQ + 1))

/-- The scrub, repairs, sparing and the loss of a module. In service: a clean line moves the scrub on and changes
nothing else. A correctable error is counted for its row and its rank and reported on its channel's source. An
uncorrectable line of a clean persistent page waits for its repair without poison while the module's last second holds
fewer than 1,024 such lines; a line of another page is poisoned and reported on its channel's source; more than 1,024
lines of one module within a second are a FATAL report. A finished soft repair takes the row off the list and records
it for hard repair; one that used the last spare row marks its rank. The repair of a clean line takes it, and no
other, off the list and poisons nothing. The end of a running sparing leaves the rank spared and DIMM_SPARE idle, with
the next rank that waits to be copied. A module that stops answering is a FATAL report and every line that it held of
a dirty page of an entry is poison; stored bytes stay. (R85, R86, R87, R88, R89, R103, 03_basin.md) -/
def Obligations.Basin_errors : Prop :=
  (∀ s, s.dev.serving = true → s.basin.state = .serving → Answers (.patrolScrubStep .clean) s fun t =>
    t.basin = { s.basin with scrubAt := (s.basin.scrubAt + 1) % max 1 (s.basin.installed / 64) }
      ∧ s.SameBut t [.out, .basin])
  ∧ (∀ ch slot rank row s, s.dev.serving = true → s.basin.state = .serving → ch < 8 → s.seq.coreUp = true →
    Answers (.patrolScrubStep (.corrected ch slot rank row)) s fun t =>
      (rowKey ch slot rank row, s.now) ∈ t.basin.rowErrs ∧ (rankKey ch slot rank, s.now) ∈ t.basin.rankErrs
        ∧ bit (t.reg Reg.FC_STATUS) (Src.BASIN_CH0 + ch) = true
        ∧ t.basin.dst = s.basin.dst ∧ t.basin.repair = s.basin.repair
        ∧ s.SameBut t [.out, .regs, .freeCtr, .rec_, .fc, .port, .mir, .basin, .cmd])
  ∧ (∀ a s, s.dev.serving = true → s.basin.state = .serving → a < s.basin.host → s.persistent a = true →
    s.pageDirty a = false → s.basin.ueTimes.length < 1024 → Answers (.patrolScrubStep (.badLine a)) s fun t =>
      a / 64 ∈ t.basin.repair ∧ t.port.poison = s.port.poison ∧ t.mem = s.mem ∧ t.basin.dst = s.basin.dst)
  ∧ (∀ a s, s.dev.serving = true → s.basin.state = .serving → a < s.basin.host →
    s.persistent a = false ∨ s.pageDirty a = true → Answers (.patrolScrubStep (.badLine a)) s fun t =>
      t.poisoned a = true ∧ t.mem = s.mem ∧ t.basin.dst = s.basin.dst
        ∧ (s.seq.coreUp = true → bit (t.reg Reg.FC_STATUS) (Src.BASIN_CH0 + (s.basin.map a).1) = true))
  ∧ (∀ row s, row ∈ s.basin.softRows → Answers (.softPprComplete row true) s fun t =>
    row ∉ t.basin.softRows ∧ t.basin.pprRows = s.basin.pprRows ++ [row] ∧ t.mem = s.mem ∧ t.basin.dst = s.basin.dst
      ∧ s.SameBut t [.out, .regs, .freeCtr, .rec_, .fc, .port, .mir, .basin, .nv])
  ∧ (∀ row s, row ∈ s.basin.softRows → Answers (.softPprComplete row false) s fun t =>
    row ∉ t.basin.softRows ∧ t.basin.pprRows = s.basin.pprRows ++ [row] ∧ row / 2 ^ 18 ∈ t.basin.noSpareRows
      ∧ t.mem = s.mem ∧ t.basin.dst = s.basin.dst
      ∧ s.SameBut t [.out, .regs, .freeCtr, .rec_, .fc, .port, .mir, .basin, .nv, .cmd])
  ∧ (∀ line s, line ∈ s.basin.repair → Answers (.cleanLineRepair line) s fun t =>
    line ∉ t.basin.repair ∧ (∀ x ∈ s.basin.repair, x ≠ line → x ∈ t.basin.repair) ∧ t.port.poison = s.port.poison
      ∧ s.SameBut t [.out, .regs, .freeCtr, .rec_, .fc, .port, .mir, .basin])
  ∧ (∀ r s, s.basin.spareCopy = some r → s.cmd.dimmSpare.state = .running → Answers .dimmSpareComplete s fun t =>
    t.basin.spareCopy = s.basin.spareQ.head? ∧ t.basin.spared = s.basin.spared ++ [r] ∧ t.cmd.dimmSpare.state = .idle ∧ t.mem = s.mem
      ∧ t.basin.dst = s.basin.dst)
  ∧ (∀ a s m l, s.dev.serving = true → s.basin.state = .serving → a < s.basin.host → m = s.basin.map a →
    l = (s.basin.ueTimes.filter fun p => decide (s.now < p.2 + 1000) && p.1 != a / 64) ++ [(a / 64, s.now)] →
    1024 < (l.filter fun p => (s.basin.map (64 * p.1)).1 == m.1 && (s.basin.map (64 * p.1)).2.1 == m.2.1).length →
    Answers (.patrolScrubStep (.badLine a)) s fun t => t.fc.fatalPend = true ∧ t.mem = s.mem)
  ∧ (∀ ch slot s, ch < 8 → s.basin.state = .serving → Answers (.dramCommandTimeout ch slot) s fun t =>
    t.fc.fatalPend = true ∧ t.mem = s.mem ∧ t.basin = s.basin
      ∧ (∀ p ∈ s.basin.dst, ∀ k i, k < 512 → i < 64 → p.2.d.getLsbD k = true →
          (s.basin.map (pageAddr p.1 k + 64 * i)).1 = ch → (s.basin.map (pageAddr p.1 k + 64 * i)).2.1 = slot →
          t.poisoned (pageAddr p.1 k + 64 * i) = true)
      ∧ s.SameBut t [.out, .regs, .freeCtr, .rec_, .fc, .port, .mir])

/-- Heat, age, the DST's diagnostic words and training. While the Basin serves: at each HEAT_DECAY_PERIOD every
entry's heat loses an eighth of itself, rounded down, and every entry keeps its dirty pages; at each AGE_TICK every
entry's age goes up by 1 to at most 511 and nothing else of it changes. A write of DST_DIAG_INDEX latches the words of
the entry whose bitmap pointer it names, and 0 where none has that pointer. A training that finds the recorded
population, or one that may be taken with no image, leaves the Basin serving with an empty DST at the highest rate
every module supports; one that must not be taken stops the start in POPULATION_HOLD with an event; no byte of memory
changes. (R79, R80, R95, R101, R102, R104, 03_basin.md) -/
def Obligations.Basin_ticks : Prop :=
  (∀ s, s.basin.state = .serving → Answers .heatDecayPeriodExpiry s fun t =>
    t.basin.dst = s.basin.dst.map (fun p => (p.1, { p.2 with heat := p.2.heat - p.2.heat / 8 }))
      ∧ t.basin.overflow = s.basin.overflow ∧ s.SameBut t [.out, .basin])
  ∧ (∀ s, s.basin.state = .serving → Answers .ageTickExpiry s fun t =>
    t.basin = { s.basin with dst := s.basin.dst.map fun p => (p.1, { p.2 with age := min 511 (p.2.age + 1) }) }
      ∧ s.SameBut t [.out, .basin])
  ∧ (∀ v s seg e l m, v < 2 ^ 18 → s.seq.coreUp = true → s.basin.dst = l ++ (seg, e) :: m → e.ptr = v →
    (∀ p ∈ l, p.2.ptr ≠ v) → Answers (.dstDiagIndexWrite v) s fun t =>
      t.reg Reg.DST_DIAG_INDEX = v ∧ t.reg Reg.DST_DIAG_WORD0 = e.word0 seg % 2 ^ 48
        ∧ t.reg Reg.DST_DIAG_WORD1 = e.word1 (s.basin.setOf seg) % 2 ^ 48 ∧ s.SameBut t [.out, .regs])
  ∧ (∀ v s, v < 2 ^ 18 → s.seq.coreUp = true → (∀ p ∈ s.basin.dst, p.2.ptr ≠ v) →
    Answers (.dstDiagIndexWrite v) s fun t =>
      t.reg Reg.DST_DIAG_INDEX = v ∧ t.reg Reg.DST_DIAG_WORD0 = 0 ∧ t.reg Reg.DST_DIAG_WORD1 = 0
        ∧ s.SameBut t [.out, .regs])
  ∧ (∀ dimms failed s r, s.basin.state = .training → s.nv.early = true → s.popRow dimms failed ≤ 3 →
    commonRate dimms = some r → Answers (.dramTrainingComplete dimms failed) s fun t =>
      t.basin.state = .serving ∧ t.basin.found = dimms ∧ t.basin.row = s.popRow dimms failed ∧ t.basin.dst = []
        ∧ t.basin.overflow = [] ∧ t.reg Reg.DRAM_RATE = r ∧ t.mem = s.mem ∧ t.dev = s.dev
        ∧ t.port.volGiB = 64 * t.reg Reg.VOLATILE_SIZE)
  ∧ (∀ dimms failed s, s.basin.state = .training → s.nv.early = true → 4 ≤ s.popRow dimms failed →
    s.seq.coreUp = true → Answers (.dramTrainingComplete dimms failed) s fun t =>
      t.basin.state = .populationHold ∧ t.basin.found = dimms ∧ evBit t Reg.EV_STATUS Ev.POPULATION_MISMATCH = true
        ∧ s.SameBut t [.out, .regs, .freeCtr, .rec_, .fc, .port, .mir, .basin])

/-- The Weir's re-plans. The first re-plan of a BRINGUP, on the state that the measurement before it leaves, publishes
the factors, the cost per GiB and the fixed cost where their registers hold them, and its ceiling is the least of the
energy, architecture, reserve and damping terms at the policy's energy with the tokens taken off; the Weir is
planning. A periodic re-plan, and a triggered one where one of its causes stands, takes a lower raw ceiling at once; a
raw ceiling beyond WEIR_RISE_HYST counts one rise and, once WEIR_RISE_HOLD rises stand in a row, raises the ceiling by
at most WEIR_RISE_STEP. A triggered re-plan without a cause changes nothing. With no eligible LUN a periodic re-plan
sets the ceiling to 0 with limiter 4. The medians, the factors without a measurement and the energy published after
the tokens come off are the model's readings (log entries 23, 241, 245). (R105, R106, R107, R108, R112, R113, R114,
R115, R118, R119, R126, R129) -/
def Obligations.Weir_replans : Prop :=
  (∀ temp dup r s u eb eFix e0 single lost, s.dev = .bringup → s.seq.coreUp = true → s.weir.state = .dormant →
    s.weir.distrusted = false → u = s.measure r → lunsEligible u.res (u.barred .v) ≠ 0 →
    eb = u.costPerGib (u.factors u.tNow temp) → eFix = u.fixedCost (u.factors u.tNow temp).2.1 →
    u.policy true (fun e => (u.rawCeiling (e - u.tokensOff) eFix eb).1) = (e0, single, lost) →
    Answers (.firstReplan temp false dup r) s fun t =>
      t.weir.state = .planning ∧ t.reg Reg.CEILING = (u.rawCeiling (e0 - u.tokensOff) eFix eb).1
        ∧ t.reg Reg.CEILING_RAW = (u.rawCeiling (e0 - u.tokensOff) eFix eb).1
        ∧ t.reg Reg.K_PROG = (u.factors u.tNow temp).1 ∧ t.reg Reg.K_TEMP = (u.factors u.tNow temp).2.1
        ∧ t.reg Reg.K_POP = (u.factors u.tNow temp).2.2
        ∧ (eb < 2 ^ paramWidth Reg.E_BYTE → t.reg Reg.E_BYTE = eb)
        ∧ (eFix < 2 ^ paramWidth Reg.E_FIXED → t.reg Reg.E_FIXED = eFix)
        ∧ t.weir.single = single ∧ s.SameBut t [.out, .regs, .freeCtr, .rec_, .fc, .port, .mir, .weir, .whl])
  ∧ (∀ temp dup s eb eFix e0 single lost raw, s.weir.state = .planning → s.weir.distrusted = false →
    lunsEligible s.res (s.barred .v) ≠ 0 →
    eb = s.costPerGib (s.factors s.tNow temp) → eFix = s.fixedCost (s.factors s.tNow temp).2.1 →
    s.policy false (fun e => (s.rawCeiling (e - s.tokensOff) eFix eb).1) = (e0, single, lost) →
    raw = (s.rawCeiling (e0 - s.tokensOff) eFix eb).1 → raw < s.reg Reg.CEILING →
    Answers (.periodicReplan temp false dup) s fun t =>
      t.reg Reg.CEILING = raw ∧ t.reg Reg.CEILING_RAW = raw ∧ t.weir.riseCount = 0
        ∧ t.rill = { s.rill with taken := 0, takenN := 0, takenDirty := 0 }
        ∧ s.SameBut t [.out, .regs, .freeCtr, .rec_, .fc, .port, .mir, .weir, .cmd, .nv, .rill])
  ∧ (∀ temp dup s eb eFix e0 single lost raw, s.weir.state = .planning → s.weir.distrusted = false →
    lunsEligible s.res (s.barred .v) ≠ 0 →
    eb = s.costPerGib (s.factors s.tNow temp) → eFix = s.fixedCost (s.factors s.tNow temp).2.1 →
    s.policy false (fun e => (s.rawCeiling (e - s.tokensOff) eFix eb).1) = (e0, single, lost) →
    raw = (s.rawCeiling (e0 - s.tokensOff) eFix eb).1 → s.reg Reg.CEILING + s.reg Reg.WEIR_RISE_HYST < raw →
    Answers (.periodicReplan temp false dup) s fun t =>
      t.reg Reg.CEILING = (if s.reg Reg.WEIR_RISE_HOLD ≤ s.weir.riseCount + 1
          then min raw (s.reg Reg.CEILING + s.reg Reg.WEIR_RISE_STEP) else s.reg Reg.CEILING)
        ∧ t.weir.riseCount = s.weir.riseCount + 1 ∧ t.weir.dirtyAtReplan = s.basin.dirtyBytes
        ∧ s.SameBut t [.out, .regs, .freeCtr, .rec_, .fc, .port, .mir, .weir, .cmd, .nv, .rill])
  ∧ (∀ temp dup s eb eFix e0 single lost raw, s.weir.state = .planning → s.replanDue = true → s.weir.distrusted = false →
    lunsEligible s.res (s.barred .v) ≠ 0 →
    eb = s.costPerGib (s.factors s.tNow temp) → eFix = s.fixedCost (s.factors s.tNow temp).2.1 →
    s.policy false (fun e => (s.rawCeiling (e - s.tokensOff) eFix eb).1) = (e0, single, lost) →
    raw = (s.rawCeiling (e0 - s.tokensOff) eFix eb).1 → raw < s.reg Reg.CEILING →
    Answers (.triggeredReplan temp false dup) s fun t =>
      t.reg Reg.CEILING = raw ∧ t.reg Reg.CEILING_RAW = raw ∧ t.weir.riseCount = 0 ∧ t.weir.due = false
        ∧ s.SameBut t [.out, .regs, .freeCtr, .rec_, .fc, .port, .mir, .weir, .cmd, .nv])
  ∧ (∀ temp dup s eb eFix e0 single lost raw, s.weir.state = .planning → s.replanDue = true → s.weir.distrusted = false →
    lunsEligible s.res (s.barred .v) ≠ 0 →
    eb = s.costPerGib (s.factors s.tNow temp) → eFix = s.fixedCost (s.factors s.tNow temp).2.1 →
    s.policy false (fun e => (s.rawCeiling (e - s.tokensOff) eFix eb).1) = (e0, single, lost) →
    raw = (s.rawCeiling (e0 - s.tokensOff) eFix eb).1 → s.reg Reg.CEILING + s.reg Reg.WEIR_RISE_HYST < raw →
    Answers (.triggeredReplan temp false dup) s fun t =>
      t.reg Reg.CEILING = (if s.reg Reg.WEIR_RISE_HOLD ≤ s.weir.riseCount + 1
          then min raw (s.reg Reg.CEILING + s.reg Reg.WEIR_RISE_STEP) else s.reg Reg.CEILING)
        ∧ t.weir.riseCount = s.weir.riseCount + 1 ∧ t.weir.dirtyAtReplan = s.weir.dirtyAtReplan
        ∧ s.SameBut t [.out, .regs, .freeCtr, .rec_, .fc, .port, .mir, .weir, .cmd, .nv])
  ∧ (∀ temp differs dup s, s.weir.state = .planning → s.replanDue = false → Answers (.triggeredReplan temp differs dup) s fun t => t = s.begin)
  ∧ (∀ temp differs dup s, s.weir.state = .planning → lunsEligible s.res (s.barred .v) = 0 →
    Answers (.periodicReplan temp differs dup) s fun t =>
      t.reg Reg.CEILING = 0 ∧ t.reg Reg.CEILING_LIMITER = 4 ∧ t.mem = s.mem ∧ t.basin = s.basin)

/-- Late re-plans, stale estimates, DevLoad. A late re-plan halves the ceiling, rounded down to 2 MiB, with limiter 4
and a report of the Weir. A module whose estimate goes stale is no longer included, the other module's standing stays,
and the Weir reports it. The 1 ms evaluation puts DevLoad to level 3 at once when the dirty set exceeds the ceiling,
keeps 0 while the dirty set lies below the target fill and the moderate fraction and does not grow, and there lowers a
higher level by one step only where the evaluation before found a lower level too. (R110, R122, R123, 04_weir.md) -/
def Obligations.Weir_watch : Prop :=
  (∀ s, s.seq.coreUp = true → s.weir.state ≠ .latched → s.reg Reg.CEILING < 2 ^ 20 → Answers .replanTimeout s fun t =>
    t.reg Reg.CEILING = s.reg Reg.CEILING / 4 * 2 ∧ t.reg Reg.CEILING_LIMITER = 4
      ∧ bit (t.reg Reg.FC_STATUS) Src.WEIR = true ∧ t.weir = s.weir
      ∧ s.SameBut t [.out, .regs, .freeCtr, .rec_, .fc, .port, .mir])
  ∧ (∀ s, s.seq.coreUp = true → s.weir.state ≠ .latched → s.weir.staleA = false → s.cist.a.state ≠ .absent →
    Answers (.estimateStale .a) s fun t =>
      t.included .a = false ∧ t.included .b = s.included .b ∧ bit (t.reg Reg.FC_STATUS) Src.WEIR = true
        ∧ s.SameBut t [.out, .regs, .freeCtr, .rec_, .fc, .port, .mir, .weir])
  ∧ (∀ s, s.seq.coreUp = true → s.weir.state ≠ .latched → s.weir.staleB = false → s.cist.b.state ≠ .absent →
    Answers (.estimateStale .b) s fun t =>
      t.included .b = false ∧ t.included .a = s.included .a ∧ bit (t.reg Reg.FC_STATUS) Src.WEIR = true
        ∧ s.SameBut t [.out, .regs, .freeCtr, .rec_, .fc, .port, .mir, .weir])
  ∧ (∀ s, s.weir.state = .planning → s.reg Reg.CEILING * MiB < s.basin.dirtyBytes → s.reg Reg.DEVLOAD_LEVEL ≤ 3 →
    Answers .devloadEvaluation s fun t =>
      t.reg Reg.DEVLOAD_LEVEL = 3 ∧ t.weir.dirtyAtEval = s.basin.dirtyBytes ∧ s.SameBut t [.out, .regs, .weir])
  ∧ (∀ s, s.weir.state = .planning → s.basin.dirtyBytes < s.reg Reg.TARGET_FILL * MiB →
    s.basin.dirtyBytes ≤ s.reg Reg.CEILING * MiB →
    100 * s.basin.dirtyBytes < s.reg Reg.DEVLOAD_MOD_FRAC * (s.reg Reg.CEILING * MiB) →
    s.basin.dirtyBytes ≤ s.weir.dirtyAtEval → s.reg Reg.DEVLOAD_LEVEL = 0 →
    Answers .devloadEvaluation s fun t => t.reg Reg.DEVLOAD_LEVEL = 0 ∧ s.SameBut t [.out, .regs, .weir])
  ∧ (∀ s, s.weir.state = .planning → s.basin.dirtyBytes < s.reg Reg.TARGET_FILL * MiB →
    s.basin.dirtyBytes ≤ s.reg Reg.CEILING * MiB →
    100 * s.basin.dirtyBytes < s.reg Reg.DEVLOAD_MOD_FRAC * (s.reg Reg.CEILING * MiB) →
    s.basin.dirtyBytes ≤ s.weir.dirtyAtEval → 0 < s.reg Reg.DEVLOAD_LEVEL → s.reg Reg.DEVLOAD_LEVEL ≤ 3 →
    Answers .devloadEvaluation s fun t =>
      t.reg Reg.DEVLOAD_LEVEL = (if s.weir.lowerRun = 0 then s.reg Reg.DEVLOAD_LEVEL else s.reg Reg.DEVLOAD_LEVEL - 1)
        ∧ s.SameBut t [.out, .regs, .weir])

/-- What a vault's manifest measures. What the first re-plan of a BRINGUP measures: the manifest that the closed
pointer record names, with a copy written, a vault recorded as complete or short and MEAS_VALID, gives E_BYTE_MEAS,
E_FIXED_MEAS, T_MEAS, T_MEAS_FLASH and L_MEAS where at least 8 GiB were drained and both costs lie within a factor of
two of the base costs, and nothing but registers and the note of a reserve flip changes; with less drained, or a cost
outside those bounds, nothing is taken; nor where the manifest cannot be read. (R116, 04_weir.md) -/
def Obligations.Weir_measures : Prop :=
  (∀ (s : State) m l r de fixed, s.pointer.closed = true → s.pointer.copies ≠ 0 →
    s.pointer.shutdown = .vaultedComplete ∨ s.pointer.shutdown = .vaultedShort →
    s.spill.manifests = l ++ m :: r → m.seq = s.pointer.manifestSeq → (∀ x ∈ l, x.seq ≠ s.pointer.manifestSeq) →
    m.measValid = true → m.valid = true → m.eStart = m.eEnd + de → m.eCommit = m.eClose + de + fixed →
    8 * GiB ≤ m.unitsDrained * 4096 →
    s.reg Reg.E_BYTE_BASE * (m.unitsDrained * 4096) ≤ 2 * (de * GiB) →
    de * GiB ≤ 2 * s.reg Reg.E_BYTE_BASE * (m.unitsDrained * 4096) →
    s.reg Reg.E_FIXED_BASE ≤ 2 * fixed → fixed ≤ 2 * s.reg Reg.E_FIXED_BASE → fixed < 2 ^ paramWidth Reg.E_FIXED_MEAS →
    ceilDiv (de * GiB) (m.unitsDrained * 4096) < 2 ^ paramWidth Reg.E_BYTE_MEAS →
    m.lElig < 2 ^ paramWidth Reg.L_MEAS → m.tMed < 2 ^ paramWidth Reg.T_MEAS →
    (s.measure true).reg Reg.E_BYTE_MEAS = ceilDiv (de * GiB) (m.unitsDrained * 4096)
      ∧ (s.measure true).reg Reg.E_FIXED_MEAS = fixed ∧ (s.measure true).reg Reg.T_MEAS = m.tMed
      ∧ (s.measure true).reg Reg.T_MEAS_FLASH = twos 8 m.tFlash ∧ (s.measure true).reg Reg.L_MEAS = m.lElig ∧ s.SameBut (s.measure true) [.regs, .whl])
  ∧ (∀ (s : State) m l r, s.pointer.closed = true → s.spill.manifests = l ++ m :: r →
    m.seq = s.pointer.manifestSeq → (∀ x ∈ l, x.seq ≠ s.pointer.manifestSeq) → m.unitsDrained * 4096 < 8 * GiB →
    (s.measure true).reg Reg.E_BYTE_MEAS = s.reg Reg.E_BYTE_MEAS
      ∧ (s.measure true).reg Reg.E_FIXED_MEAS = s.reg Reg.E_FIXED_MEAS ∧ (s.measure true).whl = s.whl)
  ∧ (∀ (s : State) m l r de fixed, s.pointer.closed = true → s.spill.manifests = l ++ m :: r →
    m.seq = s.pointer.manifestSeq → (∀ x ∈ l, x.seq ≠ s.pointer.manifestSeq) → m.eStart = m.eEnd + de →
    m.eCommit = m.eClose + de + fixed →
    2 * (de * GiB) < s.reg Reg.E_BYTE_BASE * (m.unitsDrained * 4096)
      ∨ 2 * s.reg Reg.E_BYTE_BASE * (m.unitsDrained * 4096) < de * GiB ∨ 2 * fixed < s.reg Reg.E_FIXED_BASE
      ∨ 2 * s.reg Reg.E_FIXED_BASE < fixed →
    (s.measure true).reg Reg.E_BYTE_MEAS = s.reg Reg.E_BYTE_MEAS
      ∧ (s.measure true).reg Reg.E_FIXED_MEAS = s.reg Reg.E_FIXED_MEAS ∧ (s.measure true).whl = s.whl)
  ∧ ∀ s : State, s.measure false = s

/-- Captures and the closing of wheels. Where a capture is called for and its limits leave room, a capture of the next
candidate takes all 512 pages into stream L when at least RILL_LARGE_MIN are dirty, else, with room in the fine map,
the dirty pages alone into stream F: WRITE_SEQ goes up by 1 and is the capture's SEQ, the entry is WRITING with
nothing written since, no other entry, neither map and no byte of memory changes. With no candidate, or no capture
called for, nothing changes. A wheel whose strips are all issued closes with its parity, the next journal strip
carries its CLOSE descriptor with every pending one, and no capture waits for it any more; but during a map reload no
capture is left that waits for nothing. An idle wheel of the Rill's is filled up with fill units first and closes as
well. That the limits of R134 are judged per WEIR_PERIOD is the model's choice (DESIGN CHOICE, log entry 243). (R94,
R133, R136, R137, R141, R147, R284, 05_rill_image.md) -/
def Obligations.Rill_captures : Prop :=
  (∀ s seg e spans r, s.rill.state = .running ∨ s.rill.state = .flushing → s.basin.frozen = false → s.rill.reformat = none →
    s.nextCandidate = some seg → s.basin.entry seg = some e → e.state = .dirty → s.reg Reg.RILL_LARGE_MIN ≤ pages e.d →
    s.captureDue = true → s.rateLeaves 512 = true → s.reg Reg.WRITE_SEQ + 1 < 0xFFFF00000000 →
    s.begin.place .l 512 = some (spans, r) →
    Answers (.rillCapture .none []) s fun t =>
      t.reg Reg.WRITE_SEQ = s.reg Reg.WRITE_SEQ + 1
        ∧ t.rill.captures = s.rill.captures ++ [{
            seg := seg, seq := s.reg Reg.WRITE_SEQ + 1, kind := .large, pages := BitVec.allOnes 512
            waits := spanWheels spans }]
        ∧ t.basin.entry seg = some { e with w := 0, c := BitVec.allOnes 512, state := .writing }
        ∧ (∀ g, g ≠ seg → t.basin.entry g = s.basin.entry g)
        ∧ t.rill.large = s.rill.large ∧ t.rill.fine = s.rill.fine
        ∧ s.SameBut t [.out, .regs, .freeCtr, .rec_, .fc, .port, .mir, .nv, .basin, .rill, .whl, .res])
  ∧ (∀ s seg e slots spans r, s.rill.state = .running ∨ s.rill.state = .flushing → s.basin.frozen = false →
    s.rill.reformat = none → s.nextCandidate = some seg → s.basin.entry seg = some e → e.state = .dirty →
    pages e.d < s.reg Reg.RILL_LARGE_MIN →
    s.rill.fineCount seg + (s.rill.newPages seg e.d).length ≤ s.reg Reg.RILL_FOLD_FINE →
    s.reserveSlots seg (s.rill.newPages seg e.d) = some slots → s.reg Reg.WRITE_SEQ + 1 < 0xFFFF00000000 →
    s.captureDue = true → s.rateLeaves (pages e.d) = true → s.begin.place .f (pages e.d) = some (spans, r) →
    Answers (.rillCapture .none []) s fun t =>
      t.reg Reg.WRITE_SEQ = s.reg Reg.WRITE_SEQ + 1
        ∧ t.rill.captures = s.rill.captures ++ [{
            seg := seg, seq := s.reg Reg.WRITE_SEQ + 1, kind := .fine, pages := e.d, waits := spanWheels spans
            slots := slots }]
        ∧ t.basin.entry seg = some { e with w := 0, c := e.d, state := .writing }
        ∧ (∀ g, g ≠ seg → t.basin.entry g = s.basin.entry g)
        ∧ t.rill.large = s.rill.large ∧ t.rill.fine = s.rill.fine
        ∧ s.SameBut t [.out, .regs, .freeCtr, .rec_, .fc, .port, .mir, .nv, .basin, .rill, .whl, .res])
  ∧ (∀ e ue s, s.nextCandidate = none ∨ s.captureDue = false → Answers (.rillCapture e ue) s fun t => s.SameBut t [.out])
  ∧ (∀ n w s, s.seq.coreUp = true → s.whl.wheel n = some w → w.issued = true → w.state = .open_ → w.stream ≠ .v →
    Answers (.wheelClosed n) s fun t =>
      (∃ w', t.whl.wheel n = some w' ∧ w'.state ≠ .open_ ∧ w'.parity = true ∧ w'.filled = w.filled)
        ∧ (∃ d, t.whl.governing n = some d ∧ d.type = .close) ∧ t.whl.pending = [] ∧ t.whl.jseq = s.whl.jseq + 1
        ∧ (∀ c ∈ t.rill.captures, n ∉ c.waits) ∧ (s.rill.reloading = false → ∀ c ∈ t.rill.captures, c.waits ≠ [])
        ∧ s.SameBut t [.out, .regs, .freeCtr, .rec_, .fc, .port, .mir, .nv, .whl, .res, .rill, .basin, .spill, .sip, .weir])
  ∧ (∀ n w s, s.rill.state = .running ∨ s.rill.state = .flushing ∨ s.rill.state = .held → s.whl.wheel n = some w →
    w.issued = false → w.state = .open_ → w.stream ≠ .v →
    Answers (.wheelIdleTimeout n) s fun t =>
      (∃ w', t.whl.wheel n = some w' ∧ w'.state ≠ .open_ ∧ w'.parity = true ∧ w'.filled = 16 * w.strips
          ∧ w'.units = w.units)
        ∧ (∃ d, t.whl.governing n = some d ∧ d.type = .close) ∧ t.whl.pending = [] ∧ t.whl.jseq = s.whl.jseq + 1
        ∧ (∀ c ∈ t.rill.captures, n ∉ c.waits) ∧ (s.rill.reloading = false → ∀ c ∈ t.rill.captures, c.waits ≠ [])
        ∧ s.SameBut t [.out, .regs, .freeCtr, .rec_, .fc, .port, .mir, .nv, .whl, .res, .rill, .basin, .spill, .sip, .weir])

/-- Relocations, checkpoints and the loading of the maps. Merges, migration and garbage collection keep every
relocation in flight, with no capture in flight map nothing and leave the Basin and the Weir, and never change memory.
A merge that stream G takes adds one relocation of all 512 pages of the segment to be merged next, as a large unit
that waits for its open wheels. A merge whose sources are all still mapped is, once complete, mapped by one large
entry, its fine entries gone and no other segment's entry changed; any other leaves the maps as they are; with every
relocation waiting nothing changes. A checkpoint that is due by its period or by CKPT_BYTES carries the next CKPT_SEQ,
WRITE_SEQ, FORMAT_EPOCH, K and both maps as they stand once it is placed; one that is not due, or finds no place,
changes nothing. An uncorrectable map line starts a reload and is reported by the map engine; the reload ends with
nothing held and no capture left that waits for nothing. With no unit to replay, the load takes the maps of the one
full checkpoint of the epoch and resumes CKPT_SEQ at its number and WRITE_SEQ above its; with no checkpoint and no
unit the maps are empty and MAP_SCAN is raised. (R139, R151, R153, R154, R155, R157, R158, R159, 05_rill_image.md) -/
def Obligations.Rill_relocations : Prop :=
  (∀ c s, c = .fineMapMerge ∨ c = .migration ∨ c = .garbageCollection → Answers c s fun t =>
    (s.rill.captures = [] → t.rill.large = s.rill.large ∧ t.rill.fine = s.rill.fine ∧ t.rill.captures = []
        ∧ t.basin = s.basin ∧ t.weir = s.weir)
      ∧ (∀ q ∈ s.rill.relocs, ∃ q' ∈ t.rill.relocs, q'.kind = q.kind ∧ q'.seg = q.seg ∧ q'.copy = q.copy ∧ q'.src = q.src)
      ∧ s.SameBut t [.out, .regs, .freeCtr, .rec_, .fc, .port, .mir, .nv, .rill, .whl, .res, .basin, .weir, .spill, .sip])
  ∧ (∀ s u g spans r, u = s.begin.rillGates → u.relocates = true → u.rill.merging = true → u.nextMerge = some g →
    State.placeWait .g 512 512 u [] = some (spans, r) →
    Answers .fineMapMerge s fun t => ∃ q, t.rill.relocs = r.rill.relocs ++ [q] ∧ q.kind = .merge ∧ q.seg = g
      ∧ q.copy.seg = g ∧ q.copy.kind = .large ∧ q.copy.pages = BitVec.allOnes 512 ∧ q.copy.reloc = true
      ∧ q.copy ∈ t.rill.runs ∧ q.waits = r.openOf spans)
  ∧ (∀ s q l, s.rill.state ≠ .down → s.rill.state ≠ .loading → s.rill.reloading = false →
    s.rill.relocs.find? (fun x => x.waits.isEmpty) = some q → q.kind = .merge → q.copy.seg = q.seg →
    q.copy.locOf 0 = some l →
    Answers .relocationComplete s fun t =>
      q ∉ t.rill.relocs
        ∧ (s.rill.relocOk q = true → (s.rill.mappedOf q.seg).length = q.src.length →
            t.rill.largeOf q.seg = some { loc := l } ∧ t.rill.fineCount q.seg = 0
              ∧ (∀ g, g ≠ q.seg → t.rill.largeOf g = s.rill.largeOf g)
              ∧ ∀ pi, pi / 512 ≠ q.seg → t.rill.fineOf pi = s.rill.fineOf pi)
        ∧ (s.rill.relocOk q = false → t.rill.large = s.rill.large ∧ t.rill.fine = s.rill.fine)
        ∧ s.SameBut t [.out, .regs, .freeCtr, .rill, .whl, .res, .spill])
  ∧ (∀ s, s.rill.state ≠ .down → s.rill.state ≠ .loading → s.rill.reloading = false →
    (∀ q ∈ s.rill.relocs, q.waits ≠ []) → Answers .relocationComplete s fun t => s.SameBut t [.out])
  ∧ (∀ p s spans r, s.rill.state = .running → s.rill.reloading = false → s.rill.reformat = none →
    p = true ∨ s.reg Reg.CKPT_BYTES * MiB ≤ s.rill.mapped →
    State.placeWait .c s.ckptUnits s.ckptUnits s.begin [] = some (spans, r) →
    (∀ c ∈ s.rill.ckpts, c.seq ≤ s.reg Reg.CKPT_SEQ) → s.reg Reg.CKPT_SEQ + 1 < 2 ^ 48 →
    Answers (.checkpointWrite false p) s fun t =>
      t.reg Reg.CKPT_SEQ = s.reg Reg.CKPT_SEQ + 1 ∧ t.reg Reg.WRITE_SEQ = s.reg Reg.WRITE_SEQ
        ∧ (∃ c ∈ t.rill.ckpts, c.seq = s.reg Reg.CKPT_SEQ + 1 ∧ c.full = s.fullDue ∧ c.writeSeq = s.reg Reg.WRITE_SEQ
            ∧ c.epoch = s.reg Reg.FORMAT_EPOCH ∧ c.k = s.basin.fineK ∧ c.large = r.rill.large ∧ c.fine = r.rill.fine)
        ∧ t.rill.mapped = 0 ∧ t.mem = s.mem ∧ t.dev = s.dev)
  ∧ (∀ p s, s.rill.state = .running → s.rill.reloading = false → s.rill.reformat = none →
    (p = false ∧ s.rill.mapped < s.reg Reg.CKPT_BYTES * MiB)
      ∨ State.placeWait .c s.ckptUnits s.ckptUnits s.begin [] = none →
    Answers (.checkpointWrite false p) s fun t => t = s.begin)
  ∧ (∀ badC badU s, s.rill.state ≠ .down → s.rill.state ≠ .loading → s.rill.reloading = false → s.seq.coreUp = true →
    Answers (.mapReload false badC badU) s fun t =>
      t.rill = { s.rill with reloading := true } ∧ bit (t.reg Reg.FC_STATUS) Src.MAP_ENGINE = true
        ∧ s.SameBut t [.out, .regs, .freeCtr, .rec_, .fc, .port, .mir, .rill])
  ∧ (∀ badC badU s, s.rill.state ≠ .down → s.rill.state ≠ .loading → s.rill.reloading = true →
    Answers (.mapReload true badC badU) s fun t =>
      t.rill.reloading = false ∧ t.rill.heldClosed = [] ∧ (∀ c ∈ t.rill.captures, c.waits ≠ []) ∧ t.mem = s.mem
        ∧ t.dev = s.dev)
  ∧ (∀ badC s f, s.rill.state = .loading → s.whl.state = .serving → s.res.state = .running → s.rill.ckpts = [f] →
    f.full = true → f.epoch = s.reg Reg.FORMAT_EPOCH → f.seq ∉ badC → s.rill.runs = [] → s.spill.manifests = [] →
    s.reg Reg.SHUTDOWN_RECORD = Shut.clean.code → f.seq < 2 ^ 48 → f.writeSeq + 1 < 0xFFFF00000000 →
    Answers (.mapLoad badC []) s fun t =>
      t.rill.state = .running ∧ t.rill.large = f.large ∧ t.rill.fine = f.fine ∧ t.rill.ckpts = [f]
        ∧ t.rill.captures = [] ∧ t.rill.relocs = [] ∧ t.rill.mapped = 0 ∧ t.reg Reg.CKPT_SEQ = f.seq
        ∧ t.reg Reg.WRITE_SEQ = f.writeSeq + 1 ∧ s.SameBut t [.out, .regs, .freeCtr, .rill])
  ∧ ∀ badC s, s.rill.state = .loading → s.whl.state = .serving → s.res.state = .running → s.rill.ckpts = [] →
    s.rill.runs = [] → s.seq.coreUp = true →
    Answers (.mapLoad badC []) s fun t =>
      t.rill.state = .running ∧ t.rill.large = [] ∧ t.rill.fine = [] ∧ evBit t Reg.EV_STATUS Ev.MAP_SCAN = true
        ∧ t.mem = s.mem ∧ t.dev = s.dev

/-- Flush, re-format and the endurance figures. A flush report that a dirty page, a capture, a lost wheel or an open
wheel contradicts changes nothing. One that stands in ONLINE, with a place for its checkpoint, leaves a full
checkpoint with the next CKPT_SEQ and the maps, and a pointer record CLEAN on device A; the shutdown goes on to
AON_ONLY, the re-format and the off-line self test to MAINTENANCE with the port's memory inactive and no byte of
memory changed. An accepted REFORMAT starts that flush and its reply waits; with a decoder committed it answers
INVALID_STATE and the Rill and the sequencer stay. The rewrite of an all-zero image in MAINTENANCE ends with the new
epoch in force, a CLEAN pointer record and the core in BRINGUP; with no re-format under way, or out of MAINTENANCE,
nothing changes. The daily endurance figures take ENDUR_LIFE_USED from the average and the budget, start the day's
counts anew and leave both maps. (R142, R160, R162, R348, R352, 05_rill_image.md, 11_power_sequencing.md) -/
def Obligations.Rill_shutdowns : Prop :=
  (∀ s, s.rill.state ≠ .flushing ∨ s.basin.dirtyBytes ≠ 0 ∨ s.rill.captures ≠ [] ∨ s.whl.lost ≠ []
      ∨ (∃ st, st ≠ Stream.v ∧ s.whl.openWheels st ≠ []) → Answers .flushReport s fun t => s.SameBut t [.out])
  ∧ (∀ s k o spans r, s.seq.flush = some (k, o) → s.rill.state = .flushing → s.basin.dirtyBytes = 0 → s.rill.captures = [] →
    s.whl.lost = [] → (∀ st, st ≠ Stream.v → s.whl.openWheels st = []) → s.nv.state = .running → s.nv.downA = false →
    State.placeWait .c s.ckptUnits s.ckptUnits s.begin [] = some (spans, r) →
    (∀ c ∈ s.rill.ckpts, c.seq ≤ s.reg Reg.CKPT_SEQ) → s.reg Reg.CKPT_SEQ + 1 < 2 ^ 48 → s.dev = .online →
    Answers .flushReport s fun t =>
      t.seq.flush = none
        ∧ (∃ c ∈ t.rill.ckpts, c.full = true ∧ c.seq = s.reg Reg.CKPT_SEQ + 1 ∧ c.large = s.rill.large
            ∧ c.fine = s.rill.fine)
        ∧ (∃ r ∈ t.nv.a, r.data = .pointer { manifestSeq := s.reg Reg.MANIFEST_SEQ, closed := true, shutdown := .clean })
        ∧ (k = .shutdown → t.dev = .aonOnly ∧ t.seq.coreUp = false)
        ∧ (k ≠ .shutdown → t.dev = .maintenance ∧ t.port.memActive = false ∧ t.port.media = .disabled ∧ t.mem = s.mem)
        ∧ (k = .reformat → t.reg Reg.WRITE_SEQ = 0 ∧ t.rill.state = .running
            ∧ t.rill.reformat = some ((s.reg Reg.FORMAT_EPOCH + 1) % 256))
        ∧ (k = .bist → t.reg Reg.BIST_STATE = 3 ∧ t.mgmt.bistOff = true ∧ t.basin.state = .held))
  ∧ (∀ p s, Accepted specReformat p s → s.port.committed = false → s.view Reg.FORMAT_OLD_WHEELS = 0 →
    s.rill.state = .running → s.seq.flush = none →
    Answers (.reformat p) s fun t =>
      t.rill = { s.rill with state := .flushing } ∧ t.cmd.cseq = s.cmd.cseq + 1
        ∧ t.seq.flush = some (.reformat, some (pktOwed p 0xC230 (s.cmd.cseq + 1)))
        ∧ t.cmd.owed = s.cmd.owed ++ [pktOwed p 0xC230 (s.cmd.cseq + 1)]
        ∧ s.SameBut t [.out, .regs, .freeCtr, .rec_, .fc, .port, .mir, .nv, .cmd, .rill, .seq])
  ∧ (∀ p s, Accepted specReformat p s → s.port.committed = true →
    Runs .reformat specReformat p s St.INVALID_STATE [] fun t =>
      s.SameBut t [.out, .regs, .freeCtr, .rec_, .fc, .port, .mir, .nv, .cmd])
  ∧ (∀ s, s.rill.reformat = none ∨ s.dev ≠ .maintenance →
    Answers .reformatRewriteComplete s fun t => s.SameBut t [.out])
  ∧ (∀ s e, s.rill.reformat = some e → e < 256 → s.dev = .maintenance → s.mem = [] → s.port.poison = [] →
    s.basin.repair = [] → s.nv.downA = false → s.nv.state = .running →
    Answers .reformatRewriteComplete s fun t =>
      t.reg Reg.FORMAT_EPOCH = e ∧ t.dev = .bringup ∧ t.rill.state = .loading ∧ t.rill.reformat = none
        ∧ (∃ r ∈ t.nv.a, r.data = .pointer { manifestSeq := s.reg Reg.MANIFEST_SEQ, closed := true, shutdown := .clean }))
  ∧ ∀ s, s.rill.state ≠ .down → s.rill.state ≠ .loading →
    Answers .enduranceDaily s fun t =>
      t.reg Reg.ENDUR_LIFE_USED
          = Nat.min 255 (ceilDiv (100 * s.view Reg.ENDUR_PE_AVG) (Nat.max 1 (s.view Reg.ENDUR_PE_BUDGET)))
        ∧ t.rill.peHistory = (s.view Reg.ENDUR_PE_AVG :: s.rill.peHistory).take 31 ∧ t.rill.gcNative = 0 ∧ t.rill.gcHost = 0
        ∧ t.rill.large = s.rill.large ∧ t.rill.fine = s.rill.fine
        ∧ s.SameBut t [.out, .regs, .freeCtr, .rec_, .fc, .port, .mir, .rill]


/-- The input's events: early warning, recovery, commit, chains. With both chains reading: in ONLINE with the Spillway
ARMED and no shutdown flush, a governing reading below EW_THRESHOLD is an early warning that starts the ride-through
timer with RIDE_THROUGH, and takes a device with a dirty set to PRE_SPILL. A recovery in PRE_SPILL, at or above
RECOVERY_THRESHOLD, ends the warning, returns to the state before it and begins the undo. A reading below
COMMIT_THRESHOLD in ONLINE and the expiry of a running timer in PRE_SPILL begin a vault with causes 0x1 and 0x2 and
stop the Rill. Chains that differ by more than 120 mV are both read, the lower governs and the disagreement is held; a
failed chain is held and the other governs, and with both failed in ONLINE no reading governs, the input is absent and
a FATAL report is left to react; a restored chain reads again. In SEALED the input counts as present at
RECOVERY_THRESHOLD. (R168, R171, R173, R182, R195, R500, 06_spillway_vault.md) -/
def Obligations.Input_supervision : Prop :=
  (∀ a b s, s.spill.failA = false → s.spill.failB = false → s.dev = .online → s.spill.warned = false →
    s.seq.flush = none → s.spill.state = .armed → min a b < stepUp (s.reg Reg.EW_THRESHOLD) →
    Answers (.earlyWarning a b) s fun t =>
      t.spill.warned = true ∧ t.spill.present = false ∧ t.spill.timer = some (s.reg Reg.RIDE_THROUGH)
        ∧ t.spill.chainA = a ∧ t.spill.chainB = b
        ∧ t.dev = (if 0 < s.basin.dirtyBytes then .preSpill else .online) ∧ t.mem = s.mem)
  ∧ (∀ a b s, s.spill.failA = false → s.spill.failB = false → s.dev = .preSpill → s.spill.warned = true →
    stepUp (s.reg Reg.RECOVERY_THRESHOLD) ≤ min a b → Answers (.recovery a b) s fun t =>
      t.spill.warned = false ∧ t.spill.present = true ∧ t.spill.timer = none ∧ t.spill.state = .undoing
        ∧ t.dev = s.prev ∧ t.mem = s.mem)
  ∧ (∀ a b s, s.spill.failA = false → s.spill.failB = false → s.dev = .online →
    min a b < stepUp (s.reg Reg.COMMIT_THRESHOLD) → Answers (.undervoltageCommit a b) s fun t =>
      t.dev = .vaulting ∧ t.spill.state = .window ∧ t.spill.vault.map (·.man.cause) = some 1 ∧ t.rill.state = .stopped)
  ∧ (∀ s, s.spill.timer.isSome = true → s.spill.warned = true → s.dev = .preSpill →
    Answers .rideThroughExpiry s fun t =>
      t.dev = .vaulting ∧ t.spill.state = .window ∧ t.spill.vault.map (·.man.cause) = some 2 ∧ t.rill.state = .stopped)
  ∧ (∀ a b s, s.seq.aonUp = true → s.spill.failA = false → s.spill.failB = false → 120 < a - b + (b - a) →
    Answers (.chainDisagreement a b) s fun t =>
      t.spill.disagree = true ∧ t.spill.chainA = a ∧ t.spill.chainB = b ∧ t.inputMv = some (min a b)
        ∧ s.SameBut t [.out, .spill, .seq, .regs, .freeCtr, .rec_, .fc, .port, .mir])
  ∧ (∀ a s, s.seq.aonUp = true → s.spill.failA = false → s.spill.failB = false →
    Answers (.chainFailure a) s fun t =>
      t.spill.failA = a ∧ t.spill.failB = !a ∧ t.inputMv = some (if a then s.spill.chainB else s.spill.chainA)
        ∧ s.SameBut t [.out, .spill, .seq, .regs, .freeCtr, .rec_, .fc, .port, .mir])
  ∧ (∀ s, s.seq.aonUp = true → s.spill.failA = false → s.spill.failB = true → s.dev = .online →
    Answers (.chainFailure true) s fun t => t.inputMv = none ∧ t.spill.present = false ∧ t.fc.fatalPend = true)
  ∧ (∀ a mv s, Answers (.chainRestored a mv) s fun t =>
      (if a then t.spill.failA = false ∧ t.spill.chainA = mv ∧ t.spill.chainB = s.spill.chainB
        else t.spill.failB = false ∧ t.spill.chainB = mv ∧ t.spill.chainA = s.spill.chainA)
        ∧ s.SameBut t [.out, .spill, .seq])
  ∧ (∀ a b s, s.spill.failA = false → s.spill.failB = false → s.dev = .sealed → s.spill.present = false →
    stepUp (s.reg Reg.RECOVERY_THRESHOLD) ≤ min a b →
    Answers (.inputPresent a b) s fun t =>
      t.spill.present = true ∧ t.spill.chainA = a ∧ t.spill.chainB = b ∧ s.SameBut t [.out, .spill, .seq])

/-- Speculation, undo, seal and drain. A speculative capture of the next entry adds its pages to the count and its run
to stream V. The undo's end leaves no run and the Spillway ARMED, in the same device state, with no byte of memory
changed. The window's end, with the power not returned, seals the port, freezes the DST and begins the drain with the
dirty bytes in MiB. Before close-out is due, a run of the drain takes the next segment's pages still to drain into
stream V and the manifest's index; with nothing left, the drain ends in the metadata step, and once close-out is due
it ends there by close-out. A drained set below the highest, without a hold, is reported and switched off: its bytes
are gone and every other byte reads as before. The target of a slow spoke is dropped. A stalled drain is a FATAL
report and a close-out. (R24, R98, R99, R176, R179, R186, R187, R189, R192, R208, 06_spillway_vault.md) -/
def Obligations.Vault_drain : Prop :=
  (∀ s seg e slots b u s2, s.speculates = true → s.spill.bytes < s.reg Reg.PRESPILL_MAX * MiB →
    s.begin.specNext = some (seg, e, slots) → s.basin.capture seg e.d true = some b →
    State.vRun { s.begin with basin := b } seg e.d = some (u, s2) →
    Answers (.speculativeCapture []) s fun t =>
      t.spill.bytes = s2.spill.bytes + 4096 * pages e.d
        ∧ t.spill.runs = s2.spill.runs ++ [{ seg := seg, seq := u.seq, pages := e.d, waits := spanWheels u.spans,
                                             slots := slots, kind := u.kind }]
        ∧ s2.SameBut t [.spill])
  ∧ (∀ s, s.spill.state = .undoing → Answers .undoComplete s fun t =>
    t.spill.state = .armed ∧ t.spill.runs = [] ∧ t.mem = s.mem ∧ t.dev = s.dev)
  ∧ (∀ tf v s, s.spill.vault = some v → s.spill.state = .window → v.man.powerReturned = false →
    Answers (.gpfWindowEnd tf) s fun t =>
      t.spill.state = .draining ∧ t.port.sealed = true ∧ t.port.windowOpen = false ∧ t.basin.frozen = true
        ∧ t.basin.state = .frozen ∧ t.basin.dst = s.basin.dst
        ∧ t.spill.vault.map (·.man.dirtyAtSeal) = some (ceilDiv s.basin.dirtyBytes MiB)
        ∧ s.SameBut t [.out, .spill, .port, .basin, .sip, .freeCtr])
  ∧ (∀ s v x rest k h seg need ovf u s2, s.spill.vault = some v → s.spill.state = .draining → s.closeoutDue = false →
    sortBy drainBefore (s.begin.toDrain v) = x :: rest →
    (s.begin.toDrain v).find? (fun y => y.2.2.1 == x.2.2.1) = some (k, h, seg, need, ovf) →
    s.begin.vRun seg need = some (u, s2) → s2.spill.vault = some v →
    Answers (.drainRun none .none []) s fun t =>
      t.spill.state = s2.spill.state
        ∧ t.spill.vault.map (·.man.unitsDrained) = some (v.man.unitsDrained + pages need)
        ∧ t.spill.vault.map (·.man.index.map (·.seg)) = some (v.man.index.map (·.seg) ++ [seg])
        ∧ s2.SameBut t [.basin, .spill])
  ∧ (∀ c e ue s v, s.spill.vault = some v → s.spill.state = .draining → s.closeoutDue = false → s.begin.toDrain v = [] →
    Answers (.drainRun c e ue) s fun t =>
      t.spill.state = .closing ∧ t.spill.vault.map (·.step) = some .metadata ∧ s.SameBut t [.out, .spill])
  ∧ (∀ e ue s v, s.spill.vault = some v → s.spill.state = .draining → s.closeoutDue = true →
    Answers (.drainRun none e ue) s fun t => t.spill.state = .closing ∧ t.spill.vault.map (·.step) = some .metadata
      ∧ t.spill.vault.map (·.man.closeout) = some true)
  ∧ (∀ s v k, s.spill.vault = some v → k < s.basin.topSet → s.begin.setClosed k = true → s.spill.state = .draining →
    (s.begin.toDrain v).all (fun x => x.1 != k) = true → k ∉ v.reported → s.sip.hold.state ≠ .armed →
    Answers (.slotSetDrained k) s fun t =>
      t.spill.vault.map (·.reported) = some (v.reported ++ [k])
        ∧ (∀ c ∈ t.mem, s.basin.setOf (segOf c.1) ≠ k)
        ∧ ∀ a, s.basin.setOf (segOf a) ≠ k → readByte t.mem a = readByte s.mem a)
  ∧ (∀ s n c w b sp, s.whl.wheel n = some w → s.whl.bandOf n = some b → b.1.spoke b.2 c = some sp →
    (s.dev = .preSpill ∨ s.dev = .vaulting) → w.stream = .v → w.state = .open_ →
    Answers (.slowSpokeTimeout n c) s fun t => sp.port ∈ t.spill.dropped)
  ∧ (∀ s, s.spill.state = .draining →
    Answers .drainStallTimeout s fun t => t.fc.fatalPend = true ∧ t.spill.state = .closing)

/-- The closing steps of a vault. Step 3 done takes the vault to the journal step with the median program time given;
step 4 done to the manifest step; step 5 with no failed attempt to the pointer step, with both copies of the manifest
in the next journal strip, at the places that strip takes, and the manifest among those on media with their locations;
step 6, with the input present, no hold, and a cause that does not lead to FAULT, ends the vault in SEALED with no
byte of memory changed. (R196, R197, R198, R204, R213, 06_spillway_vault.md) -/
def Obligations.Vault_close : Prop :=
  (∀ s v tMed, s.spill.vault = some v → s.spill.state = .closing → v.step = .metadata →
    Answers (.vaultMetadataWritten tMed) s fun t =>
      t.spill.state = .closing ∧ t.spill.vault.map (·.step) = some .journal
        ∧ t.spill.vault.map (·.man.tMed) = some tMed)
  ∧ (∀ s v a b, s.spill.vault = some v → s.spill.state = .closing → v.step = .journal →
    Answers (.journalDescriptorsWritten a b) s fun t =>
      t.spill.state = .closing ∧ t.spill.vault.map (·.step) = some .manifest)
  ∧ (∀ s v, s.spill.vault = some v → s.spill.state = .closing → v.step = .manifest → s.mgmt.state = .running →
    Answers (.manifestWritten false false []) s fun t =>
      t.spill.vault.map (·.step) = some .pointer
        ∧ t.spill.manifests = s.spill.manifests ++ [{ v.man with
            copies := 2, jlocA := s.res.jloc s.journalPlace.1, jlocB := s.res.jloc s.journalPlace.2.1 }]
        ∧ (∃ j ∈ t.whl.journal, j.man = some v.man.seq ∧ j.copyA = true ∧ j.copyB = true
            ∧ j.placeA = s.journalPlace.1 ∧ j.placeB = s.journalPlace.2.1)
        ∧ s.SameBut t [.out, .spill, .regs, .whl, .res])
  ∧ (∀ s v, s.spill.vault = some v → s.spill.state = .closing → v.step = .pointer → s.spill.present = true →
    v.man.cause ≠ 4 → v.man.cause ≠ 5 → s.sip.hold.state ≠ .armed →
    Answers .closingPointerWritten s fun t => t.dev = .sealed ∧ t.spill.state = .done ∧ t.spill.vault = none ∧ t.mem = s.mem)

/-- Damping's end, rehearsals and the reserve. Outside an early warning the quiet interval ends damped operation and
sets DAMPING_CAP back to 524,288. A due rehearsal on a standalone ONLINE device within its tokens begins to run and is
journalled as management firmware's own MAINT_START on transport 6, which is the model's reading (DEDUCED, log entry
59); one that found nothing slow answers 1 with its median, ends and leaves memory. The reserve takes back a released
set while it is below its target and its blocks hold one more; ten minutes below the target is a DEGRADED report of
the Spillway. (R181, R182, R205, R208, 06_spillway_vault.md) -/
def Obligations.Reserve_upkeep : Prop :=
  (∀ s, s.reg Reg.DAMPED = 1 → s.spill.warned = false →
    Answers .dampQuietExpiry s fun t =>
      t.reg Reg.DAMPED = 0 ∧ t.reg Reg.DAMPING_CAP = 524288 ∧ s.SameBut t [.out, .regs])
  ∧ (∀ s, s.seq.coreUp = true → s.mgmt.state = .running → s.dev = .online → (s.cmd.act 5).state = .idle →
    s.begin.tokenCheck 5 = none → s.mir.state = .standalone → (∀ q ∈ s.cmd.owed, q.cseq ≤ s.cmd.cseq) →
    (∀ e ∈ s.cmd.journal, e.cseq ≤ s.cmd.cseq) → Answers .rehearsePeriodExpiry s fun t =>
      (t.cmd.act 5).state = .running ∧ (t.cmd.act 5).bandwidth = s.reg Reg.REHEARSE_BW
        ∧ (∃ e ∈ t.cmd.journal, e.cseq = s.cmd.cseq + 1 ∧ e.transport = 6 ∧ e.opcode = 0xC100 ∧ e.status = St.SUCCESS)
        ∧ s.SameBut t [.out, .cmd, .regs, .freeCtr])
  ∧ (∀ s tMed, s.spill.state = .rehearsing → s.cmd.rehearse.state = .running → tMed < 2 ^ paramWidth Reg.REHEARSE_T_MED →
    Answers (.rehearsalComplete tMed [] []) s fun t =>
      t.spill.state = .armed ∧ (t.cmd.act 5).state = .idle ∧ t.reg Reg.REHEARSE_RESULT = 1
        ∧ t.reg Reg.REHEARSE_T_MED = tMed ∧ t.mem = s.mem)
  ∧ (∀ s n rest, s.rill.state = .running → s.spill.released = n :: rest →
    (s.whl.sets.filter fun p => !p.2).length * (setBytes s.res (s.reg Reg.RESERVE_DATA_SPOKES) / MiB)
      < s.reg Reg.RESERVE_TARGET →
    ((s.whl.sets.filter fun p => !p.2).length + 1) * (lanesOf s.res .v (s.spokesOf .v + 2) * (s.spokesOf .v + 2))
      ≤ s.res.usable .reserve → Answers .reserveReplenish s fun t =>
      t.spill.released = rest ∧ t.whl.sets = mput n false s.whl.sets ∧ s.SameBut t [.out, .spill, .whl])
  ∧ (∀ s, s.spill.state = .armed → s.reserveErased < s.reg Reg.RESERVE_TARGET →
    Answers .reserveLowTimeout s fun t => t = s.begin.fault Src.SPILLWAY .degraded)

/-- The end of a hold, the start-up path, restore, settles and retirement. The time limit in KICKSTAND with a hold
HOLDING ends it with HOLD_RESULT 2 waiting and HOLD_ELAPSED at KICK_HOLD_MAX, and takes the device to AON_ONLY with
the core off and memory and the token line gone. SEALED restarts into BRINGUP with the input present, and goes to
AON_ONLY when it is lost; the flash runs stand. With SERVICE_OPEN 0 and AON power kept, the start-up path is 2 for a
NONE record that no sanitize left incomplete, 3 for CLEAN with no chain active, 5 for a complete vault whose first
manifest copy reads, agrees with the closed pointer record and names no older link, with no wheel lost and no hold,
and 4 with HOLD_RESULT 1 where the same comes with a hold that passes every check. The exit from BRINGUP with a path
chosen enters RESTORING with SERVICE_OPEN 1, the Spillway ARMED, the port unsealed and memory as the path says: none
of it, or with path 4 that of the persistent partition; a locked device waits, another fetches its first SIPHON_AHEAD
extents or, with path 2 or 4, settles. A fetch in flight writes within its extent alone, leaves zeros without poison
where nothing concerns the extent and POISON_FLOOR is 0, brings the extent next in order online, and holds a later one
fetched. A settle whose fold has closed sets the large entry, leaves every other segment's large entry and closes. A
retirement with no settle open enters ONLINE, and with a chain moves RETIRED_SEQ to its newest link, sets ACTIVE_SEQ
to 0 and leaves no wheel of stream V. A stall while fetching is a DEGRADED fault of the Siphon with the RESTORE_STALL
event. Each command outside its condition only answers. (R214, R215, R217, R218, R224, R226, R227, R229, R231, R233,
R238, 07_siphon_restore.md) -/
def Obligations.Siphon_restores : Prop :=
  (∀ s, s.dev = .kickstand → s.sip.hold.state = .holding → Answers .holdTimeLimit s fun t =>
    t.dev = .aonOnly ∧ t.seq.coreUp = false ∧ t.mem = [] ∧ t.basin.token = {}
      ∧ t.sip.hold = { s.sip.hold with state := .ended, result := 2, elapsed := s.reg Reg.KICK_HOLD_MAX })
  ∧ (∀ s, s.dev ≠ .kickstand ∨ s.sip.hold.state ≠ .holding → Answers .holdTimeLimit s fun t => s.SameBut t [.out])
  ∧ (∀ s, s.dev = .sealed → s.spill.present = true → Answers .sealedRestartDelayExpiry s fun t =>
    t.dev = .bringup ∧ t.seq.coreUp = true ∧ t.sip.state = .evaluating ∧ t.mem = [] ∧ t.rill.runs = s.rill.runs
      ∧ t.nv.a = s.nv.a)
  ∧ (∀ s, s.dev ≠ .sealed ∨ s.spill.present = false →
    Answers .sealedRestartDelayExpiry s fun t => s.SameBut t [.out])
  ∧ (∀ s, s.dev = .sealed → Answers .sealedInputLoss s fun t =>
    t.dev = .aonOnly ∧ t.seq.coreUp = false ∧ t.spill.present = false ∧ t.mem = [] ∧ t.rill.runs = s.rill.runs)
  ∧ (∀ badA badB bm tok s, s.dev = .bringup → s.sip.state = .evaluating → s.sip.path = 0 → s.basin.state = .serving →
    s.rill.state = .running → s.reg Reg.SERVICE_OPEN = 0 → s.seq.lostOpen = false → s.cold = none → s.sip.fromHold = false →
    s.sip.hold.state = .none → s.pointer.shutdown = .none → s.pointer.sanitizeIncomplete = false →
    Answers (.startPathChoice badA badB bm tok) s fun t =>
      t.reg Reg.RESTORE_PATH = 2 ∧ t.sip = { s.sip with path := 2, chain := [] } ∧ s.SameBut t [.out, .regs, .sip])
  ∧ (∀ badA badB bm tok s, s.dev = .bringup → s.sip.state = .evaluating → s.sip.path = 0 → s.basin.state = .serving →
    s.rill.state = .running → s.reg Reg.SERVICE_OPEN = 0 → s.seq.lostOpen = false → s.cold = none → s.sip.fromHold = false →
    s.sip.hold.state = .none → s.pointer.shutdown = .clean → s.restoreRec.activeSeq = 0 →
    Answers (.startPathChoice badA badB bm tok) s fun t =>
      t.reg Reg.RESTORE_PATH = 3 ∧ t.reg Reg.CHAIN_LEN = 0 ∧ t.sip.path = 3 ∧ t.sip.chain = []
        ∧ s.SameBut t [.out, .regs, .sip])
  ∧ (∀ badA badB bm tok s m, s.dev = .bringup → s.sip.state = .evaluating → s.sip.path = 0 → s.basin.state = .serving →
    s.rill.state = .running → s.reg Reg.SERVICE_OPEN = 0 → s.seq.lostOpen = false → s.cold = none → s.whl.lost = [] →
    s.pointer.shutdown = .vaultedComplete → s.pointer.closed = true → s.pointer.copies ≠ 0 →
    s.restoreRec.retiredSeq < s.pointer.manifestSeq →
    s.readManifest { badA := badA, badB := badB, bitmaps := bm, token := tok } s.pointer.manifestSeq = some (m, false) →
    m.wheelFirst = s.pointer.wheelFirst → m.wheelLast = s.pointer.wheelLast → m.outcome = .vaultedComplete →
    m.prevSeq = 0 →
    (s.sip.fromHold = false → s.sip.hold.state = .none →
      Answers (.startPathChoice badA badB bm tok) s fun t =>
        t.reg Reg.RESTORE_PATH = 5 ∧ t.reg Reg.CHAIN_LEN = 1 ∧ t.sip.path = 5 ∧ t.sip.chain = [m] ∧ t.sip.heat = m.heat
          ∧ s.SameBut t [.out, .regs, .sip])
    ∧ (s.sip.fromHold = true → s.holdCheck { badA := badA, badB := badB, bitmaps := bm, token := tok } = none →
      Answers (.startPathChoice badA badB bm tok) s fun t =>
        t.reg Reg.RESTORE_PATH = 4 ∧ t.reg Reg.HOLD_RESULT = 1 ∧ t.sip.path = 4 ∧ t.sip.chain = [m]
          ∧ t.sip.hold.state = .none ∧ t.basin.token = {} ∧ s.SameBut t [.out, .regs, .sip, .basin]))
  ∧ (∀ s, s.dev = .bringup → s.sip.state = .evaluating → 2 ≤ s.sip.path → s.weir.state = .planning →
    s.res.state = .running → s.nv.state = .running → s.port.erasing = none → s.mgmt.state = .running →
    Answers .bringupExit s fun t =>
      t.dev = .restoring ∧ t.reg Reg.SERVICE_OPEN = 1 ∧ t.cold = none ∧ t.spill.state = .armed ∧ t.port.sealed = false
        ∧ (s.sip.path ≠ 4 → t.mem = [])
        ∧ (s.sip.path = 4 → t.mem = s.mem.filter fun c => decide (s.volBytes ≤ c.1))
        ∧ (s.port.sec.locked = true → t.sip.state = .lockWait)
        ∧ (s.port.sec.locked = false → s.sip.path ≠ 2 → s.sip.path ≠ 4 → t.sip.state = .fetching
            ∧ t.sip.issued = Nat.min t.sip.order.length (s.reg Reg.SIPHON_AHEAD) ∧ t.sip.online = 0)
        ∧ (s.port.sec.locked = false → s.sip.path = 2 ∨ s.sip.path = 4 → t.sip.state = .settling))
  ∧ (∀ e bad r s, s.dev = .restoring → s.sip.state = .fetching →
    e ∈ (s.sip.order.take s.sip.issued).drop s.sip.online → e ∉ s.sip.fetched →
    Answers (.extentFetchComplete e bad r) s fun t =>
      (∀ a, a < s.firstSeg e * 2 ^ 21 ∨ s.firstSeg e * 2 ^ 21 + GiB ≤ a → readByte t.mem a = readByte s.mem a)
        ∧ (s.reg Reg.POISON_FLOOR = 0 → (∀ i, i < 512 → s.segMatters (s.firstSeg e + i) = false) →
            ∀ a, s.firstSeg e * 2 ^ 21 ≤ a → a < s.firstSeg e * 2 ^ 21 + GiB →
              readByte t.mem a = 0 ∧ t.poisoned a = false)
        ∧ (s.sip.order[s.sip.online]? = some e → e ∈ t.port.online ∧ e ∉ t.sip.fetched ∧ s.sip.online < t.sip.online)
        ∧ (∀ x, s.sip.order[s.sip.online]? = some x → x ≠ e → x ∉ s.sip.fetched →
            t.port.online = s.port.online ∧ t.sip.fetched = s.sip.fetched ++ [e] ∧ t.sip.online = s.sip.online)
        ∧ t.basin.dst = s.basin.dst ∧ t.rill = s.rill ∧ t.dev = s.dev)
  ∧ (∀ e bad r s, s.dev ≠ .restoring ∨ s.sip.state ≠ .fetching ∨ e ∉ (s.sip.order.take s.sip.issued).drop s.sip.online
      ∨ e ∈ s.sip.fetched → Answers (.extentFetchComplete e bad r) s fun t => s.SameBut t [.out])
  ∧ (∀ seg s, s.dev ≠ .restoring ∨ seg ∉ s.sip.settles → Answers (.settleComplete seg) s fun t => s.SameBut t [.out])
  ∧ (∀ seg seq u l s, s.dev = .restoring → seg ∈ s.sip.settles →
    s.sip.folds.find? (fun f => f.1 == seg) = some (seg, seq, []) → s.rill.runOfSeq seq seg = some u →
    u.locOf 0 = some l → s.rill.largeSeq seg < seq →
    Answers (.settleComplete seg) s fun t =>
      t.rill.largeOf seg = some { loc := l } ∧ seg ∉ t.sip.settles ∧ (∀ g ∈ s.sip.settles, g ≠ seg → g ∈ t.sip.settles)
        ∧ (∀ g, g ≠ seg → t.rill.largeOf g = s.rill.largeOf g) ∧ s.SameBut t [.out, .rill, .sip, .spill])
  ∧ (∀ s, s.dev = .restoring → s.sip.state = .settling → s.sip.settles = [] →
    Answers .chainRetire s fun t =>
      t.dev = .online ∧ t.sip.state = .idle ∧ t.sip.chain = [] ∧ t.mem = s.mem
        ∧ ∀ m l, s.sip.chain = m :: l → m.seq < 2 ^ 48 →
            t.reg Reg.RETIRED_SEQ = m.seq ∧ t.reg Reg.ACTIVE_SEQ = 0 ∧ ∀ p ∈ t.whl.table, p.2.stream ≠ .v)
  ∧ (∀ s, s.dev ≠ .restoring ∨ s.sip.state ≠ .settling ∨ s.sip.settles ≠ [] →
    Answers .chainRetire s fun t => s.SameBut t [.out])
  ∧ (∀ s, s.sip.state = .fetching → s.seq.coreUp = true → Answers .restoreStall s fun t =>
    bit (t.reg Reg.FC_STATUS) Src.SIPHON = true ∧ evBit t Reg.EV_STATUS Ev.RESTORE_STALL = true
      ∧ s.SameBut t [.out, .regs, .freeCtr, .rec_, .fc, .port, .mir])
  ∧ ∀ s, s.sip.state ≠ .fetching → Answers .restoreStall s fun t => s.SameBut t [.out]


/-- Programs, identification, reads, the retention scrub, erases and timeouts of the Reservoir. Outside PRE_SPILL and
VAULTING: a program within its bound changes nothing but the times kept of landing programs, where a landing program's
time is noted; a slower one is a slow event, and at SLOW_EVENTS_MAX in the window its target is in the slow set. An
encoder syndrome is a report of the LDPC source. A failed program of the Rill's voids its open wheel, retires the
block with one more grown bad block and leaves no capture waiting for the wheel; both maps and memory stay.
Identification with no population recorded accepts a supported one where no image stands and otherwise holds it with
FLASH_MISMATCH; a recorded one found whole with an image runs with the wheels and maps as they were. A codeword read
counts a read of its block; a codeword that cannot be read, or that decodes and fails its CRC, in a closed wheel with
no erasure and no retries stopped is reconstructed, and the wheel is degraded. The retention scrub notes its pass, and
queues a closed block whose errors exceed REFRESH_RBER. A refresh keeps every relocation in flight and, with no
capture in flight, maps nothing. A snapshot copies the block table. An erase that ends well leaves the block ERASED
with its erases up by 1,000 milli-erases, or by the part's SLC weight from SLC mode; one that fails RETIRED; a
suspended one does not end. The third timeout of a target within 10 s, with another target of its channel answering,
retires it. (R148, R245, R247, R250, R251, R252, R254, R256, R262, R279, R291, 08_reservoir_media.md) -/
def Obligations.Reservoir_upkeep : Prop :=
  (∀ n c us s w b row p, s.whl.wheel n = some w → s.whl.bandOf n = some (b, row) → b.spoke row c = some p →
    s.dev ≠ .preSpill → s.dev ≠ .vaulting → s.res.up = true →
    (us ≤ s.reg Reg.SLOW_SPOKE_FACTOR * (if w.slc then s.res.part.tProgSlc else s.res.part.tProgNative) →
      Answers (.stripProgramDone n c us false) s fun t =>
        t.whl = { s.whl with landTimes := t.whl.landTimes } ∧ s.SameBut t [.out, .whl]
          ∧ (w.slc = true → w.stream = .l ∨ w.stream = .f → (p.port, us, s.now) ∈ t.whl.landTimes)
          ∧ (w.slc = false → t.whl = s.whl))
    ∧ (s.reg Reg.SLOW_SPOKE_FACTOR * (if w.slc then s.res.part.tProgSlc else s.res.part.tProgNative) < us →
      Answers (.stripProgramDone n c us false) s fun t =>
        (p.port, s.now) ∈ t.whl.slowEvents ∧ t.rill = s.rill ∧ t.mem = s.mem
          ∧ ((s.whl.slowEvents.filter fun e => e.1 == p.port && decide (s.now < e.2 + 1000 * s.reg Reg.SLOW_WINDOW)).length + 1
                < s.reg Reg.SLOW_EVENTS_MAX → t.whl.slowSet = s.whl.slowSet ∧ s.SameBut t [.out, .whl])
          ∧ (s.reg Reg.SLOW_EVENTS_MAX ≤
              (s.whl.slowEvents.filter fun e => e.1 == p.port && decide (s.now < e.2 + 1000 * s.reg Reg.SLOW_WINDOW)).length + 1
                → p.port ∈ t.whl.slowSet)))
  ∧ (∀ n c us s, s.res.up = true → s.seq.coreUp = true → Answers (.stripProgramDone n c us true) s fun t =>
    bit (t.reg Reg.FC_STATUS) Src.LDPC = true ∧ t.rill = s.rill ∧ t.mem = s.mem)
  ∧ (∀ n c s w b row p, s.whl.wheel n = some w → s.whl.bandOf n = some (b, row) → b.spoke row c = some p →
    w.state = .open_ → w.stream ≠ .v → s.res.up = true → s.seq.coreUp = true →
    s.reg Reg.BLOCKS_GROWN_BAD + 1 < 2 ^ paramWidth Reg.BLOCKS_GROWN_BAD →
    Answers (.stripProgramFailed n c) s fun t =>
      (∃ w', t.whl.wheel n = some w' ∧ w'.state = .void) ∧ (t.res.blk p.key).state = .retired
        ∧ t.reg Reg.BLOCKS_GROWN_BAD = s.reg Reg.BLOCKS_GROWN_BAD + 1 ∧ (∀ x ∈ t.rill.captures, n ∉ x.waits)
        ∧ bit (t.reg Reg.FC_STATUS) Src.RILL = true ∧ t.rill.large = s.rill.large ∧ t.rill.fine = s.rill.fine
        ∧ t.mem = s.mem ∧ t.dev = s.dev)
  ∧ (∀ n c s w, s.whl.wheel n = some w → w.state ≠ .open_ ∨ s.res.up = false →
    Answers (.stripProgramFailed n c) s fun t => s.SameBut t [.out])
  ∧ (∀ l failed bad bw s, s.dev ≠ .bringup ∨ s.res.state ≠ .identifying ∨ s.nv.early = false →
    Answers (.flashIdentify l failed bad bw) s fun t => s.SameBut t [.out])
  ∧ (∀ l failed bad bw s, s.dev = .bringup → s.res.state = .identifying → s.nv.early = true → s.recordedFlash = none →
    (s.flashOk l failed = true → s.noImage = true → Answers (.flashIdentify l failed bad bw) s fun t =>
      t.res.state = .running ∧ t.res.found = l ∧ t.cmd.flashBw = bw ∧ t.mem = s.mem ∧ t.dev = s.dev)
    ∧ (s.flashOk l failed = false ∨ s.noImage = false → s.seq.coreUp = true →
      Answers (.flashIdentify l failed bad bw) s fun t =>
        t.res.state = .hold ∧ t.res.found = l ∧ evBit t Reg.EV_STATUS Ev.FLASH_MISMATCH = true ∧ t.res.blocks = s.res.blocks
          ∧ s.SameBut t [.out, .regs, .freeCtr, .rec_, .fc, .port, .mir, .res]))
  ∧ (∀ l bw s r, s.dev = .bringup → s.res.state = .identifying → s.nv.early = true → s.recordedFlash = some r →
    s.flashMissing r l [] = [] → (∀ t ∈ l, ∃ u ∈ r, u.port = t.port) → s.noImage = false →
    Answers (.flashIdentify l [] [] bw) s fun t =>
      t.res.state = .running ∧ t.res.found = l ∧ t.cmd.flashBw = bw ∧ t.rill = s.rill ∧ t.whl = s.whl ∧ t.mem = s.mem)
  ∧ (∀ n c u er hit soft cb lo hi s b row p, s.res.up = true → u < 16 → s.whl.bandOf n = some (b, row) → b.spoke row c = some p →
    Answers (.codewordRead n c u er hit soft lo hi cb) s fun t =>
      (t.res.blk p.key).reads = Nat.min (2 ^ 24 - 1) ((s.res.blk p.key).reads + 1) ∧ t.rill.large = s.rill.large
        ∧ t.rill.fine = s.rill.fine ∧ t.mem = s.mem ∧ t.dev = s.dev)
  ∧ (∀ n c u cb soft lo hi s w b row p, s.res.state = .running → u < 16 → s.whl.bandOf n = some (b, row) →
    b.spoke row c = some p → s.spill.warned = false → s.whl.wheel n = some w → w.state = .closed → w.badUnits = [] →
    s.whl.erasedCols s.res n w = [] → s.reg Reg.LDPC_UNREADABLE + 1 < 2 ^ 32 → s.reg Reg.RECON_UNITS + 1 < 2 ^ 32 →
    (Answers (.codewordRead n c u false none false lo hi cb) s fun t =>
      (∃ w', t.whl.wheel n = some w' ∧ w'.state = .degraded ∧ w'.badUnits = [c * 16 + u])
        ∧ t.reg Reg.LDPC_UNREADABLE = s.reg Reg.LDPC_UNREADABLE + 1 ∧ t.reg Reg.RECON_UNITS = s.reg Reg.RECON_UNITS + 1
        ∧ t.rill = s.rill)
    ∧ Answers (.codewordRead n c u false (some 0) soft lo hi true) s fun t =>
      (∃ w', t.whl.wheel n = some w' ∧ w'.state = .degraded ∧ w'.badUnits = [c * 16 + u])
        ∧ t.reg Reg.RECON_UNITS = s.reg Reg.RECON_UNITS + 1 ∧ t.rill = s.rill)
  ∧ (∀ key rber soft bad s, s.res.state ≠ .running ∨ s.scrubbed key = false →
    Answers (.retentionScrub key rber soft bad) s fun t => s.SameBut t [.out])
  ∧ (∀ key rber s, s.res.state = .running → s.scrubbed key = true →
    (rber ≤ s.reg Reg.REFRESH_RBER → Answers (.retentionScrub key rber 0 []) s fun t =>
      (t.res.blk key).scrubs = s.scrubsDue key ∧ t.whl = s.whl ∧ t.rill = s.rill ∧ t.mem = s.mem)
    ∧ (s.reg Reg.REFRESH_RBER < rber → (s.res.blk key).state = .closed → s.vaultBlock key = false →
      Answers (.retentionScrub key rber 0 []) s fun t =>
        key ∈ t.res.refreshQ ∧ t.rill.large = s.rill.large ∧ t.rill.fine = s.rill.fine ∧ t.mem = s.mem))
  ∧ (∀ s, Answers .blockRefresh s fun t =>
    (s.rill.captures = [] → t.rill.large = s.rill.large ∧ t.rill.fine = s.rill.fine ∧ t.rill.captures = []
        ∧ t.basin = s.basin ∧ t.weir = s.weir)
      ∧ (∀ q ∈ s.rill.relocs, ∃ q' ∈ t.rill.relocs, q'.kind = q.kind ∧ q'.seg = q.seg ∧ q'.copy = q.copy ∧ q'.src = q.src)
      ∧ (s.res.refreshQ = [] → s.SameBut t [.out])
      ∧ s.SameBut t [.out, .regs, .freeCtr, .rec_, .fc, .port, .mir, .nv, .rill, .whl, .res, .basin, .weir, .spill, .sip])
  ∧ (∀ s, s.res.state = .running → Answers .blockTableSnapshot s fun t =>
    t.res = { s.res with snapshot := s.res.blocks } ∧ s.SameBut t [.out, .res])
  ∧ (∀ key s, s.res.up = true → (s.res.blk key).state = .erasing → key ∉ s.res.eraseSuspended →
    (Answers (.eraseComplete key true) s fun t =>
      (t.res.blk key).state = .erased ∧ (t.res.blk key).eraseDay = s.reg Reg.DAY_OF_SERVICE
        ∧ (t.res.blk key).erases
            = (s.res.blk key).erases + (if (s.res.blk key).slc then s.res.part.slcWeight else 1000)
        ∧ t.rill.large = s.rill.large ∧ t.rill.fine = s.rill.fine ∧ s.SameBut t [.out, .whl, .rill, .res])
    ∧ Answers (.eraseComplete key false) s fun t =>
      (t.res.blk key).state = .retired ∧ t.rill.large = s.rill.large ∧ t.rill.fine = s.rill.fine ∧ t.mem = s.mem)
  ∧ (∀ key ok s, s.res.up = false ∨ (s.res.blk key).state ≠ .erasing ∨ key ∈ s.res.eraseSuspended →
    Answers (.eraseComplete key ok) s fun t => s.SameBut t [.out])
  ∧ (∀ port s m, s.res.up = true → s.dev ≠ .preSpill → s.dev ≠ .vaulting → s.res.serves port = true → m ∈ s.res.found →
    m.port / 16 = port / 16 → m.port ≠ port → s.res.serves m.port = true → (∀ x ∈ s.res.misses, x.1 ≠ 8192 + m.port) →
    Answers (.targetTimeout port none) s fun t =>
      (8192 + port, s.now) ∈ t.res.misses ∧ t.rill.large = s.rill.large ∧ t.rill.fine = s.rill.fine ∧ t.mem = s.mem
        ∧ ((s.res.misses.filter fun x => x.1 == 8192 + port && decide (s.now < x.2 + 10000)).length < 2 →
            t.res.retired = s.res.retired ∧ s.SameBut t [.out, .res])
        ∧ (2 ≤ (s.res.misses.filter fun x => x.1 == 8192 + port && decide (s.now < x.2 + 10000)).length →
            port ∈ t.res.retired))
  ∧ ∀ port lun s, s.dev = .preSpill ∨ s.dev = .vaulting ∨ s.res.serves port = false →
    Answers (.targetTimeout port lun) s fun t => s.SameBut t [.out]


/-- The wheel journal, recovery, truing, lost wheels, deep scrub and reshape. A journal strip takes every pending
descriptor under the next JSEQ with the CKPT_SEQ in force and two copies at the places its turn gives; when both
copies fail four times the descriptors stay pending, reported by the journal's source. A re-mirror in ONLINE leaves no
strip with one copy and no descriptor changed. Recovery with the journal's head found serves, with maps, Basin and
memory as they were: a governing VOID or LOST descriptor gives that state, a CLOSE one a wheel that is neither open
nor void, and a wheel no descriptor governs or names as closed is void where parity_test refuses it. Truing a column
that is alone in the queue for its band puts the band's column on the spare block, takes the job off the queue and
counts it; with no spare the queue stays, reported. The last fold of a lost wheel is mapped and the wheel is folded. A
deep scrub that finds nothing marks the wheel read. Reshape keeps every relocation in flight and memory, maps nothing
where no capture is in flight, and ends its first phase with no old band left. A build step adds a set where the pool
has the blocks, after the flip it releases one of the old sets, and the last one ends RESHAPE. The flip, in ONLINE
with the Spillway ARMED, every block of the new reserve erased and no stream V wheel open, makes the new geometry the
reserve's with its sets unused, holds the old ones for release and is recorded; a torn one changes nothing. A write of
WHEEL_DIAG_INDEX latches the wheel it names, 0 for a free one. (R281, R282, R285, R288, R293, R294, R296, R298, R299,
R301, R309, 09_wheels.md) -/
def Obligations.Wheel_upkeep : Prop :=
  (∀ s, s.whl.pending ≠ [] → s.whl.state = .serving → s.res.up = true →
    (Answers (.journalStripIssue 0 0) s fun t =>
      t.whl.pending = [] ∧ t.whl.jseq = s.whl.jseq + 1 ∧ s.SameBut t [.out, .whl, .res]
        ∧ ∃ j, t.whl.journal = s.whl.journal ++ [j] ∧ j.jseq = s.whl.jseq + 1 ∧ j.descs = s.whl.pending ∧ j.copyA = true
            ∧ j.copyB = true ∧ j.placeA = s.journalPlace.1 ∧ j.placeB = s.journalPlace.2.1 ∧ j.man = none
            ∧ j.ckptSeq = s.reg Reg.CKPT_SEQ)
    ∧ ∀ a b, 4 ≤ a → 4 ≤ b → s.seq.coreUp = true → Answers (.journalStripIssue a b) s fun t =>
      (∀ d ∈ s.whl.pending, d ∈ t.whl.pending) ∧ t.whl.jseq = s.whl.jseq
        ∧ bit (t.reg Reg.FC_STATUS) Src.WHEEL_JOURNAL = true ∧ t.mem = s.mem)
  ∧ (∀ a b s, s.whl.pending = [] ∨ s.whl.state ≠ .serving ∨ s.res.up = false →
    Answers (.journalStripIssue a b) s fun t => s.SameBut t [.out])
  ∧ (∀ s, s.whl.state = .serving → s.res.state = .running → s.dev = .online →
    Answers .journalRemirror s fun t =>
      (∀ j ∈ t.whl.journal, j.copyA = j.copyB) ∧ t.whl.journal.map (·.descs) = s.whl.journal.map (·.descs)
        ∧ t.whl.table = s.whl.table ∧ s.SameBut t [.out, .regs, .freeCtr, .rec_, .fc, .port, .mir, .whl, .res])
  ∧ (∀ void bad s n w, s.whl.state = .recovering → s.res.state = .running → s.whl.wheel n = some w → w.stream ≠ .v →
    Answers (.wheelRecovery true [] [] void bad) s fun t =>
      t.whl.state = .serving ∧ t.rill = s.rill ∧ t.mem = s.mem ∧ t.basin = s.basin
        ∧ ((∀ j ∈ s.whl.journal, j.copyA = true ∨ j.copyB = true) → t.reg Reg.RECOVERY_LAST = 0)
        ∧ ∃ w', t.whl.wheel n = some w'
          ∧ (∀ d, s.whl.governing n = some d → d.type = .void → w'.state = .void)
          ∧ (∀ d, s.whl.governing n = some d → d.type = .lost → w'.state = .lost)
          ∧ (∀ d, s.whl.governing n = some d → d.type = .close → w'.state ≠ .void ∧ w'.state ≠ .open_)
          ∧ (s.whl.governing n = none → w.journalled = false → n ∈ void → w'.state = .void))
  ∧ (∀ s j b n, s.cmd.true_.state = .running → s.dev = .online → s.whl.state = .serving → s.res.state = .running →
    s.nextTrue = some j → s.whl.trueQ.filter (fun q => q.base == j.base) = [j] → s.whl.band j.base = some b →
    b.base = j.base → b.ended.isSome = true ∨ b.next = b.rows → s.walked b = false →
    (s.spareFor b j.column = some (n, false) → s.reg Reg.TRUE_DONE + 1 < 2 ^ paramWidth Reg.TRUE_DONE →
      Answers (.trueColumn []) s fun t =>
        (∃ b', t.whl.band j.base = some b' ∧ b'.spokes = b.spokes.set j.column n ∧ b'.rows = b.rows ∧ b'.d = b.d
            ∧ b'.stream = b.stream ∧ ∀ p ∈ b'.subst, p.1 ≠ j.column)
          ∧ j ∉ t.whl.trueQ ∧ t.reg Reg.TRUE_DONE = s.reg Reg.TRUE_DONE + 1 ∧ t.rill = s.rill
          ∧ s.SameBut t [.out, .regs, .freeCtr, .rec_, .fc, .port, .mir, .nv, .whl, .res, .cmd])
    ∧ (s.spareFor b j.column = none → s.seq.coreUp = true → Answers (.trueColumn []) s fun t =>
        t.whl = s.whl ∧ bit (t.reg Reg.FC_STATUS) Src.WHEEL_PARITY = true
          ∧ s.SameBut t [.out, .regs, .freeCtr, .rec_, .fc, .port, .mir]))
  ∧ (∀ n s, (∀ p ∈ s.whl.lost, p.1 ≠ n) → Answers (.lostFoldsComplete n) s fun t => s.SameBut t [.out])
  ∧ (∀ n g seq u l s, s.whl.lost = [(n, [g])] → s.sip.folds = [(g, seq, [])] → s.rill.state = .running →
    s.rill.runOfSeq seq g = some u → u.locOf 0 = some l → s.rill.largeSeq g < seq →
    Answers (.lostFoldsComplete n) s fun t =>
      t.rill.largeOf g = some { loc := l } ∧ t.whl.lost = [] ∧ n ∈ t.whl.folded ∧ t.sip.folds = []
        ∧ (∀ x, x ≠ g → t.rill.largeOf x = s.rill.largeOf x)
        ∧ s.SameBut t [.out, .regs, .freeCtr, .rec_, .fc, .port, .mir, .nv, .whl, .rill, .res, .sip, .spill])
  ∧ (∀ n s b row, s.cmd.scrubDeep.state = .running → s.whl.state = .serving → s.res.state = .running → n ∈ s.deepLeft →
    s.whl.bandOf n = some (b, row) →
    Answers (.scrubDeepWheel n [] [] .none 0) s fun t =>
      (n ∈ t.whl.deepDone ∨ t.whl.deepDone = [] ∧ t.cmd.scrubDeep.state = .idle) ∧ t.whl.table = s.whl.table
        ∧ t.rill = s.rill ∧ s.SameBut t [.out, .regs, .freeCtr, .rec_, .fc, .port, .mir, .whl, .res, .cmd])
  ∧ (∀ n soft weak bad f s, s.cmd.scrubDeep.state ≠ .running ∨ n ∉ s.deepLeft →
    Answers (.scrubDeepWheel n weak bad f soft) s fun t => s.SameBut t [.out])
  ∧ (∀ s, s.cmd.reshape.state ≠ .running ∨ s.reg Reg.RESHAPE_FROM = 0 → Answers .reshapeWheel s fun t => s.SameBut t [.out])
  ∧ (∀ s, s.cmd.reshape.state = .running → s.relocates = true → s.reg Reg.RESHAPE_FROM ≠ 0 →
    Answers .reshapeWheel s fun t =>
      (s.rill.captures = [] → t.rill.large = s.rill.large ∧ t.rill.fine = s.rill.fine ∧ t.basin = s.basin)
        ∧ (∀ q ∈ s.rill.relocs,
            ∃ q' ∈ t.rill.relocs, q'.kind = q.kind ∧ q'.seg = q.seg ∧ q'.copy = q.copy ∧ q'.src = q.src)
        ∧ t.mem = s.mem ∧ t.dev = s.dev
        ∧ (s.oldBands = [] → t.reg Reg.RESHAPE_FROM = 0
            ∧ (s.reg Reg.RESERVE_GEOM_TARGET = s.reg Reg.RESERVE_DATA_SPOKES →
                t.reg Reg.RESHAPE_STATE = 0 ∧ t.cmd.reshape.state = .idle)))
  ∧ (∀ s b, s.whl.build = some b → s.cmd.reshape.state = .running → s.reg Reg.RESHAPE_FROM = 0 → s.res.state = .running →
    (s.buildFull b = false → s.setBlocks b.d ≤ s.res.usable .pool → Answers .reserveBuildStep s fun t =>
      t.whl.build = some { b with sets := b.sets + 1 } ∧ t.whl.sets = s.whl.sets
        ∧ (t.buildFull { b with sets := b.sets + 1 } = true → t.reg Reg.RESHAPE_STATE = 3)
        ∧ s.SameBut t [.out, .regs, .freeCtr, .rec_, .fc, .port, .mir, .nv, .whl, .res])
    ∧ (s.buildFull b = true ∨ s.res.usable .pool < s.setBlocks b.d →
      Answers .reserveBuildStep s fun t => s.SameBut t [.out]))
  ∧ (∀ s d n, s.whl.build = none → s.whl.oldSets = some (d, n) → s.cmd.reshape.state = .running →
    s.reg Reg.RESHAPE_FROM = 0 → s.res.state = .running → Answers .reserveBuildStep s fun t =>
      (1 < n → t.whl.oldSets = some (d, n - 1) ∧ s.SameBut t [.out, .whl, .res])
        ∧ (n ≤ 1 → t.whl.oldSets = none ∧ t.cmd.reshape.state = .idle) ∧ t.whl.sets = s.whl.sets ∧ t.rill = s.rill)
  ∧ (∀ s b, s.whl.build = some b → s.cmd.reshape.state = .running → s.buildFull b = true → s.res.reserveReady = true →
    s.dev = .online → s.spill.state = .armed → s.whl.openWheels .v = [] → b.d < 16 →
    Answers (.reserveFlip false) s fun t =>
      t.reg Reg.RESERVE_DATA_SPOKES = b.d ∧ t.reg Reg.RESHAPE_STATE = 0 ∧ t.whl.build = none
        ∧ t.whl.sets.length = b.sets ∧ (∀ p ∈ t.whl.sets, p.2 = false)
        ∧ t.whl.oldSets = some (s.reg Reg.RESERVE_DATA_SPOKES, s.whl.sets.length) ∧ t.res = s.res ∧ t.rill = s.rill
        ∧ (s.nv.state = .running → s.nv.downA = false → 4 ≤ s.nv.logFree →
            ∃ r ∈ t.nv.a, r.data = .reserveDesc 1 b.d b.sets true))
  ∧ (∀ torn s b, s.whl.build = some b →
      torn = true ∨ s.cmd.reshape.state ≠ .running ∨ s.buildFull b = false ∨ s.res.reserveReady = false ∨ s.dev ≠ .online
        ∨ s.spill.state ≠ .armed ∨ s.whl.openWheels .v ≠ [] →
    Answers (.reserveFlip torn) s fun t => s.SameBut t [.out])
  ∧ (∀ v s w, v < 2 ^ 29 → s.seq.coreUp = true → s.whl.wheel v = some w → Answers (.wheelDiagIndexWrite v) s fun t =>
    t.reg Reg.WHEEL_DIAG_INDEX = v
      ∧ t.reg Reg.WHEEL_DIAG = (w.state.code + at' (maskOf (s.whl.erasedCols s.res v w) % 2 ^ 16) 8
          + at' ((s.rill.validIn v).length % 256) 32) % 2 ^ 48
      ∧ s.SameBut t [.out, .regs])
  ∧ ∀ v s, v < 2 ^ 29 → s.seq.coreUp = true → s.whl.wheel v = none → Answers (.wheelDiagIndexWrite v) s fun t =>
    t.reg Reg.WHEEL_DIAG_INDEX = v ∧ t.reg Reg.WHEEL_DIAG = 0 ∧ s.SameBut t [.out, .regs]


/-- Samples of an energy module: absence, insertion and the first low readings. With AON up, the tables loaded and no
hold: a sample below PORT_ABSENT_V (and not reversed) that is not the third in a row leaves the port's state and
counts E_use and E_rem as 0; the third in a row makes the port ABSENT with both 0; a reading at or above PORT_ABSENT_V
of an ABSENT port is an insertion to IDENTIFYING. The first and the last advance EST_SEQ by 1, and the other port
keeps its record. (R324, R331, R315, 10_cistern_energy.md) -/
def Obligations.Cistern_samples : Prop :=
  (∀ x v temp moved differs dup s, s.seq.aonUp = true → s.cist.loaded = true → s.dev ≠ .kickstand →
    -1000 ≤ v → v < 2 * (s.reg Reg.PORT_ABSENT_V : Int) → (s.cist.port x).absentRun < 2 →
    Answers (.cisternSample x v temp moved differs dup) s fun t =>
      (t.cist.port x).state = (s.cist.port x).state ∧ (t.cist.port x).eUse = 0 ∧ (t.cist.port x).eRem = 0
        ∧ (t.cist.port x).absentRun = (s.cist.port x).absentRun + 1
        ∧ (t.cist.port x).estSeq = (s.cist.port x).estSeq + 1
        ∧ t.cist.port (otherPort x) = s.cist.port (otherPort x) ∧ s.SameBut t [.out, .cist, .weir, .spill])
  ∧ (∀ x v temp moved differs dup s, s.seq.aonUp = true → s.cist.loaded = true → s.dev ≠ .kickstand →
    -1000 ≤ v → v < 2 * (s.reg Reg.PORT_ABSENT_V : Int) → (s.cist.port x).absentRun = 2 →
    (s.cist.port x).state ≠ .absent →
    Answers (.cisternSample x v temp moved differs dup) s fun t =>
      (t.cist.port x).state = .absent ∧ (t.cist.port x).eUse = 0 ∧ (t.cist.port x).eRem = 0)
  ∧ (∀ x v temp moved differs dup s, s.seq.aonUp = true → s.cist.loaded = true → s.dev ≠ .kickstand →
    -1000 ≤ v → 2 * (s.reg Reg.PORT_ABSENT_V : Int) ≤ v → (s.cist.port x).state = .absent →
    Answers (.cisternSample x v temp moved differs dup) s fun t =>
      (t.cist.port x).state = .identifying ∧ (t.cist.port x).inserted = true
        ∧ (t.cist.port x).estSeq = (s.cist.port x).estSeq + 1
        ∧ t.cist.port (otherPort x) = s.cist.port (otherPort x) ∧ s.SameBut t [.out, .cist, .weir, .spill])

/-- Discharges, rest, charge and hibernation of a port. An IWAKE trip of a READY or CHARGING port with its learn load
off wakes the estimator and puts the port in a discharge (DISCHARGING). The end of a discharge without any discharge
condition puts a DISCHARGING port back to CHARGING where it needs charge, else READY. RELAX_TIME at rest makes a READY
port relaxed and clears CONFLICT. Charge termination makes a CHARGING port READY, and the model state of a FLAT table
1. HIBERNATE_DELAY with nothing in a discharge, charging or learning makes the estimator hibernate. A current limit
report is held. SHORT_TIME of current limit with the voltage below half V_EMPTY makes an enabled port LATCHED_OFF with
E_use and E_rem 0, outside a hold, and leaves memory and the Basin. (R316, R317, R321, R325, R333,
10_cistern_energy.md) -/
def Obligations.Cistern_discharge : Prop :=
  (∀ x s, s.seq.aonUp = true → s.cist.loaded = true →
    ((s.cist.port x).state = .ready ∨ (s.cist.port x).state = .charging) → (s.cist.port x).learnLoad = false →
    Answers (.iwakeTrip x) s fun t =>
      (t.cist.port x).iwake = true ∧ (t.cist.port x).discharge = true ∧ (t.cist.port x).state = .discharging
        ∧ t.cist.hibernating = false ∧ t.cist.port (otherPort x) = s.cist.port (otherPort x)
        ∧ s.SameBut t [.out, .cist, .seq])
  ∧ (∀ x s, (s.cist.port x).discharge = true → (s.cist.port x).learnLoad = false → s.drawsFrom x = false →
    (s.cist.port x).state = .discharging →
    Answers (.dischargeEnd x) s fun t =>
      (t.cist.port x).discharge = false ∧ (t.cist.port x).iwake = false
        ∧ (t.cist.port x).state = (if s.needsCharge x then .charging else .ready)
        ∧ t.cist.port (otherPort x) = s.cist.port (otherPort x) ∧ s.SameBut t [.out, .cist, .seq])
  ∧ (∀ x s, (s.cist.port x).discharge = false → s.pulling x = false → (s.cist.port x).state = .ready →
    (s.cist.port x).learn = .none → (s.cist.port x).relearnRec = false →
    Answers (.relaxTimeExpiry x) s fun t =>
      (t.cist.port x).relaxed = true ∧ (t.cist.port x).conflict = false ∧ (t.cist.port x).state = .ready
        ∧ t.cist.port (otherPort x) = s.cist.port (otherPort x) ∧ s.SameBut t [.out, .cist])
  ∧ (∀ x s m, (s.cist.port x).state = .charging → (s.cist.port x).learn = .none → s.seq.mode = .charge →
    (s.cist.port x).table = some m →
    Answers (.chargeTermination x) s fun t =>
      (t.cist.port x).state = .ready ∧ (t.cist.port x).sm = (if m.flat then 1 else (s.cist.port x).sm)
        ∧ x ∈ t.seq.chgDone ∧ t.cist.port (otherPort x) = s.cist.port (otherPort x)
        ∧ s.SameBut t [.out, .cist, .seq])
  ∧ (∀ s, s.seq.aonUp = true →
    (∀ x, (s.cist.port x).discharge = false ∧ s.pulling x = false ∧ (s.cist.port x).state ≠ .charging
      ∧ (s.cist.port x).learn = .none) →
    Answers .hibernateDelayExpiry s fun t =>
      t.cist.hibernating = true ∧ t.cist.a = s.cist.a ∧ t.cist.b = s.cist.b ∧ s.SameBut t [.out, .cist])
  ∧ (∀ x on s, s.seq.aonUp = true → Answers (.currentLimit x on) s fun t =>
      (t.cist.port x).currentLimit = on ∧ (t.cist.port x).state = (s.cist.port x).state
        ∧ t.cist.port (otherPort x) = s.cist.port (otherPort x) ∧ s.SameBut t [.out, .cist])
  ∧ (∀ x s m, s.seq.aonUp = true → (s.cist.port x).currentLimit = true → (s.cist.port x).table = some m →
    (s.cist.port x).v < (m.vEmpty : Int) → (s.cist.port x).enabled = true → s.dev ≠ .kickstand →
    Answers (.shortTimeExpiry x) s fun t =>
      (t.cist.port x).state = .latchedOff ∧ (t.cist.port x).eUse = 0 ∧ (t.cist.port x).eRem = 0
        ∧ t.mem = s.mem ∧ t.basin = s.basin)

/-- Module identity, the load of the learned records and their write-back. With AON up and the tables loaded, an
identified module whose reading is not negative takes the table its ID or its slot names; a valid ID whose serial
differs from the record's sets the record aside with RELEARN_REC, and the port goes to CHARGING or READY; with no
record it is CHARGING where its voltage is below V_FULL and its charge has not ended, and in KICKSTAND always, as a
newcomer (Table 10-10), else READY; an inserted module without ID gets SWAP_SUSPECT; with no usable table the port
reads ZERO. The load in BRINGUP, with no relearn asked for before it, takes the newest learned record of each port.
The retry writes a pending record, rounded as it is stored (DEDUCED, log entry 246), where the input is at or above
LEARN_WB_V, no early warning has been and the NV layer runs with room. (R310, R312, R313, R332, R330,
10_cistern_energy.md) -/
def Obligations.Cistern_identity : Prop :=
  (∀ x d l m s, s.seq.aonUp = true → s.cist.loaded = true → (s.cist.port x).state = .identifying →
    0 ≤ (s.cist.port x).v → s.tableFor x (some d) = some m → (s.cist.port x).learned = some l → l.serial ≠ d.serial →
    Answers (.moduleIdRead x (some d)) s fun t =>
      (t.cist.port x).learned = none ∧ (t.cist.port x).relearnRec = true ∧ (t.cist.port x).table = some m
        ∧ (t.cist.port x).id = some d
        ∧ ((t.cist.port x).state = .charging ∨ (t.cist.port x).state = .ready) ∧ t.mem = s.mem)
  ∧ (∀ x d m s, s.seq.aonUp = true → s.cist.loaded = true → (s.cist.port x).state = .identifying →
    0 ≤ (s.cist.port x).v → s.tableFor x (some d) = some m → (s.cist.port x).learned = none →
    Answers (.moduleIdRead x (some d)) s fun t =>
      (t.cist.port x).table = some m ∧ (t.cist.port x).id = some d ∧ (t.cist.port x).inserted = false
        ∧ (t.cist.port x).newcomer = decide (s.dev = .kickstand)
        ∧ (t.cist.port x).state = (if s.dev = .kickstand ∨
            (volts (s.cist.port x).v * 1000 < (m.vFull : Nat) ∧ x ∉ s.seq.chgDone) then .charging else .ready)
        ∧ t.cist.port (otherPort x) = s.cist.port (otherPort x) ∧ s.SameBut t [.out, .cist, .seq])
  ∧ (∀ x m s, s.seq.aonUp = true → s.cist.loaded = true → (s.cist.port x).state = .identifying →
    0 ≤ (s.cist.port x).v → s.tableFor x none = some m → (s.cist.port x).inserted = true →
    Answers (.moduleIdRead x none) s fun t => (t.cist.port x).swapSuspect = true ∧ (t.cist.port x).table = some m)
  ∧ (∀ x s, s.seq.aonUp = true → s.cist.loaded = true → (s.cist.port x).state = .identifying →
    0 ≤ (s.cist.port x).v → s.tableFor x none = none → (s.cist.port x).inserted = false →
    Answers (.moduleIdRead x none) s fun t =>
      (t.cist.port x).state = .zero ∧ (t.cist.port x).zeroCause = some .noTable ∧ (t.cist.port x).eUse = 0)
  ∧ (∀ s, s.cist.loaded = false → s.dev = .bringup → s.seq.coreUp = true → s.cist.a.relearnRec = false →
    s.cist.b.relearnRec = false → Answers (.cisternTableLoad []) s fun t =>
      t.cist.loaded = true
        ∧ (∀ x, (t.cist.port x).learned = (s.nv.visible.filterMap fun r => match r.data with
            | .learned l => if l.port = x then some l else none
            | _ => none).getLast?)
        ∧ s.SameBut t [.out, .cist])
  ∧ (∀ x l mv s, (s.cist.port x).pendingRec = some l → s.cist.lastEw = none → s.inputMv = some mv →
    s.reg Reg.LEARN_WB_V ≤ mv → s.nv.state = .running → 4 ≤ s.nv.logFree →
    Answers (.learnedRecordRetry x) s fun t =>
      (t.cist.port x).pendingRec = none ∧ t.nv = s.nv.start (.learned l.stored)
        ∧ t.cist.port (otherPort x) = s.cist.port (otherPort x) ∧ s.SameBut t [.out, .cist, .nv])

/-- Learn cycles and resistance checks. A learn due by LEARN_PERIOD of a port that meets Table 10-6 unacknowledged
begins to run on a standalone device and is journalled as management firmware's own LEARN_START on transport 6, which
is the model's reading (DEDUCED, log entry 59); with a period of 0, or out of ONLINE, nothing changes. An accepted
LEARN_START of a port whose slot names a port (DEDUCED, log entry 32) that meets the table, acknowledged or not,
begins to run. The rest at full switches the learn load on with s0 the voltage state and nothing counted. A learn
whose state fell by at least 0.9, whose charge per state lies within the accepted share of Q_NOM and which is not worn
is accepted with that charge and LEARN_RESULT 1. A due resistance check of a READY relaxed port switches the load on;
its end moves RES_FACTOR a quarter of the way to what was measured, at least 1; a rebound quicker than the stored one
by more than RELAX_SIG_TOL sets SWAP_SUSPECT. (R326, R327, R328, R329, R332, 10_cistern_energy.md) -/
def Obligations.Cistern_learns : Prop :=
  (∀ x s, s.reg Reg.LEARN_PERIOD ≠ 0 → s.seq.coreUp = true → s.mgmt.state = .running → s.learnReady x false = true →
    (s.cmd.act 1).state = .idle → s.mir.state = .standalone → s.nv.state = .running → 4 ≤ s.nv.logFree →
    (∀ q ∈ s.cmd.owed, q.cseq ≤ s.cmd.cseq) → (∀ e ∈ s.cmd.journal, e.cseq ≤ s.cmd.cseq) →
    Answers (.learnPeriodExpiry x) s fun t =>
      (t.cmd.act 1).state = .running ∧ t.cmd.learnPort = some x
        ∧ (∃ e ∈ t.cmd.journal, e.cseq = s.cmd.cseq + 1 ∧ e.transport = 6 ∧ e.opcode = 0xC211 ∧ e.status = St.SUCCESS)
        ∧ s.SameBut t [.out, .cmd, .regs, .freeCtr, .nv])
  ∧ (∀ x s, s.reg Reg.LEARN_PERIOD = 0 ∨ s.dev ≠ .online → Answers (.learnPeriodExpiry x) s fun t => s.SameBut t [.out])
  ∧ (∀ x p s, Accepted specLearnStart p s → portOfSlot p.slots = some x → s.learnReady x (bit p.flags 1) = true →
    (s.cmd.act 1).state = .idle → s.mir.state = .standalone → s.nv.state = .running → 4 ≤ s.nv.logFree →
    Runs .learnStart specLearnStart p s St.SUCCESS [] fun t =>
      (t.cmd.act 1).state = .running ∧ t.cmd.learnPort = some x ∧ t.cist = s.cist ∧ t.mem = s.mem)
  ∧ (∀ x s, (s.cist.port x).learn = .restFull → (s.cist.port x).state = .learning →
    Answers (.learnRestExpiry x) s fun t =>
      (t.cist.port x).learn = .discharge ∧ (t.cist.port x).learnLoad = true
        ∧ (t.cist.port x).s0 = (s.cist.port x).sv ∧ (t.cist.port x).q = 0 ∧ (t.cist.port x).e = 0
        ∧ t.cist.port (otherPort x) = s.cist.port (otherPort x) ∧ s.SameBut t [.out, .cist, .seq])
  ∧ (∀ x m s, (s.cist.port x).learn = .restEnd → (s.cist.port x).table = some m →
    (9 : Rat) / 10 ≤ (s.cist.port x).s0 - (s.cist.port x).sv →
    (s.reg Reg.LEARN_ACCEPT_MIN : Rat) / 100 * m.qNom ≤ (s.cist.port x).q / ((s.cist.port x).s0 - (s.cist.port x).sv) →
    (s.cist.port x).q / ((s.cist.port x).s0 - (s.cist.port x).sv) ≤ (s.reg Reg.LEARN_ACCEPT_MAX : Rat) / 100 * m.qNom →
    (s.reg Reg.WORN_FRAC : Rat) * m.qNom ≤ (s.cist.port x).q / ((s.cist.port x).s0 - (s.cist.port x).sv) * 100 →
    Answers (.learnRestExpiry x) s fun t =>
      (t.cist.port x).learned.map (·.qLearn) = some ((s.cist.port x).q / ((s.cist.port x).s0 - (s.cist.port x).sv))
        ∧ (t.cist.port x).swapSuspect = false ∧ (t.cist.port x).relearnRec = false
        ∧ t.reg (Reg.LEARN_RESULT_A + portIx x) = 1 ∧ s.SameBut t [.out, .cist, .seq, .regs])
  ∧ (∀ x s, (s.cist.port x).state = .ready → (s.cist.port x).relaxed = true → (s.cist.port x).empty = false →
    (s.cist.port x).learn = .none → (s.cist.port x).check = .none →
    Answers (.resCheckPeriodExpiry x) s fun t =>
      (t.cist.port x).learnLoad = true ∧ (t.cist.port x).check = .pulse ∧ (t.cist.port x).state = .ready
        ∧ t.cist.port (otherPort x) = s.cist.port (otherPort x) ∧ s.SameBut t [.out, .cist])
  ∧ (∀ x m s, (s.cist.port x).table = some m → (s.cist.port x).check = .pulse → (s.cist.port x).learn = .none →
    (s.cist.port x).learnLoad = true → (s.cist.port x).vBefore = none → (s.cist.port x).learned = none →
    Answers (.resCheckPulseEnd x) s fun t =>
      (t.cist.port x).learnLoad = false ∧ (t.cist.port x).check = .rebound
        ∧ (t.cist.port x).checkRes = max 1 ((s.cist.port x).checkRes + ((s.cist.port x).rStep
            / atState (resAxis m (s.cist.port x).temp (m.rate.headD 0 : Nat)) (s.cist.port x).sv
            - (s.cist.port x).checkRes) / 4)
        ∧ t.cist.port (otherPort x) = s.cist.port (otherPort x) ∧ s.SameBut t [.out, .cist])
  ∧ (∀ x tau l s, (s.cist.port x).check = .rebound → (s.cist.port x).learned = some l →
    s.reg Reg.RELAX_SIG_TOL * l.tauRelax < 100 * (l.tauRelax - tau) →
    Answers (.resCheckReboundEnd x tau) s fun t =>
      (t.cist.port x).swapSuspect = true ∧ (t.cist.port x).check = .none
        ∧ t.cist.port (otherPort x) = s.cist.port (otherPort x))

/-- PACK_REPLACED and PORT_CLEAR. An accepted PACK_REPLACED out of ONLINE sets the port's learned record aside with
RELEARN_REC, clears SWAP_SUSPECT and answers SUCCESS. An accepted PORT_CLEAR takes a LATCHED_OFF port to IDENTIFYING
and answers SUCCESS. Both leave the other port and memory. That slot 0 of the packet names the port, 0 A and 1 B, is
the model's reading (DEDUCED, log entry 32). (R332, R333, 10_cistern_energy.md) -/
def Obligations.Cistern_clears : Prop :=
  (∀ x p s, Accepted specPackReplaced p s → portOfSlot p.slots = some x → s.nv.state = .running → 4 ≤ s.nv.logFree →
    s.dev ≠ .online →
    Runs .packReplaced specPackReplaced p s St.SUCCESS [] fun t =>
      (t.cist.port x).learned = none ∧ (t.cist.port x).relearnRec = true ∧ (t.cist.port x).swapSuspect = false
        ∧ t.cist.port (otherPort x) = s.cist.port (otherPort x) ∧ t.mem = s.mem)
  ∧ (∀ x p s, Accepted specPortClear p s → portOfSlot p.slots = some x → (s.cist.port x).state = .latchedOff →
    Runs .portClear specPortClear p s St.SUCCESS [] fun t =>
      (t.cist.port x).state = .identifying ∧ t.cist.port (otherPort x) = s.cist.port (otherPort x) ∧ t.mem = s.mem)

/-- The sequencer's steps, PG and retries. A used slot's PG rise is held. A stable on-step of POWER_UP whose DELAY is
not 0 has its slots running and waits for its DELAY; the DELAY's end begins the next on-step with its slots enabled. A
PG timeout of an on-step in BRINGUP powers down with one attempt counted and DRAM lost. A PG that falls in an off-step
while others are high is taken off; a drop on a running slot with the LOG reaction is held and the slot runs on; one
with the SYSTEM_RESET reaction in ONLINE commits with cause 0x5; one with the RETRY reaction, while no sequence
removes power, takes the slot's EN low, counts a retry of it and leaves memory and the device state. The end of a
retry's off time enables its slots. A retry delay that ends with the rails off runs POWER_UP, and one that ends before
keeps it for then, as does SYSRESET_OFF_TIME. (R343, R344, R345, R349, R350, R372, 11_power_sequencing.md) -/
def Obligations.Sequencer_steps : Prop :=
  (∀ n s, s.seq.aonUp = true → n < 24 → n ∉ s.seq.pg → s.slotKind n ≠ 0 →
    Answers (.pgRise n) s fun t => t.seq.pg = s.seq.pg ++ [n] ∧ t.seq.en = s.seq.en ∧ s.SameBut t [.out, .seq])
  ∧ (∀ s u, s.seq.step = some u → u.phase = .stable → s.seq.active = .powerUp → u.delay ≠ 0 →
    Answers (.stabilityTimerExpiry none) s fun t =>
      (∀ n ∈ u.slots, n ∈ t.seq.running) ∧ t.seq.step = some { u with phase := .delay } ∧ s.SameBut t [.out, .seq])
  ∧ (∀ s u l d rest, s.seq.step = some u → u.phase = .delay → s.seq.active = .powerUp → s.seq.todo = (l, d) :: rest →
    Answers .stepDelayExpiry s fun t =>
      (∀ n ∈ l, n ∈ t.seq.en) ∧ t.seq.todo = rest ∧ t.seq.stepNo = s.seq.stepNo + 1
        ∧ t.seq.step.map (·.slots) = some l ∧ s.SameBut t [.out, .seq])
  ∧ (∀ n s u, s.seq.step = some u → u.phase = .waitPg → n ∈ u.slots → s.seq.state = .rising → n ∉ s.seq.pg →
    s.dev = .bringup →
    Answers (.pgTimeout n) s fun t => t.dev = .aonOnly ∧ t.seq.attempts = s.seq.attempts + 1 ∧ t.mem = [])
  ∧ (∀ n s u, n ∈ s.seq.pg → s.seq.step = some u → u.phase = .waitPg → n ∈ u.slots → s.seq.state ≠ .rising →
    (∃ m ∈ u.slots, m ≠ n ∧ m ∈ s.seq.pg) →
    Answers (.pgDrop n) s fun t =>
      t.seq.pg = s.seq.pg.filter (· ≠ n) ∧ t.seq.step = s.seq.step ∧ s.SameBut t [.out, .seq])
  ∧ (∀ n s, n ∈ s.seq.pg → s.seq.step = none → s.sideOf n = none → n ∈ s.seq.running → s.dev ≠ .kickstand →
    s.slotReaction n = 0 →
    Answers (.pgDrop n) s fun t => n ∉ t.seq.pg ∧ n ∈ t.seq.running ∧ t.dev = s.dev ∧ t.mem = s.mem)
  ∧ (∀ n s, n ∈ s.seq.pg → s.seq.step = none → s.sideOf n = none → n ∈ s.seq.running → s.dev = .online →
    s.begin.slotReaction n = 3 →
    Answers (.pgDrop n) s fun t => t.dev = .vaulting ∧ t.spill.vault.map (·.man.cause) = some 5)
  ∧ (∀ n s, n ∈ s.seq.pg → s.seq.step = none → s.sideOf n = none → n ∈ s.seq.running → s.dev ≠ .kickstand →
    s.begin.slotReaction n = 1 → s.seq.state ≠ .falling →
    Answers (.pgDrop n) s fun t => n ∉ t.seq.pg ∧ n ∉ t.seq.running ∧ n ∉ t.seq.en ∧ t.dev = s.dev ∧ t.mem = s.mem
      ∧ mget 0 t.seq.tries n = mget 0 s.seq.tries n + 1 ∧ (t.sideOf n).map (·.off) = some true)
  ∧ (∀ n s d, s.sideOf n = some d → d.off = true →
    Answers (.retryOffTimeExpiry n) s fun t => (∀ m ∈ d.step.slots, m ∈ t.seq.en) ∧ s.SameBut t [.out, .seq])
  ∧ (∀ s, s.seq.retryWaits = true → s.seq.state ≠ .railsOff →
    Answers .powerupRetryDelayExpiry s fun t =>
      t.seq.stay = true ∧ t.seq.retryWaits = false ∧ s.SameBut t [.out, .seq])
  ∧ (∀ s, s.seq.retryWaits = true → s.seq.state = .railsOff → s.upSteps ≠ [] →
    Answers .powerupRetryDelayExpiry s fun t => t.dev = .bringup ∧ t.seq.active = .powerUp ∧ t.seq.retryWaits = false)
  ∧ (∀ s, s.seq.sysResetWaits = true → s.seq.state ≠ .railsOff →
    Answers .sysresetOffTimeExpiry s fun t =>
      t.seq.stay = true ∧ t.seq.sysResetWaits = false ∧ s.SameBut t [.out, .seq])

/-- Power commands, reset outputs and the slot counters. POWER_ON in AON_ONLY with the rails off answers SUCCESS and
takes the device to BRINGUP. GROUP_RESTART of a group that is off, and RST_PULSE of an output whose slot runs, answer
SUCCESS: the group is no longer off; the output is asserted and its STRETCH runs, whose end releases it. An
ORDERLY_SHUTDOWN in ONLINE makes the Rill flush and owes its reply; FLUSH_TIMEOUT abandons it. The counter flush
appends what changed and marks the time. (R347, R348, R350, R356, R360, 11_power_sequencing.md) -/
def Obligations.Power_commands : Prop :=
  (∀ p s, AcceptedAon specPowerOn p s → s.seq.state = .railsOff →
    Runs .powerOn specPowerOn p s St.SUCCESS [] fun t => t.dev = .bringup ∧ t.seq.attempts = 0 ∧ t.mem = s.mem)
  ∧ (∀ p s g, Accepted specGroupRestart p s → p.slots = [g] → g < 8 → g ∈ s.seq.groupOff →
    Runs .groupRestart specGroupRestart p s St.SUCCESS [] fun t =>
      g ∉ t.seq.groupOff ∧ (∀ h ∈ s.seq.groupOff, h ≠ g → h ∈ t.seq.groupOff) ∧ t.mem = s.mem ∧ t.dev = s.dev)
  ∧ (∀ p s n, Accepted specRstPulse p s → p.slots = [n] → n < 8 → n ∈ s.outputsOf s.seq.running →
    Runs .rstPulse specRstPulse p s St.SUCCESS [] fun t =>
      n ∉ t.seq.released ∧ n ∈ t.seq.stretch ∧ t.seq.running = s.seq.running ∧ t.mem = s.mem ∧ t.dev = s.dev)
  ∧ (∀ n s, n ∈ s.seq.stretch →
    Answers (.resetStretchExpiry n) s fun t =>
      n ∈ t.seq.released ∧ n ∉ t.seq.stretch ∧ s.SameBut t [.out, .seq])
  ∧ (∀ p s, Accepted specOrderlyShutdown p s → s.rill.state = .running → s.seq.flush = none →
    Answers (.orderlyShutdown p) s fun t =>
      t.rill.state = .flushing ∧ (∃ o, t.seq.flush = some (.shutdown, some o) ∧ o ∈ t.cmd.owed)
        ∧ t.dev = s.dev ∧ t.mem = s.mem)
  ∧ (∀ s o, s.seq.flush = some (.shutdown, o) → s.rill.state = .flushing →
    Answers .flushTimeout s fun t =>
      t.seq.flush = none ∧ t.rill.state = .running ∧ t.dev = s.dev ∧ t.mem = s.mem)
  ∧ (∀ s, s.seq.lastCounters = 0 → s.seq.countersDirty = true → s.nv.state = .running →
    Answers .seqCounterFlush s fun t =>
      t.seq.countersDirty = false ∧ t.seq.lastCounters = s.now + 1 ∧ t.mem = s.mem)

/-- PMBus, core voltage scaling and the holdup converter. With the core up: a poll of the one slave in use keeps the
five values read and makes them fresh; in BRINGUP it reads VOUT_MODE, and a slave whose mode bits [7:5] are not 0 is
not in use (the bits PRESUMED, log entry 29); an alert keeps its STATUS_WORD, reads it over the bus and clears the
faults it shows. A failed attempt below the third is counted, the third makes the slave's values stale. A stuck bus
gets the clocks and the STOP. A target within the limits, at most one step away, on a device in class O with scaling
enabled and nothing under way, is written to a slave in use. A readback within 15 mV only selects the page and reads,
one further off stops the scaling. With AON up, a converter fault takes every port in service to ZERO; its end and the
end of the standby time clear their marks. (R353, R354, R355, R358, R359, 11_power_sequencing.md) -/
def Obligations.Pmbus_and_converter : Prop :=
  (∀ s n k l, s.seq.coreUp = true → s.begin.pmSlaves = [n] → (mget {} s.seq.slaves n).used = true →
    Answers (.pmbusPollExpiry [(n, k :: l)] []) s fun t =>
      (mget {} t.seq.slaves n).telemetry = (k :: l).take 5 ∧ (mget {} t.seq.slaves n).stale = false
        ∧ s.SameBut t [.out, .seq])
  ∧ (∀ s n mode, s.seq.coreUp = true → s.dev = .bringup → s.begin.pmSlaves = [n] →
    Answers (.pmbusPollExpiry [] [(n, mode)]) s fun t =>
      (mget {} t.seq.slaves n).voutMode = mode ∧ (mget {} t.seq.slaves n).used = decide (mode / 32 = 0)
        ∧ Out.pmbus n 0x20 0 ∈ t.out ∧ s.SameBut t [.out, .seq])
  ∧ (∀ s n w, s.seq.coreUp = true → s.begin.pmSlaves = [n] →
    Answers (.pmbusAlert [(n, w)]) s fun t =>
      (mget {} t.seq.slaves n).telemetry = w :: (mget {} s.seq.slaves n).telemetry.drop 1
        ∧ Out.pmbus n 0x79 0 ∈ t.out ∧ (w ≠ 0 → Out.pmbus n 0x03 0 ∈ t.out) ∧ s.SameBut t [.out, .seq])
  ∧ (∀ s n pec, s.seq.coreUp = true → (mget {} s.seq.slaves n).tries + 1 < 3 →
    Answers (.pmbusTransactionDone n false pec) s fun t =>
      (mget {} t.seq.slaves n).tries = (mget {} s.seq.slaves n).tries + 1
        ∧ (∀ m, m ≠ n → mget {} t.seq.slaves m = mget {} s.seq.slaves m) ∧ s.SameBut t [.out, .seq])
  ∧ (∀ s n pec, s.seq.coreUp = true → (mget {} s.seq.slaves n).tries = 2 →
    Answers (.pmbusTransactionDone n false pec) s fun t =>
      (mget {} t.seq.slaves n).stale = true ∧ (mget {} t.seq.slaves n).tries = 0 ∧ t.mem = s.mem)
  ∧ (∀ s, s.seq.coreUp = true → Answers .pmbusBusStuck s fun t => t.out = [.pmbusClear] ∧ s.SameBut t [.out])
  ∧ (∀ s mv, s.seq.coreUp = true → s.reg Reg.AVS_ENABLE ≠ 0 → s.seq.avsStopped = false → classO s = true →
    s.spill.warned = false → s.seq.voutWrite = none → s.reg Reg.VCORE_MIN ≤ mv → mv ≤ s.reg Reg.VCORE_MAX →
    mv ≠ s.reg Reg.VCORE_NOW → mv ≤ s.reg Reg.VCORE_NOW + s.reg Reg.VCORE_STEP →
    s.reg Reg.VCORE_NOW ≤ mv + s.reg Reg.VCORE_STEP → s.seq.lastVout = 0 →
    bit (s.slotCfg (s.reg Reg.VCORE_SLOT)) 11 = true → (mget {} s.seq.slaves s.vcoreSlave).used = true →
    Answers (.vcoreTargetPosted mv) s fun t =>
      t.seq.voutWrite = some mv ∧ t.seq.lastVout = s.now + 1
        ∧ Out.pmbus s.vcoreSlave 0x21 (ulinear16 (mget {} s.seq.slaves s.vcoreSlave).voutMode mv) ∈ t.out
        ∧ s.SameBut t [.out, .seq])
  ∧ (∀ s mv, s.seq.coreUp = true → s.seq.lastVout ≠ 0 →
    mv - s.reg Reg.VCORE_NOW + (s.reg Reg.VCORE_NOW - mv) ≤ 15 →
    Answers (.voutReadback mv) s fun t => t.out = [.pmbus s.vcoreSlave 0x00
      (s.reg (Reg.PMBUS_SLAVE + 16 * s.vcoreSlave + 1)), .pmbus s.vcoreSlave 0x8B 0] ∧ s.SameBut t [.out])
  ∧ (∀ s mv, s.seq.coreUp = true → s.seq.lastVout ≠ 0 →
    15 < mv - s.reg Reg.VCORE_NOW + (s.reg Reg.VCORE_NOW - mv) →
    Answers (.voutReadback mv) s fun t => t.seq.avsStopped = true ∧ t.mem = s.mem)
  ∧ (∀ s pg, s.seq.aonUp = true → s.seq.convFailed = false →
    Answers (.holdupFault false pg) s fun t =>
      t.seq.convFailed = true ∧ ∀ x, (s.cist.port x).state.inService = true → (t.cist.port x).state = .zero
        ∧ (t.cist.port x).eUse = 0 ∧ (t.cist.port x).eRem = 0)
  ∧ (∀ s, s.seq.aonUp = true →
    Answers (.holdupFault true true) s fun t => t.seq.convFailed = false ∧ s.SameBut t [.out, .seq])
  ∧ (∀ s, s.seq.standby = true →
    Answers .converterStandbyExpiry s fun t => t.seq.standby = false ∧ s.SameBut t [.out, .seq])

/-- What a fault report sets and what it leaves. With the core domain up a report of source n sets bit n of FC_STATUS
and leaves the other bits and their severity fields, raises its severity field to the severity it is taken with,
counts in FC_COUNT_n, and, at or above FC_EVENT_SEV or FATAL, sets its event's bit. A FATAL one leaves its word in
FC_LAST_FATAL and its reaction pending. FC_FIRST, while VALID, keeps its word, and FC_OVERFLOW reads 1 after a further
report at or above FC_LATCH_SEV; while not VALID it takes the report; reports below FC_LATCH_SEV touch neither. At or
above ALIVE_STOP_SEV, FC_IN_FAULT reads 1. Nothing else of the machine changes but the recorder, the CXL logs and
messages. With the core domain off an AON source's report shows in the AON copy alone; with AON off, or from another
source, nothing happens. (R366, R367, R368, R369, R370, R371, R374, R378, 12_faults_events.md) -/
def Obligations.Fault_report : Prop :=
  (∀ src sev chk inj s, src < 48 → s.seq.aonUp = true → s.seq.coreUp = true →
    Answers (.faultReport src sev chk inj) s fun t =>
      bit (t.reg Reg.FC_STATUS) src = true
        ∧ fcSev t src = max (fcSev s src) (s.sevOf (Sev.ofCode sev) inj).code
        ∧ (∀ n, n < 48 → n ≠ src →
            bit (t.reg Reg.FC_STATUS) n = bit (s.reg Reg.FC_STATUS) n ∧ fcSev t n = fcSev s n)
        ∧ (s.reg (Reg.FC_COUNT + src) + 1 < 2 ^ 32 → t.reg (Reg.FC_COUNT + src) = s.reg (Reg.FC_COUNT + src) + 1)
        ∧ s.SameBut t [.out, .regs, .freeCtr, .rec_, .fc, .port, .mir] ∧ s.RegsBut t reportReg)
  ∧ (∀ src sev chk inj s, src < 48 → s.seq.aonUp = true → s.seq.coreUp = true →
    Answers (.faultReport src sev chk inj) s fun t =>
      (s.sevOf (Sev.ofCode sev) inj = .fatal →
          t.fc.fatalPend = true ∧ field (t.reg Reg.FC_LAST_FATAL) 9 0 = src + 4 * 64 + 512)
        ∧ (flag s Reg.FC_FIRST 9 = true → t.reg Reg.FC_FIRST = s.reg Reg.FC_FIRST
            ∧ (s.reg Reg.FC_LATCH_SEV ≤ (s.sevOf (Sev.ofCode sev) inj).code → t.reg Reg.FC_OVERFLOW = 1))
        ∧ (flag s Reg.FC_FIRST 9 = false → s.reg Reg.FC_LATCH_SEV ≤ (s.sevOf (Sev.ofCode sev) inj).code →
            field (t.reg Reg.FC_FIRST) 9 0 = src + (s.sevOf (Sev.ofCode sev) inj).code * 64 + 512)
        ∧ ((s.sevOf (Sev.ofCode sev) inj).code < s.reg Reg.FC_LATCH_SEV →
            t.reg Reg.FC_FIRST = s.reg Reg.FC_FIRST ∧ t.reg Reg.FC_OVERFLOW = s.reg Reg.FC_OVERFLOW)
        ∧ (s.reg Reg.ALIVE_STOP_SEV ≤ (s.sevOf (Sev.ofCode sev) inj).code →
            t.reg Reg.FC_IN_FAULT = 1 ∧ t.fc.state ≠ .clear)
        ∧ (s.reg Reg.FC_EVENT_SEV ≤ (s.sevOf (Sev.ofCode sev) inj).code → evBit t Reg.EV_STATUS src = true))
  ∧ (∀ src sev chk inj s, s.seq.aonUp = true → s.seq.coreUp = false → aonSource src = true →
    Answers (.faultReport src sev chk inj) s fun t =>
      bit t.fc.aonStatus src = true
        ∧ mget 0 t.fc.aonSev src = max (mget 0 s.fc.aonSev src) (s.sevOf (Sev.ofCode sev) inj).code
        ∧ t.reg Reg.FC_STATUS = s.reg Reg.FC_STATUS ∧ t.reg Reg.FC_FIRST = s.reg Reg.FC_FIRST
        ∧ s.SameBut t [.out, .regs, .freeCtr, .rec_, .fc])
  ∧ (∀ src sev chk inj s, s.seq.aonUp = false ∨ (s.seq.coreUp = false ∧ aonSource src = false) →
    Answers (.faultReport src sev chk inj) s fun t => t = s.begin)

/-- What an event does. With the core domain up, an assigned event n sets bit n mod 48 of EV_STATUS_k, k = n div 48,
and every other event's bit stays; nothing else changes but event registers, the recorder, alerts, the port's logs and
held messages, and messages of the domain. When the bit goes from 0 to 1 and the event is unmasked and routed to
MSI-X, its vector's message goes out on PF1 of every logical device where it can be delivered, and is held there where
it cannot; that every logical device's PF1 takes part is the model's reading (DEDUCED, log entry 67). An event whose
bit is set already leaves what is held. A number that Table 12-8 does not assign does nothing. (R379, R380, R381,
R382, 12_faults_events.md) -/
def Obligations.Event_raised : Prop :=
  (∀ (s : State) n q v w al, eventAssigned n = true → s.seq.coreUp = true →
    evBit (s.raise n q v w al) Reg.EV_STATUS n = true
      ∧ (∀ m, m < 288 → m ≠ n → evBit (s.raise n q v w al) Reg.EV_STATUS m = evBit s Reg.EV_STATUS m)
      ∧ s.SameBut (s.raise n q v w al) [.out, .regs, .freeCtr, .rec_, .fc, .port, .mir]
      ∧ s.RegsBut (s.raise n q v w al) eventReg)
  ∧ (∀ (s : State) n q v w al ld, eventAssigned n = true → s.seq.coreUp = true → evBit s Reg.EV_STATUS n = false →
    evBit s Reg.EV_MASK n = false → bit (s.reg (Reg.EV_ROUTE + n)) 6 = true → ld ∈ s.lds →
    if canDeliver s ld (field (s.reg (Reg.EV_ROUTE + n)) 5 0) then
      .msix ld (field (s.reg (Reg.EV_ROUTE + n)) 5 0) ∈ (s.raise n q v w al).out
        ∧ ((s.raise n q v w al).port.fn1 ld).msix.held = (s.port.fn1 ld).msix.held
    else ((s.raise n q v w al).port.fn1 ld).msix.held
      = (s.port.fn1 ld).msix.held ++ [(field (s.reg (Reg.EV_ROUTE + n)) 5 0, n)])
  ∧ (∀ (s : State) n q v w al ld, eventAssigned n = true → s.seq.coreUp = true → evBit s Reg.EV_STATUS n = true →
    ((s.raise n q v w al).port.fn1 ld).msix.held = (s.port.fn1 ld).msix.held)
  ∧ ∀ (s : State) n q v w al, eventAssigned n = false → s.raise n q v w al = s

/-- Software's writes of the collector and the event status, and fault injection. A 1 written to a bit of FC_STATUS
clears it and its severity field; a 0 leaves both. The write that clears FC_FIRST clears FC_OVERFLOW with it. A 1
written to a bit of EV_STATUS clears it. FI_CTRL arms in ONLINE or MAINTENANCE while no injection is armed, with
FI_REMAINING its COUNT; any other write of it changes nothing. The end of an injection disarms it, leaves an INJECTION
record with FI_CTRL as armed and the reports counted, and raises INJECTION_DONE. (R366, R368, R370, R377, R379,
12_faults_events.md) -/
def Obligations.Collector_writes : Prop :=
  (∀ v s, s.seq.coreUp = true → Answers (.fcStatusWrite v) s fun t =>
    (∀ n, n < 48 → bit (t.reg Reg.FC_STATUS) n = (bit (s.reg Reg.FC_STATUS) n && !bit v n)
        ∧ fcSev t n = (if bit v n then 0 else fcSev s n))
      ∧ s.SameBut t [.out, .regs] ∧ s.RegsBut t fun id => decide (Reg.FC_STATUS ≤ id ∧ id < Reg.FC_STATUS + 4))
  ∧ (∀ s, s.seq.coreUp = true → Answers .fcFirstClear s fun t =>
    t.reg Reg.FC_FIRST = 0 ∧ t.reg Reg.FC_OVERFLOW = 0 ∧ s.SameBut t [.out, .regs]
      ∧ s.RegsBut t fun id => id == Reg.FC_FIRST || id == Reg.FC_OVERFLOW)
  ∧ (∀ k v s, k < 6 → s.seq.coreUp = true → Answers (.evStatusWrite k v) s fun t =>
    (∀ n, n < 48 → bit (t.reg (Reg.EV_STATUS + k)) n = (bit (s.reg (Reg.EV_STATUS + k)) n && !bit v n))
      ∧ s.SameBut t [.out, .regs] ∧ s.RegsBut t fun id => id == Reg.EV_STATUS + k)
  ∧ (∀ v s, s.seq.coreUp = true → s.dev = .online ∨ s.dev = .maintenance → s.fc.armed = none →
    valueOk Reg.FI_CTRL v = true → bit v 29 = true →
    Answers (.fiCtrlWrite v) s fun t =>
      t.fc.armed = some v ∧ t.fc.injReports = 0 ∧ t.reg Reg.FI_CTRL = v ∧ t.reg Reg.FI_REMAINING = field v 28 13
        ∧ s.SameBut t [.out, .regs, .fc] ∧ s.RegsBut t fun id => id == Reg.FI_CTRL || id == Reg.FI_REMAINING)
  ∧ (∀ v s, (s.dev ≠ .online ∧ s.dev ≠ .maintenance) ∨ s.fc.armed ≠ none →
    Answers (.fiCtrlWrite v) s fun t => t = s.begin)
  ∧ (∀ s v, s.fc.armed = some v → s.seq.coreUp = true → s.reg Reg.REC_SEQ ≤ s.rec_.durable + 4096 →
    s.rec_.queue.length < 1024 →
    Answers .injectionDone s fun t =>
      t.fc.armed = none ∧ t.reg Reg.FI_REMAINING = 0 ∧ bit (t.reg Reg.FI_CTRL) 29 = false
        ∧ (∃ r ∈ t.rec_.queue, r.type = .injection ∧ r.seq = s.reg Reg.REC_SEQ ∧ r.payload = [v, s.fc.injReports])
        ∧ evBit t Reg.EV_STATUS Ev.INJECTION_DONE = true
        ∧ s.SameBut t [.out, .regs, .freeCtr, .rec_, .fc, .port, .mir])

/-- Leaving the fault state. The quiet period's end in STOPPED, no vault running, with fewer than FC_RECOVERY_LIMIT
exits in the last 24 h, leaves the fault state where the device is not in FAULT: FC_IN_FAULT reads 0, FC_RECOVERIES
counts one, FAULT_RECOVERED is raised. With the limit reached the collector is LIMITED. In FAULT with the input absent
the exit waits; with it present and the core domain up the device restarts into BRINGUP. An accepted FAULT_RESTART
answers SUCCESS and leaves the fault state in the same way; while a vault runs it waits. (R375, R376,
12_faults_events.md) -/
def Obligations.Fault_exit : Prop :=
  (∀ s, s.reg Reg.FC_IN_FAULT = 1 → s.fc.state = .stopped → s.dev ≠ .vaulting → s.dev ≠ .fault →
    s.recentExits < s.reg Reg.FC_RECOVERY_LIMIT → s.seq.coreUp = true → s.reg Reg.FC_RECOVERIES + 1 < 2 ^ 32 →
    Answers .fcQuietExpiry s fun t =>
      t.reg Reg.FC_IN_FAULT = 0 ∧ t.reg Reg.FC_RECOVERIES = s.reg Reg.FC_RECOVERIES + 1 ∧ t.fc.state = .clear
        ∧ t.fc.stopSrc = none ∧ evBit t Reg.EV_STATUS Ev.FAULT_RECOVERED = true
        ∧ s.SameBut t [.out, .regs, .freeCtr, .rec_, .fc, .port, .mir, .nv])
  ∧ (∀ s, s.reg Reg.FC_IN_FAULT = 1 → s.fc.state = .stopped → s.dev ≠ .vaulting →
    s.reg Reg.FC_RECOVERY_LIMIT ≤ s.recentExits →
    Answers .fcQuietExpiry s fun t => t.fc.state = .limited ∧ s.SameBut t [.out, .fc])
  ∧ (∀ s, s.reg Reg.FC_IN_FAULT = 1 → s.fc.state = .stopped → s.dev = .fault → s.spill.present = false →
    s.recentExits < s.reg Reg.FC_RECOVERY_LIMIT →
    Answers .fcQuietExpiry s fun t => t.fc.quietWaits = true ∧ t.fc.state = .stopped ∧ s.SameBut t [.out, .fc])
  ∧ (∀ s, s.reg Reg.FC_IN_FAULT = 1 → s.fc.state = .stopped → s.dev = .fault → s.spill.present = true →
    s.recentExits < s.reg Reg.FC_RECOVERY_LIMIT → s.seq.coreUp = true →
    Answers .fcQuietExpiry s fun t => t.dev = .bringup ∧ t.reg Reg.FC_IN_FAULT = 0)
  ∧ (∀ p s, Accepted specFaultRestart p s → s.dev ≠ .fault → s.dev ≠ .vaulting → s.nv.state = .running →
    4 ≤ s.nv.logFree →
    Runs .faultRestart specFaultRestart p s St.SUCCESS [] fun t =>
      t.reg Reg.FC_IN_FAULT = 0 ∧ t.fc.state = .clear ∧ t.fc.restartWaits = false ∧ t.dev = s.dev ∧ t.mem = s.mem)

/-- The recorder's writer and its reader's cursor. Outside the windows of R387 and within REC_RATE_MAX, the writer
takes the oldest record off the queue and puts it at the head of the circulating area, and one of SEQ 1 to 4,096 into
the pinned area. A write of REC_CURSOR loads the record of lowest SEQ held at or above it: REC_SEQ_FOUND reads that
SEQ; with none held, REC_INFO reports NONE. REC_ADVANCE does the same from the SEQ after the one found. (R385, R387,
R389, 12_faults_events.md) -/
def Obligations.Recorder_moves : Prop :=
  (∀ s r rest, s.rec_.queue = r :: rest → s.recWindow = false → s.nv.state = .running → s.rec_.gap = none →
    s.rec_.lostNoSeq = 0 → (s.rec_.writes.filter fun u => decide (s.now < u + 1000)).length < s.reg Reg.REC_RATE_MAX →
    Answers .recordQueueWrite s fun t =>
      t.rec_.queue = rest ∧ (r.seq ≤ 4096 → ∃ q ∈ t.rec_.pinned, q.seq = r.seq) ∧ r.seq ≤ t.rec_.durable
        ∧ (∀ q ∈ s.rec_.pinned, q ∈ t.rec_.pinned) ∧ t.rec_.aonSeq = s.rec_.aonSeq ∧ s.SameBut t [.out, .rec_])
  ∧ (∀ s r rest, s.rec_.queue = r :: rest → s.recWindow = false → s.nv.state = .running → s.rec_.gap = none →
    s.rec_.lostNoSeq = 0 → (s.rec_.writes.filter fun u => decide (s.now < u + 1000)).length < s.reg Reg.REC_RATE_MAX →
    s.rec_.head.byte + r.size < 512 →
    Answers .recordQueueWrite s fun t =>
      t.rec_.circ = s.rec_.circ ++ [(s.rec_.head, r)]
        ∧ t.rec_.head = { s.rec_.head with byte := s.rec_.head.byte + r.size })
  ∧ (∀ v s q, s.seq.coreUp = true → v < 2 ^ 48 → q < 2 ^ 48 → v ≤ q →
    q ∈ (s.rec_.circ.map (·.2.seq)) ++ s.rec_.pinned.map (·.seq) →
    (∀ u ∈ (s.rec_.circ.map (·.2.seq)) ++ s.rec_.pinned.map (·.seq), v ≤ u → q ≤ u) →
    Answers (.recCursorWrite v) s fun t =>
      t.reg Reg.REC_CURSOR = v ∧ t.reg Reg.REC_SEQ_FOUND = q ∧ s.SameBut t [.out, .regs, .rec_]
        ∧ s.RegsBut t fun id => id == Reg.REC_CURSOR || id == Reg.REC_SEQ_FOUND || id == Reg.REC_INFO)
  ∧ (∀ v s, s.seq.coreUp = true → v < 2 ^ 48 →
    (∀ u ∈ (s.rec_.circ.map (·.2.seq)) ++ s.rec_.pinned.map (·.seq), u < v) →
    Answers (.recCursorWrite v) s fun t =>
      t.reg Reg.REC_CURSOR = v ∧ t.reg Reg.REC_INFO = 2 ^ 35 ∧ s.SameBut t [.out, .regs])
  ∧ (∀ s q, s.seq.coreUp = true → q < 2 ^ 48 → s.reg Reg.REC_SEQ_FOUND < q →
    q ∈ (s.rec_.circ.map (·.2.seq)) ++ s.rec_.pinned.map (·.seq) →
    (∀ u ∈ (s.rec_.circ.map (·.2.seq)) ++ s.rec_.pinned.map (·.seq), s.reg Reg.REC_SEQ_FOUND < u → q ≤ u) →
    Answers .recAdvance s fun t => t.reg Reg.REC_SEQ_FOUND = q ∧ s.SameBut t [.out, .regs, .rec_])

/-- EVREC_READ. EVREC_READ (0xC241) takes one SEQ. Accepted by firmware it answers SUCCESS with header and payload of
a held record whose SEQ is the lowest held at or above the one asked, and NONE with no slots when no such record is
held. The AON endpoint, which serves it while the core domain is off, answers the same of the pinned records only. It
is taken over transports 0 to 4, every one the device has for vendor commands. Nothing but what goes out and the
packet counters changes. (R391) -/
def Obligations.Recorder_read : Prop :=
  specEvrecRead.op = 0xC241 ∧ (∀ n, n < 5 → n ∈ specEvrecRead.transports) ∧ (∀ n, specEvrecRead.count n = true ↔ n = 1)
  ∧ (∀ p s q, Accepted specEvrecRead p s → p.slots.headD 0 ≤ q →
    q ∈ (s.rec_.circ.map (·.2.seq)) ++ s.rec_.pinned.map (·.seq) →
    (∀ u ∈ (s.rec_.circ.map (·.2.seq)) ++ s.rec_.pinned.map (·.seq), p.slots.headD 0 ≤ u → q ≤ u) →
    ∃ r, (r ∈ s.rec_.circ.map (·.2) ∨ r ∈ s.rec_.pinned) ∧ r.seq = q ∧ ∃ cut,
      Runs .evrecRead specEvrecRead p s St.SUCCESS (r.header cut ++ r.payload) fun t =>
        s.SameBut t [.out, .regs, .freeCtr, .mir] ∧ t.rec_ = s.rec_)
  ∧ (∀ p s, Accepted specEvrecRead p s →
    (∀ u ∈ (s.rec_.circ.map (·.2.seq)) ++ s.rec_.pinned.map (·.seq), u < p.slots.headD 0) →
    Runs .evrecRead specEvrecRead p s St.NONE [] fun t => s.SameBut t [.out, .regs, .freeCtr, .mir])
  ∧ (∀ p s q, AcceptedAon specEvrecRead p s → p.slots.headD 0 ≤ q → q ∈ s.rec_.pinned.map (·.seq) →
    (∀ u ∈ s.rec_.pinned.map (·.seq), p.slots.headD 0 ≤ u → q ≤ u) →
    ∃ r ∈ s.rec_.pinned, r.seq = q ∧
      Runs .evrecRead specEvrecRead p s St.SUCCESS (r.header r.truncated ++ r.payload) fun t =>
        s.SameBut t [.out, .regs, .freeCtr])
  ∧ (∀ p s, AcceptedAon specEvrecRead p s → (∀ u ∈ s.rec_.pinned.map (·.seq), u < p.slots.headD 0) →
    Runs .evrecRead specEvrecRead p s St.NONE [] fun t => s.SameBut t [.out, .regs, .freeCtr])

/-- Held messages and recurring alerts. When MSI-X of a logical device's PF1 is enabled, unmasked as a function and
with the masked vectors given, and the link is up, every held vector that is not masked sends its message if an event
held on it is still set and unmasked, and is held no longer; a masked vector's messages stay held, and the PF1 of
every other logical device is as it was (PF1 of each logical device on its own: DEDUCED, log entry 67). At the end of
an alert's interval an event that recurred is alerted once with its recurrence count. (R381, R383,
12_faults_events.md) -/
def Obligations.Event_delivery : Prop :=
  (∀ ld masked s, s.seq.coreUp = true → s.port.up = true →
    Answers (.heldMsixDelivery masked ld) s fun t =>
      (t.port.fn1 ld).msix.enable = true ∧ (t.port.fn1 ld).msix.funcMask = false
        ∧ (t.port.fn1 ld).msix.masked = masked
        ∧ (∀ v n, (v, n) ∈ (s.port.fn1 ld).msix.held → v ∉ masked → evBit s Reg.EV_STATUS n = true →
            evBit s Reg.EV_MASK n = false → .msix ld v ∈ t.out)
        ∧ (∀ v n, (v, n) ∈ (t.port.fn1 ld).msix.held ↔ (v, n) ∈ (s.port.fn1 ld).msix.held ∧ v ∈ masked)
        ∧ (∀ l, l ≠ ld → t.port.fn1 l = s.port.fn1 l) ∧ s.SameBut t [.out, .port])
  ∧ (∀ n k s, s.seq.aonUp = true → mget 0 s.fc.alertRecur n = k → k ≠ 0 →
    Answers (.evAlertIntervalExpiry n) s fun t =>
      t.out = [.alert n 0 s.dev.code k] ∧ mget 0 t.fc.alertRecur n = 0 ∧ mget 0 t.fc.alertLast n = s.now + 1
        ∧ s.SameBut t [.out, .fc])

/-- The early and the full mount of the NV Store. In a BRINGUP: with both headers valid and both devices in order,
holding the same ungrouped records, the early mount leaves the records as they are and publishes what the newest
pointer and restore records say; with neither header valid the layer is in NV_HOLD with its records untouched; with
device A's alone valid, A serves, B counts as replaced (no longer FAILED, empty) and is resynchronised, and memory
stays. The full mount of a store whose devices agree and that holds no delta runs the layer, takes the governing GEN,
gives every parameter the image covers its value in that GEN's image, its default where the image does not list it,
and VAULT_COUNT its counter's; memory and the Basin stay. That the slot counters stand in counter records and not in
the image is the model's reading (DEDUCED, log entry 227), as is area 0 with GEN 0 for a store that names none
(DEDUCED, log entry 10). (R397, R402, R403, R407, R410, R477, 13_nv_store_configuration.md) -/
def Obligations.Nv_mounts : Prop :=
  (∀ s, s.nv.state = .mounting → s.dev = .bringup → s.nv.a = s.nv.b → (∀ r ∈ s.nv.a, r.group = none) →
    s.nv.failedA = false → s.nv.failedB = false →
    Answers (.earlyMount true true) s fun t =>
      t.nv.early = true ∧ t.nv.state = .mounting ∧ t.nv.a = s.nv.a ∧ t.nv.b = s.nv.b ∧ t.nv.resync = false
        ∧ t.reg Reg.SHUTDOWN_RECORD = s.pointer.shutdown.code
        ∧ (s.restoreRec.retiredSeq < 2 ^ 48 → t.reg Reg.RETIRED_SEQ = s.restoreRec.retiredSeq)
        ∧ (s.restoreRec.activeSeq < 2 ^ 48 → t.reg Reg.ACTIVE_SEQ = s.restoreRec.activeSeq)
        ∧ s.SameBut t [.out, .regs, .nv])
  ∧ (∀ s, s.nv.state = .mounting → s.dev = .bringup →
    Answers (.earlyMount false false) s fun t =>
      t.nv.state = .hold ∧ t.nv.a = s.nv.a ∧ t.nv.b = s.nv.b ∧ s.SameBut t [.out, .regs, .freeCtr, .rec_, .fc, .port, .mir, .nv])
  ∧ (∀ s, s.nv.state = .mounting → s.dev = .bringup →
    Answers (.earlyMount true false) s fun t =>
      t.nv.resync = true ∧ t.nv.failedB = false ∧ t.nv.b = [] ∧ t.nv.headerA = .own ∧ t.nv.headerB = .foreign ∧ t.nv.early = true
        ∧ t.mem = s.mem ∧ t.dev = s.dev)
  ∧ (∀ s img, s.nv.state = .mounting → s.dev = .bringup → s.mgmt.state ≠ .running → s.nv.a = s.nv.b →
    (∀ r ∈ s.nv.a, r.group = none) → s.nv.failedA = false → s.nv.failedB = false → s.nv.resync = false →
    img = (if s.cfgNamed.2 = 0 then s.nv.image0 else s.nv.image1) → s.cfgNamed.1 < 2 ^ 32 →
    (∀ r ∈ s.nv.a, r.data.type ≠ 0x11) →
    Answers (.fullMount true []) s fun t =>
      t.nv.state = .running ∧ t.nv.a = s.nv.a ∧ t.reg Reg.CFG_GEN = s.cfgNamed.1 ∧ t.reg Reg.CFG_DELTAS = 0
        ∧ (∀ id, imageId id = true → (∀ p ∈ img.entries, p.1 ≠ id) → t.reg id = paramDefault id)
        ∧ (∀ id v, img.entries.filter (fun p => p.1 == id) = [(id, v)] → imageId id = true → v < 2 ^ paramWidth id →
            t.reg id = v)
        ∧ t.reg Reg.SHUTDOWN_RECORD = s.pointer.shutdown.code
        ∧ (s.counterNow 0 < 2 ^ 32 → t.reg Reg.VAULT_COUNT = s.counterNow 0)
        ∧ s.SameBut t [.out, .regs, .rec_, .nv, .cmd, .mir])

/-- Programs of the NV devices, their failures and the resynchronisation. With both devices in order, the program of
the oldest update ends on A first: A then holds its record and the update goes on with B; when that ends B holds it
too and the update is complete, and where A governs readers see it. A failed program is retried, up to three attempts:
the third failure on A marks it FAILED, as a device that stops answering is, with a report of the NV Store, FATAL
where the other device has failed already. The end of a resynchronisation leaves both devices with the records of the
device that served, neither FAILED. (R397, R399, R400, 13_nv_store_configuration.md) -/
def Obligations.Nv_programs : Prop :=
  (∀ s u rest, s.nv.buf = u :: rest → u.onA = false → u.tries = 0 → s.nv.downA = false → s.nv.downB = false →
    Answers (.nvRecordProgramDone true) s fun t =>
      t.nv.a = s.nv.a ++ [u.rec_] ∧ t.nv.b = s.nv.b ∧ t.nv.buf = { u with onA := true } :: rest ∧ s.SameBut t [.out, .nv])
  ∧ (∀ s u rest, s.nv.buf = u :: rest → u.onA = true → u.tries = 0 →
    Answers (.nvRecordProgramDone true) s fun t =>
      t.nv.a = s.nv.a ∧ t.nv.b = s.nv.b ++ [u.rec_] ∧ t.nv.buf = rest ∧ s.SameBut t [.out, .nv]
        ∧ (u.rec_ ∈ s.nv.a → s.nv.downA = false → (∀ w ∈ rest, w.rec_.nseq ≠ u.rec_.nseq) → u.rec_ ∈ t.nv.visible))
  ∧ (∀ s u rest, s.nv.buf = u :: rest → u.tries < 2 →
    Answers (.nvRecordProgramDone false) s fun t =>
      t.nv.buf = { u with tries := u.tries + 1 } :: rest ∧ t.nv.a = s.nv.a ∧ t.nv.b = s.nv.b
        ∧ t.nv.failedA = s.nv.failedA ∧ t.nv.failedB = s.nv.failedB ∧ s.SameBut t [.out, .nv])
  ∧ (∀ s u rest, s.nv.buf = u :: rest → 2 ≤ u.tries → u.onA = false → s.nv.downA = false → s.nv.failedB = false →
    s.seq.coreUp = true →
    Answers (.nvRecordProgramDone false) s fun t =>
      t.nv.failedA = true ∧ t.nv.failedB = false ∧ bit (t.reg Reg.FC_STATUS) Src.NV_STORE = true
        ∧ s.SameBut t [.out, .regs, .freeCtr, .rec_, .fc, .port, .mir, .nv])
  ∧ (∀ s, s.nv.state ≠ .down → s.nv.state ≠ .aonRead → s.nv.failedA = false → s.seq.coreUp = true →
    Answers (.nvDeviceTimeout true) s fun t =>
      t.nv.failedA = true ∧ t.nv.failedB = s.nv.failedB ∧ bit (t.reg Reg.FC_STATUS) Src.NV_STORE = true
        ∧ (s.nv.failedB = true → t.fc.fatalPend = true)
        ∧ s.SameBut t [.out, .regs, .freeCtr, .rec_, .fc, .port, .mir, .nv])
  ∧ (∀ s, s.nv.resync = true →
    Answers .nvResyncComplete s fun t =>
      t.nv.resync = false ∧ t.nv.a = t.nv.b ∧ t.nv.a = (if s.nv.headerA = .own then s.nv.a else s.nv.b)
        ∧ t.nv.failedA = false ∧ t.nv.failedB = false
        ∧ s.SameBut t [.out, .regs, .freeCtr, .rec_, .fc, .port, .mir, .nv])

/-- Compaction, erases, the scrub and the image rewrite. With A serving, at least two erased vault sectors and fewer
than NV_COMPACT_LOW erased log sectors, compaction begins the erase of the oldest log sector on A: no record outside
it goes, every live record in it that holds no bands is still held with its NSEQ and payload, and every band's record
is still held, those of the sector packed. An erase goes on from A to B and then adds the sector to the erased ones.
The scrub appends a weak live record again with the same payload and counts it. At CFG_REWRITE_AT deltas a full image
of the next GEN, of the parameters the image covers, goes into the older area, a CFG_IMAGE record naming it is
appended, and no delta is left. How a band record is keyed and packed is the model's reading (log entries 81 and 82).
(R404, R405, R406, R411, 13_nv_store_configuration.md) -/
def Obligations.Nv_upkeep : Prop :=
  (∀ s, s.nv.state = .running → s.nv.erasing = none → 2 ≤ s.nv.vaultFree → s.nv.logFree < s.reg Reg.NV_COMPACT_LOW →
    s.nv.downA = false →
    Answers .logCompaction s fun t =>
      t.nv.erasing = some ((s.nv.logHead + 1 + s.nv.logFree) % 361, false)
        ∧ (∀ r ∈ s.nv.a, r.data.inVault = true ∨ r.sector ≠ (s.nv.logHead + 1 + s.nv.logFree) % 361 → r ∈ t.nv.a)
        ∧ (∀ r ∈ s.nv.a, s.nvLive s.nv.a r = true → r.data.bands = [] →
            ∃ q ∈ t.nv.a, q.nseq = r.nseq ∧ q.data = r.data)
        ∧ (∀ r ∈ s.nv.a, ∀ x ∈ r.data.bands, (s.whl.band x.base).isSome = true → ∃ q ∈ t.nv.a, x ∈ q.data.bands)
        ∧ (∀ q ∈ t.nv.a, q.data.bands = [] → ∃ r ∈ s.nv.a, q.nseq = r.nseq ∧ q.data = r.data)
        ∧ s.SameBut t [.out, .nv])
  ∧ (∀ s k, s.nv.erasing = some (k, false) → s.nv.eraseSuspended = false → s.nv.single = false →
    Answers .norSectorEraseDone s fun t =>
      t.nv.erasing = some (k, true) ∧ t.nv.logFree = s.nv.logFree ∧ t.nv.vaultFree = s.nv.vaultFree
        ∧ s.SameBut t [.out, .nv])
  ∧ (∀ s k, s.nv.erasing = some (k, true) → s.nv.eraseSuspended = false → s.nv.held = [] →
    Answers .norSectorEraseDone s fun t =>
      t.nv.erasing = none
        ∧ (if vaultSector ≤ k then t.nv.vaultFree = s.nv.vaultFree + 1 ∧ t.nv.logFree = s.nv.logFree
            else t.nv.logFree = s.nv.logFree + 1 ∧ t.nv.vaultFree = s.nv.vaultFree)
        ∧ t.nv.a = s.nv.a ∧ t.nv.b = s.nv.b ∧ s.SameBut t [.out, .nv])
  ∧ (∀ s r, s.nv.state = .running → s.nv.downA = false → s.nv.a.filter (fun q => q.nseq == r.nseq) = [r] →
    s.nvLive s.nv.a r = true → s.nv.buf = [] → 4 ≤ s.nv.logFree → s.reg Reg.NV_WEAK_REWRITES + 1 < 2 ^ 32 →
    Answers (.nvScrub [r.nseq]) s fun t =>
      t.nv.buf.map (·.rec_.data) = [r.data] ∧ t.nv.nseq = s.nv.nseq + 1 ∧ t.nv.a = s.nv.a
        ∧ t.reg Reg.NV_WEAK_REWRITES = s.reg Reg.NV_WEAK_REWRITES + 1
        ∧ s.SameBut t [.out, .regs, .freeCtr, .rec_, .fc, .port, .mir, .nv])
  ∧ (∀ s, s.nv.state = .running → s.reg Reg.CFG_REWRITE_AT ≤ s.reg Reg.CFG_DELTAS → 4 ≤ s.nv.logFree →
    s.reg Reg.CFG_GEN + 1 < 2 ^ 32 →
    Answers .cfgImageRewrite s fun t =>
      t.reg Reg.CFG_GEN = s.reg Reg.CFG_GEN + 1 ∧ t.reg Reg.CFG_DELTAS = 0
        ∧ (if s.nv.image0.gen ≤ s.nv.image1.gen then
            t.nv.image0.gen = s.reg Reg.CFG_GEN + 1 ∧ t.nv.image1 = s.nv.image1
              ∧ t.nv.image0.entries = s.regs.filter fun p => imageId p.1
          else t.nv.image1.gen = s.reg Reg.CFG_GEN + 1 ∧ t.nv.image0 = s.nv.image0
              ∧ t.nv.image1.entries = s.regs.filter fun p => imageId p.1)
        ∧ t.nv.buf.getLast?.map (·.rec_.data) = some (.cfgImage (s.reg Reg.CFG_GEN + 1)
            (if s.nv.image0.gen ≤ s.nv.image1.gen then 0 else 1))
        ∧ s.SameBut t [.out, .regs, .nv] ∧ s.RegsBut t fun id => id == Reg.CFG_GEN || id == Reg.CFG_DELTAS)

/-- How the interpreter takes a vendor packet. A packet that reaches nobody changes nothing. On a mailbox a packet
that disagrees with the payload length gets Invalid Payload Length (return code 0x16, PRESUMED, log entry 29);
elsewhere one whose LENGTH is not a multiple of 8, exceeds 4,088 or disagrees with what is carried gets INVALID_FIELD
with CSEQ 0. One over a transport that is not the opcode's gets ACCESS_DENIED; with firmware serving, one of a class
that is not S, of an originator with a command outstanding, gets BUSY; and a journalled one with REPLAY_CHECK that
repeats an entry gets DUPLICATE with that entry's CSEQ and DETAIL and its status in the first slot. In each of these
cases the journal stays, and nothing changes but the packet counters (what they count is the model's choice, log entry
27), free values and what goes out. A packet of a journalled opcode outside the parameter group, that firmware refuses
for the state or its fields and that persists nothing, takes the next CSEQ and is journalled with that status. An
accepted one runs its body after its entry is in the journal, and is settled with the body's status, DETAIL and slots.
(R422, R423, R424, R425, R426, R430, 14_commands_journal.md) -/
def Obligations.Packet_rules : Prop :=
  (∀ (s : State) v p body, s.reaches p.transport = false → s.vendor v p body = s)
  ∧ (∀ (s : State) v p body, s.reaches p.transport = true → p.transport < 2 → p.short = true ∨ p.carried ≠ p.length →
    s.vendor v p body = s.emit (.mailbox v.op 0x16))
  ∧ (∀ (s : State) v p body, s.reaches p.transport = true → 2 ≤ p.transport → p.transport < 5 → p.short = false →
    p.length % 8 ≠ 0 ∨ 4088 < p.length ∨ p.carried ≠ p.length →
    Out.reply (pktOwed p v.op 0).origin v.op p.tag St.INVALID_FIELD 0 0 [] ∈ (s.vendor v p body).out
      ∧ s.SameBut (s.vendor v p body) [.out, .regs, .freeCtr, .mir] ∧ s.RegsBut (s.vendor v p body) counterReg)
  ∧ (∀ (s : State) v p body, s.reaches p.transport = true → p.transport < 5 → p.short = false → p.carried = p.length →
    (p.transport < 2 → p.mailbox = v.op) → p.length % 8 = 0 → p.length ≤ 4088 → p.transport ∉ v.transports →
    Out.reply (pktOwed p v.op 0).origin v.op p.tag St.ACCESS_DENIED 0 (v.detail p) [] ∈ (s.vendor v p body).out
      ∧ s.SameBut (s.vendor v p body) [.out, .regs, .freeCtr, .mir] ∧ s.RegsBut (s.vendor v p body) counterReg)
  ∧ (∀ (s : State) v p body q, s.reaches p.transport = true → p.transport < 5 → p.short = false → p.carried = p.length →
    (p.transport < 2 → p.mailbox = v.op) → p.length % 8 = 0 → p.length ≤ 4088 → p.transport ∈ v.transports →
    s.aonServes = false → v.status = false → q ∈ s.cmd.owed → q.origin = (pktOwed p v.op 0).origin → q.opcode ≠ 0xC313 →
    Out.reply (pktOwed p v.op 0).origin v.op p.tag St.BUSY 0 (v.detail p) [] ∈ (s.vendor v p body).out
      ∧ s.SameBut (s.vendor v p body) [.out, .regs, .freeCtr, .mir] ∧ s.RegsBut (s.vendor v p body) counterReg)
  ∧ (∀ (s : State) v p body e, s.reaches p.transport = true → p.transport < 5 → p.short = false → p.carried = p.length →
    (p.transport < 2 → p.mailbox = v.op) → p.length % 8 = 0 → p.length ≤ 4088 → p.transport ∈ v.transports →
    s.aonServes = false → (∀ q ∈ s.cmd.owed, q.origin ≠ (pktOwed p v.op 0).origin) → v.journal = true →
    bit p.flags 0 = true → s.cmd.replay p v.op = some e →
    Out.reply (pktOwed p v.op 0).origin v.op p.tag St.DUPLICATE e.cseq e.detail [e.status] ∈ (s.vendor v p body).out
      ∧ s.SameBut (s.vendor v p body) [.out, .regs, .freeCtr, .mir] ∧ s.RegsBut (s.vendor v p body) counterReg)
  ∧ (∀ (s : State) v p body, s.reaches p.transport = true → p.transport < 5 → p.short = false → p.carried = p.length →
    (p.transport < 2 → p.mailbox = v.op) → p.length % 8 = 0 → p.length ≤ 4088 → p.transport ∈ v.transports →
    s.aonServes = false → (∀ q ∈ s.cmd.owed, q.origin ≠ (pktOwed p v.op 0).origin ∧ q.cseq ≤ s.cmd.cseq) →
    (∀ e ∈ s.cmd.journal, e.cseq ≤ s.cmd.cseq) → v.journal = true → v.inGroup = false → bit p.flags 0 = false → v.ok s = false ∨ pktOk p v = false → v.persist s p = false →
    Out.reply (pktOwed p v.op 0).origin v.op p.tag (if v.ok s = false then St.INVALID_STATE else St.INVALID_FIELD)
        (s.cmd.cseq + 1) (v.detail p) [] ∈ (s.vendor v p body).out
      ∧ (s.vendor v p body).cmd.cseq = s.cmd.cseq + 1
      ∧ (∃ e ∈ (s.vendor v p body).cmd.journal, e.cseq = s.cmd.cseq + 1 ∧ e.opcode = v.op
          ∧ e.status = if v.ok s = false then St.INVALID_STATE else St.INVALID_FIELD)
      ∧ s.SameBut (s.vendor v p body) [.out, .regs, .freeCtr, .cmd, .mir] ∧ s.RegsBut (s.vendor v p body) counterReg)
  ∧ ∀ v p s body, Accepted v p s → v.journal = true → v.inGroup = false →
    (body (pktOwed p v.op (s.cmd.cseq + 1))
      ((s.journalAdd (s.entryOf p v.op (v.persist s p))).mirror (s.cmd.cseq + 1))).later = false →
    s.vendor v p body =
      (body (pktOwed p v.op (s.cmd.cseq + 1))
        ((s.journalAdd (s.entryOf p v.op (v.persist s p))).mirror (s.cmd.cseq + 1))).s.settle
        (pktOwed p v.op (s.cmd.cseq + 1))
        (body (pktOwed p v.op (s.cmd.cseq + 1))
          ((s.journalAdd (s.entryOf p v.op (v.persist s p))).mirror (s.cmd.cseq + 1))).status
        (body (pktOwed p v.op (s.cmd.cseq + 1))
          ((s.journalAdd (s.entryOf p v.op (v.persist s p))).mirror (s.cmd.cseq + 1))).detail
        (body (pktOwed p v.op (s.cmd.cseq + 1))
          ((s.journalAdd (s.entryOf p v.op (v.persist s p))).mirror (s.cmd.cseq + 1))).slots

/-- IDENTIFY and GET_STATUS. Accepted by firmware, IDENTIFY answers SUCCESS with the values of PART_ID,
DEVICE_REVISION, DEVICE_SERIAL, FW_VERSION_ACTIVE, CMD_PAYLOAD_MAX and MLD_ENABLE, and GET_STATUS with DEVICE_STATE,
PROTECTION_STATUS, SHUTDOWN_RECORD, FC_STATUS, FC_FIRST, FC_IN_FAULT, CEILING, DIRTY_BYTES, JOURNAL_HEAD, REC_SEQ and
MAINT_ACTIVE, one a slot in that order. Served by the AON endpoint while the core domain is off, a slot shows a value
the AON domain holds (R505) and every other slot reads 0. (R427) -/
def Obligations.Identity_reads : Prop :=
  (∀ p s, Accepted (specStatus 0xC000 0) p s →
    Runs .identify (specStatus 0xC000 0) p s St.SUCCESS
      [s.view Reg.PART_ID, s.view Reg.DEVICE_REVISION, s.view Reg.DEVICE_SERIAL, s.view Reg.FW_VERSION_ACTIVE,
        s.view Reg.CMD_PAYLOAD_MAX, s.view Reg.MLD_ENABLE]
      fun t => s.SameBut t [.out, .regs, .freeCtr, .mir] ∧ s.RegsBut t counterReg)
  ∧ (∀ p s, Accepted (specStatus 0xC001 0) p s →
    Runs .getStatus (specStatus 0xC001 0) p s St.SUCCESS
      [s.view Reg.DEVICE_STATE, s.view Reg.PROTECTION_STATUS, s.view Reg.SHUTDOWN_RECORD, s.view Reg.FC_STATUS,
        s.view Reg.FC_FIRST, s.view Reg.FC_IN_FAULT, s.view Reg.CEILING, s.view Reg.DIRTY_BYTES, s.view Reg.JOURNAL_HEAD,
        s.view Reg.REC_SEQ, s.view Reg.MAINT_ACTIVE]
      fun t => s.SameBut t [.out, .regs, .freeCtr, .mir] ∧ s.RegsBut t counterReg)
  ∧ (∀ p s, AcceptedAon (specStatus 0xC000 0) p s → s.seq.coreUp = false →
    Runs .identify (specStatus 0xC000 0) p s St.SUCCESS
      [s.view Reg.PART_ID, s.view Reg.DEVICE_REVISION, s.view Reg.DEVICE_SERIAL, 0, 0, 0]
      fun t => s.SameBut t [.out, .regs, .freeCtr])
  ∧ ∀ p s, AcceptedAon (specStatus 0xC001 0) p s → s.seq.coreUp = false →
    Runs .getStatus (specStatus 0xC001 0) p s St.SUCCESS
      [s.view Reg.DEVICE_STATE, 0, 0, 0, 0, s.view Reg.FC_IN_FAULT, 0, 0, 0, s.rec_.aonSeq, 0]
      fun t => s.SameBut t [.out, .regs, .freeCtr]

/-- PARAM_GET. Accepted by firmware, a PARAM_GET of IDs below 0x3200 that are assigned and neither RC nor WO answers
SUCCESS with each ID and its value in force, in the order given, and changes no register but the packet counters. One
ID that is RC, and no packet counter, returns its value and is cleared. A WO ID reads 0. A reserved ID, or one at
0x3200 or above, answers INVALID_FIELD in its slot with 0 beside it. The AON endpoint answers INVALID_STATE with 0 for
an assigned ID below 0x3200 that is not AON-held. (R11, R428, R429, 14_commands_journal.md) -/
def Obligations.Parameter_read : Prop :=
  (∀ p s, Accepted specParamGet p s →
    (∀ id ∈ p.slots, id < 0x3200 ∧ (rowOf id).isSome = true ∧ accessOf id ≠ some .rc ∧ accessOf id ≠ some .wo) →
    Runs .paramGet specParamGet p s St.SUCCESS (p.slots.flatMap fun id => [id, s.view id]) fun t =>
      s.SameBut t [.out, .regs, .freeCtr, .mir] ∧ s.RegsBut t counterReg)
  ∧ (∀ p s id, Accepted specParamGet p s → p.slots = [id] → id < 0x3200 → accessOf id = some .rc → counterReg id = false →
    Runs .paramGet specParamGet p s St.SUCCESS [id, s.view id] fun t =>
      t.reg id = 0 ∧ s.RegsBut t fun j => counterReg j || j == id)
  ∧ (∀ p s id, Accepted specParamGet p s → p.slots = [id] → id < 0x3200 → accessOf id = some .wo →
    Runs .paramGet specParamGet p s St.SUCCESS [id, 0] fun t => s.RegsBut t counterReg)
  ∧ (∀ p s id, Accepted specParamGet p s → p.slots = [id] → id < 65536 → rowOf id = none ∨ 0x3200 ≤ id →
    Runs .paramGet specParamGet p s St.SUCCESS [id + 0x30000, 0] fun t => s.RegsBut t counterReg)
  ∧ ∀ p s id, AcceptedAon specParamGet p s → p.slots = [id] → id < 0x3200 → (rowOf id).isSome = true → aonHeld id = false →
    Runs .paramGet specParamGet p s St.SUCCESS [id + 0x40000, 0] fun t => s.SameBut t [.out, .regs, .freeCtr]

/-- What a commit is checked for. A list of entries passes the checks of a commit exactly when every entry's ID lies
below 0x3200 and can be set, every value lies in its parameter's range with no reserved bit set, every parameter can
be written in the present state, and every group rule that looks at one of the IDs holds of the bank with the
persisted entries laid over it. Which parameters the present state holds back is what the model's writableNow says
(R51, R377, R450). (R413, R414, R429, 14_commands_journal.md) -/
def Obligations.Commit_checks : Prop :=
  ∀ (s : State) es, s.checkEntries es = none ↔
    (∀ e ∈ es, e.1 < 0x3200 ∧ settable e.1 = true ∧ valueOk e.1 e.2 = true ∧ s.writableNow e.1 = true)
      ∧ ∀ r ∈ groupRules, (∃ e ∈ es, r.2.1 e.1 = true) →
          r.2.2 (es.foldl (fun t e => if persistedId e.1 then t.setReg e.1 e.2 else t) s) = true

/-- PARAM_SET, PARAM_STAGE, PARAM_COMMIT, PARAM_DISCARD, PARAM_STAGE_READ. An accepted PARAM_SET of one persisted
parameter that passes the checks answers SUCCESS: the parameter reads the value (without the bits of reserved events,
DEDUCED, log entry 228), PARAM_GEN is one higher, every other persisted parameter reads as before, and device A, where
it is in use and the NV Store runs, holds its CFG_DELTA (a slot counter is in its counter record in place of the
image: DEDUCED, log entry 227); where a full image or a counter record is to be written too, the log is taken to have
room. A PARAM_COMMIT of a stage that passes, with no image due, sets every persisted parameter named once in the
stage, leaves those it does not name, and clears the stage. A SET of one pair or a COMMIT that fails a check answers
that status, and every persisted parameter and the stage stay. PARAM_STAGE adds the pairs to its originator's stage
and to no other, PARAM_STAGE_READ returns the stage and PARAM_DISCARD clears it; no persisted parameter changes.
(R412, R413, R414, R415, R432, 14_commands_journal.md) -/
def Obligations.Parameter_writes : Prop :=
  (∀ p s id v, Accepted specParamSet p s → p.transport < 5 → p.slots = [id, v] → persistedId id = true →
    s.checkEntries [(id, v)] = none → s.reg Reg.PARAM_GEN + 1 < 2 ^ paramWidth Reg.PARAM_GEN →
    (flag s Reg.CFG_STATUS 0 = true ∨ slotCounter id = true → 4 ≤ s.nv.logFree) →
    Runs .paramSet specParamSet p s St.SUCCESS [] fun t =>
      t.reg id = cleanValue id v ∧ t.reg Reg.PARAM_GEN = s.reg Reg.PARAM_GEN + 1
        ∧ (∀ j, persistedId j = true → j ≠ id → t.reg j = s.reg j)
        ∧ (slotCounter id = false → s.nv.downA = false → s.nv.state = .running →
            ∃ r ∈ t.nv.a, r.data = .cfgDelta id (cleanValue id v) (s.reg Reg.CFG_GEN))
        ∧ (id ≠ Reg.CHANNEL_RATE → t.res = s.res) ∧ (id < 0x0800 ∨ 0x0B00 ≤ id → t.weir = s.weir)
        ∧ s.SameBut t [.out, .regs, .freeCtr, .nv, .cmd, .port, .weir, .res, .mir])
  ∧ (∀ p s id v st bad, Accepted specParamSet p s → p.transport < 5 → p.slots = [id, v] →
    s.checkEntries [(id, v)] = some (st, bad) →
    Runs .paramSet specParamSet p s st [] fun t =>
      (∀ j, persistedId j = true → t.reg j = s.reg j) ∧ s.SameBut t [.out, .regs, .freeCtr, .cmd, .mir])
  ∧ (∀ p s es, Accepted specParamCommit p s → s.stageOf (pktOwed p 0xC013 0).origin = es → s.checkEntries es = none →
    flag s Reg.CFG_STATUS 0 = false →
    Runs .paramCommit specParamCommit p s St.SUCCESS [] fun t =>
      (∀ id v, persistedId id = true → es.filter (fun e => e.1 == id) = [(id, v)] →
          t.reg id = cleanValue id v)
        ∧ (∀ j, persistedId j = true → (∀ e ∈ es, e.1 ≠ j) → t.reg j = s.reg j)
        ∧ t.stageOf (pktOwed p 0xC013 0).origin = [])
  ∧ (∀ p s es st bad, Accepted specParamCommit p s → s.stageOf (pktOwed p 0xC013 0).origin = es →
    s.checkEntries es = some (st, bad) →
    Runs .paramCommit specParamCommit p s st [] fun t =>
      (∀ j, persistedId j = true → t.reg j = s.reg j) ∧ t.stageOf (pktOwed p 0xC013 0).origin = es
        ∧ s.SameBut t [.out, .regs, .freeCtr, .cmd, .mir])
  ∧ (∀ p s, Accepted specParamStage p s →
    stageRefuses (s.stageOf (pktOwed p 0xC012 0).origin) (pairsOf p.slots) = none →
    Runs .paramStage specParamStage p s St.SUCCESS [] fun t =>
      t.stageOf (pktOwed p 0xC012 0).origin = stageAdd (s.stageOf (pktOwed p 0xC012 0).origin) (pairsOf p.slots)
        ∧ (∀ o : Origin, o.key ≠ (pktOwed p 0xC012 0).origin.key → t.stageOf o = s.stageOf o)
        ∧ (∀ j, persistedId j = true → t.reg j = s.reg j) ∧ s.SameBut t [.out, .regs, .freeCtr, .cmd, .mir])
  ∧ (∀ p s, Accepted specParamDiscard p s →
    Runs .paramDiscard specParamDiscard p s St.SUCCESS [] fun t =>
      t.stageOf (pktOwed p 0xC014 0).origin = [] ∧ (∀ j, persistedId j = true → t.reg j = s.reg j)
        ∧ s.SameBut t [.out, .regs, .freeCtr, .cmd, .mir])
  ∧ (∀ p s, Accepted specParamStageRead p s →
    Runs .paramStageRead specParamStageRead p s St.SUCCESS
      ((s.stageOf (pktOwed p 0xC015 0).origin).flatMap fun e => [e.1, e.2])
      fun t => s.SameBut t [.out, .regs, .freeCtr, .mir] ∧ s.RegsBut t counterReg)

/-- JOURNAL_READ, JOURNAL_FIND and the journal's cursor. An accepted JOURNAL_READ of a CSEQ and a count from 1 to 127
answers the first entries at or above the CSEQ, that many at most, each in the slots of Table 14-7 after a slot whose
bit 0 is GAP, and NONE with none to give; another count is INVALID_FIELD. JOURNAL_FIND answers the newest entry of the
transport, logical device, FM flag, tag and opcode it names, else NONE. From the AON endpoint with the core domain off
JOURNAL_READ answers NONE, since the model keeps no journal there (DEDUCED, log entry 26). A write of JOURNAL_CURSOR
loads the first entry at or above it into the window. (R431, 14_commands_journal.md) -/
def Obligations.Journal_reads : Prop :=
  (∀ p s c n e l, Accepted (specStatus 0xC020 2) p s → p.slots = [c, n] → 1 ≤ n → n ≤ 127 →
    (s.cmd.journal.filter fun x => decide (c ≤ x.cseq)).take n = e :: l →
    Runs .journalRead (specStatus 0xC020 2) p s St.SUCCESS
      ((if c < e.cseq then 1 else 0) :: (e :: l).flatMap JEntry.slots)
      fun t => s.SameBut t [.out, .regs, .freeCtr, .mir] ∧ s.RegsBut t counterReg)
  ∧ (∀ p s c n, Accepted (specStatus 0xC020 2) p s → p.slots = [c, n] → 1 ≤ n → n ≤ 127 →
    (∀ x ∈ s.cmd.journal, x.cseq < c) →
    Runs .journalRead (specStatus 0xC020 2) p s St.NONE [] fun t => s.SameBut t [.out, .regs, .freeCtr, .mir])
  ∧ (∀ p s c n, Accepted (specStatus 0xC020 2) p s → p.slots = [c, n] → n = 0 ∨ 127 < n →
    Runs .journalRead (specStatus 0xC020 2) p s St.INVALID_FIELD [] fun t => s.SameBut t [.out, .regs, .freeCtr, .mir])
  ∧ (∀ p s c n, AcceptedAon (specStatus 0xC020 2) p s → s.seq.coreUp = false → p.slots = [c, n] → 1 ≤ n → n ≤ 127 →
    Runs .journalRead (specStatus 0xC020 2) p s St.NONE [] fun t => s.SameBut t [.out, .regs, .freeCtr])
  ∧ (∀ p s w e l m, Accepted (specStatus 0xC021 1) p s → p.slots = [w] → field w 15 7 = 0 →
    s.cmd.journal = l ++ e :: m →
    (e.transport = field w 2 0 ∧ e.ld = field w 5 3 ∧ b2n e.fm = field w 6 6 ∧ e.tag = field w 31 16
      ∧ e.opcode = field w 47 32) →
    (∀ x ∈ m, x.transport ≠ field w 2 0 ∨ x.ld ≠ field w 5 3 ∨ b2n x.fm ≠ field w 6 6 ∨ x.tag ≠ field w 31 16
      ∨ x.opcode ≠ field w 47 32) →
    Runs .journalFind (specStatus 0xC021 1) p s St.SUCCESS e.slots
      fun t => s.SameBut t [.out, .regs, .freeCtr, .mir] ∧ s.RegsBut t counterReg)
  ∧ (∀ p s w, Accepted (specStatus 0xC021 1) p s → p.slots = [w] → field w 15 7 = 0 →
    (∀ x ∈ s.cmd.journal, x.transport ≠ field w 2 0 ∨ x.ld ≠ field w 5 3 ∨ b2n x.fm ≠ field w 6 6
      ∨ x.tag ≠ field w 31 16 ∨ x.opcode ≠ field w 47 32) →
    Runs .journalFind (specStatus 0xC021 1) p s St.NONE [] fun t => s.SameBut t [.out, .regs, .freeCtr, .mir])
  ∧ (∀ v s e l m, s.seq.coreUp = true → v < 2 ^ 48 → s.cmd.journal = l ++ e :: m → v ≤ e.cseq → (∀ x ∈ l, x.cseq < v) →
    Answers (.journalCursorWrite v) s fun t =>
      t.reg Reg.JOURNAL_CURSOR = v ∧ t.cmd.window = e.cseq ∧ t.cmd.journal = s.cmd.journal
        ∧ s.SameBut t [.out, .regs, .cmd] ∧ s.RegsBut t fun id => id == Reg.JOURNAL_CURSOR)

/-- MAINT_START, MAINT_STOP, MAINT_STATUS. An accepted MAINT_START of an idle TRUE or SCRUB_DEEP that the currencies
cover answers SUCCESS with the activity RUNNING and its tokens held, the other activities as they were. An idle
FW_ACTIVATE or BIST_ONLINE whose energy token is not 0 and that the currencies cover waits for a re-plan with its
reply owed. An idle TRUE, SCRUB_DEEP, REHEARSE, FW_ACTIVATE or BIST_ONLINE that a currency refuses answers
MARGIN_CONFLICT with the slots of Table 14-10, stays idle and counts in MARGIN_CONFLICTS. Codes 0 and 1 and those
above 8 are INVALID_FIELD, and a second instance of any activity but RESHAPE is refused with INVALID_STATE. In ONLINE,
MAINT_STOP of a running TRUE or SCRUB_DEEP with no grant and no reply owed answers SUCCESS and leaves it IDLE with no
token. MAINT_STATUS answers one word for each activity in code order. (R436, R437, R439, 14_commands_journal.md) -/
def Obligations.Maintenance_commands : Prop :=
  (∀ p s n, Accepted specMaintStart p s → p.slots = [n] → n = 2 ∨ n = 4 → (s.cmd.act n).state = .idle →
    s.tokenCheck n = none →
    Runs .maintStart specMaintStart p s St.SUCCESS [] fun t =>
      (t.cmd.act n).state = .running
        ∧ ((t.cmd.act n).energy, (t.cmd.act n).redundancy, (t.cmd.act n).bandwidth) = s.tokensOf n
        ∧ (∀ m, 1 ≤ m → m ≤ 8 → m ≠ n → t.cmd.act m = s.cmd.act m) ∧ s.SameBut t [.out, .regs, .freeCtr, .cmd, .mir])
  ∧ (∀ p s n, Accepted specMaintStart p s → p.slots = [n] → n = 6 ∨ n = 8 → (s.cmd.act n).state = .idle →
    s.tokenCheck n = none → 0 < (s.tokensOf n).1 →
    Answers (.maintStart p) s fun t =>
      (t.cmd.act n).state = .waitPlan ∧ (t.cmd.act n).energy = (s.tokensOf n).1 ∧ (t.cmd.act n).owed.isSome = true
        ∧ (∃ q ∈ t.cmd.owed, q.cseq = s.cmd.cseq + 1 ∧ q.opcode = 0xC100) ∧ s.SameBut t [.out, .cmd])
  ∧ (∀ p s n slots, Accepted specMaintStart p s → p.slots = [n] → n = 2 ∨ n = 4 ∨ n = 5 ∨ n = 6 ∨ n = 8 →
    (s.cmd.act n).state = .idle → s.tokenCheck n = some slots → s.reg Reg.MARGIN_CONFLICTS + 1 < 2 ^ 32 →
    Runs .maintStart specMaintStart p s St.MARGIN_CONFLICT slots fun t =>
      (t.cmd.act n).state = .idle ∧ t.reg Reg.MARGIN_CONFLICTS = s.reg Reg.MARGIN_CONFLICTS + 1
        ∧ s.SameBut t [.out, .regs, .freeCtr, .cmd, .mir])
  ∧ (∀ p s n, Accepted specMaintStart p s → p.slots = [n] → n < 2 ∨ 8 < n →
    Runs .maintStart specMaintStart p s St.INVALID_FIELD [] fun t => ∀ m, t.cmd.act m = s.cmd.act m)
  ∧ (∀ p s n, Accepted specMaintStart p s → p.slots = [n] → 2 ≤ n → n ≤ 8 → n ≠ 3 → (s.cmd.act n).state ≠ .idle →
    Runs .maintStart specMaintStart p s St.INVALID_STATE [] fun t => ∀ m, t.cmd.act m = s.cmd.act m)
  ∧ (∀ p s n, Accepted specMaintStop p s → p.slots = [n] → n = 2 ∨ n = 4 → s.dev = .online →
    (s.cmd.act n).state = .running → (s.cmd.act n).grant = none → (s.cmd.act n).owed = none →
    Runs .maintStop specMaintStop p s St.SUCCESS [] fun t =>
      (t.cmd.act n).state = .idle
        ∧ (t.cmd.act n).energy = 0 ∧ (t.cmd.act n).redundancy = 0 ∧ (t.cmd.act n).bandwidth = 0
        ∧ (∀ m, 1 ≤ m → m ≤ 8 → m ≠ n → t.cmd.act m = s.cmd.act m) ∧ s.SameBut t [.out, .regs, .freeCtr, .cmd, .mir])
  ∧ (∀ p s, Accepted specMaintStatus p s →
    Runs .maintStatus specMaintStatus p s St.SUCCESS
      ([1, 2, 3, 4, 5, 6, 7, 8].map fun n => (s.cmd.act n).state.code + (s.cmd.act n).bandwidth * 8
        + (s.cmd.act n).redundancy * 2 ^ 20 + (s.cmd.act n).energy % 2 ^ 26 * 2 ^ 22)
      fun t => s.SameBut t [.out, .regs, .freeCtr, .mir] ∧ s.RegsBut t counterReg)

/-- PF1's direct registers, register writes, unassigned opcodes. With a logical device's PF1 reached, a BAR write of
an event mask that a PARAM_SET over transport 5 would carry out leaves in that mask the written bits of assigned
events (DEDUCED, log entry 228), changes no other persisted parameter, and leaves its offset with SUCCESS in
CMD_LAST_STATUS. RESEND sends or holds on that PF1 one message for each unmasked event set whose route sends one (an
MSI-X table for each logical device: DEDUCED, log entry 67). LATCH samples the counts PF1 shows. A write of a register
of access RW or RWS within its range, that the present state lets be written, stores the value; one of access RW1C,
FC_FIRST apart, clears the bits that are 1; one that cannot be set and is not persisted changes nothing. An unassigned
opcode gets UNSUPPORTED, on a mailbox as its return code 3 (PRESUMED, log entry 29). A diagnostic of the reserved
range is answered, with a status and slots that are free values, and changes nothing but the packet counters and free
values. (R10, R11, R422, R426, R435, 14_commands_journal.md) -/
def Obligations.Direct_registers : Prop :=
  (∀ ld k v s, k < 6 → s.pf1Of ld = true → Accepted specParamSet (barPkt ld (Reg.EV_MASK + k) v) s →
    s.checkEntries [(Reg.EV_MASK + k, v % 2 ^ 48)] = none → (flag s Reg.CFG_STATUS 0 = true → 4 ≤ s.nv.logFree) →
    Answers (.barParamWrite (0x80C0 + 8 * k) v ld) s fun t =>
      t.reg (Reg.EV_MASK + k) = v % 2 ^ 48 &&& assignedBits k ∧ t.reg Reg.CMD_LAST_STATUS = 0x80C0 + 8 * k
        ∧ (∀ j, persistedId j = true → j ≠ Reg.EV_MASK + k → t.reg j = s.reg j)
        ∧ s.SameBut t [.out, .regs, .freeCtr, .nv, .cmd, .port, .mir])
  ∧ (∀ ld s, s.pf1Of ld = true → Answers (.hostDoorbellResend ld) s fun t =>
    (∀ n, n < 288 → evBit s Reg.EV_STATUS n = true → evBit s Reg.EV_MASK n = false → bit (s.reg (Reg.EV_ROUTE + n)) 6 = true →
      if canDeliver s ld (field (s.reg (Reg.EV_ROUTE + n)) 5 0) then .msix ld (field (s.reg (Reg.EV_ROUTE + n)) 5 0) ∈ t.out
      else (field (s.reg (Reg.EV_ROUTE + n)) 5 0, n) ∈ (t.port.fn1 ld).msix.held)
      ∧ s.SameBut t [.out, .port])
  ∧ (∀ s, s.pf1 = true → Answers .hostDoorbellLatch s fun t =>
    t.cmd.latched = ([Reg.DIRTY_BYTES, Reg.JOURNAL_HEAD, Reg.JOURNAL_OLDEST, Reg.REC_SEQ].map fun id => (id, s.begin.view id))
      ∧ s.SameBut t [.out, .cmd])
  ∧ (∀ id v s, s.seq.coreUp = true → accessOf id = some .rw ∨ accessOf id = some .rws → v < 2 ^ 48 → valueOk id v = true →
    s.writableNow id = true →
    Answers (.registerWrite id v) s fun t =>
      t.reg id = v ∧ (∀ j, persistedId j = true → t.reg j = s.reg j) ∧ t.mem = s.mem ∧ t.dev = s.dev)
  ∧ (∀ id v s, s.seq.coreUp = true → accessOf id = some .rw1c → id ≠ Reg.FC_FIRST → v < 2 ^ 48 → valueOk id v = true →
    Answers (.registerWrite id v) s fun t =>
      (∀ n, n < paramWidth id → bit (t.reg id) n = (bit (s.reg id) n && !bit v n))
        ∧ (∀ j, persistedId j = true → t.reg j = s.reg j) ∧ s.SameBut t [.out, .regs])
  ∧ (∀ id v s, persistedId id = false → settable id = false → Answers (.registerWrite id v) s fun t => t = s.begin)
  ∧ (∀ p s, opAssigned p.opcode = false → s.reaches p.transport = true → 2 ≤ p.transport → p.transport < 5 →
    p.short = false → p.length % 8 = 0 → p.length ≤ 4088 → p.carried = p.length →
    Answers (.reservedOpcode p) s fun t =>
      (∃ o, Out.reply o p.opcode p.tag St.UNSUPPORTED 0 0 [] ∈ t.out) ∧ s.SameBut t [.out, .regs, .freeCtr, .mir])
  ∧ (∀ p s, opAssigned p.opcode = false → s.reaches p.transport = true → p.transport < 2 → p.short = false →
    p.carried = p.length → p.mailbox = p.opcode →
    Answers (.reservedOpcode p) s fun t => t.out = [.mailbox p.opcode 3] ∧ s.SameBut t [.out])
  ∧ (∀ p s, 0xC800 ≤ p.opcode → p.opcode ≤ 0xCFFF → Accepted (specCamub p.opcode) p s →
    Answers (.camubDiagnostic p) s fun t =>
      (∃ status slots, Replied (specCamub p.opcode) p t status slots) ∧ s.SameBut t [.out, .regs, .freeCtr, .mir]
        ∧ s.RegsBut t counterReg)

/-- Which messages and notices a unit takes. A message on a port that is down changes nothing; one of another
DOMAIN_ID is logged and leaves roster and grants; one to another member leaves roster, grants and roles; one to a role
the unit held before and holds no longer is answered STALE. HELLO names the neighbour and its DEPTH and joins a
linking unit, which then sends a REPORT it still owes (DEDUCED, log entry 249). A notice with a wrong CRC, of another
domain, with the core domain or the port down, or already held changes nothing; a fresh one is forwarded on every
other port that is up. Under INDEPENDENT it is kept, raises DOMAIN_FAIL_NOTICE, and at the manager ends the
originator's grants, counts it as not reported and advances CGEN (a record CGEN has room for); under ALL_OR_NONE in
ONLINE the unit commits. STALE of a newer epoch gives a unit it does not name manager the roles it names, and a
refused relay is answered ROLE_STALE; RESOLVE is answered by STALE. A stale CMD is answered STALE and not run;
DOMAIN_STATUS in any other one runs on transport 4 and its reply goes back in CMD_REPLY; CMD_REPLY settles the relay
it answers. When messages are taken, how epochs are judged, what replies carry and how an older epoch's role is
remembered are the model's (log entries 183 to 187). (R448, R453, R454, R463, 15_mirsen_domain.md) -/
def Obligations.Mir_reception : Prop :=
  (∀ c h s, msgOf c = some h → s.mirHears h.port = false → Answers c s fun t => s.SameBut t [.out])
  ∧ (∀ c h s, msgOf c = some h → s.mirHears h.port = true → h.domain ≠ s.reg Reg.DOMAIN_ID → Answers c s fun t =>
    bit (t.reg Reg.FC_STATUS) Src.MIRSEN_LINK = true ∧ t.mir.roster = s.mir.roster ∧ t.mir.grants = s.mir.grants
      ∧ s.SameBut t [.out, .regs, .freeCtr, .rec_, .fc, .port, .mir])
  ∧ (∀ c h s, msgOf c = some h → h.domain = s.reg Reg.DOMAIN_ID → h.flood = false → h.toRole = false →
    h.dst ≠ s.reg Reg.MEMBER_NO → Answers c s fun t =>
      t.mir.roster = s.mir.roster ∧ t.mir.grants = s.mir.grants ∧ t.mir.role = s.mir.role
        ∧ t.mir.manager = s.mir.manager ∧ s.SameBut t [.out, .mir])
  ∧ (∀ c h s, msgOf c = some h → s.mirHears h.port = true → h.domain = s.reg Reg.DOMAIN_ID → h.src ≠ s.reg Reg.MEMBER_NO →
    h.flood = false → h.toRole = true → s.holds h.dst = false → h.dst ∈ s.mir.former → Answers c s fun t =>
      FrameTo t 0x11 h.src [s.reg Reg.ROLE_EPOCH, s.mir.manager.getD 0x7FF, s.mir.alternate.getD 0x7FF]
        ∧ t.mir.roster = s.mir.roster ∧ t.mir.grants = s.mir.grants ∧ t.mir.role = s.mir.role
        ∧ s.SameBut t [.out, .regs, .freeCtr, .rec_, .fc, .port, .mir])
  ∧ (∀ h a m d s, s.mirHears h.port = true → h.domain = s.reg Reg.DOMAIN_ID → Answers (.hello h a m d) s fun t =>
    (mget {} t.mir.ports h.port).up = true ∧ (mget {} t.mir.ports h.port).serial = a
      ∧ (mget {} t.mir.ports h.port).member = m ∧ mget 6 t.mir.routes m = h.port
      ∧ t.mir.state = (if s.mir.state = .linking then .unsynced else s.mir.state)
      ∧ (s.mir.role ≠ .manager → h.port = 0 → d < 5 → t.reg Reg.DEPTH = d + 1)
      ∧ (s.mir.role ≠ .manager → s.mir.reportOwed = true → s.mir.state = .linking → (∃ k g, ∃ r : MHdr,
          r.toRole = true ∧ r.dst = 0 ∧ Out.frame k 0x06 r [s.reg Reg.SHUTDOWN_RECORD, g, s.reg Reg.MANIFEST_SEQ] ∈ t.out)
          ∧ t.mir.reportOwed = false)
      ∧ (s.mir.role ≠ .manager → t.nv = s.nv)
      ∧ s.SameBut t [.out, .regs, .freeCtr, .rec_, .fc, .port, .mir, .nv])
  ∧ (∀ q o g d ok s, ok = false ∨ d ≠ s.reg Reg.DOMAIN_ID ∨ s.seq.coreUp = false ∨ (mget {} s.mir.ports q).up = false
      ∨ (o, g) ∈ s.mir.notices → Answers (.failNotice q o g d ok) s fun t => s.SameBut t [.out])
  ∧ (∀ q o g s, s.seq.coreUp = true → (mget {} s.mir.ports q).up = true → (o, g) ∉ s.mir.notices →
    (s.allOrNone = false → Answers (.failNotice q o g (s.reg Reg.DOMAIN_ID) true) s fun t =>
      t.mir.notices = ((o, g) :: s.mir.notices).take 8
        ∧ (∀ k ∈ s.portsUp, k ≠ q → Out.notice k o g (s.reg Reg.DOMAIN_ID) ∈ t.out)
        ∧ evBit t Reg.EV_STATUS Ev.DOMAIN_FAIL_NOTICE = true ∧ t.dev = s.dev
        ∧ (s.mir.role = .manager → t.mir.grants = s.mir.grants.filter (fun x => x.member != o)
            ∧ (∀ r ∈ t.mir.roster, r.member = o → r.reported = false)
            ∧ (s.reg Reg.CGEN + 1 < 2 ^ 24 → t.reg Reg.CGEN = s.reg Reg.CGEN + 1))
        ∧ s.SameBut t [.out, .regs, .freeCtr, .rec_, .fc, .port, .mir, .nv])
    ∧ (s.allOrNone = true → s.dev = .online → Answers (.failNotice q o g (s.reg Reg.DOMAIN_ID) true) s fun t =>
      t.dev = .vaulting ∧ ∀ k ∈ s.portsUp, k ≠ q → Out.notice k o g (s.reg Reg.DOMAIN_ID) ∈ t.out))
  ∧ (∀ h e m a l s, Heard h s → s.reg Reg.ROLE_EPOCH < e → e < 2 ^ 24 → m ≠ s.reg Reg.MEMBER_NO →
    Answers (.stale h e m a l) s fun t =>
      t.reg Reg.ROLE_EPOCH = e ∧ t.mir.manager = (if m = 0x7FF then none else some m)
        ∧ t.mir.alternate = (if a = 0x7FF then none else some a)
        ∧ t.mir.role = (if s.reg Reg.MEMBER_NO = a then .alternate else .worker))
  ∧ (∀ h e m a l o s, Heard h s → e ≤ s.reg Reg.ROLE_EPOCH → s.mir.relays.find? (fun q => q.1 == h.mseq) = some (h.mseq, o) →
    Due o s → Answers (.stale h e m a l) s fun t =>
      Answered o t St.ROLE_STALE [] ∧ t.mir.relays = s.mir.relays.filter (fun q => q.1 != h.mseq)
        ∧ t.mir.role = s.mir.role ∧ t.mir.manager = s.mir.manager)
  ∧ (∀ h s, Heard h s → Answers (.resolve h) s fun t =>
    FrameTo t 0x11 h.src [s.reg Reg.ROLE_EPOCH, s.mir.manager.getD 0x7FF, s.mir.alternate.getD 0x7FF]
      ∧ t.mir.role = s.mir.role ∧ s.SameBut t [.out, .regs, .freeCtr, .rec_, .fc, .port, .mir])
  ∧ (∀ h p s, Heard h s → s.stale h = true → Answers (.cmd h p) s fun t =>
    FrameTo t 0x11 h.src [s.reg Reg.ROLE_EPOCH, s.mir.manager.getD 0x7FF, s.mir.alternate.getD 0x7FF]
      ∧ s.SameBut t [.out, .regs, .freeCtr, .rec_, .fc, .port, .mir])
  ∧ (∀ h p q s, Heard h s → s.stale h = false → h.port < 6 → p.opcode = 0xC300 →
    q = { p with transport := 4, ld := 0, fm := false, member := h.src, mseq := h.mseq } →
    Accepted specDomainStatus q s → Answers (.cmd h p) s fun t =>
      Replied specDomainStatus q t St.SUCCESS ([Reg.MIRSEN_STATE, Reg.DOMAIN_ROLE, Reg.ROLE_EPOCH, Reg.MEMBER_NO,
          Reg.DOMAIN_ID, Reg.CGEN, Reg.DOMAIN_POLICY, Reg.DOMAIN_STATE, Reg.PORTS_UP].map s.view)
        ∧ (∃ l, FrameTo t 0x0E h.src ([0xC300, p.tag, St.SUCCESS, 0, 0] ++ l))
        ∧ s.SameBut t [.out, .regs, .freeCtr, .mir])
  ∧ ∀ h op tag st c d l o s, Heard h s → s.stale h = false →
    s.mir.relays.find? (fun q => q.1 == h.mseq) = some (h.mseq, o) → Due o s →
    Answers (.cmdReply h op tag st c d l) s fun t =>
      Answered o t St.SUCCESS
          ([op % 65536 + at' (tag % 65536) 16 + at' (st % 65536) 32, c, d] ++ l)
        ∧ t.mir.relays = s.mir.relays.filter (fun q => q.1 != h.mseq)

/-- What each message does at the unit that acts on it. Of messages that the unit acts on (log entries 183 to 187 say
which): HEARTBEAT of a roster member not missing is noted and, heard for the first time, answered by SYNC (log entry
196); of another it changes neither roster nor notes. MGR_BEAT, at a unit that is not manager, names the manager and
the domain state and ends a takeover query. ROLE_ASSIGN of an older epoch is answered STALE; one of a newer epoch
names the roles, and a unit named manager that is not one yet takes the next epoch. SYNC hands a unit that is not
manager CGEN, DOMAIN_ID and the policy and leaves it SYNCED. REPORT of a roster member enters the roster and, at the
manager, derives the domain state again where a row of Table 1-5 holds (log entry 191); of another it leaves the
roster. STATE is taken. GRANT_REQ of a member for a domain activity is granted under the limit and refused otherwise
(its payload: DEDUCED, log entry 61). GRANT starts the activity that waits for it or ends it with DOMAIN_REFUSED;
GRANT_RELEASE drops the grant. REPLICA is held; EVENT is collected among the latest 4,096. A unit that is not manager
and misses MGR_BEAT acknowledges a takeover, and no other does; with acknowledgements of more than half of the roster
the alternate is the manager (log entry 193), with fewer it stays alternate. (R446, R450, R452, R454, R455, R456,
R457, R459, 15_mirsen_domain.md) -/
def Obligations.Mir_messages : Prop :=
  (∀ h d p g s r, Heard h s → s.stale h = false → s.mir.roster.find? (fun r => r.member == h.src) = some r → r.missing = false →
    Answers (.memberHeartbeat h d p g) s fun t =>
      mget 0 t.mir.heard h.src = s.now + 1 ∧ t.mir.roster = s.mir.roster ∧ s.SameBut t [.out, .mir]
        ∧ (mget 0 s.mir.heard h.src = 0 → h.port < 6 → ∃ l, FrameTo t 0x05 h.src
            ([s.reg Reg.CGEN, s.reg Reg.DOMAIN_POLICY, s.reg Reg.DOMAIN_ID] ++ l)))
  ∧ (∀ h d p g s, Heard h s → s.stale h = false → (∀ r ∈ s.mir.roster, r.member ≠ h.src) →
    Answers (.memberHeartbeat h d p g) s fun t =>
      t.mir.heard = s.mir.heard ∧ t.mir.roster = s.mir.roster ∧ s.SameBut t [.out, .mir])
  ∧ (∀ h e g p v s, Heard h s → s.stale h = false → s.mir.role ≠ .manager → Answers (.mgrBeat h e g p v) s fun t =>
    t.mir.lastBeat = s.now + 1 ∧ t.mir.manager = some h.src ∧ t.mir.query = none ∧ t.reg Reg.DOMAIN_STATE = v % 8
      ∧ s.SameBut t [.out, .regs, .freeCtr, .rec_, .fc, .port, .mir])
  ∧ (∀ h e m a l s, Heard h s →
    (e < s.reg Reg.ROLE_EPOCH → Answers (.roleAssign h e m a l) s fun t =>
      FrameTo t 0x11 h.src [s.reg Reg.ROLE_EPOCH, s.mir.manager.getD 0x7FF, s.mir.alternate.getD 0x7FF]
        ∧ t.mir.role = s.mir.role ∧ t.reg Reg.ROLE_EPOCH = s.reg Reg.ROLE_EPOCH
        ∧ s.SameBut t [.out, .regs, .freeCtr, .rec_, .fc, .port, .mir])
    ∧ (s.reg Reg.ROLE_EPOCH < e → e + 1 < 2 ^ 24 → Answers (.roleAssign h e m a l) s fun t =>
      t.dev = s.dev ∧ t.mem = s.mem
        ∧ (m ≠ s.reg Reg.MEMBER_NO →
            t.reg Reg.ROLE_EPOCH = e ∧ t.mir.manager = (if m = 0x7FF then none else some m)
              ∧ t.mir.alternate = (if a = 0x7FF then none else some a)
              ∧ t.mir.role = (if s.reg Reg.MEMBER_NO = a then .alternate else .worker))
        ∧ (m = s.reg Reg.MEMBER_NO → s.mir.role ≠ .manager →
            t.mir.role = .manager ∧ t.mir.manager = some m ∧ t.reg Reg.ROLE_EPOCH = e + 1)))
  ∧ (∀ h g p d l s, Heard h s → s.stale h = false → s.mir.role ≠ .manager → s.mir.state = .unsynced ∨ s.mir.state = .synced →
    g < 2 ^ 24 → d < 2 ^ 13 → Answers (.sync h g p d l) s fun t =>
      t.reg Reg.CGEN = g ∧ t.reg Reg.DOMAIN_ID = d ∧ t.mir.state = .synced ∧ t.mir.syncAll = (p == 1)
        ∧ t.mir.manager = some h.src ∧ t.mir.role = (if s.mir.role = .none then .worker else s.mir.role)
        ∧ s.SameBut t [.out, .regs, .freeCtr, .rec_, .fc, .port, .mir, .nv])
  ∧ (∀ h r g n s, Heard h s → s.stale h = false → (∃ e ∈ s.mir.roster, e.member = h.src) →
    Answers (.report h r g n) s fun t =>
      t.mir.roster = s.mir.roster.map (fun e => if e.member = h.src then
          { e with record := r, commitId := g, reported := true, missing := false } else e)
        ∧ (s.mir.role = .manager → ∀ v, domainState t.mir.roster = some v → t.reg Reg.DOMAIN_STATE = v)
        ∧ s.SameBut t [.out, .regs, .freeCtr, .rec_, .fc, .port, .mir, .nv])
  ∧ (∀ h r g n s, Heard h s → s.stale h = false → (∀ e ∈ s.mir.roster, e.member ≠ h.src) →
    Answers (.report h r g n) s fun t => t.mir.roster = s.mir.roster ∧ s.SameBut t [.out, .mir])
  ∧ (∀ h v n m s, Heard h s → s.stale h = false → s.mir.role ≠ .manager → Answers (.state h v n m) s fun t =>
    t.mir.members = n ∧ t.mir.reported = m ∧ t.reg Reg.DOMAIN_STATE = v % 8
      ∧ s.SameBut t [.out, .regs, .freeCtr, .rec_, .fc, .port, .mir])
  ∧ (∀ h n c u s, Heard h s → s.stale h = false → h.port < 6 →
    ((∃ e ∈ s.mir.roster, e.member = h.src) → domainAct n = true → s.judgeGrant n h.src u = true →
      Answers (.grantReq h n c u) s fun t =>
        ({ activity := n, member := h.src } : Grant) ∈ t.mir.grants ∧ (∃ k, FrameTo t 0x09 h.src [n, c, 1, k])
          ∧ s.SameBut t [.out, .mir])
    ∧ ((∀ e ∈ s.mir.roster, e.member ≠ h.src) ∨ domainAct n = false ∨ s.judgeGrant n h.src u = false →
      Answers (.grantReq h n c u) s fun t =>
        t.mir.grants = s.mir.grants
          ∧ FrameTo t 0x09 h.src [n, c, 0, (s.mir.grants.filter fun g => g.activity == n).length]
          ∧ s.SameBut t [.out, .mir]))
  ∧ (∀ h a c k s n, Heard h s → s.stale h = false → 1 ≤ n → n ≤ 8 →
    s.mir.asks.find? (fun q => q.1 == h.mseq) = some (h.mseq, n) → (s.cmd.act n).state = .waitDomain →
    (s.cmd.act n).grant = some h.mseq →
    (Answers (.grant h a c true k) s fun t =>
      (t.cmd.act n).state = .running ∧ (t.cmd.act n).grant = some h.mseq ∧ (t.cmd.act n).energy = (s.cmd.act n).energy
        ∧ ∀ o, (s.cmd.act n).owed = some o → Due o s → Answered o t St.SUCCESS [])
    ∧ Answers (.grant h a c false k) s fun t =>
      (t.cmd.act n).state = .idle ∧ (t.cmd.act n).energy = 0
        ∧ ∀ o, (s.cmd.act n).owed = some o → Due o s → Answered o t St.DOMAIN_REFUSED [])
  ∧ (∀ h n c s, Heard h s → s.stale h = false → Answers (.grantRelease h n c) s fun t =>
    t.mir.grants = s.mir.grants.filter (fun g => !(g.activity == n && g.member == h.src)) ∧ s.SameBut t [.out, .mir])
  ∧ (∀ h c r g s, Heard h s → s.stale h = false → Answers (.replica h c r g) s fun t =>
    t.mir.replCgen = some c ∧ t.mir.roster.map (·.member) = r.map (·.1)
      ∧ t.mir.grants = g.map (fun x => { activity := x.1, member := x.2 }) ∧ s.SameBut t [.out, .mir])
  ∧ (∀ h l s, Heard h s → s.stale h = false → Answers (.event h l) s fun t =>
    t.mir.ringSeq = s.mir.ringSeq + 1 ∧ t.mir.ring.length ≤ 4096
      ∧ t.mir.ring.getLast? = some { seq := s.mir.ringSeq + 1, member := h.src, recSeq := s.reg Reg.REC_SEQ, payload := l.take 8 }
      ∧ s.SameBut t [.out, .mir])
  ∧ (∀ h e s, Heard h s → s.stale h = false → h.port < 6 →
    (s.mir.role ≠ .manager → s.missesBeat = true → Answers (.takeoverQuery h e) s fun t =>
      FrameTo t 0x10 h.src [] ∧ s.SameBut t [.out, .mir])
    ∧ (s.mir.role = .manager ∨ s.missesBeat = false → Answers (.takeoverQuery h e) s fun t =>
      (∀ d l, ¬ FrameTo t 0x10 d l) ∧ s.SameBut t [.out, .mir]))
  ∧ ∀ h l s q, Heard h s → s.stale h = false → s.mir.query = some q → s.mir.role = .alternate → h.src ∉ q →
    (∃ e ∈ s.mir.roster, e.member = h.src) →
    (s.mir.roster.length < 2 * (q.length + 1) → s.reg Reg.ROLE_EPOCH + 1 < 2 ^ 24 → Answers (.takeoverAck h l) s fun t =>
      t.mir.role = .manager ∧ t.mir.state = .synced ∧ t.mir.query = none ∧ t.mir.manager = some (s.reg Reg.MEMBER_NO)
        ∧ t.reg Reg.ROLE_EPOCH = s.reg Reg.ROLE_EPOCH + 1 ∧ t.mir.roster = s.mir.roster)
    ∧ (2 * (q.length + 1) ≤ s.mir.roster.length → Answers (.takeoverAck h l) s fun t =>
      t.mir.role = .alternate ∧ t.mir.query = some (q ++ [h.src]) ∧ s.SameBut t [.out, .mir])

/-- Links, timers and domain opcodes. A link that comes up on a port that was down, the core domain on, holds its
neighbour and its flight, is reported as an event and takes a unit in ORPHAN back to UNSYNCED where it is an upstream
one; the manager shows DOMAIN_PATH_MAX over the links the command carries and reports one above the limit (log entry
188). A link that goes down is reported. A frame not acknowledged is sent again, and after eight retries its link goes
down (log entry 182). With firmware running a heartbeat period sends MGR_BEAT on every port of the manager, or
HEARTBEAT upstream of a joined member. A joined member with no upstream link is ORPHAN, and under ALL_OR_NONE in
ONLINE commits. A member the manager does not hear is MISSING, its grants end and it is no longer the alternate; under
ALL_OR_NONE in ONLINE the manager commits. The alternate that misses MGR_BEAT queries; a manager that hears no more
than half of the roster becomes a worker with no grant and no relay. A request not answered ends DOMAIN_REFUSED.
DOMAIN_STATUS, DOMAIN_ROSTER_READ and DOMAIN_EVENT_READ answer what the unit holds (slots: log entry 199); DOMAIN_FORM
makes a numbered unit manager of a roster of the members reached (log entry 195), an identifier of more than 13 bits
is INVALID_FIELD; DOMAIN_ADMIT adds a member whose number and serial are free, DOMAIN_REMOVE removes one other than
the manager, DOMAIN_RELAY to another member with an upstream link sends CMD and waits, DOMAIN_HANDOVER names the
alternate manager. (R444, R445, R446, R451, R452, R453, R455, R457, R459, R460, R461, 15_mirsen_domain.md) -/
def Obligations.Mir_timers_and_commands : Prop :=
  (∀ q a m d f l s, 6 ≤ q ∨ s.seq.coreUp = false ∨ (mget {} s.mir.ports q).up = true →
    Answers (.mirsenLinkUp q a m d f l) s fun t => s.SameBut t [.out])
  ∧ (∀ q a m d f l s, q < 6 → s.seq.coreUp = true → (mget {} s.mir.ports q).up = false →
    Answers (.mirsenLinkUp q a m d f l) s fun t =>
      (mget {} t.mir.ports q).up = true ∧ (mget {} t.mir.ports q).serial = a ∧ (mget {} t.mir.ports q).member = m
        ∧ (mget {} t.mir.ports q).depth = d ∧ (mget {} t.mir.ports q).flight = f
        ∧ evBit t Reg.EV_STATUS (Ev.MIRSEN_PORT_0 + q) = true
        ∧ t.mir.state = (if s.mir.state = .orphan ∧ q < 2 then .unsynced else s.mir.state)
        ∧ (s.mir.role = .manager → pathMax l < 2 ^ 16 → t.reg Reg.DOMAIN_PATH_MAX = pathMax l
            ∧ (s.reg Reg.DOMAIN_PATH_LIMIT < pathMax l → bit (t.reg Reg.FC_STATUS) Src.MIRSEN_LINK = true))
        ∧ (s.mir.role ≠ .manager → t.nv = s.nv)
        ∧ s.SameBut t [.out, .regs, .freeCtr, .rec_, .fc, .port, .mir, .nv])
  ∧ (∀ q l s, (mget {} s.mir.ports q).up = false → Answers (.mirsenLinkDown q l) s fun t => s.SameBut t [.out])
  ∧ (∀ q l s, q < 6 → s.seq.coreUp = true → (mget {} s.mir.ports q).up = true → Answers (.mirsenLinkDown q l) s fun t =>
    (mget {} t.mir.ports q).up = false ∧ (∀ k, k ≠ q → (mget {} t.mir.ports k).up = (mget {} s.mir.ports k).up)
      ∧ bit (t.reg Reg.FC_STATUS) Src.MIRSEN_LINK = true ∧ evBit t Reg.EV_STATUS (Ev.MIRSEN_PORT_0 + q) = true
      ∧ s.SameBut t [.out, .regs, .freeCtr, .rec_, .fc, .port, .mir])
  ∧ (∀ q n s, (s.mir.unacked.filter fun u => u.port == q).length ≤ n →
    Answers (.frameAckTimeout q n) s fun t => s.SameBut t [.out])
  ∧ (∀ q n u l s, (s.mir.unacked.filter fun u => u.port == q).drop n = u :: l → Answers (.frameAckTimeout q n) s fun t =>
    (u.tries < 8 → Out.frame q u.type u.hdr u.payload ∈ t.out
        ∧ (mget {} t.mir.ports q).retries = (mget {} s.mir.ports q).retries + 1)
      ∧ (8 ≤ u.tries → (mget {} t.mir.ports q).up = false)
      ∧ s.SameBut t [.out, .regs, .freeCtr, .rec_, .fc, .port, .mir])
  ∧ (∀ s, s.mgmt.state ≠ .running ∨ (s.mir.role ≠ .manager ∧ s.mir.state ≠ .unsynced ∧ s.mir.state ≠ .synced) →
    Answers .heartbeatPeriodExpiry s fun t => s.SameBut t [.out])
  ∧ (∀ s, s.mgmt.state = .running → s.mir.role = .manager → Answers .heartbeatPeriodExpiry s fun t =>
    (∀ k ∈ s.portsUp, ∃ h, h.flood = true ∧ Out.frame k 0x03 h
        [s.reg Reg.ROLE_EPOCH, s.reg Reg.CGEN, s.reg Reg.DOMAIN_POLICY, s.reg Reg.DOMAIN_STATE] ∈ t.out)
      ∧ s.SameBut t [.out, .mir])
  ∧ (∀ s, s.mgmt.state = .running → s.mir.role ≠ .manager → s.mir.state = .unsynced ∨ s.mir.state = .synced →
    s.upPort.isSome = true → Answers .heartbeatPeriodExpiry s fun t =>
      (∃ k h, h.toRole = true ∧ h.dst = 0 ∧ Out.frame k 0x02 h
          [s.dev.code, s.view Reg.PROTECTION_STATUS, s.reg Reg.CGEN] ∈ t.out) ∧ s.SameBut t [.out, .mir])
  ∧ (∀ s, s.mir.role = .manager ∨ s.upPort.isSome = true ∨ s.seq.coreUp = false
      ∨ (s.mir.state ≠ .unsynced ∧ s.mir.state ≠ .synced) → Answers .orphanTimeExpiry s fun t => s.SameBut t [.out])
  ∧ (∀ s, s.mir.role ≠ .manager → s.upPort = none → s.seq.coreUp = true → s.mir.state = .unsynced ∨ s.mir.state = .synced →
    (s.allOrNone = false → Answers .orphanTimeExpiry s fun t =>
      t.mir.state = .orphan ∧ bit (t.reg Reg.FC_STATUS) Src.MIRSEN_LINK = true ∧ t.dev = s.dev
        ∧ s.SameBut t [.out, .regs, .freeCtr, .rec_, .fc, .port, .mir])
    ∧ (s.allOrNone = true → s.dev = .online → Answers .orphanTimeExpiry s fun t => t.dev = .vaulting))
  ∧ (∀ m l s, s.mir.role = .manager → s.mgmt.state = .running → m ≠ s.reg Reg.MEMBER_NO →
    (∃ r ∈ s.mir.roster, r.member = m ∧ r.missing = false) → s.seq.coreUp = true →
    (s.allOrNone = false → Answers (.memberTimeoutExpiry m l) s fun t =>
      t.mir.roster = s.mir.roster.map (fun r => if r.member = m then { r with missing := true } else r)
        ∧ t.mir.grants = s.mir.grants.filter (fun g => g.member != m) ∧ t.mir.alternate ≠ some m
        ∧ bit (t.reg Reg.FC_STATUS) Src.MIRSEN_LINK = true ∧ t.dev = s.dev ∧ t.mem = s.mem)
    ∧ (s.allOrNone = true → s.dev = .online → Answers (.memberTimeoutExpiry m l) s fun t => t.dev = .vaulting))
  ∧ (∀ s, s.mgmt.state = .running →
    (s.mir.role = .alternate → Answers .mgrTimeoutExpiry s fun t =>
      t.mir.query = some [] ∧ (∀ k ∈ s.portsUp, ∃ h, Out.frame k 0x0F h [s.reg Reg.ROLE_EPOCH] ∈ t.out)
        ∧ s.SameBut t [.out, .mir])
    ∧ (s.mir.role = .manager → 2 * s.heardNow ≤ s.mir.roster.length → Answers .mgrTimeoutExpiry s fun t =>
      t.mir.role = .worker ∧ t.mir.manager = none ∧ t.mir.grants = [] ∧ t.mir.relays = [])
    ∧ (s.mir.role = .manager → s.mir.roster.length < 2 * s.heardNow → Answers .mgrTimeoutExpiry s fun t =>
      s.SameBut t [.out]))
  ∧ (∀ s, Answers .takeoverWindowExpiry s fun t => t.mir = { s.mir with query := none } ∧ s.SameBut t [.out, .mir])
  ∧ (∀ n s, (s.cmd.act n).state ≠ .waitDomain ∨ n = 0 ∨ 8 < n → Answers (.grantWaitExpiry n) s fun t => s.SameBut t [.out])
  ∧ (∀ n s, 1 ≤ n → n ≤ 8 → (s.cmd.act n).state = .waitDomain → Answers (.grantWaitExpiry n) s fun t =>
    (t.cmd.act n).state = .idle ∧ (t.cmd.act n).energy = 0
      ∧ ∀ o, (s.cmd.act n).owed = some o → Due o s → Answered o t St.DOMAIN_REFUSED [])
  ∧ (∀ p s, Accepted specDomainStatus p s → Runs .domainStatus specDomainStatus p s St.SUCCESS
    ([Reg.MIRSEN_STATE, Reg.DOMAIN_ROLE, Reg.ROLE_EPOCH, Reg.MEMBER_NO, Reg.DOMAIN_ID, Reg.CGEN, Reg.DOMAIN_POLICY,
      Reg.DOMAIN_STATE, Reg.PORTS_UP].map s.view) fun t => s.SameBut t [.out, .regs, .freeCtr, .mir])
  ∧ (∀ p s a n, Accepted specDomainRosterRead p s → p.slots = [a, n] →
    (1 ≤ n → n ≤ 127 → Runs .domainRosterRead specDomainRosterRead p s St.SUCCESS
      (((sortBy (fun x y => decide (x.member ≤ y.member)) (s.mir.roster.filter fun r => decide (a ≤ r.member))).take n).flatMap
        RosterRec.slots) fun t => s.SameBut t [.out, .regs, .freeCtr, .mir])
    ∧ (n = 0 ∨ 127 < n → Runs .domainRosterRead specDomainRosterRead p s St.INVALID_FIELD [] fun t =>
      s.SameBut t [.out, .regs, .freeCtr, .mir]))
  ∧ (∀ p s a, Accepted specDomainEventRead p s → p.slots = [a] →
    Runs .domainEventRead specDomainEventRead p s St.SUCCESS
      (((s.mir.ring.filter fun e => decide (a ≤ e.seq)).take 60).flatMap fun e =>
        [e.seq, e.member, e.recSeq, e.payload.getD 0 0, e.payload.getD 1 0]) fun t => s.SameBut t [.out, .regs, .freeCtr, .mir])
  ∧ (∀ p s i l c, Accepted specDomainForm p s → p.slots = [i] →
    (i < 2 ^ 13 → s.reg Reg.MEMBER_NO ≠ 0x7FF → s.reg Reg.ROLE_EPOCH + 1 < 2 ^ 24 →
      Runs (.domainForm · l c) specDomainForm p s St.SUCCESS [] fun t =>
        t.mir.role = .manager ∧ t.mir.manager = some (s.reg Reg.MEMBER_NO) ∧ t.reg Reg.DOMAIN_ID = i
          ∧ t.reg Reg.ROLE_EPOCH = s.reg Reg.ROLE_EPOCH + 1
          ∧ (∀ m, (∃ r ∈ t.mir.roster, r.member = m) ↔ m = s.reg Reg.MEMBER_NO ∨ ∃ x ∈ l, x.1 = m)
          ∧ (t.mir.roster.map (·.member)).Nodup ∧ t.dev = s.dev ∧ t.mem = s.mem)
    ∧ (2 ^ 13 ≤ i → Runs (.domainForm · l c) specDomainForm p s St.INVALID_FIELD [] fun t =>
        t.reg Reg.DOMAIN_ID = s.reg Reg.DOMAIN_ID ∧ t.mir.roster = s.mir.roster))
  ∧ (∀ p s a m, Accepted specDomainAdmit p s → p.slots = [a, m] →
    (m < 1024 → (∀ r ∈ s.mir.roster, r.member ≠ m ∧ r.serial ≠ a) → Runs .domainAdmit specDomainAdmit p s St.SUCCESS [] fun t =>
      t.mir.roster = s.mir.roster ++ [{ member := m, serial := a, reported := true }] ∧ t.dev = s.dev ∧ t.mem = s.mem)
    ∧ (1024 ≤ m ∨ (∃ r ∈ s.mir.roster, r.member = m ∨ r.serial = a) →
        Runs .domainAdmit specDomainAdmit p s St.INVALID_FIELD [] fun t => t.mir.roster = s.mir.roster))
  ∧ (∀ p s m l, Accepted specDomainRemove p s → p.slots = [m] → m ≠ s.reg Reg.MEMBER_NO → (∃ r ∈ s.mir.roster, r.member = m) →
    Runs (.domainRemove · l) specDomainRemove p s St.SUCCESS [] fun t =>
      t.mir.roster = s.mir.roster.filter (fun r => r.member != m)
        ∧ t.mir.grants = s.mir.grants.filter (fun g => g.member != m) ∧ t.mir.alternate ≠ some m
        ∧ t.dev = s.dev ∧ t.mem = s.mem)
  ∧ (∀ p s m w l, Accepted specDomainRelay p s → p.slots = m :: w :: l → m < 1024 → m ≠ s.reg Reg.MEMBER_NO →
    s.upPort.isSome = true → Answers (.domainRelay p) s fun t =>
      FrameTo t 0x0D m ([field w 15 0, field w 31 16, field w 47 32, 8 * l.length] ++ l)
        ∧ t.mir.relays = s.mir.relays ++ [(t.mir.mseq, pktOwed p 0xC313 (s.cmd.cseq + 1))]
        ∧ t.cmd.owed = s.cmd.owed ++ [pktOwed p 0xC313 (s.cmd.cseq + 1)] ∧ s.SameBut t [.out, .mir, .cmd])
  ∧ ∀ p s, Accepted specDomainHandover p s →
    (∀ a, s.mir.alternate = some a → s.reg Reg.ROLE_EPOCH + 1 < 2 ^ 24 →
      Runs .domainHandover specDomainHandover p s St.SUCCESS [] fun t =>
        t.mir.role = .worker ∧ t.mir.manager = some a ∧ t.mir.alternate = none
          ∧ t.reg Reg.ROLE_EPOCH = s.reg Reg.ROLE_EPOCH + 1)
    ∧ (s.mir.alternate = none → Runs .domainHandover specDomainHandover p s St.INVALID_STATE [] fun t =>
        t.mir.role = .manager ∧ t.mir.manager = s.mir.manager)

/-- Restarts, the boot ROM, clocks, temperature, ageing, trends and counters. A lockstep mismatch or watchdog expiry
of running firmware with no restart in the last 10 s restarts the management core: RESTARTING, MGMT_RESTARTS one
higher, stages lost, mailbox replies discarded, the journal kept, a report on MGMT_CPU; one within 10 s of a restart
is FATAL in its place (log entry 213). A double-bit error in the journal's region takes the entries it names out
alone, another one restarts running firmware. A start that waits for RUNNING reaches it; after an activation whose
slot passes the check that slot is active, FW_SVN_MIN is raised and FW_LAST_RESULT reads PASSED. With FW_BOOT resolved
and TRIAL clear the boot ROM starts the slot FW_BOOT names when it is in order, else the other with FW_LAST_RESULT 4,
else it enters recovery mode (log entry 202). The check window shows the lost clocks; a lost core clock is FATAL, a
lost flash clock disables its four channels (log entry 212). A thermal sample shows the eight sensors and the hottest,
and reports TJ_WARN and TJ_CRIT when newly reached. The ageing monitors' least slack is shown and moves VCORE_TARGET
one step from VCORE_NOW (log entry 214), and at AGE_SLACK_FATAL is FATAL. The daily trend keeps each rank's count. A
day adds one to DAY_OF_SERVICE, and COUNTER_LATCH samples the counters. (R467, R468, R470, R473, R474, R475, R478,
R479, R481, R484, R488, 16_management_lifecycle.md) -/
def Obligations.Management_health : Prop :=
  (∀ c s, c = .lockstepMismatch ∨ c = .watchdogExpiry →
    (s.mgmt.state = .off → Answers c s fun t => s.SameBut t [.out])
    ∧ (s.mgmt.state = .running → s.mgmt.lastRestart = 0 ∨ s.mgmt.lastRestart - 1 + 10000 ≤ s.now → s.seq.coreUp = true →
        s.reg Reg.MGMT_RESTARTS + 1 < 2 ^ 32 →
        Answers c s fun t =>
          t.mgmt.state = .restarting ∧ t.mgmt.lastRestart = s.now + 1 ∧ t.mgmt.pldm = .idle
            ∧ t.reg Reg.MGMT_RESTARTS = s.reg Reg.MGMT_RESTARTS + 1 ∧ t.cmd.stages = [] ∧ t.cmd.journal = s.cmd.journal
            ∧ (∀ q ∈ t.cmd.owed, q.origin.transport < 2 → q.discard = true)
            ∧ bit (t.reg Reg.FC_STATUS) Src.MGMT_CPU = true
            ∧ s.SameBut t [.out, .regs, .freeCtr, .rec_, .fc, .port, .mir, .cmd, .mgmt])
    ∧ (s.mgmt.state ≠ .off → s.mgmt.lastRestart ≠ 0 → s.now < s.mgmt.lastRestart - 1 + 10000 →
        Answers c s fun t => t.fc.fatalPend = true ∧ s.SameBut t [.out, .regs, .freeCtr, .rec_, .fc, .port, .mir]))
  ∧ (∀ j s, s.seq.coreUp = false → Answers (.mgmtSramDoubleBitError j) s fun t => s.SameBut t [.out])
  ∧ (∀ l s, s.seq.coreUp = true → Answers (.mgmtSramDoubleBitError (some l)) s fun t =>
    t.cmd.journal = s.cmd.journal.filter (fun e => !l.contains e.cseq) ∧ bit (t.reg Reg.FC_STATUS) Src.MGMT_SRAM = true
      ∧ s.SameBut t [.out, .regs, .freeCtr, .rec_, .fc, .port, .mir, .cmd])
  ∧ (∀ s, s.seq.coreUp = true → s.mgmt.state = .running → s.mgmt.lastRestart = 0 →
    Answers (.mgmtSramDoubleBitError none) s fun t =>
      t.mgmt.state = .restarting ∧ bit (t.reg Reg.FC_STATUS) Src.MGMT_SRAM = true ∧ t.cmd.journal = s.cmd.journal)
  ∧ (∀ g s, s.mgmt.state = .off ∨ s.mgmt.state = .running → Answers (.mgmtRunning g) s fun t => s.SameBut t [.out])
  ∧ (∀ g s, s.mgmt.state = .bootRom → s.mgmt.started = true → Answers (.mgmtRunning g) s fun t =>
    t.mgmt = { s.mgmt with state := .running } ∧ s.SameBut t [.out, .rec_, .mgmt])
  ∧ (∀ g s a, s.mgmt.state = .restarting → s.mgmt.activation = some a → a.started = true →
    (s.slotCheck a.slot g ≠ 0 → Answers (.mgmtRunning g) s fun t => s.SameBut t [.out])
    ∧ (s.slotCheck a.slot g = 0 → s.mgmt.svn a.slot < 2 ^ 16 → Answers (.mgmtRunning g) s fun t =>
        t.mgmt = { s.mgmt with state := .running, active := a.slot, activation := none }
          ∧ t.reg Reg.FW_LAST_RESULT = 1 ∧ t.reg Reg.FW_SVN_MIN = Nat.max (s.reg Reg.FW_SVN_MIN) (s.mgmt.svn a.slot)
          ∧ t.cmd.fwActivate.state = .idle))
  ∧ (∀ okA okB s n, s.mgmt.state = .bootRom → s.mgmt.started = false → s.mgmt.recovery = false → s.nv.early = true →
    s.fwBoot = (n, false) →
    (s.slotCheck n (if n = 0 then okA else okB) = 0 → Answers (.bootRomStart okA okB) s fun t =>
      t.mgmt = { s.mgmt with active := n, started := true, recovery := false } ∧ s.SameBut t [.out, .mgmt])
    ∧ (s.slotCheck n (if n = 0 then okA else okB) ≠ 0 →
        s.slotCheck (1 - n) (if 1 - n = 0 then okA else okB) = 0 → Answers (.bootRomStart okA okB) s fun t =>
      t.mgmt = { s.mgmt with active := 1 - n, started := true, recovery := false } ∧ t.reg Reg.FW_LAST_RESULT = 4
        ∧ s.SameBut t [.out, .regs, .mgmt])
    ∧ (s.slotCheck n (if n = 0 then okA else okB) ≠ 0 →
        s.slotCheck (1 - n) (if 1 - n = 0 then okA else okB) ≠ 0 → s.seq.coreUp = true →
      Answers (.bootRomStart okA okB) s fun t =>
        t.mgmt = { s.mgmt with recovery := true } ∧ bit (t.reg Reg.FC_STATUS) Src.MGMT_CPU = true))
  ∧ (∀ lost s, s.seq.coreUp = true → clearBits (lost % 2 ^ 28) (s.reg Reg.CLOCK_STATUS) = 0 →
    Answers (.clockCheckWindow lost) s fun t =>
      t.reg Reg.CLOCK_STATUS = lost % 2 ^ 28 ∧ s.SameBut t [.out, .regs] ∧ s.RegsBut t (· == Reg.CLOCK_STATUS))
  ∧ (∀ s, s.seq.coreUp = true → bit (s.reg Reg.CLOCK_STATUS) 0 = false → Answers (.clockCheckWindow 1) s fun t =>
    t.reg Reg.CLOCK_STATUS = 1 ∧ t.fc.fatalPend = true ∧ s.SameBut t [.out, .regs, .freeCtr, .rec_, .fc, .port, .mir])
  ∧ (∀ s k, s.seq.coreUp = true → k < 8 → bit (s.reg Reg.CLOCK_STATUS) (12 + k) = false →
    Answers (.clockCheckWindow (2 ^ (12 + k))) s fun t =>
      (∀ i, i < 4 → 4 * k + i ∈ t.res.disabled) ∧ t.rill.large = s.rill.large ∧ t.rill.fine = s.rill.fine ∧ t.mem = s.mem)
  ∧ (∀ l s, s.seq.coreUp = true → l.length = 8 → Answers (.thermalSample l) s fun t =>
    (∀ i x, l[i]? = some x → t.reg (Reg.DIE_SENSOR + i) = temp8 x)
      ∧ ∃ hot ∈ l, (∀ x ∈ l, x ≤ hot) ∧ t.reg Reg.TJ_NOW = temp8 hot
        ∧ (s.mgmt.tjWarn = false → (s.reg Reg.TJ_WARN : Int) ≤ hot →
            t.mgmt.tjWarn = true ∧ bit (t.reg Reg.FC_STATUS) Src.THERMAL = true)
        ∧ (s.mgmt.tjCrit = false → (s.reg Reg.TJ_CRIT : Int) ≤ hot → t.mgmt.tjCrit = true ∧ t.fc.fatalPend = true)
        ∧ (hot < (s.reg Reg.TJ_WARN : Int) → hot < (s.reg Reg.TJ_CRIT : Int) → s.SameBut t [.out, .regs, .mgmt]))
  ∧ (∀ l s, s.mgmt.state = .running → l.length = 12 → s.ageHeld = false → Answers (.agePeriodExpiry l) s fun t =>
    (∀ i x, l[i]? = some x → t.reg (Reg.PATH_DELAY + i) = Nat.min 1023 x)
      ∧ (∃ i, i < 12 ∧ t.reg Reg.AGE_SLACK_MIN = t.reg (Reg.PATH_DELAY + i))
      ∧ (∀ i, i < 12 → t.reg Reg.AGE_SLACK_MIN ≤ t.reg (Reg.PATH_DELAY + i))
      ∧ (t.reg Reg.AGE_SLACK_MIN < s.reg Reg.AGE_SLACK_LOW → s.reg Reg.VCORE_NOW + s.reg Reg.VCORE_STEP < 2 ^ 10 →
          t.reg Reg.VCORE_TARGET = s.reg Reg.VCORE_NOW + s.reg Reg.VCORE_STEP)
      ∧ (s.reg Reg.AGE_SLACK_LOW ≤ t.reg Reg.AGE_SLACK_MIN → s.reg Reg.AGE_SLACK_HIGH < t.reg Reg.AGE_SLACK_MIN →
          s.reg Reg.VCORE_NOW < 2 ^ 10 → t.reg Reg.VCORE_TARGET = s.reg Reg.VCORE_NOW - s.reg Reg.VCORE_STEP)
      ∧ (t.reg Reg.AGE_SLACK_MIN ≤ s.reg Reg.AGE_SLACK_FATAL → t.fc.fatalPend = true)
      ∧ s.SameBut t [.out, .regs, .freeCtr, .rec_, .fc, .port, .mir])
  ∧ (∀ s, s.mgmt.state = .running → Answers .dramTrendDaily s fun t =>
    (∀ r a, (r, a) ∈ s.basin.rankErrs → s.now < a + 86400000 →
        (mget [] t.mgmt.ceDaily r).head?
          = some (s.basin.rankErrs.filter fun p => decide (s.now < p.2 + 86400000) && p.1 == r).length)
      ∧ t.basin.rankErrs = s.basin.rankErrs ∧ t.basin.dst = s.basin.dst ∧ t.mem = s.mem)
  ∧ (∀ s, s.seq.aonUp = true → s.reg Reg.DAY_OF_SERVICE + 1 < 2 ^ 16 → Answers .dayOfServiceTick s fun t =>
    t.reg Reg.DAY_OF_SERVICE = s.reg Reg.DAY_OF_SERVICE + 1 ∧ s.SameBut t [.out, .regs]
      ∧ s.RegsBut t (· == Reg.DAY_OF_SERVICE))
  ∧ (∀ v s, s.seq.coreUp = true → v % 2 = 1 → Answers (.counterLatch v) s fun t =>
    t.cmd.latched = counterIds.map (fun id => (id, s.view id)) ∧ s.SameBut t [.out, .cmd])
  ∧ ∀ v s, s.seq.coreUp = false ∨ v % 2 = 0 → Answers (.counterLatch v) s fun t => s.SameBut t [.out]

/-- Firmware slots by command and by PLDM. Accepted by firmware, FW_INFO answers the active slot, both versions and
SVNs, FW_SVN_MIN and FW_LAST_RESULT. FW_WRITE to the inactive slot, with no update or activation in hand, stores its
bytes, six a slot, from the offset on and leaves the active image; to the active one or with one in hand it answers
INVALID_STATE, with reserved bits or outside the slot INVALID_FIELD. FW_VERIFY answers SUCCESS and shows a failed
check in FW_LAST_RESULT (log entry 203). FW_ACTIVATE with room for its energy token, which is not 0, waits for a
re-plan with the inactive slot named; with one in hand it is INVALID_STATE. A started activation that does not reach
RUNNING reads 4. A PLDM request that does not reach the update agent changes nothing. The agent's states, codes and
fields are PRESUMED (log entries 29, 206): it goes from IDLE over LEARN, READY, DOWNLOAD, VERIFY and APPLY back to
READY, in recovery mode to IDLE with the slot started, and to ACTIVATE in ONLINE with room for the token; it writes
the received bytes to the inactive slot alone, sends a failed check's verdict, and a cancel takes it to READY or IDLE.
(R478, R482, R483, R484, 16_management_lifecycle.md) -/
def Obligations.Firmware_updates : Prop :=
  (∀ p s, Accepted specFwInfo p s → Runs .fwInfo specFwInfo p s St.SUCCESS
    [s.mgmt.active, fwField s.mgmt.slotA 4 6, s.mgmt.svn 0, fwField s.mgmt.slotB 4 6, s.mgmt.svn 1, s.reg Reg.FW_SVN_MIN,
      s.reg Reg.FW_LAST_RESULT] fun t => s.SameBut t [.out, .regs, .freeCtr, .mir] ∧ s.RegsBut t counterReg)
  ∧ (∀ p s w data, Accepted specFwWrite p s → p.slots = w :: data → field w 7 1 = 0 → field w 47 8 < slotBytes →
    w % 2 ≠ s.mgmt.active → s.mgmt.active < 2 → s.mgmt.pldm = .idle → s.mgmt.activation = none →
    Runs .fwWrite specFwWrite p s St.SUCCESS [] fun t =>
      (∀ k v i, data[k]? = some v → i < 6 → field w 47 8 + 6 * k + i < slotBytes →
          fwByte (t.mgmt.slot (w % 2)) (field w 47 8 + 6 * k + i) = v / 256 ^ i % 256)
        ∧ (∀ i, i < field w 47 8 ∨ field w 47 8 + 6 * data.length ≤ i →
            fwByte (t.mgmt.slot (w % 2)) i = fwByte (s.mgmt.slot (w % 2)) i)
        ∧ t.mgmt.slot s.mgmt.active = s.mgmt.slot s.mgmt.active ∧ t.mgmt.active = s.mgmt.active
        ∧ s.SameBut t [.out, .regs, .freeCtr, .mir, .cmd, .mgmt])
  ∧ (∀ p s w data, Accepted specFwWrite p s → p.slots = w :: data → field w 7 1 = 0 → field w 47 8 < slotBytes →
    w % 2 = s.mgmt.active ∨ s.mgmt.pldm ≠ .idle ∨ s.mgmt.activation.isSome = true →
    Runs .fwWrite specFwWrite p s St.INVALID_STATE [] fun t => s.SameBut t [.out, .regs, .freeCtr, .mir, .cmd])
  ∧ (∀ p s w data, Accepted specFwWrite p s → p.slots = w :: data → field w 7 1 ≠ 0 ∨ slotBytes ≤ field w 47 8 →
    Runs .fwWrite specFwWrite p s St.INVALID_FIELD [] fun t => s.SameBut t [.out, .regs, .freeCtr, .mir, .cmd])
  ∧ (∀ p g s n, Accepted specFwVerify p s → p.slots = [n] → n < 2 →
    Runs (fun p => .fwVerify p g) specFwVerify p s St.SUCCESS [] fun t =>
      t.reg Reg.FW_LAST_RESULT = (if s.slotCheck n g = 0 then s.reg Reg.FW_LAST_RESULT else s.slotCheck n g)
        ∧ s.SameBut t [.out, .regs, .freeCtr, .mir, .cmd])
  ∧ (∀ p s, Accepted specFwActivate p s → s.mgmt.activation = none → s.mgmt.pldm = .idle → s.cmd.fwActivate.state = .idle →
    0 < s.reg Reg.E_TOKEN_FW_ACTIVATE →
    s.reg Reg.E_TOKEN_FW_ACTIVATE * 100 ≤ s.reg Reg.ENERGY_MARGIN_AVAIL * (100 + s.reg Reg.WEIR_MARGIN) →
    Answers (.fwActivate p) s fun t =>
      t.mgmt = { s.mgmt with activation := some { slot := 1 - s.mgmt.active, pldm := false } }
        ∧ t.cmd.fwActivate.state = .waitPlan ∧ t.cmd.fwActivate.energy = s.reg Reg.E_TOKEN_FW_ACTIVATE
        ∧ t.cmd.owed = s.cmd.owed ++ [pktOwed p 0xC403 (s.cmd.cseq + 1)])
  ∧ (∀ p s, Accepted specFwActivate p s → s.mgmt.activation.isSome = true ∨ s.mgmt.pldm ≠ .idle → p.transport < 5 →
    Runs .fwActivate specFwActivate p s St.INVALID_STATE [] fun t => t.mgmt = s.mgmt)
  ∧ (∀ s, (∀ a, s.mgmt.activation = some a → a.started = false) →
    Answers .activationTimeout s fun t => s.SameBut t [.out])
  ∧ (∀ s a, s.mgmt.activation = some a → a.started = true → Answers .activationTimeout s fun t =>
    t.reg Reg.FW_LAST_RESULT = 4 ∧ t.mgmt = { s.mgmt with activation := none } ∧ t.cmd.fwActivate.state = .idle)
  ∧ (∀ x s, s.pldmUp x = false → ∀ c, c ∈ [Instr.queryDeviceIdentifiers x, .getFirmwareParameters x, .requestUpdate x 0,
      .passComponentTable x 0x4816 true, .updateComponent x 0x4816 0, .transferComplete x true, .verifyComplete x,
      .applyComplete x, .activateFirmware x true, .pldmGetStatus x, .cancelUpdateComponent x, .cancelUpdate x] →
    Answers c s fun t => s.SameBut t [.out])
  ∧ ∀ x s, s.pldmUp x = true →
    (Answers (.queryDeviceIdentifiers x) s fun t => ∃ id, t.out = [.pldm 0x01 0 [id]] ∧ s.SameBut t [.out, .freeCtr])
    ∧ (Answers (.getFirmwareParameters x) s fun t => t.out = [.pldm 0x02 0 [0x4816, fwField (s.mgmt.slot s.mgmt.active) 4 6,
        fwField (s.mgmt.slot (1 - s.mgmt.active)) 4 6]] ∧ s.SameBut t [.out])
    ∧ (Answers (.pldmGetStatus x) s fun t =>
        t.out = [.pldm 0x1B 0 [s.mgmt.pldm.code, s.mgmt.pldmPrev.code]] ∧ s.SameBut t [.out])
    ∧ (∀ max, s.mgmt.pldm = .idle → s.mgmt.activation = none → Answers (.requestUpdate x max) s fun t =>
        t.mgmt = { s.mgmt with pldm := .learn, pldmPrev := .idle, pldmMax := max } ∧ t.out = [.pldm 0x10 0 [0, 0]]
          ∧ s.SameBut t [.out, .mgmt])
    ∧ (∀ max, s.mgmt.pldm ≠ .idle → Answers (.requestUpdate x max) s fun t =>
        t.out = [.pldm 0x10 0x81 []] ∧ s.SameBut t [.out])
    ∧ (∀ id last, s.mgmt.pldm = .learn → Answers (.passComponentTable x id last) s fun t =>
        t.mgmt.pldm = (if last then .ready else .learn)
          ∧ t.out = [.pldm 0x13 0 (if id = 0x4816 then [0, 0] else [1, 6])] ∧ s.SameBut t [.out, .mgmt])
    ∧ (∀ size, s.mgmt.pldm = .ready → size ≤ slotBytes → Answers (.updateComponent x 0x4816 size) s fun t =>
        t.mgmt.pldm = .download ∧ t.mgmt.pldmAt = 0 ∧ t.mgmt.pldmSize = size ∧ t.mgmt.slot (1 - s.mgmt.active) = []
          ∧ t.mgmt.slot s.mgmt.active = s.mgmt.slot s.mgmt.active ∧ s.SameBut t [.out, .mgmt])
    ∧ (∀ data, s.mgmt.pldm = .download → s.mgmt.pldmAt < s.mgmt.pldmSize →
        data.length = Nat.min (Nat.max 32 s.mgmt.pldmMax) (s.mgmt.pldmSize - s.mgmt.pldmAt) →
        Answers (.requestFirmwareData x 0 data) s fun t =>
          t.mgmt.pldmAt = s.mgmt.pldmAt + data.length
            ∧ (∀ i v, data[i]? = some v → fwByte (t.mgmt.slot (1 - s.mgmt.active)) (s.mgmt.pldmAt + i) = v % 256)
            ∧ t.mgmt.slot s.mgmt.active = s.mgmt.slot s.mgmt.active ∧ s.SameBut t [.out, .mgmt])
    ∧ (∀ g, s.mgmt.pldm = .download → s.mgmt.pldmSize ≤ s.mgmt.pldmAt → Answers (.transferComplete x g) s fun t =>
        t.mgmt.pldm = .verify
          ∧ (s.slotCheck (1 - s.mgmt.active) g = 0 → t.out = [.pldm 0x17 0 [0]] ∧ s.SameBut t [.out, .mgmt])
          ∧ (s.slotCheck (1 - s.mgmt.active) g ≠ 0 → t.out = [.pldm 0x17 0 [1]] ∧ t.mgmt.pldmSize = 0
              ∧ t.reg Reg.FW_LAST_RESULT = s.slotCheck (1 - s.mgmt.active) g ∧ s.SameBut t [.out, .regs, .mgmt]))
    ∧ (s.mgmt.pldm = .verify → s.mgmt.pldmSize ≠ 0 → Answers (.verifyComplete x) s fun t =>
        t.mgmt.pldm = .apply ∧ t.out = [.pldm 0x18 0 [0, 0]] ∧ s.SameBut t [.out, .mgmt])
    ∧ (s.mgmt.pldm = .apply → s.mgmt.recovery = false → Answers (.applyComplete x) s fun t =>
        t.mgmt.pldm = .ready ∧ s.SameBut t [.out, .mgmt])
    ∧ (s.mgmt.pldm = .apply → s.mgmt.recovery = true → Answers (.applyComplete x) s fun t =>
        t.mgmt.pldm = .idle ∧ t.mgmt.active = 1 - s.mgmt.active ∧ t.mgmt.started = true ∧ t.mgmt.recovery = false)
    ∧ (s.mgmt.pldm = .ready → s.mgmt.pldmSize ≠ 0 → s.dev = .online → s.mgmt.activation = none →
        s.cmd.fwActivate.state = .idle → 0 < s.reg Reg.E_TOKEN_FW_ACTIVATE →
        s.reg Reg.E_TOKEN_FW_ACTIVATE * 100 ≤ s.reg Reg.ENERGY_MARGIN_AVAIL * (100 + s.reg Reg.WEIR_MARGIN) →
        Answers (.activateFirmware x true) s fun t =>
          t.mgmt.pldm = .activate ∧ t.mgmt.activation = some { slot := 1 - s.mgmt.active, pldm := true }
            ∧ t.cmd.fwActivate.state = .waitPlan)
    ∧ (s.mgmt.pldm = .ready → s.mgmt.pldmSize ≠ 0 → s.dev ≠ .online → Answers (.activateFirmware x true) s fun t =>
        t.reg Reg.FW_LAST_RESULT = 5 ∧ t.out = [.pldm 0x1A 1 []] ∧ s.SameBut t [.out, .regs])
    ∧ (s.mgmt.pldm = .download ∨ s.mgmt.pldm = .verify ∨ s.mgmt.pldm = .apply →
        Answers (.cancelUpdateComponent x) s fun t =>
          t.mgmt.pldm = .ready ∧ t.mgmt.pldmSize = 0 ∧ t.out = [.pldm 0x1C 0 []] ∧ s.SameBut t [.out, .mgmt])
    ∧ (s.mgmt.pldm ≠ .idle → s.mgmt.pldm ≠ .activate → Answers (.cancelUpdate x) s fun t =>
        t.mgmt.pldm = .idle ∧ t.mgmt.pldmSize = 0 ∧ t.out = [.pldm 0x1D 0 [0, 0]] ∧ s.SameBut t [.out, .mgmt])

/-- AON power, the I3C address and the self test. AON power up takes the device from OFF to AON_ONLY with the NV Store
open to the AON domain, and is nothing else in another state. Its loss, with no learned record pending, takes it to
OFF: memory, the command state and the hold are gone, a service it cuts is remembered for the next start (DEDUCED, log
entry 229), the parameters the model keeps with the persisted ones (log entry 210) read as before and every other
reads its default, and what the flash, the NV Store, the recorder's areas and the firmware slots hold stays. ENTDAA
gives the I3C address. An accepted BIST_RUN of no partition or of bits above 16 answers INVALID_FIELD, one while a run
is in hand INVALID_STATE, and one with an off-line partition, the Rill running and no shutdown in hand, starts the
orderly shutdown with the partitions left to run. BIST_STATUS answers BIST_STATE, BIST_PASS, BIST_FAIL_MASK and the 16
signatures. The end of a partition of an off-line run, with more to come, stores its signature, and it passes exactly
when that equals the golden one (a free value: log entry 211); a failure is reported. A partition's end with no run in
hand is nothing. (R347, R470, R471, R485, R486, R487, R496, 16_management_lifecycle.md) -/
def Obligations.Aon_and_bist : Prop :=
  (∀ s, s.dev = .off → Answers .aonPowerUp s fun t =>
    t.dev = .aonOnly ∧ t.seq = { s.seq with aonUp := true } ∧ t.nv = { s.nv with state := .aonRead }
      ∧ s.SameBut t [.out, .regs, .freeCtr, .rec_, .fc, .port, .mir, .dev, .seq, .nv])
  ∧ (∀ s, s.dev ≠ .off → Answers .aonPowerUp s fun t => s.SameBut t [.out])
  ∧ (∀ s, s.seq.aonUp = false → Answers .aonPowerLoss s fun t => s.SameBut t [.out])
  ∧ (∀ s, s.seq.aonUp = true → s.cist.a.pendingRec = none → s.cist.b.pendingRec = none →
    Answers .aonPowerLoss s fun t =>
      t.dev = .off ∧ t.cold = some s.dev.code ∧ t.seq = { lostOpen := s.seq.lostOpen || decide (s.reg Reg.SERVICE_OPEN ≠ 0) } ∧ t.sip = {} ∧ t.cmd = {} ∧ t.mem = []
        ∧ (∀ id, t.reg id = if aonKeeps id then s.reg id else paramDefault id)
        ∧ t.rill.runs = s.rill.runs ∧ t.rill.ckpts = s.rill.ckpts ∧ t.whl.table = s.whl.table ∧ t.res.blocks = s.res.blocks
        ∧ t.spill.manifests = s.spill.manifests ∧ t.nv.a = s.nv.a ∧ t.nv.b = s.nv.b ∧ t.rec_.circ = s.rec_.circ
        ∧ t.mgmt.slotA = s.mgmt.slotA ∧ t.mgmt.slotB = s.mgmt.slotB)
  ∧ (∀ a s, s.seq.aonUp = true → a < 128 → Answers (.entdaa a) s fun t =>
    t.mgmt = { s.mgmt with i3c := some a } ∧ s.SameBut t [.out, .mgmt])
  ∧ (∀ a s, s.seq.aonUp = false ∨ 128 ≤ a → Answers (.entdaa a) s fun t => s.SameBut t [.out])
  ∧ (∀ p s w, Accepted specBistRun p s → p.slots = [w] →
    (w = 0 ∨ 65536 ≤ w → Runs .bistRun specBistRun p s St.INVALID_FIELD [] fun t => t.mgmt = s.mgmt ∧ t.seq = s.seq)
    ∧ (0 < w → w < 65536 → s.mgmt.bistLeft ≠ [] →
        Runs .bistRun specBistRun p s St.INVALID_STATE [] fun t => t.mgmt = s.mgmt ∧ t.seq = s.seq)
    ∧ (0 < w → w < 65536 → s.mgmt.bistLeft = [] → (∃ n, n < 11 ∧ bit w n = true) → s.port.committed = false →
        s.rill.state = .running → s.seq.flush = none →
        Answers (.bistRun p) s fun t =>
          t.mgmt = { s.mgmt with bistLeft := setBits w 16 } ∧ t.reg Reg.BIST_STATE = 2
            ∧ t.rill = { s.rill with state := .flushing }
            ∧ t.seq.flush = some (.bist, some (pktOwed p 0xC480 (s.cmd.cseq + 1)))
            ∧ t.cmd.owed = s.cmd.owed ++ [pktOwed p 0xC480 (s.cmd.cseq + 1)]))
  ∧ (∀ p s, Accepted specBistStatus p s → Runs .bistStatus specBistStatus p s St.SUCCESS
    ([s.reg Reg.BIST_STATE, s.reg Reg.BIST_PASS, s.reg Reg.BIST_FAIL_MASK]
      ++ (List.range 16).map fun n => s.reg (Reg.BIST_SIG + n))
    fun t => s.SameBut t [.out, .regs, .freeCtr, .mir] ∧ s.RegsBut t counterReg)
  ∧ (∀ sig s n m l, s.mgmt.bistLeft = n :: m :: l → n < 16 → s.mgmt.bistOff = true → s.dev = .maintenance →
    Answers (.bistPartitionDone sig) s fun t =>
      t.reg (Reg.BIST_SIG + n) = sig % 2 ^ 48 ∧ t.mgmt = { s.mgmt with bistLeft := m :: l }
        ∧ (bit (t.reg Reg.BIST_PASS) n = true ↔ sig % 2 ^ 48 = Config.goldenSignature n % 2 ^ 48)
        ∧ (bit (t.reg Reg.BIST_FAIL_MASK) n = true ↔ sig % 2 ^ 48 ≠ Config.goldenSignature n % 2 ^ 48)
        ∧ (sig % 2 ^ 48 ≠ Config.goldenSignature n % 2 ^ 48 → s.seq.coreUp = true →
            bit (t.reg Reg.FC_STATUS) Src.BIST_CTL = true)
        ∧ s.SameBut t [.out, .regs, .freeCtr, .rec_, .fc, .port, .mir, .mgmt])
  ∧ ∀ sig s, s.mgmt.bistLeft = [] ∨ (s.mgmt.bistOff = true ∧ s.dev ≠ .maintenance)
      ∨ (s.mgmt.bistOff = false ∧ s.cmd.bist.state ≠ .running) →
    Answers (.bistPartitionDone sig) s fun t => s.SameBut t [.out]
end

