-- ==== Sys2Proof/Laws/Exec.lean ====
section
/-! SUPPORT. What every command answers. -/

namespace Sys2Proof.Laws

open Sys2Proof.Machine

/-- Every command answers a next state, of the form that `State.fin` leaves. -/
theorem exec_answers (c : Instr) (s : State) : ∃ t : State, exec c s = .next t.fin := by
  cases c <;> exact ⟨_, rfl⟩

/-- No command ends in a fault or a refusal. -/
theorem exec_next (c : Instr) (s : State) : ∃ t, exec c s = .next t :=
  let ⟨t, h⟩ := exec_answers c s
  ⟨t.fin, h⟩

end Sys2Proof.Laws
end

