-- ==== Sys2Proof/Laws/State.lean ====
section
/-! SUPPORT. Every field after every plain update of the state. -/

namespace Sys2Proof.Machine

/-! ### onFc -/

@[simp] theorem State.onFc_dev (s : State) (f : Collector → Collector) : (s.onFc f).dev = s.dev := rfl
@[simp] theorem State.onFc_prev (s : State) (f : Collector → Collector) : (s.onFc f).prev = s.prev := rfl
@[simp] theorem State.onFc_cold (s : State) (f : Collector → Collector) : (s.onFc f).cold = s.cold := rfl
@[simp] theorem State.onFc_now (s : State) (f : Collector → Collector) : (s.onFc f).now = s.now := rfl
@[simp] theorem State.onFc_regs (s : State) (f : Collector → Collector) : (s.onFc f).regs = s.regs := rfl
@[simp] theorem State.onFc_freeCtr (s : State) (f : Collector → Collector) : (s.onFc f).freeCtr = s.freeCtr := rfl
@[simp] theorem State.onFc_mem (s : State) (f : Collector → Collector) : (s.onFc f).mem = s.mem := rfl
@[simp] theorem State.onFc_fc (s : State) (f : Collector → Collector) : (s.onFc f).fc = f s.fc := rfl
@[simp] theorem State.onFc_rec_ (s : State) (f : Collector → Collector) : (s.onFc f).rec_ = s.rec_ := rfl
@[simp] theorem State.onFc_nv (s : State) (f : Collector → Collector) : (s.onFc f).nv = s.nv := rfl
@[simp] theorem State.onFc_cmd (s : State) (f : Collector → Collector) : (s.onFc f).cmd = s.cmd := rfl
@[simp] theorem State.onFc_cist (s : State) (f : Collector → Collector) : (s.onFc f).cist = s.cist := rfl
@[simp] theorem State.onFc_weir (s : State) (f : Collector → Collector) : (s.onFc f).weir = s.weir := rfl
@[simp] theorem State.onFc_basin (s : State) (f : Collector → Collector) : (s.onFc f).basin = s.basin := rfl
@[simp] theorem State.onFc_rill (s : State) (f : Collector → Collector) : (s.onFc f).rill = s.rill := rfl
@[simp] theorem State.onFc_res (s : State) (f : Collector → Collector) : (s.onFc f).res = s.res := rfl
@[simp] theorem State.onFc_whl (s : State) (f : Collector → Collector) : (s.onFc f).whl = s.whl := rfl
@[simp] theorem State.onFc_spill (s : State) (f : Collector → Collector) : (s.onFc f).spill = s.spill := rfl
@[simp] theorem State.onFc_sip (s : State) (f : Collector → Collector) : (s.onFc f).sip = s.sip := rfl
@[simp] theorem State.onFc_seq (s : State) (f : Collector → Collector) : (s.onFc f).seq = s.seq := rfl
@[simp] theorem State.onFc_port (s : State) (f : Collector → Collector) : (s.onFc f).port = s.port := rfl
@[simp] theorem State.onFc_mir (s : State) (f : Collector → Collector) : (s.onFc f).mir = s.mir := rfl
@[simp] theorem State.onFc_mgmt (s : State) (f : Collector → Collector) : (s.onFc f).mgmt = s.mgmt := rfl
@[simp] theorem State.onFc_out (s : State) (f : Collector → Collector) : (s.onFc f).out = s.out := rfl
@[simp] theorem State.onFc_pending (s : State) (f : Collector → Collector) : (s.onFc f).pending = s.pending := rfl
@[simp] theorem State.onFc_reg (s : State) (f : Collector → Collector) (id : Nat) : (s.onFc f).reg id = s.reg id := rfl

/-! ### onRec -/

@[simp] theorem State.onRec_dev (s : State) (f : Recorder → Recorder) : (s.onRec f).dev = s.dev := rfl
@[simp] theorem State.onRec_prev (s : State) (f : Recorder → Recorder) : (s.onRec f).prev = s.prev := rfl
@[simp] theorem State.onRec_cold (s : State) (f : Recorder → Recorder) : (s.onRec f).cold = s.cold := rfl
@[simp] theorem State.onRec_now (s : State) (f : Recorder → Recorder) : (s.onRec f).now = s.now := rfl
@[simp] theorem State.onRec_regs (s : State) (f : Recorder → Recorder) : (s.onRec f).regs = s.regs := rfl
@[simp] theorem State.onRec_freeCtr (s : State) (f : Recorder → Recorder) : (s.onRec f).freeCtr = s.freeCtr := rfl
@[simp] theorem State.onRec_mem (s : State) (f : Recorder → Recorder) : (s.onRec f).mem = s.mem := rfl
@[simp] theorem State.onRec_fc (s : State) (f : Recorder → Recorder) : (s.onRec f).fc = s.fc := rfl
@[simp] theorem State.onRec_rec_ (s : State) (f : Recorder → Recorder) : (s.onRec f).rec_ = f s.rec_ := rfl
@[simp] theorem State.onRec_nv (s : State) (f : Recorder → Recorder) : (s.onRec f).nv = s.nv := rfl
@[simp] theorem State.onRec_cmd (s : State) (f : Recorder → Recorder) : (s.onRec f).cmd = s.cmd := rfl
@[simp] theorem State.onRec_cist (s : State) (f : Recorder → Recorder) : (s.onRec f).cist = s.cist := rfl
@[simp] theorem State.onRec_weir (s : State) (f : Recorder → Recorder) : (s.onRec f).weir = s.weir := rfl
@[simp] theorem State.onRec_basin (s : State) (f : Recorder → Recorder) : (s.onRec f).basin = s.basin := rfl
@[simp] theorem State.onRec_rill (s : State) (f : Recorder → Recorder) : (s.onRec f).rill = s.rill := rfl
@[simp] theorem State.onRec_res (s : State) (f : Recorder → Recorder) : (s.onRec f).res = s.res := rfl
@[simp] theorem State.onRec_whl (s : State) (f : Recorder → Recorder) : (s.onRec f).whl = s.whl := rfl
@[simp] theorem State.onRec_spill (s : State) (f : Recorder → Recorder) : (s.onRec f).spill = s.spill := rfl
@[simp] theorem State.onRec_sip (s : State) (f : Recorder → Recorder) : (s.onRec f).sip = s.sip := rfl
@[simp] theorem State.onRec_seq (s : State) (f : Recorder → Recorder) : (s.onRec f).seq = s.seq := rfl
@[simp] theorem State.onRec_port (s : State) (f : Recorder → Recorder) : (s.onRec f).port = s.port := rfl
@[simp] theorem State.onRec_mir (s : State) (f : Recorder → Recorder) : (s.onRec f).mir = s.mir := rfl
@[simp] theorem State.onRec_mgmt (s : State) (f : Recorder → Recorder) : (s.onRec f).mgmt = s.mgmt := rfl
@[simp] theorem State.onRec_out (s : State) (f : Recorder → Recorder) : (s.onRec f).out = s.out := rfl
@[simp] theorem State.onRec_pending (s : State) (f : Recorder → Recorder) : (s.onRec f).pending = s.pending := rfl
@[simp] theorem State.onRec_reg (s : State) (f : Recorder → Recorder) (id : Nat) : (s.onRec f).reg id = s.reg id := rfl

/-! ### onNv -/

@[simp] theorem State.onNv_dev (s : State) (f : NvStore → NvStore) : (s.onNv f).dev = s.dev := rfl
@[simp] theorem State.onNv_prev (s : State) (f : NvStore → NvStore) : (s.onNv f).prev = s.prev := rfl
@[simp] theorem State.onNv_cold (s : State) (f : NvStore → NvStore) : (s.onNv f).cold = s.cold := rfl
@[simp] theorem State.onNv_now (s : State) (f : NvStore → NvStore) : (s.onNv f).now = s.now := rfl
@[simp] theorem State.onNv_regs (s : State) (f : NvStore → NvStore) : (s.onNv f).regs = s.regs := rfl
@[simp] theorem State.onNv_freeCtr (s : State) (f : NvStore → NvStore) : (s.onNv f).freeCtr = s.freeCtr := rfl
@[simp] theorem State.onNv_mem (s : State) (f : NvStore → NvStore) : (s.onNv f).mem = s.mem := rfl
@[simp] theorem State.onNv_fc (s : State) (f : NvStore → NvStore) : (s.onNv f).fc = s.fc := rfl
@[simp] theorem State.onNv_rec_ (s : State) (f : NvStore → NvStore) : (s.onNv f).rec_ = s.rec_ := rfl
@[simp] theorem State.onNv_nv (s : State) (f : NvStore → NvStore) : (s.onNv f).nv = f s.nv := rfl
@[simp] theorem State.onNv_cmd (s : State) (f : NvStore → NvStore) : (s.onNv f).cmd = s.cmd := rfl
@[simp] theorem State.onNv_cist (s : State) (f : NvStore → NvStore) : (s.onNv f).cist = s.cist := rfl
@[simp] theorem State.onNv_weir (s : State) (f : NvStore → NvStore) : (s.onNv f).weir = s.weir := rfl
@[simp] theorem State.onNv_basin (s : State) (f : NvStore → NvStore) : (s.onNv f).basin = s.basin := rfl
@[simp] theorem State.onNv_rill (s : State) (f : NvStore → NvStore) : (s.onNv f).rill = s.rill := rfl
@[simp] theorem State.onNv_res (s : State) (f : NvStore → NvStore) : (s.onNv f).res = s.res := rfl
@[simp] theorem State.onNv_whl (s : State) (f : NvStore → NvStore) : (s.onNv f).whl = s.whl := rfl
@[simp] theorem State.onNv_spill (s : State) (f : NvStore → NvStore) : (s.onNv f).spill = s.spill := rfl
@[simp] theorem State.onNv_sip (s : State) (f : NvStore → NvStore) : (s.onNv f).sip = s.sip := rfl
@[simp] theorem State.onNv_seq (s : State) (f : NvStore → NvStore) : (s.onNv f).seq = s.seq := rfl
@[simp] theorem State.onNv_port (s : State) (f : NvStore → NvStore) : (s.onNv f).port = s.port := rfl
@[simp] theorem State.onNv_mir (s : State) (f : NvStore → NvStore) : (s.onNv f).mir = s.mir := rfl
@[simp] theorem State.onNv_mgmt (s : State) (f : NvStore → NvStore) : (s.onNv f).mgmt = s.mgmt := rfl
@[simp] theorem State.onNv_out (s : State) (f : NvStore → NvStore) : (s.onNv f).out = s.out := rfl
@[simp] theorem State.onNv_pending (s : State) (f : NvStore → NvStore) : (s.onNv f).pending = s.pending := rfl
@[simp] theorem State.onNv_reg (s : State) (f : NvStore → NvStore) (id : Nat) : (s.onNv f).reg id = s.reg id := rfl

/-! ### onCmd -/

@[simp] theorem State.onCmd_dev (s : State) (f : Cmd → Cmd) : (s.onCmd f).dev = s.dev := rfl
@[simp] theorem State.onCmd_prev (s : State) (f : Cmd → Cmd) : (s.onCmd f).prev = s.prev := rfl
@[simp] theorem State.onCmd_cold (s : State) (f : Cmd → Cmd) : (s.onCmd f).cold = s.cold := rfl
@[simp] theorem State.onCmd_now (s : State) (f : Cmd → Cmd) : (s.onCmd f).now = s.now := rfl
@[simp] theorem State.onCmd_regs (s : State) (f : Cmd → Cmd) : (s.onCmd f).regs = s.regs := rfl
@[simp] theorem State.onCmd_freeCtr (s : State) (f : Cmd → Cmd) : (s.onCmd f).freeCtr = s.freeCtr := rfl
@[simp] theorem State.onCmd_mem (s : State) (f : Cmd → Cmd) : (s.onCmd f).mem = s.mem := rfl
@[simp] theorem State.onCmd_fc (s : State) (f : Cmd → Cmd) : (s.onCmd f).fc = s.fc := rfl
@[simp] theorem State.onCmd_rec_ (s : State) (f : Cmd → Cmd) : (s.onCmd f).rec_ = s.rec_ := rfl
@[simp] theorem State.onCmd_nv (s : State) (f : Cmd → Cmd) : (s.onCmd f).nv = s.nv := rfl
@[simp] theorem State.onCmd_cmd (s : State) (f : Cmd → Cmd) : (s.onCmd f).cmd = f s.cmd := rfl
@[simp] theorem State.onCmd_cist (s : State) (f : Cmd → Cmd) : (s.onCmd f).cist = s.cist := rfl
@[simp] theorem State.onCmd_weir (s : State) (f : Cmd → Cmd) : (s.onCmd f).weir = s.weir := rfl
@[simp] theorem State.onCmd_basin (s : State) (f : Cmd → Cmd) : (s.onCmd f).basin = s.basin := rfl
@[simp] theorem State.onCmd_rill (s : State) (f : Cmd → Cmd) : (s.onCmd f).rill = s.rill := rfl
@[simp] theorem State.onCmd_res (s : State) (f : Cmd → Cmd) : (s.onCmd f).res = s.res := rfl
@[simp] theorem State.onCmd_whl (s : State) (f : Cmd → Cmd) : (s.onCmd f).whl = s.whl := rfl
@[simp] theorem State.onCmd_spill (s : State) (f : Cmd → Cmd) : (s.onCmd f).spill = s.spill := rfl
@[simp] theorem State.onCmd_sip (s : State) (f : Cmd → Cmd) : (s.onCmd f).sip = s.sip := rfl
@[simp] theorem State.onCmd_seq (s : State) (f : Cmd → Cmd) : (s.onCmd f).seq = s.seq := rfl
@[simp] theorem State.onCmd_port (s : State) (f : Cmd → Cmd) : (s.onCmd f).port = s.port := rfl
@[simp] theorem State.onCmd_mir (s : State) (f : Cmd → Cmd) : (s.onCmd f).mir = s.mir := rfl
@[simp] theorem State.onCmd_mgmt (s : State) (f : Cmd → Cmd) : (s.onCmd f).mgmt = s.mgmt := rfl
@[simp] theorem State.onCmd_out (s : State) (f : Cmd → Cmd) : (s.onCmd f).out = s.out := rfl
@[simp] theorem State.onCmd_pending (s : State) (f : Cmd → Cmd) : (s.onCmd f).pending = s.pending := rfl
@[simp] theorem State.onCmd_reg (s : State) (f : Cmd → Cmd) (id : Nat) : (s.onCmd f).reg id = s.reg id := rfl

/-! ### onCist -/

@[simp] theorem State.onCist_dev (s : State) (f : Cistern → Cistern) : (s.onCist f).dev = s.dev := rfl
@[simp] theorem State.onCist_prev (s : State) (f : Cistern → Cistern) : (s.onCist f).prev = s.prev := rfl
@[simp] theorem State.onCist_cold (s : State) (f : Cistern → Cistern) : (s.onCist f).cold = s.cold := rfl
@[simp] theorem State.onCist_now (s : State) (f : Cistern → Cistern) : (s.onCist f).now = s.now := rfl
@[simp] theorem State.onCist_regs (s : State) (f : Cistern → Cistern) : (s.onCist f).regs = s.regs := rfl
@[simp] theorem State.onCist_freeCtr (s : State) (f : Cistern → Cistern) : (s.onCist f).freeCtr = s.freeCtr := rfl
@[simp] theorem State.onCist_mem (s : State) (f : Cistern → Cistern) : (s.onCist f).mem = s.mem := rfl
@[simp] theorem State.onCist_fc (s : State) (f : Cistern → Cistern) : (s.onCist f).fc = s.fc := rfl
@[simp] theorem State.onCist_rec_ (s : State) (f : Cistern → Cistern) : (s.onCist f).rec_ = s.rec_ := rfl
@[simp] theorem State.onCist_nv (s : State) (f : Cistern → Cistern) : (s.onCist f).nv = s.nv := rfl
@[simp] theorem State.onCist_cmd (s : State) (f : Cistern → Cistern) : (s.onCist f).cmd = s.cmd := rfl
@[simp] theorem State.onCist_cist (s : State) (f : Cistern → Cistern) : (s.onCist f).cist = f s.cist := rfl
@[simp] theorem State.onCist_weir (s : State) (f : Cistern → Cistern) : (s.onCist f).weir = s.weir := rfl
@[simp] theorem State.onCist_basin (s : State) (f : Cistern → Cistern) : (s.onCist f).basin = s.basin := rfl
@[simp] theorem State.onCist_rill (s : State) (f : Cistern → Cistern) : (s.onCist f).rill = s.rill := rfl
@[simp] theorem State.onCist_res (s : State) (f : Cistern → Cistern) : (s.onCist f).res = s.res := rfl
@[simp] theorem State.onCist_whl (s : State) (f : Cistern → Cistern) : (s.onCist f).whl = s.whl := rfl
@[simp] theorem State.onCist_spill (s : State) (f : Cistern → Cistern) : (s.onCist f).spill = s.spill := rfl
@[simp] theorem State.onCist_sip (s : State) (f : Cistern → Cistern) : (s.onCist f).sip = s.sip := rfl
@[simp] theorem State.onCist_seq (s : State) (f : Cistern → Cistern) : (s.onCist f).seq = s.seq := rfl
@[simp] theorem State.onCist_port (s : State) (f : Cistern → Cistern) : (s.onCist f).port = s.port := rfl
@[simp] theorem State.onCist_mir (s : State) (f : Cistern → Cistern) : (s.onCist f).mir = s.mir := rfl
@[simp] theorem State.onCist_mgmt (s : State) (f : Cistern → Cistern) : (s.onCist f).mgmt = s.mgmt := rfl
@[simp] theorem State.onCist_out (s : State) (f : Cistern → Cistern) : (s.onCist f).out = s.out := rfl
@[simp] theorem State.onCist_pending (s : State) (f : Cistern → Cistern) : (s.onCist f).pending = s.pending := rfl
@[simp] theorem State.onCist_reg (s : State) (f : Cistern → Cistern) (id : Nat) : (s.onCist f).reg id = s.reg id := rfl

/-! ### onWeir -/

@[simp] theorem State.onWeir_dev (s : State) (f : Weir → Weir) : (s.onWeir f).dev = s.dev := rfl
@[simp] theorem State.onWeir_prev (s : State) (f : Weir → Weir) : (s.onWeir f).prev = s.prev := rfl
@[simp] theorem State.onWeir_cold (s : State) (f : Weir → Weir) : (s.onWeir f).cold = s.cold := rfl
@[simp] theorem State.onWeir_now (s : State) (f : Weir → Weir) : (s.onWeir f).now = s.now := rfl
@[simp] theorem State.onWeir_regs (s : State) (f : Weir → Weir) : (s.onWeir f).regs = s.regs := rfl
@[simp] theorem State.onWeir_freeCtr (s : State) (f : Weir → Weir) : (s.onWeir f).freeCtr = s.freeCtr := rfl
@[simp] theorem State.onWeir_mem (s : State) (f : Weir → Weir) : (s.onWeir f).mem = s.mem := rfl
@[simp] theorem State.onWeir_fc (s : State) (f : Weir → Weir) : (s.onWeir f).fc = s.fc := rfl
@[simp] theorem State.onWeir_rec_ (s : State) (f : Weir → Weir) : (s.onWeir f).rec_ = s.rec_ := rfl
@[simp] theorem State.onWeir_nv (s : State) (f : Weir → Weir) : (s.onWeir f).nv = s.nv := rfl
@[simp] theorem State.onWeir_cmd (s : State) (f : Weir → Weir) : (s.onWeir f).cmd = s.cmd := rfl
@[simp] theorem State.onWeir_cist (s : State) (f : Weir → Weir) : (s.onWeir f).cist = s.cist := rfl
@[simp] theorem State.onWeir_weir (s : State) (f : Weir → Weir) : (s.onWeir f).weir = f s.weir := rfl
@[simp] theorem State.onWeir_basin (s : State) (f : Weir → Weir) : (s.onWeir f).basin = s.basin := rfl
@[simp] theorem State.onWeir_rill (s : State) (f : Weir → Weir) : (s.onWeir f).rill = s.rill := rfl
@[simp] theorem State.onWeir_res (s : State) (f : Weir → Weir) : (s.onWeir f).res = s.res := rfl
@[simp] theorem State.onWeir_whl (s : State) (f : Weir → Weir) : (s.onWeir f).whl = s.whl := rfl
@[simp] theorem State.onWeir_spill (s : State) (f : Weir → Weir) : (s.onWeir f).spill = s.spill := rfl
@[simp] theorem State.onWeir_sip (s : State) (f : Weir → Weir) : (s.onWeir f).sip = s.sip := rfl
@[simp] theorem State.onWeir_seq (s : State) (f : Weir → Weir) : (s.onWeir f).seq = s.seq := rfl
@[simp] theorem State.onWeir_port (s : State) (f : Weir → Weir) : (s.onWeir f).port = s.port := rfl
@[simp] theorem State.onWeir_mir (s : State) (f : Weir → Weir) : (s.onWeir f).mir = s.mir := rfl
@[simp] theorem State.onWeir_mgmt (s : State) (f : Weir → Weir) : (s.onWeir f).mgmt = s.mgmt := rfl
@[simp] theorem State.onWeir_out (s : State) (f : Weir → Weir) : (s.onWeir f).out = s.out := rfl
@[simp] theorem State.onWeir_pending (s : State) (f : Weir → Weir) : (s.onWeir f).pending = s.pending := rfl
@[simp] theorem State.onWeir_reg (s : State) (f : Weir → Weir) (id : Nat) : (s.onWeir f).reg id = s.reg id := rfl

/-! ### onBasin -/

@[simp] theorem State.onBasin_dev (s : State) (f : Basin → Basin) : (s.onBasin f).dev = s.dev := rfl
@[simp] theorem State.onBasin_prev (s : State) (f : Basin → Basin) : (s.onBasin f).prev = s.prev := rfl
@[simp] theorem State.onBasin_cold (s : State) (f : Basin → Basin) : (s.onBasin f).cold = s.cold := rfl
@[simp] theorem State.onBasin_now (s : State) (f : Basin → Basin) : (s.onBasin f).now = s.now := rfl
@[simp] theorem State.onBasin_regs (s : State) (f : Basin → Basin) : (s.onBasin f).regs = s.regs := rfl
@[simp] theorem State.onBasin_freeCtr (s : State) (f : Basin → Basin) : (s.onBasin f).freeCtr = s.freeCtr := rfl
@[simp] theorem State.onBasin_mem (s : State) (f : Basin → Basin) : (s.onBasin f).mem = s.mem := rfl
@[simp] theorem State.onBasin_fc (s : State) (f : Basin → Basin) : (s.onBasin f).fc = s.fc := rfl
@[simp] theorem State.onBasin_rec_ (s : State) (f : Basin → Basin) : (s.onBasin f).rec_ = s.rec_ := rfl
@[simp] theorem State.onBasin_nv (s : State) (f : Basin → Basin) : (s.onBasin f).nv = s.nv := rfl
@[simp] theorem State.onBasin_cmd (s : State) (f : Basin → Basin) : (s.onBasin f).cmd = s.cmd := rfl
@[simp] theorem State.onBasin_cist (s : State) (f : Basin → Basin) : (s.onBasin f).cist = s.cist := rfl
@[simp] theorem State.onBasin_weir (s : State) (f : Basin → Basin) : (s.onBasin f).weir = s.weir := rfl
@[simp] theorem State.onBasin_basin (s : State) (f : Basin → Basin) : (s.onBasin f).basin = f s.basin := rfl
@[simp] theorem State.onBasin_rill (s : State) (f : Basin → Basin) : (s.onBasin f).rill = s.rill := rfl
@[simp] theorem State.onBasin_res (s : State) (f : Basin → Basin) : (s.onBasin f).res = s.res := rfl
@[simp] theorem State.onBasin_whl (s : State) (f : Basin → Basin) : (s.onBasin f).whl = s.whl := rfl
@[simp] theorem State.onBasin_spill (s : State) (f : Basin → Basin) : (s.onBasin f).spill = s.spill := rfl
@[simp] theorem State.onBasin_sip (s : State) (f : Basin → Basin) : (s.onBasin f).sip = s.sip := rfl
@[simp] theorem State.onBasin_seq (s : State) (f : Basin → Basin) : (s.onBasin f).seq = s.seq := rfl
@[simp] theorem State.onBasin_port (s : State) (f : Basin → Basin) : (s.onBasin f).port = s.port := rfl
@[simp] theorem State.onBasin_mir (s : State) (f : Basin → Basin) : (s.onBasin f).mir = s.mir := rfl
@[simp] theorem State.onBasin_mgmt (s : State) (f : Basin → Basin) : (s.onBasin f).mgmt = s.mgmt := rfl
@[simp] theorem State.onBasin_out (s : State) (f : Basin → Basin) : (s.onBasin f).out = s.out := rfl
@[simp] theorem State.onBasin_pending (s : State) (f : Basin → Basin) : (s.onBasin f).pending = s.pending := rfl
@[simp] theorem State.onBasin_reg (s : State) (f : Basin → Basin) (id : Nat) : (s.onBasin f).reg id = s.reg id := rfl

/-! ### onRill -/

@[simp] theorem State.onRill_dev (s : State) (f : Rill → Rill) : (s.onRill f).dev = s.dev := rfl
@[simp] theorem State.onRill_prev (s : State) (f : Rill → Rill) : (s.onRill f).prev = s.prev := rfl
@[simp] theorem State.onRill_cold (s : State) (f : Rill → Rill) : (s.onRill f).cold = s.cold := rfl
@[simp] theorem State.onRill_now (s : State) (f : Rill → Rill) : (s.onRill f).now = s.now := rfl
@[simp] theorem State.onRill_regs (s : State) (f : Rill → Rill) : (s.onRill f).regs = s.regs := rfl
@[simp] theorem State.onRill_freeCtr (s : State) (f : Rill → Rill) : (s.onRill f).freeCtr = s.freeCtr := rfl
@[simp] theorem State.onRill_mem (s : State) (f : Rill → Rill) : (s.onRill f).mem = s.mem := rfl
@[simp] theorem State.onRill_fc (s : State) (f : Rill → Rill) : (s.onRill f).fc = s.fc := rfl
@[simp] theorem State.onRill_rec_ (s : State) (f : Rill → Rill) : (s.onRill f).rec_ = s.rec_ := rfl
@[simp] theorem State.onRill_nv (s : State) (f : Rill → Rill) : (s.onRill f).nv = s.nv := rfl
@[simp] theorem State.onRill_cmd (s : State) (f : Rill → Rill) : (s.onRill f).cmd = s.cmd := rfl
@[simp] theorem State.onRill_cist (s : State) (f : Rill → Rill) : (s.onRill f).cist = s.cist := rfl
@[simp] theorem State.onRill_weir (s : State) (f : Rill → Rill) : (s.onRill f).weir = s.weir := rfl
@[simp] theorem State.onRill_basin (s : State) (f : Rill → Rill) : (s.onRill f).basin = s.basin := rfl
@[simp] theorem State.onRill_rill (s : State) (f : Rill → Rill) : (s.onRill f).rill = f s.rill := rfl
@[simp] theorem State.onRill_res (s : State) (f : Rill → Rill) : (s.onRill f).res = s.res := rfl
@[simp] theorem State.onRill_whl (s : State) (f : Rill → Rill) : (s.onRill f).whl = s.whl := rfl
@[simp] theorem State.onRill_spill (s : State) (f : Rill → Rill) : (s.onRill f).spill = s.spill := rfl
@[simp] theorem State.onRill_sip (s : State) (f : Rill → Rill) : (s.onRill f).sip = s.sip := rfl
@[simp] theorem State.onRill_seq (s : State) (f : Rill → Rill) : (s.onRill f).seq = s.seq := rfl
@[simp] theorem State.onRill_port (s : State) (f : Rill → Rill) : (s.onRill f).port = s.port := rfl
@[simp] theorem State.onRill_mir (s : State) (f : Rill → Rill) : (s.onRill f).mir = s.mir := rfl
@[simp] theorem State.onRill_mgmt (s : State) (f : Rill → Rill) : (s.onRill f).mgmt = s.mgmt := rfl
@[simp] theorem State.onRill_out (s : State) (f : Rill → Rill) : (s.onRill f).out = s.out := rfl
@[simp] theorem State.onRill_pending (s : State) (f : Rill → Rill) : (s.onRill f).pending = s.pending := rfl
@[simp] theorem State.onRill_reg (s : State) (f : Rill → Rill) (id : Nat) : (s.onRill f).reg id = s.reg id := rfl

/-! ### onRes -/

@[simp] theorem State.onRes_dev (s : State) (f : Reservoir → Reservoir) : (s.onRes f).dev = s.dev := rfl
@[simp] theorem State.onRes_prev (s : State) (f : Reservoir → Reservoir) : (s.onRes f).prev = s.prev := rfl
@[simp] theorem State.onRes_cold (s : State) (f : Reservoir → Reservoir) : (s.onRes f).cold = s.cold := rfl
@[simp] theorem State.onRes_now (s : State) (f : Reservoir → Reservoir) : (s.onRes f).now = s.now := rfl
@[simp] theorem State.onRes_regs (s : State) (f : Reservoir → Reservoir) : (s.onRes f).regs = s.regs := rfl
@[simp] theorem State.onRes_freeCtr (s : State) (f : Reservoir → Reservoir) : (s.onRes f).freeCtr = s.freeCtr := rfl
@[simp] theorem State.onRes_mem (s : State) (f : Reservoir → Reservoir) : (s.onRes f).mem = s.mem := rfl
@[simp] theorem State.onRes_fc (s : State) (f : Reservoir → Reservoir) : (s.onRes f).fc = s.fc := rfl
@[simp] theorem State.onRes_rec_ (s : State) (f : Reservoir → Reservoir) : (s.onRes f).rec_ = s.rec_ := rfl
@[simp] theorem State.onRes_nv (s : State) (f : Reservoir → Reservoir) : (s.onRes f).nv = s.nv := rfl
@[simp] theorem State.onRes_cmd (s : State) (f : Reservoir → Reservoir) : (s.onRes f).cmd = s.cmd := rfl
@[simp] theorem State.onRes_cist (s : State) (f : Reservoir → Reservoir) : (s.onRes f).cist = s.cist := rfl
@[simp] theorem State.onRes_weir (s : State) (f : Reservoir → Reservoir) : (s.onRes f).weir = s.weir := rfl
@[simp] theorem State.onRes_basin (s : State) (f : Reservoir → Reservoir) : (s.onRes f).basin = s.basin := rfl
@[simp] theorem State.onRes_rill (s : State) (f : Reservoir → Reservoir) : (s.onRes f).rill = s.rill := rfl
@[simp] theorem State.onRes_res (s : State) (f : Reservoir → Reservoir) : (s.onRes f).res = f s.res := rfl
@[simp] theorem State.onRes_whl (s : State) (f : Reservoir → Reservoir) : (s.onRes f).whl = s.whl := rfl
@[simp] theorem State.onRes_spill (s : State) (f : Reservoir → Reservoir) : (s.onRes f).spill = s.spill := rfl
@[simp] theorem State.onRes_sip (s : State) (f : Reservoir → Reservoir) : (s.onRes f).sip = s.sip := rfl
@[simp] theorem State.onRes_seq (s : State) (f : Reservoir → Reservoir) : (s.onRes f).seq = s.seq := rfl
@[simp] theorem State.onRes_port (s : State) (f : Reservoir → Reservoir) : (s.onRes f).port = s.port := rfl
@[simp] theorem State.onRes_mir (s : State) (f : Reservoir → Reservoir) : (s.onRes f).mir = s.mir := rfl
@[simp] theorem State.onRes_mgmt (s : State) (f : Reservoir → Reservoir) : (s.onRes f).mgmt = s.mgmt := rfl
@[simp] theorem State.onRes_out (s : State) (f : Reservoir → Reservoir) : (s.onRes f).out = s.out := rfl
@[simp] theorem State.onRes_pending (s : State) (f : Reservoir → Reservoir) : (s.onRes f).pending = s.pending := rfl
@[simp] theorem State.onRes_reg (s : State) (f : Reservoir → Reservoir) (id : Nat) : (s.onRes f).reg id = s.reg id := rfl

/-! ### onWhl -/

@[simp] theorem State.onWhl_dev (s : State) (f : Wheels → Wheels) : (s.onWhl f).dev = s.dev := rfl
@[simp] theorem State.onWhl_prev (s : State) (f : Wheels → Wheels) : (s.onWhl f).prev = s.prev := rfl
@[simp] theorem State.onWhl_cold (s : State) (f : Wheels → Wheels) : (s.onWhl f).cold = s.cold := rfl
@[simp] theorem State.onWhl_now (s : State) (f : Wheels → Wheels) : (s.onWhl f).now = s.now := rfl
@[simp] theorem State.onWhl_regs (s : State) (f : Wheels → Wheels) : (s.onWhl f).regs = s.regs := rfl
@[simp] theorem State.onWhl_freeCtr (s : State) (f : Wheels → Wheels) : (s.onWhl f).freeCtr = s.freeCtr := rfl
@[simp] theorem State.onWhl_mem (s : State) (f : Wheels → Wheels) : (s.onWhl f).mem = s.mem := rfl
@[simp] theorem State.onWhl_fc (s : State) (f : Wheels → Wheels) : (s.onWhl f).fc = s.fc := rfl
@[simp] theorem State.onWhl_rec_ (s : State) (f : Wheels → Wheels) : (s.onWhl f).rec_ = s.rec_ := rfl
@[simp] theorem State.onWhl_nv (s : State) (f : Wheels → Wheels) : (s.onWhl f).nv = s.nv := rfl
@[simp] theorem State.onWhl_cmd (s : State) (f : Wheels → Wheels) : (s.onWhl f).cmd = s.cmd := rfl
@[simp] theorem State.onWhl_cist (s : State) (f : Wheels → Wheels) : (s.onWhl f).cist = s.cist := rfl
@[simp] theorem State.onWhl_weir (s : State) (f : Wheels → Wheels) : (s.onWhl f).weir = s.weir := rfl
@[simp] theorem State.onWhl_basin (s : State) (f : Wheels → Wheels) : (s.onWhl f).basin = s.basin := rfl
@[simp] theorem State.onWhl_rill (s : State) (f : Wheels → Wheels) : (s.onWhl f).rill = s.rill := rfl
@[simp] theorem State.onWhl_res (s : State) (f : Wheels → Wheels) : (s.onWhl f).res = s.res := rfl
@[simp] theorem State.onWhl_whl (s : State) (f : Wheels → Wheels) : (s.onWhl f).whl = f s.whl := rfl
@[simp] theorem State.onWhl_spill (s : State) (f : Wheels → Wheels) : (s.onWhl f).spill = s.spill := rfl
@[simp] theorem State.onWhl_sip (s : State) (f : Wheels → Wheels) : (s.onWhl f).sip = s.sip := rfl
@[simp] theorem State.onWhl_seq (s : State) (f : Wheels → Wheels) : (s.onWhl f).seq = s.seq := rfl
@[simp] theorem State.onWhl_port (s : State) (f : Wheels → Wheels) : (s.onWhl f).port = s.port := rfl
@[simp] theorem State.onWhl_mir (s : State) (f : Wheels → Wheels) : (s.onWhl f).mir = s.mir := rfl
@[simp] theorem State.onWhl_mgmt (s : State) (f : Wheels → Wheels) : (s.onWhl f).mgmt = s.mgmt := rfl
@[simp] theorem State.onWhl_out (s : State) (f : Wheels → Wheels) : (s.onWhl f).out = s.out := rfl
@[simp] theorem State.onWhl_pending (s : State) (f : Wheels → Wheels) : (s.onWhl f).pending = s.pending := rfl
@[simp] theorem State.onWhl_reg (s : State) (f : Wheels → Wheels) (id : Nat) : (s.onWhl f).reg id = s.reg id := rfl

/-! ### onSpill -/

@[simp] theorem State.onSpill_dev (s : State) (f : Spillway → Spillway) : (s.onSpill f).dev = s.dev := rfl
@[simp] theorem State.onSpill_prev (s : State) (f : Spillway → Spillway) : (s.onSpill f).prev = s.prev := rfl
@[simp] theorem State.onSpill_cold (s : State) (f : Spillway → Spillway) : (s.onSpill f).cold = s.cold := rfl
@[simp] theorem State.onSpill_now (s : State) (f : Spillway → Spillway) : (s.onSpill f).now = s.now := rfl
@[simp] theorem State.onSpill_regs (s : State) (f : Spillway → Spillway) : (s.onSpill f).regs = s.regs := rfl
@[simp] theorem State.onSpill_freeCtr (s : State) (f : Spillway → Spillway) : (s.onSpill f).freeCtr = s.freeCtr := rfl
@[simp] theorem State.onSpill_mem (s : State) (f : Spillway → Spillway) : (s.onSpill f).mem = s.mem := rfl
@[simp] theorem State.onSpill_fc (s : State) (f : Spillway → Spillway) : (s.onSpill f).fc = s.fc := rfl
@[simp] theorem State.onSpill_rec_ (s : State) (f : Spillway → Spillway) : (s.onSpill f).rec_ = s.rec_ := rfl
@[simp] theorem State.onSpill_nv (s : State) (f : Spillway → Spillway) : (s.onSpill f).nv = s.nv := rfl
@[simp] theorem State.onSpill_cmd (s : State) (f : Spillway → Spillway) : (s.onSpill f).cmd = s.cmd := rfl
@[simp] theorem State.onSpill_cist (s : State) (f : Spillway → Spillway) : (s.onSpill f).cist = s.cist := rfl
@[simp] theorem State.onSpill_weir (s : State) (f : Spillway → Spillway) : (s.onSpill f).weir = s.weir := rfl
@[simp] theorem State.onSpill_basin (s : State) (f : Spillway → Spillway) : (s.onSpill f).basin = s.basin := rfl
@[simp] theorem State.onSpill_rill (s : State) (f : Spillway → Spillway) : (s.onSpill f).rill = s.rill := rfl
@[simp] theorem State.onSpill_res (s : State) (f : Spillway → Spillway) : (s.onSpill f).res = s.res := rfl
@[simp] theorem State.onSpill_whl (s : State) (f : Spillway → Spillway) : (s.onSpill f).whl = s.whl := rfl
@[simp] theorem State.onSpill_spill (s : State) (f : Spillway → Spillway) : (s.onSpill f).spill = f s.spill := rfl
@[simp] theorem State.onSpill_sip (s : State) (f : Spillway → Spillway) : (s.onSpill f).sip = s.sip := rfl
@[simp] theorem State.onSpill_seq (s : State) (f : Spillway → Spillway) : (s.onSpill f).seq = s.seq := rfl
@[simp] theorem State.onSpill_port (s : State) (f : Spillway → Spillway) : (s.onSpill f).port = s.port := rfl
@[simp] theorem State.onSpill_mir (s : State) (f : Spillway → Spillway) : (s.onSpill f).mir = s.mir := rfl
@[simp] theorem State.onSpill_mgmt (s : State) (f : Spillway → Spillway) : (s.onSpill f).mgmt = s.mgmt := rfl
@[simp] theorem State.onSpill_out (s : State) (f : Spillway → Spillway) : (s.onSpill f).out = s.out := rfl
@[simp] theorem State.onSpill_pending (s : State) (f : Spillway → Spillway) : (s.onSpill f).pending = s.pending := rfl
@[simp] theorem State.onSpill_reg (s : State) (f : Spillway → Spillway) (id : Nat) : (s.onSpill f).reg id = s.reg id := rfl

/-! ### onSip -/

@[simp] theorem State.onSip_dev (s : State) (f : Siphon → Siphon) : (s.onSip f).dev = s.dev := rfl
@[simp] theorem State.onSip_prev (s : State) (f : Siphon → Siphon) : (s.onSip f).prev = s.prev := rfl
@[simp] theorem State.onSip_cold (s : State) (f : Siphon → Siphon) : (s.onSip f).cold = s.cold := rfl
@[simp] theorem State.onSip_now (s : State) (f : Siphon → Siphon) : (s.onSip f).now = s.now := rfl
@[simp] theorem State.onSip_regs (s : State) (f : Siphon → Siphon) : (s.onSip f).regs = s.regs := rfl
@[simp] theorem State.onSip_freeCtr (s : State) (f : Siphon → Siphon) : (s.onSip f).freeCtr = s.freeCtr := rfl
@[simp] theorem State.onSip_mem (s : State) (f : Siphon → Siphon) : (s.onSip f).mem = s.mem := rfl
@[simp] theorem State.onSip_fc (s : State) (f : Siphon → Siphon) : (s.onSip f).fc = s.fc := rfl
@[simp] theorem State.onSip_rec_ (s : State) (f : Siphon → Siphon) : (s.onSip f).rec_ = s.rec_ := rfl
@[simp] theorem State.onSip_nv (s : State) (f : Siphon → Siphon) : (s.onSip f).nv = s.nv := rfl
@[simp] theorem State.onSip_cmd (s : State) (f : Siphon → Siphon) : (s.onSip f).cmd = s.cmd := rfl
@[simp] theorem State.onSip_cist (s : State) (f : Siphon → Siphon) : (s.onSip f).cist = s.cist := rfl
@[simp] theorem State.onSip_weir (s : State) (f : Siphon → Siphon) : (s.onSip f).weir = s.weir := rfl
@[simp] theorem State.onSip_basin (s : State) (f : Siphon → Siphon) : (s.onSip f).basin = s.basin := rfl
@[simp] theorem State.onSip_rill (s : State) (f : Siphon → Siphon) : (s.onSip f).rill = s.rill := rfl
@[simp] theorem State.onSip_res (s : State) (f : Siphon → Siphon) : (s.onSip f).res = s.res := rfl
@[simp] theorem State.onSip_whl (s : State) (f : Siphon → Siphon) : (s.onSip f).whl = s.whl := rfl
@[simp] theorem State.onSip_spill (s : State) (f : Siphon → Siphon) : (s.onSip f).spill = s.spill := rfl
@[simp] theorem State.onSip_sip (s : State) (f : Siphon → Siphon) : (s.onSip f).sip = f s.sip := rfl
@[simp] theorem State.onSip_seq (s : State) (f : Siphon → Siphon) : (s.onSip f).seq = s.seq := rfl
@[simp] theorem State.onSip_port (s : State) (f : Siphon → Siphon) : (s.onSip f).port = s.port := rfl
@[simp] theorem State.onSip_mir (s : State) (f : Siphon → Siphon) : (s.onSip f).mir = s.mir := rfl
@[simp] theorem State.onSip_mgmt (s : State) (f : Siphon → Siphon) : (s.onSip f).mgmt = s.mgmt := rfl
@[simp] theorem State.onSip_out (s : State) (f : Siphon → Siphon) : (s.onSip f).out = s.out := rfl
@[simp] theorem State.onSip_pending (s : State) (f : Siphon → Siphon) : (s.onSip f).pending = s.pending := rfl
@[simp] theorem State.onSip_reg (s : State) (f : Siphon → Siphon) (id : Nat) : (s.onSip f).reg id = s.reg id := rfl

/-! ### onSeq -/

@[simp] theorem State.onSeq_dev (s : State) (f : Seq → Seq) : (s.onSeq f).dev = s.dev := rfl
@[simp] theorem State.onSeq_prev (s : State) (f : Seq → Seq) : (s.onSeq f).prev = s.prev := rfl
@[simp] theorem State.onSeq_cold (s : State) (f : Seq → Seq) : (s.onSeq f).cold = s.cold := rfl
@[simp] theorem State.onSeq_now (s : State) (f : Seq → Seq) : (s.onSeq f).now = s.now := rfl
@[simp] theorem State.onSeq_regs (s : State) (f : Seq → Seq) : (s.onSeq f).regs = s.regs := rfl
@[simp] theorem State.onSeq_freeCtr (s : State) (f : Seq → Seq) : (s.onSeq f).freeCtr = s.freeCtr := rfl
@[simp] theorem State.onSeq_mem (s : State) (f : Seq → Seq) : (s.onSeq f).mem = s.mem := rfl
@[simp] theorem State.onSeq_fc (s : State) (f : Seq → Seq) : (s.onSeq f).fc = s.fc := rfl
@[simp] theorem State.onSeq_rec_ (s : State) (f : Seq → Seq) : (s.onSeq f).rec_ = s.rec_ := rfl
@[simp] theorem State.onSeq_nv (s : State) (f : Seq → Seq) : (s.onSeq f).nv = s.nv := rfl
@[simp] theorem State.onSeq_cmd (s : State) (f : Seq → Seq) : (s.onSeq f).cmd = s.cmd := rfl
@[simp] theorem State.onSeq_cist (s : State) (f : Seq → Seq) : (s.onSeq f).cist = s.cist := rfl
@[simp] theorem State.onSeq_weir (s : State) (f : Seq → Seq) : (s.onSeq f).weir = s.weir := rfl
@[simp] theorem State.onSeq_basin (s : State) (f : Seq → Seq) : (s.onSeq f).basin = s.basin := rfl
@[simp] theorem State.onSeq_rill (s : State) (f : Seq → Seq) : (s.onSeq f).rill = s.rill := rfl
@[simp] theorem State.onSeq_res (s : State) (f : Seq → Seq) : (s.onSeq f).res = s.res := rfl
@[simp] theorem State.onSeq_whl (s : State) (f : Seq → Seq) : (s.onSeq f).whl = s.whl := rfl
@[simp] theorem State.onSeq_spill (s : State) (f : Seq → Seq) : (s.onSeq f).spill = s.spill := rfl
@[simp] theorem State.onSeq_sip (s : State) (f : Seq → Seq) : (s.onSeq f).sip = s.sip := rfl
@[simp] theorem State.onSeq_seq (s : State) (f : Seq → Seq) : (s.onSeq f).seq = f s.seq := rfl
@[simp] theorem State.onSeq_port (s : State) (f : Seq → Seq) : (s.onSeq f).port = s.port := rfl
@[simp] theorem State.onSeq_mir (s : State) (f : Seq → Seq) : (s.onSeq f).mir = s.mir := rfl
@[simp] theorem State.onSeq_mgmt (s : State) (f : Seq → Seq) : (s.onSeq f).mgmt = s.mgmt := rfl
@[simp] theorem State.onSeq_out (s : State) (f : Seq → Seq) : (s.onSeq f).out = s.out := rfl
@[simp] theorem State.onSeq_pending (s : State) (f : Seq → Seq) : (s.onSeq f).pending = s.pending := rfl
@[simp] theorem State.onSeq_reg (s : State) (f : Seq → Seq) (id : Nat) : (s.onSeq f).reg id = s.reg id := rfl

/-! ### onPort -/

@[simp] theorem State.onPort_dev (s : State) (f : HostPort → HostPort) : (s.onPort f).dev = s.dev := rfl
@[simp] theorem State.onPort_prev (s : State) (f : HostPort → HostPort) : (s.onPort f).prev = s.prev := rfl
@[simp] theorem State.onPort_cold (s : State) (f : HostPort → HostPort) : (s.onPort f).cold = s.cold := rfl
@[simp] theorem State.onPort_now (s : State) (f : HostPort → HostPort) : (s.onPort f).now = s.now := rfl
@[simp] theorem State.onPort_regs (s : State) (f : HostPort → HostPort) : (s.onPort f).regs = s.regs := rfl
@[simp] theorem State.onPort_freeCtr (s : State) (f : HostPort → HostPort) : (s.onPort f).freeCtr = s.freeCtr := rfl
@[simp] theorem State.onPort_mem (s : State) (f : HostPort → HostPort) : (s.onPort f).mem = s.mem := rfl
@[simp] theorem State.onPort_fc (s : State) (f : HostPort → HostPort) : (s.onPort f).fc = s.fc := rfl
@[simp] theorem State.onPort_rec_ (s : State) (f : HostPort → HostPort) : (s.onPort f).rec_ = s.rec_ := rfl
@[simp] theorem State.onPort_nv (s : State) (f : HostPort → HostPort) : (s.onPort f).nv = s.nv := rfl
@[simp] theorem State.onPort_cmd (s : State) (f : HostPort → HostPort) : (s.onPort f).cmd = s.cmd := rfl
@[simp] theorem State.onPort_cist (s : State) (f : HostPort → HostPort) : (s.onPort f).cist = s.cist := rfl
@[simp] theorem State.onPort_weir (s : State) (f : HostPort → HostPort) : (s.onPort f).weir = s.weir := rfl
@[simp] theorem State.onPort_basin (s : State) (f : HostPort → HostPort) : (s.onPort f).basin = s.basin := rfl
@[simp] theorem State.onPort_rill (s : State) (f : HostPort → HostPort) : (s.onPort f).rill = s.rill := rfl
@[simp] theorem State.onPort_res (s : State) (f : HostPort → HostPort) : (s.onPort f).res = s.res := rfl
@[simp] theorem State.onPort_whl (s : State) (f : HostPort → HostPort) : (s.onPort f).whl = s.whl := rfl
@[simp] theorem State.onPort_spill (s : State) (f : HostPort → HostPort) : (s.onPort f).spill = s.spill := rfl
@[simp] theorem State.onPort_sip (s : State) (f : HostPort → HostPort) : (s.onPort f).sip = s.sip := rfl
@[simp] theorem State.onPort_seq (s : State) (f : HostPort → HostPort) : (s.onPort f).seq = s.seq := rfl
@[simp] theorem State.onPort_port (s : State) (f : HostPort → HostPort) : (s.onPort f).port = f s.port := rfl
@[simp] theorem State.onPort_mir (s : State) (f : HostPort → HostPort) : (s.onPort f).mir = s.mir := rfl
@[simp] theorem State.onPort_mgmt (s : State) (f : HostPort → HostPort) : (s.onPort f).mgmt = s.mgmt := rfl
@[simp] theorem State.onPort_out (s : State) (f : HostPort → HostPort) : (s.onPort f).out = s.out := rfl
@[simp] theorem State.onPort_pending (s : State) (f : HostPort → HostPort) : (s.onPort f).pending = s.pending := rfl
@[simp] theorem State.onPort_reg (s : State) (f : HostPort → HostPort) (id : Nat) : (s.onPort f).reg id = s.reg id := rfl

/-! ### onMir -/

@[simp] theorem State.onMir_dev (s : State) (f : Mirsen → Mirsen) : (s.onMir f).dev = s.dev := rfl
@[simp] theorem State.onMir_prev (s : State) (f : Mirsen → Mirsen) : (s.onMir f).prev = s.prev := rfl
@[simp] theorem State.onMir_cold (s : State) (f : Mirsen → Mirsen) : (s.onMir f).cold = s.cold := rfl
@[simp] theorem State.onMir_now (s : State) (f : Mirsen → Mirsen) : (s.onMir f).now = s.now := rfl
@[simp] theorem State.onMir_regs (s : State) (f : Mirsen → Mirsen) : (s.onMir f).regs = s.regs := rfl
@[simp] theorem State.onMir_freeCtr (s : State) (f : Mirsen → Mirsen) : (s.onMir f).freeCtr = s.freeCtr := rfl
@[simp] theorem State.onMir_mem (s : State) (f : Mirsen → Mirsen) : (s.onMir f).mem = s.mem := rfl
@[simp] theorem State.onMir_fc (s : State) (f : Mirsen → Mirsen) : (s.onMir f).fc = s.fc := rfl
@[simp] theorem State.onMir_rec_ (s : State) (f : Mirsen → Mirsen) : (s.onMir f).rec_ = s.rec_ := rfl
@[simp] theorem State.onMir_nv (s : State) (f : Mirsen → Mirsen) : (s.onMir f).nv = s.nv := rfl
@[simp] theorem State.onMir_cmd (s : State) (f : Mirsen → Mirsen) : (s.onMir f).cmd = s.cmd := rfl
@[simp] theorem State.onMir_cist (s : State) (f : Mirsen → Mirsen) : (s.onMir f).cist = s.cist := rfl
@[simp] theorem State.onMir_weir (s : State) (f : Mirsen → Mirsen) : (s.onMir f).weir = s.weir := rfl
@[simp] theorem State.onMir_basin (s : State) (f : Mirsen → Mirsen) : (s.onMir f).basin = s.basin := rfl
@[simp] theorem State.onMir_rill (s : State) (f : Mirsen → Mirsen) : (s.onMir f).rill = s.rill := rfl
@[simp] theorem State.onMir_res (s : State) (f : Mirsen → Mirsen) : (s.onMir f).res = s.res := rfl
@[simp] theorem State.onMir_whl (s : State) (f : Mirsen → Mirsen) : (s.onMir f).whl = s.whl := rfl
@[simp] theorem State.onMir_spill (s : State) (f : Mirsen → Mirsen) : (s.onMir f).spill = s.spill := rfl
@[simp] theorem State.onMir_sip (s : State) (f : Mirsen → Mirsen) : (s.onMir f).sip = s.sip := rfl
@[simp] theorem State.onMir_seq (s : State) (f : Mirsen → Mirsen) : (s.onMir f).seq = s.seq := rfl
@[simp] theorem State.onMir_port (s : State) (f : Mirsen → Mirsen) : (s.onMir f).port = s.port := rfl
@[simp] theorem State.onMir_mir (s : State) (f : Mirsen → Mirsen) : (s.onMir f).mir = f s.mir := rfl
@[simp] theorem State.onMir_mgmt (s : State) (f : Mirsen → Mirsen) : (s.onMir f).mgmt = s.mgmt := rfl
@[simp] theorem State.onMir_out (s : State) (f : Mirsen → Mirsen) : (s.onMir f).out = s.out := rfl
@[simp] theorem State.onMir_pending (s : State) (f : Mirsen → Mirsen) : (s.onMir f).pending = s.pending := rfl
@[simp] theorem State.onMir_reg (s : State) (f : Mirsen → Mirsen) (id : Nat) : (s.onMir f).reg id = s.reg id := rfl

/-! ### onMgmt -/

@[simp] theorem State.onMgmt_dev (s : State) (f : Mgmt → Mgmt) : (s.onMgmt f).dev = s.dev := rfl
@[simp] theorem State.onMgmt_prev (s : State) (f : Mgmt → Mgmt) : (s.onMgmt f).prev = s.prev := rfl
@[simp] theorem State.onMgmt_cold (s : State) (f : Mgmt → Mgmt) : (s.onMgmt f).cold = s.cold := rfl
@[simp] theorem State.onMgmt_now (s : State) (f : Mgmt → Mgmt) : (s.onMgmt f).now = s.now := rfl
@[simp] theorem State.onMgmt_regs (s : State) (f : Mgmt → Mgmt) : (s.onMgmt f).regs = s.regs := rfl
@[simp] theorem State.onMgmt_freeCtr (s : State) (f : Mgmt → Mgmt) : (s.onMgmt f).freeCtr = s.freeCtr := rfl
@[simp] theorem State.onMgmt_mem (s : State) (f : Mgmt → Mgmt) : (s.onMgmt f).mem = s.mem := rfl
@[simp] theorem State.onMgmt_fc (s : State) (f : Mgmt → Mgmt) : (s.onMgmt f).fc = s.fc := rfl
@[simp] theorem State.onMgmt_rec_ (s : State) (f : Mgmt → Mgmt) : (s.onMgmt f).rec_ = s.rec_ := rfl
@[simp] theorem State.onMgmt_nv (s : State) (f : Mgmt → Mgmt) : (s.onMgmt f).nv = s.nv := rfl
@[simp] theorem State.onMgmt_cmd (s : State) (f : Mgmt → Mgmt) : (s.onMgmt f).cmd = s.cmd := rfl
@[simp] theorem State.onMgmt_cist (s : State) (f : Mgmt → Mgmt) : (s.onMgmt f).cist = s.cist := rfl
@[simp] theorem State.onMgmt_weir (s : State) (f : Mgmt → Mgmt) : (s.onMgmt f).weir = s.weir := rfl
@[simp] theorem State.onMgmt_basin (s : State) (f : Mgmt → Mgmt) : (s.onMgmt f).basin = s.basin := rfl
@[simp] theorem State.onMgmt_rill (s : State) (f : Mgmt → Mgmt) : (s.onMgmt f).rill = s.rill := rfl
@[simp] theorem State.onMgmt_res (s : State) (f : Mgmt → Mgmt) : (s.onMgmt f).res = s.res := rfl
@[simp] theorem State.onMgmt_whl (s : State) (f : Mgmt → Mgmt) : (s.onMgmt f).whl = s.whl := rfl
@[simp] theorem State.onMgmt_spill (s : State) (f : Mgmt → Mgmt) : (s.onMgmt f).spill = s.spill := rfl
@[simp] theorem State.onMgmt_sip (s : State) (f : Mgmt → Mgmt) : (s.onMgmt f).sip = s.sip := rfl
@[simp] theorem State.onMgmt_seq (s : State) (f : Mgmt → Mgmt) : (s.onMgmt f).seq = s.seq := rfl
@[simp] theorem State.onMgmt_port (s : State) (f : Mgmt → Mgmt) : (s.onMgmt f).port = s.port := rfl
@[simp] theorem State.onMgmt_mir (s : State) (f : Mgmt → Mgmt) : (s.onMgmt f).mir = s.mir := rfl
@[simp] theorem State.onMgmt_mgmt (s : State) (f : Mgmt → Mgmt) : (s.onMgmt f).mgmt = f s.mgmt := rfl
@[simp] theorem State.onMgmt_out (s : State) (f : Mgmt → Mgmt) : (s.onMgmt f).out = s.out := rfl
@[simp] theorem State.onMgmt_pending (s : State) (f : Mgmt → Mgmt) : (s.onMgmt f).pending = s.pending := rfl
@[simp] theorem State.onMgmt_reg (s : State) (f : Mgmt → Mgmt) (id : Nat) : (s.onMgmt f).reg id = s.reg id := rfl

/-! ### setReg -/

@[simp] theorem State.setReg_dev (s : State) (id v : Nat) : (s.setReg id v).dev = s.dev := rfl
@[simp] theorem State.setReg_prev (s : State) (id v : Nat) : (s.setReg id v).prev = s.prev := rfl
@[simp] theorem State.setReg_cold (s : State) (id v : Nat) : (s.setReg id v).cold = s.cold := rfl
@[simp] theorem State.setReg_now (s : State) (id v : Nat) : (s.setReg id v).now = s.now := rfl
@[simp] theorem State.setReg_freeCtr (s : State) (id v : Nat) : (s.setReg id v).freeCtr = s.freeCtr := rfl
@[simp] theorem State.setReg_mem (s : State) (id v : Nat) : (s.setReg id v).mem = s.mem := rfl
@[simp] theorem State.setReg_fc (s : State) (id v : Nat) : (s.setReg id v).fc = s.fc := rfl
@[simp] theorem State.setReg_rec_ (s : State) (id v : Nat) : (s.setReg id v).rec_ = s.rec_ := rfl
@[simp] theorem State.setReg_nv (s : State) (id v : Nat) : (s.setReg id v).nv = s.nv := rfl
@[simp] theorem State.setReg_cmd (s : State) (id v : Nat) : (s.setReg id v).cmd = s.cmd := rfl
@[simp] theorem State.setReg_cist (s : State) (id v : Nat) : (s.setReg id v).cist = s.cist := rfl
@[simp] theorem State.setReg_weir (s : State) (id v : Nat) : (s.setReg id v).weir = s.weir := rfl
@[simp] theorem State.setReg_basin (s : State) (id v : Nat) : (s.setReg id v).basin = s.basin := rfl
@[simp] theorem State.setReg_rill (s : State) (id v : Nat) : (s.setReg id v).rill = s.rill := rfl
@[simp] theorem State.setReg_res (s : State) (id v : Nat) : (s.setReg id v).res = s.res := rfl
@[simp] theorem State.setReg_whl (s : State) (id v : Nat) : (s.setReg id v).whl = s.whl := rfl
@[simp] theorem State.setReg_spill (s : State) (id v : Nat) : (s.setReg id v).spill = s.spill := rfl
@[simp] theorem State.setReg_sip (s : State) (id v : Nat) : (s.setReg id v).sip = s.sip := rfl
@[simp] theorem State.setReg_seq (s : State) (id v : Nat) : (s.setReg id v).seq = s.seq := rfl
@[simp] theorem State.setReg_port (s : State) (id v : Nat) : (s.setReg id v).port = s.port := rfl
@[simp] theorem State.setReg_mir (s : State) (id v : Nat) : (s.setReg id v).mir = s.mir := rfl
@[simp] theorem State.setReg_mgmt (s : State) (id v : Nat) : (s.setReg id v).mgmt = s.mgmt := rfl
@[simp] theorem State.setReg_out (s : State) (id v : Nat) : (s.setReg id v).out = s.out := rfl
@[simp] theorem State.setReg_pending (s : State) (id v : Nat) : (s.setReg id v).pending = s.pending := rfl

/-! ### A reading depends on the register file alone -/

@[simp] theorem State.reg_mk x0 x1 x2 x3 x4 x5 x6 x7 x8 x9 x10 x11 x12 x13 x14 x15 x16 x17 x18 x19 x20 x21 x22 x23 x24 (id : Nat) :
    State.reg (State.mk x0 x1 x2 x3 x4 x5 x6 x7 x8 x9 x10 x11 x12 x13 x14 x15 x16 x17 x18 x19 x20 x21 x22 x23 x24) id = mget (paramDefault id) x4 id := rfl
@[simp] theorem State.reg_fold (s : State) (id : Nat) : mget (paramDefault id) s.regs id = s.reg id := rfl

/-! ### begin and emit -/

@[simp] theorem State.begin_dev (s : State) : s.begin.dev = s.dev := rfl
@[simp] theorem State.emit_dev (s : State) (o : Out) : (s.emit o).dev = s.dev := rfl
@[simp] theorem State.begin_prev (s : State) : s.begin.prev = s.prev := rfl
@[simp] theorem State.emit_prev (s : State) (o : Out) : (s.emit o).prev = s.prev := rfl
@[simp] theorem State.begin_cold (s : State) : s.begin.cold = s.cold := rfl
@[simp] theorem State.emit_cold (s : State) (o : Out) : (s.emit o).cold = s.cold := rfl
@[simp] theorem State.begin_now (s : State) : s.begin.now = s.now := rfl
@[simp] theorem State.emit_now (s : State) (o : Out) : (s.emit o).now = s.now := rfl
@[simp] theorem State.begin_regs (s : State) : s.begin.regs = s.regs := rfl
@[simp] theorem State.emit_regs (s : State) (o : Out) : (s.emit o).regs = s.regs := rfl
@[simp] theorem State.begin_freeCtr (s : State) : s.begin.freeCtr = s.freeCtr := rfl
@[simp] theorem State.emit_freeCtr (s : State) (o : Out) : (s.emit o).freeCtr = s.freeCtr := rfl
@[simp] theorem State.begin_mem (s : State) : s.begin.mem = s.mem := rfl
@[simp] theorem State.emit_mem (s : State) (o : Out) : (s.emit o).mem = s.mem := rfl
@[simp] theorem State.begin_fc (s : State) : s.begin.fc = s.fc := rfl
@[simp] theorem State.emit_fc (s : State) (o : Out) : (s.emit o).fc = s.fc := rfl
@[simp] theorem State.begin_rec_ (s : State) : s.begin.rec_ = s.rec_ := rfl
@[simp] theorem State.emit_rec_ (s : State) (o : Out) : (s.emit o).rec_ = s.rec_ := rfl
@[simp] theorem State.begin_nv (s : State) : s.begin.nv = s.nv := rfl
@[simp] theorem State.emit_nv (s : State) (o : Out) : (s.emit o).nv = s.nv := rfl
@[simp] theorem State.begin_cmd (s : State) : s.begin.cmd = s.cmd := rfl
@[simp] theorem State.emit_cmd (s : State) (o : Out) : (s.emit o).cmd = s.cmd := rfl
@[simp] theorem State.begin_cist (s : State) : s.begin.cist = s.cist := rfl
@[simp] theorem State.emit_cist (s : State) (o : Out) : (s.emit o).cist = s.cist := rfl
@[simp] theorem State.begin_weir (s : State) : s.begin.weir = s.weir := rfl
@[simp] theorem State.emit_weir (s : State) (o : Out) : (s.emit o).weir = s.weir := rfl
@[simp] theorem State.begin_basin (s : State) : s.begin.basin = s.basin := rfl
@[simp] theorem State.emit_basin (s : State) (o : Out) : (s.emit o).basin = s.basin := rfl
@[simp] theorem State.begin_rill (s : State) : s.begin.rill = s.rill := rfl
@[simp] theorem State.emit_rill (s : State) (o : Out) : (s.emit o).rill = s.rill := rfl
@[simp] theorem State.begin_res (s : State) : s.begin.res = s.res := rfl
@[simp] theorem State.emit_res (s : State) (o : Out) : (s.emit o).res = s.res := rfl
@[simp] theorem State.begin_whl (s : State) : s.begin.whl = s.whl := rfl
@[simp] theorem State.emit_whl (s : State) (o : Out) : (s.emit o).whl = s.whl := rfl
@[simp] theorem State.begin_spill (s : State) : s.begin.spill = s.spill := rfl
@[simp] theorem State.emit_spill (s : State) (o : Out) : (s.emit o).spill = s.spill := rfl
@[simp] theorem State.begin_sip (s : State) : s.begin.sip = s.sip := rfl
@[simp] theorem State.emit_sip (s : State) (o : Out) : (s.emit o).sip = s.sip := rfl
@[simp] theorem State.begin_seq (s : State) : s.begin.seq = s.seq := rfl
@[simp] theorem State.emit_seq (s : State) (o : Out) : (s.emit o).seq = s.seq := rfl
@[simp] theorem State.begin_port (s : State) : s.begin.port = s.port := rfl
@[simp] theorem State.emit_port (s : State) (o : Out) : (s.emit o).port = s.port := rfl
@[simp] theorem State.begin_mir (s : State) : s.begin.mir = s.mir := rfl
@[simp] theorem State.emit_mir (s : State) (o : Out) : (s.emit o).mir = s.mir := rfl
@[simp] theorem State.begin_mgmt (s : State) : s.begin.mgmt = s.mgmt := rfl
@[simp] theorem State.emit_mgmt (s : State) (o : Out) : (s.emit o).mgmt = s.mgmt := rfl
@[simp] theorem State.begin_out (s : State) : s.begin.out = [] := rfl
@[simp] theorem State.emit_out (s : State) (o : Out) : (s.emit o).out = s.out ++ [o] := rfl
@[simp] theorem State.begin_pending (s : State) : s.begin.pending = s.pending := rfl
@[simp] theorem State.emit_pending (s : State) (o : Out) : (s.emit o).pending = s.pending := rfl
@[simp] theorem State.begin_reg (s : State) (id : Nat) : s.begin.reg id = s.reg id := rfl
@[simp] theorem State.emit_reg (s : State) (o : Out) (id : Nat) : (s.emit o).reg id = s.reg id := rfl

/-! ### One port of the Cistern -/

@[simp] theorem State.onCPort_dev (s : State) (i : PortId) (f : CPort → CPort) : (s.onCPort i f).dev = s.dev := by cases i <;> rfl
@[simp] theorem State.onCPort_prev (s : State) (i : PortId) (f : CPort → CPort) : (s.onCPort i f).prev = s.prev := by cases i <;> rfl
@[simp] theorem State.onCPort_cold (s : State) (i : PortId) (f : CPort → CPort) : (s.onCPort i f).cold = s.cold := by cases i <;> rfl
@[simp] theorem State.onCPort_now (s : State) (i : PortId) (f : CPort → CPort) : (s.onCPort i f).now = s.now := by cases i <;> rfl
@[simp] theorem State.onCPort_regs (s : State) (i : PortId) (f : CPort → CPort) : (s.onCPort i f).regs = s.regs := by cases i <;> rfl
@[simp] theorem State.onCPort_freeCtr (s : State) (i : PortId) (f : CPort → CPort) : (s.onCPort i f).freeCtr = s.freeCtr := by cases i <;> rfl
@[simp] theorem State.onCPort_mem (s : State) (i : PortId) (f : CPort → CPort) : (s.onCPort i f).mem = s.mem := by cases i <;> rfl
@[simp] theorem State.onCPort_fc (s : State) (i : PortId) (f : CPort → CPort) : (s.onCPort i f).fc = s.fc := by cases i <;> rfl
@[simp] theorem State.onCPort_rec_ (s : State) (i : PortId) (f : CPort → CPort) : (s.onCPort i f).rec_ = s.rec_ := by cases i <;> rfl
@[simp] theorem State.onCPort_nv (s : State) (i : PortId) (f : CPort → CPort) : (s.onCPort i f).nv = s.nv := by cases i <;> rfl
@[simp] theorem State.onCPort_cmd (s : State) (i : PortId) (f : CPort → CPort) : (s.onCPort i f).cmd = s.cmd := by cases i <;> rfl
@[simp] theorem State.onCPort_weir (s : State) (i : PortId) (f : CPort → CPort) : (s.onCPort i f).weir = s.weir := by cases i <;> rfl
@[simp] theorem State.onCPort_basin (s : State) (i : PortId) (f : CPort → CPort) : (s.onCPort i f).basin = s.basin := by cases i <;> rfl
@[simp] theorem State.onCPort_rill (s : State) (i : PortId) (f : CPort → CPort) : (s.onCPort i f).rill = s.rill := by cases i <;> rfl
@[simp] theorem State.onCPort_res (s : State) (i : PortId) (f : CPort → CPort) : (s.onCPort i f).res = s.res := by cases i <;> rfl
@[simp] theorem State.onCPort_whl (s : State) (i : PortId) (f : CPort → CPort) : (s.onCPort i f).whl = s.whl := by cases i <;> rfl
@[simp] theorem State.onCPort_spill (s : State) (i : PortId) (f : CPort → CPort) : (s.onCPort i f).spill = s.spill := by cases i <;> rfl
@[simp] theorem State.onCPort_sip (s : State) (i : PortId) (f : CPort → CPort) : (s.onCPort i f).sip = s.sip := by cases i <;> rfl
@[simp] theorem State.onCPort_seq (s : State) (i : PortId) (f : CPort → CPort) : (s.onCPort i f).seq = s.seq := by cases i <;> rfl
@[simp] theorem State.onCPort_port (s : State) (i : PortId) (f : CPort → CPort) : (s.onCPort i f).port = s.port := by cases i <;> rfl
@[simp] theorem State.onCPort_mir (s : State) (i : PortId) (f : CPort → CPort) : (s.onCPort i f).mir = s.mir := by cases i <;> rfl
@[simp] theorem State.onCPort_mgmt (s : State) (i : PortId) (f : CPort → CPort) : (s.onCPort i f).mgmt = s.mgmt := by cases i <;> rfl
@[simp] theorem State.onCPort_out (s : State) (i : PortId) (f : CPort → CPort) : (s.onCPort i f).out = s.out := by cases i <;> rfl
@[simp] theorem State.onCPort_pending (s : State) (i : PortId) (f : CPort → CPort) : (s.onCPort i f).pending = s.pending := by cases i <;> rfl
@[simp] theorem State.onCPort_reg (s : State) (i : PortId) (f : CPort → CPort) (id : Nat) :
    (s.onCPort i f).reg id = s.reg id := by cases i <;> rfl
@[simp] theorem State.onCPort_this (s : State) (i : PortId) (f : CPort → CPort) :
    (s.onCPort i f).cist.port i = f (s.cist.port i) := by cases i <;> rfl
@[simp] theorem State.onCPort_other (s : State) (i : PortId) (f : CPort → CPort) :
    (s.onCPort i f).cist.port (otherPort i) = s.cist.port (otherPort i) := by cases i <;> rfl
@[simp] theorem State.onCPort_loaded (s : State) (i : PortId) (f : CPort → CPort) :
    (s.onCPort i f).cist.loaded = s.cist.loaded := by cases i <;> rfl
@[simp] theorem State.onCPort_hibernating (s : State) (i : PortId) (f : CPort → CPort) :
    (s.onCPort i f).cist.hibernating = s.cist.hibernating := by cases i <;> rfl
@[simp] theorem State.onCPort_lastEw (s : State) (i : PortId) (f : CPort → CPort) :
    (s.onCPort i f).cist.lastEw = s.cist.lastEw := by cases i <;> rfl

end Sys2Proof.Machine
end

