-- ==== Sys2Proof/Laws/Frames.lean ====
section
/-! SUPPORT. What each shared operation can change: one frame per operation, and its fields as rewrite rules. -/

namespace Sys2Proof.Machine

/-! ### Frames compose -/

theorem State.SameBut.refl (s : State) (l : List Part) : s.SameBut s l := by
  intro p _; cases p <;> rfl

theorem State.SameBut.trans {s t u : State} {l : List Part} (h : s.SameBut t l) (k : t.SameBut u l) :
    s.SameBut u l := by
  intro p hp
  have a := h p hp
  have b := k p hp
  cases p <;> simp_all [State.agree]

theorem State.SameBut.mono {s t : State} {l m : List Part} (h : s.SameBut t l) (k : ∀ p, p ∉ m → p ∉ l) :
    s.SameBut t m := fun p hp => h p (k p hp)

theorem State.SameBut.foldl {α : Type} {l : List Part} (f : State → α → State) (h : ∀ (s : State) (a : α), s.SameBut (f s a) l) :
    ∀ (as : List α) (s : State), s.SameBut (as.foldl f s) l
  | [], s => .refl s l
  | a :: as, s => (h s a).trans (foldl f h as (f s a))

theorem State.SameBut.ite {c : Prop} [Decidable c] {s t u : State} {l : List Part} (h : s.SameBut t l)
    (k : s.SameBut u l) : s.SameBut (if c then t else u) l := by split <;> assumption

theorem State.addReg_same (s : State) (id n : Nat) :
    s.SameBut (s.addReg id n) [.regs, .freeCtr] := by
  unfold State.addReg
  try dsimp only
  repeat' split
  all_goals (intro p hp; revert hp; cases p <;> simp [State.agree])
@[simp] theorem State.addReg_dev (s : State) (id n : Nat) : (s.addReg id n).dev = s.dev := State.addReg_same s id n .dev (by decide)
@[simp] theorem State.addReg_prev (s : State) (id n : Nat) : (s.addReg id n).prev = s.prev := State.addReg_same s id n .prev (by decide)
@[simp] theorem State.addReg_cold (s : State) (id n : Nat) : (s.addReg id n).cold = s.cold := State.addReg_same s id n .cold (by decide)
@[simp] theorem State.addReg_now (s : State) (id n : Nat) : (s.addReg id n).now = s.now := State.addReg_same s id n .now (by decide)
@[simp] theorem State.addReg_mem (s : State) (id n : Nat) : (s.addReg id n).mem = s.mem := State.addReg_same s id n .mem (by decide)
@[simp] theorem State.addReg_fc (s : State) (id n : Nat) : (s.addReg id n).fc = s.fc := State.addReg_same s id n .fc (by decide)
@[simp] theorem State.addReg_rec_ (s : State) (id n : Nat) : (s.addReg id n).rec_ = s.rec_ := State.addReg_same s id n .rec_ (by decide)
@[simp] theorem State.addReg_nv (s : State) (id n : Nat) : (s.addReg id n).nv = s.nv := State.addReg_same s id n .nv (by decide)
@[simp] theorem State.addReg_cmd (s : State) (id n : Nat) : (s.addReg id n).cmd = s.cmd := State.addReg_same s id n .cmd (by decide)
@[simp] theorem State.addReg_cist (s : State) (id n : Nat) : (s.addReg id n).cist = s.cist := State.addReg_same s id n .cist (by decide)
@[simp] theorem State.addReg_weir (s : State) (id n : Nat) : (s.addReg id n).weir = s.weir := State.addReg_same s id n .weir (by decide)
@[simp] theorem State.addReg_basin (s : State) (id n : Nat) : (s.addReg id n).basin = s.basin := State.addReg_same s id n .basin (by decide)
@[simp] theorem State.addReg_rill (s : State) (id n : Nat) : (s.addReg id n).rill = s.rill := State.addReg_same s id n .rill (by decide)
@[simp] theorem State.addReg_res (s : State) (id n : Nat) : (s.addReg id n).res = s.res := State.addReg_same s id n .res (by decide)
@[simp] theorem State.addReg_whl (s : State) (id n : Nat) : (s.addReg id n).whl = s.whl := State.addReg_same s id n .whl (by decide)
@[simp] theorem State.addReg_spill (s : State) (id n : Nat) : (s.addReg id n).spill = s.spill := State.addReg_same s id n .spill (by decide)
@[simp] theorem State.addReg_sip (s : State) (id n : Nat) : (s.addReg id n).sip = s.sip := State.addReg_same s id n .sip (by decide)
@[simp] theorem State.addReg_seq (s : State) (id n : Nat) : (s.addReg id n).seq = s.seq := State.addReg_same s id n .seq (by decide)
@[simp] theorem State.addReg_port (s : State) (id n : Nat) : (s.addReg id n).port = s.port := State.addReg_same s id n .port (by decide)
@[simp] theorem State.addReg_mir (s : State) (id n : Nat) : (s.addReg id n).mir = s.mir := State.addReg_same s id n .mir (by decide)
@[simp] theorem State.addReg_mgmt (s : State) (id n : Nat) : (s.addReg id n).mgmt = s.mgmt := State.addReg_same s id n .mgmt (by decide)
@[simp] theorem State.addReg_out (s : State) (id n : Nat) : (s.addReg id n).out = s.out := State.addReg_same s id n .out (by decide)
@[simp] theorem State.addReg_pending (s : State) (id n : Nat) : (s.addReg id n).pending = s.pending := State.addReg_same s id n .pending (by decide)

theorem State.putReg_same (s : State) (id v : Nat) :
    s.SameBut (s.putReg id v) [.regs, .freeCtr] := by
  unfold State.putReg
  try dsimp only
  repeat' split
  all_goals (intro p hp; revert hp; cases p <;> simp [State.agree])
@[simp] theorem State.putReg_dev (s : State) (id v : Nat) : (s.putReg id v).dev = s.dev := State.putReg_same s id v .dev (by decide)
@[simp] theorem State.putReg_prev (s : State) (id v : Nat) : (s.putReg id v).prev = s.prev := State.putReg_same s id v .prev (by decide)
@[simp] theorem State.putReg_cold (s : State) (id v : Nat) : (s.putReg id v).cold = s.cold := State.putReg_same s id v .cold (by decide)
@[simp] theorem State.putReg_now (s : State) (id v : Nat) : (s.putReg id v).now = s.now := State.putReg_same s id v .now (by decide)
@[simp] theorem State.putReg_mem (s : State) (id v : Nat) : (s.putReg id v).mem = s.mem := State.putReg_same s id v .mem (by decide)
@[simp] theorem State.putReg_fc (s : State) (id v : Nat) : (s.putReg id v).fc = s.fc := State.putReg_same s id v .fc (by decide)
@[simp] theorem State.putReg_rec_ (s : State) (id v : Nat) : (s.putReg id v).rec_ = s.rec_ := State.putReg_same s id v .rec_ (by decide)
@[simp] theorem State.putReg_nv (s : State) (id v : Nat) : (s.putReg id v).nv = s.nv := State.putReg_same s id v .nv (by decide)
@[simp] theorem State.putReg_cmd (s : State) (id v : Nat) : (s.putReg id v).cmd = s.cmd := State.putReg_same s id v .cmd (by decide)
@[simp] theorem State.putReg_cist (s : State) (id v : Nat) : (s.putReg id v).cist = s.cist := State.putReg_same s id v .cist (by decide)
@[simp] theorem State.putReg_weir (s : State) (id v : Nat) : (s.putReg id v).weir = s.weir := State.putReg_same s id v .weir (by decide)
@[simp] theorem State.putReg_basin (s : State) (id v : Nat) : (s.putReg id v).basin = s.basin := State.putReg_same s id v .basin (by decide)
@[simp] theorem State.putReg_rill (s : State) (id v : Nat) : (s.putReg id v).rill = s.rill := State.putReg_same s id v .rill (by decide)
@[simp] theorem State.putReg_res (s : State) (id v : Nat) : (s.putReg id v).res = s.res := State.putReg_same s id v .res (by decide)
@[simp] theorem State.putReg_whl (s : State) (id v : Nat) : (s.putReg id v).whl = s.whl := State.putReg_same s id v .whl (by decide)
@[simp] theorem State.putReg_spill (s : State) (id v : Nat) : (s.putReg id v).spill = s.spill := State.putReg_same s id v .spill (by decide)
@[simp] theorem State.putReg_sip (s : State) (id v : Nat) : (s.putReg id v).sip = s.sip := State.putReg_same s id v .sip (by decide)
@[simp] theorem State.putReg_seq (s : State) (id v : Nat) : (s.putReg id v).seq = s.seq := State.putReg_same s id v .seq (by decide)
@[simp] theorem State.putReg_port (s : State) (id v : Nat) : (s.putReg id v).port = s.port := State.putReg_same s id v .port (by decide)
@[simp] theorem State.putReg_mir (s : State) (id v : Nat) : (s.putReg id v).mir = s.mir := State.putReg_same s id v .mir (by decide)
@[simp] theorem State.putReg_mgmt (s : State) (id v : Nat) : (s.putReg id v).mgmt = s.mgmt := State.putReg_same s id v .mgmt (by decide)
@[simp] theorem State.putReg_out (s : State) (id v : Nat) : (s.putReg id v).out = s.out := State.putReg_same s id v .out (by decide)
@[simp] theorem State.putReg_pending (s : State) (id v : Nat) : (s.putReg id v).pending = s.pending := State.putReg_same s id v .pending (by decide)

theorem State.maxReg_same (s : State) (id v : Nat) :
    s.SameBut (s.maxReg id v) [.regs] := by
  unfold State.maxReg
  try dsimp only
  repeat' split
  all_goals (intro p hp; revert hp; cases p <;> simp [State.agree])
@[simp] theorem State.maxReg_dev (s : State) (id v : Nat) : (s.maxReg id v).dev = s.dev := State.maxReg_same s id v .dev (by decide)
@[simp] theorem State.maxReg_prev (s : State) (id v : Nat) : (s.maxReg id v).prev = s.prev := State.maxReg_same s id v .prev (by decide)
@[simp] theorem State.maxReg_cold (s : State) (id v : Nat) : (s.maxReg id v).cold = s.cold := State.maxReg_same s id v .cold (by decide)
@[simp] theorem State.maxReg_now (s : State) (id v : Nat) : (s.maxReg id v).now = s.now := State.maxReg_same s id v .now (by decide)
@[simp] theorem State.maxReg_freeCtr (s : State) (id v : Nat) : (s.maxReg id v).freeCtr = s.freeCtr := State.maxReg_same s id v .freeCtr (by decide)
@[simp] theorem State.maxReg_mem (s : State) (id v : Nat) : (s.maxReg id v).mem = s.mem := State.maxReg_same s id v .mem (by decide)
@[simp] theorem State.maxReg_fc (s : State) (id v : Nat) : (s.maxReg id v).fc = s.fc := State.maxReg_same s id v .fc (by decide)
@[simp] theorem State.maxReg_rec_ (s : State) (id v : Nat) : (s.maxReg id v).rec_ = s.rec_ := State.maxReg_same s id v .rec_ (by decide)
@[simp] theorem State.maxReg_nv (s : State) (id v : Nat) : (s.maxReg id v).nv = s.nv := State.maxReg_same s id v .nv (by decide)
@[simp] theorem State.maxReg_cmd (s : State) (id v : Nat) : (s.maxReg id v).cmd = s.cmd := State.maxReg_same s id v .cmd (by decide)
@[simp] theorem State.maxReg_cist (s : State) (id v : Nat) : (s.maxReg id v).cist = s.cist := State.maxReg_same s id v .cist (by decide)
@[simp] theorem State.maxReg_weir (s : State) (id v : Nat) : (s.maxReg id v).weir = s.weir := State.maxReg_same s id v .weir (by decide)
@[simp] theorem State.maxReg_basin (s : State) (id v : Nat) : (s.maxReg id v).basin = s.basin := State.maxReg_same s id v .basin (by decide)
@[simp] theorem State.maxReg_rill (s : State) (id v : Nat) : (s.maxReg id v).rill = s.rill := State.maxReg_same s id v .rill (by decide)
@[simp] theorem State.maxReg_res (s : State) (id v : Nat) : (s.maxReg id v).res = s.res := State.maxReg_same s id v .res (by decide)
@[simp] theorem State.maxReg_whl (s : State) (id v : Nat) : (s.maxReg id v).whl = s.whl := State.maxReg_same s id v .whl (by decide)
@[simp] theorem State.maxReg_spill (s : State) (id v : Nat) : (s.maxReg id v).spill = s.spill := State.maxReg_same s id v .spill (by decide)
@[simp] theorem State.maxReg_sip (s : State) (id v : Nat) : (s.maxReg id v).sip = s.sip := State.maxReg_same s id v .sip (by decide)
@[simp] theorem State.maxReg_seq (s : State) (id v : Nat) : (s.maxReg id v).seq = s.seq := State.maxReg_same s id v .seq (by decide)
@[simp] theorem State.maxReg_port (s : State) (id v : Nat) : (s.maxReg id v).port = s.port := State.maxReg_same s id v .port (by decide)
@[simp] theorem State.maxReg_mir (s : State) (id v : Nat) : (s.maxReg id v).mir = s.mir := State.maxReg_same s id v .mir (by decide)
@[simp] theorem State.maxReg_mgmt (s : State) (id v : Nat) : (s.maxReg id v).mgmt = s.mgmt := State.maxReg_same s id v .mgmt (by decide)
@[simp] theorem State.maxReg_out (s : State) (id v : Nat) : (s.maxReg id v).out = s.out := State.maxReg_same s id v .out (by decide)
@[simp] theorem State.maxReg_pending (s : State) (id v : Nat) : (s.maxReg id v).pending = s.pending := State.maxReg_same s id v .pending (by decide)

theorem State.loseSeq_same (s : State) (seq : Nat) :
    s.SameBut (s.loseSeq seq) [.regs, .freeCtr, .rec_] := by
  unfold State.loseSeq
  try dsimp only
  repeat' split
  all_goals (intro p hp; revert hp; cases p <;> simp [State.agree])
@[simp] theorem State.loseSeq_dev (s : State) (seq : Nat) : (s.loseSeq seq).dev = s.dev := State.loseSeq_same s seq .dev (by decide)
@[simp] theorem State.loseSeq_prev (s : State) (seq : Nat) : (s.loseSeq seq).prev = s.prev := State.loseSeq_same s seq .prev (by decide)
@[simp] theorem State.loseSeq_cold (s : State) (seq : Nat) : (s.loseSeq seq).cold = s.cold := State.loseSeq_same s seq .cold (by decide)
@[simp] theorem State.loseSeq_now (s : State) (seq : Nat) : (s.loseSeq seq).now = s.now := State.loseSeq_same s seq .now (by decide)
@[simp] theorem State.loseSeq_mem (s : State) (seq : Nat) : (s.loseSeq seq).mem = s.mem := State.loseSeq_same s seq .mem (by decide)
@[simp] theorem State.loseSeq_fc (s : State) (seq : Nat) : (s.loseSeq seq).fc = s.fc := State.loseSeq_same s seq .fc (by decide)
@[simp] theorem State.loseSeq_nv (s : State) (seq : Nat) : (s.loseSeq seq).nv = s.nv := State.loseSeq_same s seq .nv (by decide)
@[simp] theorem State.loseSeq_cmd (s : State) (seq : Nat) : (s.loseSeq seq).cmd = s.cmd := State.loseSeq_same s seq .cmd (by decide)
@[simp] theorem State.loseSeq_cist (s : State) (seq : Nat) : (s.loseSeq seq).cist = s.cist := State.loseSeq_same s seq .cist (by decide)
@[simp] theorem State.loseSeq_weir (s : State) (seq : Nat) : (s.loseSeq seq).weir = s.weir := State.loseSeq_same s seq .weir (by decide)
@[simp] theorem State.loseSeq_basin (s : State) (seq : Nat) : (s.loseSeq seq).basin = s.basin := State.loseSeq_same s seq .basin (by decide)
@[simp] theorem State.loseSeq_rill (s : State) (seq : Nat) : (s.loseSeq seq).rill = s.rill := State.loseSeq_same s seq .rill (by decide)
@[simp] theorem State.loseSeq_res (s : State) (seq : Nat) : (s.loseSeq seq).res = s.res := State.loseSeq_same s seq .res (by decide)
@[simp] theorem State.loseSeq_whl (s : State) (seq : Nat) : (s.loseSeq seq).whl = s.whl := State.loseSeq_same s seq .whl (by decide)
@[simp] theorem State.loseSeq_spill (s : State) (seq : Nat) : (s.loseSeq seq).spill = s.spill := State.loseSeq_same s seq .spill (by decide)
@[simp] theorem State.loseSeq_sip (s : State) (seq : Nat) : (s.loseSeq seq).sip = s.sip := State.loseSeq_same s seq .sip (by decide)
@[simp] theorem State.loseSeq_seq (s : State) (seq : Nat) : (s.loseSeq seq).seq = s.seq := State.loseSeq_same s seq .seq (by decide)
@[simp] theorem State.loseSeq_port (s : State) (seq : Nat) : (s.loseSeq seq).port = s.port := State.loseSeq_same s seq .port (by decide)
@[simp] theorem State.loseSeq_mir (s : State) (seq : Nat) : (s.loseSeq seq).mir = s.mir := State.loseSeq_same s seq .mir (by decide)
@[simp] theorem State.loseSeq_mgmt (s : State) (seq : Nat) : (s.loseSeq seq).mgmt = s.mgmt := State.loseSeq_same s seq .mgmt (by decide)
@[simp] theorem State.loseSeq_out (s : State) (seq : Nat) : (s.loseSeq seq).out = s.out := State.loseSeq_same s seq .out (by decide)
@[simp] theorem State.loseSeq_pending (s : State) (seq : Nat) : (s.loseSeq seq).pending = s.pending := State.loseSeq_same s seq .pending (by decide)

theorem State.record_same (s : State) (t : RecType) (e : Nat) (l : List Nat) :
    s.SameBut (s.record t e l).2 [.regs, .freeCtr, .rec_] := by
  unfold State.record
  try dsimp only
  repeat' split
  all_goals (intro p hp; revert hp; cases p <;> simp [State.agree])
@[simp] theorem State.record_dev (s : State) (t : RecType) (e : Nat) (l : List Nat) : (s.record t e l).2.dev = s.dev := State.record_same s t e l .dev (by decide)
@[simp] theorem State.record_prev (s : State) (t : RecType) (e : Nat) (l : List Nat) : (s.record t e l).2.prev = s.prev := State.record_same s t e l .prev (by decide)
@[simp] theorem State.record_cold (s : State) (t : RecType) (e : Nat) (l : List Nat) : (s.record t e l).2.cold = s.cold := State.record_same s t e l .cold (by decide)
@[simp] theorem State.record_now (s : State) (t : RecType) (e : Nat) (l : List Nat) : (s.record t e l).2.now = s.now := State.record_same s t e l .now (by decide)
@[simp] theorem State.record_mem (s : State) (t : RecType) (e : Nat) (l : List Nat) : (s.record t e l).2.mem = s.mem := State.record_same s t e l .mem (by decide)
@[simp] theorem State.record_fc (s : State) (t : RecType) (e : Nat) (l : List Nat) : (s.record t e l).2.fc = s.fc := State.record_same s t e l .fc (by decide)
@[simp] theorem State.record_nv (s : State) (t : RecType) (e : Nat) (l : List Nat) : (s.record t e l).2.nv = s.nv := State.record_same s t e l .nv (by decide)
@[simp] theorem State.record_cmd (s : State) (t : RecType) (e : Nat) (l : List Nat) : (s.record t e l).2.cmd = s.cmd := State.record_same s t e l .cmd (by decide)
@[simp] theorem State.record_cist (s : State) (t : RecType) (e : Nat) (l : List Nat) : (s.record t e l).2.cist = s.cist := State.record_same s t e l .cist (by decide)
@[simp] theorem State.record_weir (s : State) (t : RecType) (e : Nat) (l : List Nat) : (s.record t e l).2.weir = s.weir := State.record_same s t e l .weir (by decide)
@[simp] theorem State.record_basin (s : State) (t : RecType) (e : Nat) (l : List Nat) : (s.record t e l).2.basin = s.basin := State.record_same s t e l .basin (by decide)
@[simp] theorem State.record_rill (s : State) (t : RecType) (e : Nat) (l : List Nat) : (s.record t e l).2.rill = s.rill := State.record_same s t e l .rill (by decide)
@[simp] theorem State.record_res (s : State) (t : RecType) (e : Nat) (l : List Nat) : (s.record t e l).2.res = s.res := State.record_same s t e l .res (by decide)
@[simp] theorem State.record_whl (s : State) (t : RecType) (e : Nat) (l : List Nat) : (s.record t e l).2.whl = s.whl := State.record_same s t e l .whl (by decide)
@[simp] theorem State.record_spill (s : State) (t : RecType) (e : Nat) (l : List Nat) : (s.record t e l).2.spill = s.spill := State.record_same s t e l .spill (by decide)
@[simp] theorem State.record_sip (s : State) (t : RecType) (e : Nat) (l : List Nat) : (s.record t e l).2.sip = s.sip := State.record_same s t e l .sip (by decide)
@[simp] theorem State.record_seq (s : State) (t : RecType) (e : Nat) (l : List Nat) : (s.record t e l).2.seq = s.seq := State.record_same s t e l .seq (by decide)
@[simp] theorem State.record_port (s : State) (t : RecType) (e : Nat) (l : List Nat) : (s.record t e l).2.port = s.port := State.record_same s t e l .port (by decide)
@[simp] theorem State.record_mir (s : State) (t : RecType) (e : Nat) (l : List Nat) : (s.record t e l).2.mir = s.mir := State.record_same s t e l .mir (by decide)
@[simp] theorem State.record_mgmt (s : State) (t : RecType) (e : Nat) (l : List Nat) : (s.record t e l).2.mgmt = s.mgmt := State.record_same s t e l .mgmt (by decide)
@[simp] theorem State.record_out (s : State) (t : RecType) (e : Nat) (l : List Nat) : (s.record t e l).2.out = s.out := State.record_same s t e l .out (by decide)
@[simp] theorem State.record_pending (s : State) (t : RecType) (e : Nat) (l : List Nat) : (s.record t e l).2.pending = s.pending := State.record_same s t e l .pending (by decide)

theorem State.snapshots_same (s : State) (n : Nat) (r : State → Nat → Nat) :
    s.SameBut (s.snapshots n r) [.regs, .freeCtr, .rec_] := by
  refine State.SameBut.foldl _ (fun s k => ?_) _ s
  dsimp only
  repeat' split
  all_goals (intro p hp; revert hp; cases p <;> simp [State.agree])
@[simp] theorem State.snapshots_dev (s : State) (n : Nat) (r : State → Nat → Nat) : (s.snapshots n r).dev = s.dev := State.snapshots_same s n r .dev (by decide)
@[simp] theorem State.snapshots_prev (s : State) (n : Nat) (r : State → Nat → Nat) : (s.snapshots n r).prev = s.prev := State.snapshots_same s n r .prev (by decide)
@[simp] theorem State.snapshots_cold (s : State) (n : Nat) (r : State → Nat → Nat) : (s.snapshots n r).cold = s.cold := State.snapshots_same s n r .cold (by decide)
@[simp] theorem State.snapshots_now (s : State) (n : Nat) (r : State → Nat → Nat) : (s.snapshots n r).now = s.now := State.snapshots_same s n r .now (by decide)
@[simp] theorem State.snapshots_mem (s : State) (n : Nat) (r : State → Nat → Nat) : (s.snapshots n r).mem = s.mem := State.snapshots_same s n r .mem (by decide)
@[simp] theorem State.snapshots_fc (s : State) (n : Nat) (r : State → Nat → Nat) : (s.snapshots n r).fc = s.fc := State.snapshots_same s n r .fc (by decide)
@[simp] theorem State.snapshots_nv (s : State) (n : Nat) (r : State → Nat → Nat) : (s.snapshots n r).nv = s.nv := State.snapshots_same s n r .nv (by decide)
@[simp] theorem State.snapshots_cmd (s : State) (n : Nat) (r : State → Nat → Nat) : (s.snapshots n r).cmd = s.cmd := State.snapshots_same s n r .cmd (by decide)
@[simp] theorem State.snapshots_cist (s : State) (n : Nat) (r : State → Nat → Nat) : (s.snapshots n r).cist = s.cist := State.snapshots_same s n r .cist (by decide)
@[simp] theorem State.snapshots_weir (s : State) (n : Nat) (r : State → Nat → Nat) : (s.snapshots n r).weir = s.weir := State.snapshots_same s n r .weir (by decide)
@[simp] theorem State.snapshots_basin (s : State) (n : Nat) (r : State → Nat → Nat) : (s.snapshots n r).basin = s.basin := State.snapshots_same s n r .basin (by decide)
@[simp] theorem State.snapshots_rill (s : State) (n : Nat) (r : State → Nat → Nat) : (s.snapshots n r).rill = s.rill := State.snapshots_same s n r .rill (by decide)
@[simp] theorem State.snapshots_res (s : State) (n : Nat) (r : State → Nat → Nat) : (s.snapshots n r).res = s.res := State.snapshots_same s n r .res (by decide)
@[simp] theorem State.snapshots_whl (s : State) (n : Nat) (r : State → Nat → Nat) : (s.snapshots n r).whl = s.whl := State.snapshots_same s n r .whl (by decide)
@[simp] theorem State.snapshots_spill (s : State) (n : Nat) (r : State → Nat → Nat) : (s.snapshots n r).spill = s.spill := State.snapshots_same s n r .spill (by decide)
@[simp] theorem State.snapshots_sip (s : State) (n : Nat) (r : State → Nat → Nat) : (s.snapshots n r).sip = s.sip := State.snapshots_same s n r .sip (by decide)
@[simp] theorem State.snapshots_seq (s : State) (n : Nat) (r : State → Nat → Nat) : (s.snapshots n r).seq = s.seq := State.snapshots_same s n r .seq (by decide)
@[simp] theorem State.snapshots_port (s : State) (n : Nat) (r : State → Nat → Nat) : (s.snapshots n r).port = s.port := State.snapshots_same s n r .port (by decide)
@[simp] theorem State.snapshots_mir (s : State) (n : Nat) (r : State → Nat → Nat) : (s.snapshots n r).mir = s.mir := State.snapshots_same s n r .mir (by decide)
@[simp] theorem State.snapshots_mgmt (s : State) (n : Nat) (r : State → Nat → Nat) : (s.snapshots n r).mgmt = s.mgmt := State.snapshots_same s n r .mgmt (by decide)
@[simp] theorem State.snapshots_out (s : State) (n : Nat) (r : State → Nat → Nat) : (s.snapshots n r).out = s.out := State.snapshots_same s n r .out (by decide)
@[simp] theorem State.snapshots_pending (s : State) (n : Nat) (r : State → Nat → Nat) : (s.snapshots n r).pending = s.pending := State.snapshots_same s n r .pending (by decide)

theorem State.onPf1_same (s : State) (n : Nat) (f : Pf1 → Pf1) :
    s.SameBut (s.onPf1 n f) [.port] := by
  unfold State.onPf1
  try dsimp only
  repeat' split
  all_goals (intro p hp; revert hp; cases p <;> simp [State.agree])
@[simp] theorem State.onPf1_dev (s : State) (n : Nat) (f : Pf1 → Pf1) : (s.onPf1 n f).dev = s.dev := State.onPf1_same s n f .dev (by decide)
@[simp] theorem State.onPf1_prev (s : State) (n : Nat) (f : Pf1 → Pf1) : (s.onPf1 n f).prev = s.prev := State.onPf1_same s n f .prev (by decide)
@[simp] theorem State.onPf1_cold (s : State) (n : Nat) (f : Pf1 → Pf1) : (s.onPf1 n f).cold = s.cold := State.onPf1_same s n f .cold (by decide)
@[simp] theorem State.onPf1_now (s : State) (n : Nat) (f : Pf1 → Pf1) : (s.onPf1 n f).now = s.now := State.onPf1_same s n f .now (by decide)
@[simp] theorem State.onPf1_regs (s : State) (n : Nat) (f : Pf1 → Pf1) : (s.onPf1 n f).regs = s.regs := State.onPf1_same s n f .regs (by decide)
@[simp] theorem State.onPf1_freeCtr (s : State) (n : Nat) (f : Pf1 → Pf1) : (s.onPf1 n f).freeCtr = s.freeCtr := State.onPf1_same s n f .freeCtr (by decide)
@[simp] theorem State.onPf1_mem (s : State) (n : Nat) (f : Pf1 → Pf1) : (s.onPf1 n f).mem = s.mem := State.onPf1_same s n f .mem (by decide)
@[simp] theorem State.onPf1_fc (s : State) (n : Nat) (f : Pf1 → Pf1) : (s.onPf1 n f).fc = s.fc := State.onPf1_same s n f .fc (by decide)
@[simp] theorem State.onPf1_rec_ (s : State) (n : Nat) (f : Pf1 → Pf1) : (s.onPf1 n f).rec_ = s.rec_ := State.onPf1_same s n f .rec_ (by decide)
@[simp] theorem State.onPf1_nv (s : State) (n : Nat) (f : Pf1 → Pf1) : (s.onPf1 n f).nv = s.nv := State.onPf1_same s n f .nv (by decide)
@[simp] theorem State.onPf1_cmd (s : State) (n : Nat) (f : Pf1 → Pf1) : (s.onPf1 n f).cmd = s.cmd := State.onPf1_same s n f .cmd (by decide)
@[simp] theorem State.onPf1_cist (s : State) (n : Nat) (f : Pf1 → Pf1) : (s.onPf1 n f).cist = s.cist := State.onPf1_same s n f .cist (by decide)
@[simp] theorem State.onPf1_weir (s : State) (n : Nat) (f : Pf1 → Pf1) : (s.onPf1 n f).weir = s.weir := State.onPf1_same s n f .weir (by decide)
@[simp] theorem State.onPf1_basin (s : State) (n : Nat) (f : Pf1 → Pf1) : (s.onPf1 n f).basin = s.basin := State.onPf1_same s n f .basin (by decide)
@[simp] theorem State.onPf1_rill (s : State) (n : Nat) (f : Pf1 → Pf1) : (s.onPf1 n f).rill = s.rill := State.onPf1_same s n f .rill (by decide)
@[simp] theorem State.onPf1_res (s : State) (n : Nat) (f : Pf1 → Pf1) : (s.onPf1 n f).res = s.res := State.onPf1_same s n f .res (by decide)
@[simp] theorem State.onPf1_whl (s : State) (n : Nat) (f : Pf1 → Pf1) : (s.onPf1 n f).whl = s.whl := State.onPf1_same s n f .whl (by decide)
@[simp] theorem State.onPf1_spill (s : State) (n : Nat) (f : Pf1 → Pf1) : (s.onPf1 n f).spill = s.spill := State.onPf1_same s n f .spill (by decide)
@[simp] theorem State.onPf1_sip (s : State) (n : Nat) (f : Pf1 → Pf1) : (s.onPf1 n f).sip = s.sip := State.onPf1_same s n f .sip (by decide)
@[simp] theorem State.onPf1_seq (s : State) (n : Nat) (f : Pf1 → Pf1) : (s.onPf1 n f).seq = s.seq := State.onPf1_same s n f .seq (by decide)
@[simp] theorem State.onPf1_mir (s : State) (n : Nat) (f : Pf1 → Pf1) : (s.onPf1 n f).mir = s.mir := State.onPf1_same s n f .mir (by decide)
@[simp] theorem State.onPf1_mgmt (s : State) (n : Nat) (f : Pf1 → Pf1) : (s.onPf1 n f).mgmt = s.mgmt := State.onPf1_same s n f .mgmt (by decide)
@[simp] theorem State.onPf1_out (s : State) (n : Nat) (f : Pf1 → Pf1) : (s.onPf1 n f).out = s.out := State.onPf1_same s n f .out (by decide)
@[simp] theorem State.onPf1_pending (s : State) (n : Nat) (f : Pf1 → Pf1) : (s.onPf1 n f).pending = s.pending := State.onPf1_same s n f .pending (by decide)

theorem State.msixTo_same (s : State) (n ld : Nat) :
    s.SameBut (s.msixTo n ld) [.port, .out] := by
  unfold State.msixTo
  try dsimp only
  repeat' split
  all_goals (intro p hp; revert hp; cases p <;> simp [State.agree])
@[simp] theorem State.msixTo_dev (s : State) (n ld : Nat) : (s.msixTo n ld).dev = s.dev := State.msixTo_same s n ld .dev (by decide)
@[simp] theorem State.msixTo_prev (s : State) (n ld : Nat) : (s.msixTo n ld).prev = s.prev := State.msixTo_same s n ld .prev (by decide)
@[simp] theorem State.msixTo_cold (s : State) (n ld : Nat) : (s.msixTo n ld).cold = s.cold := State.msixTo_same s n ld .cold (by decide)
@[simp] theorem State.msixTo_now (s : State) (n ld : Nat) : (s.msixTo n ld).now = s.now := State.msixTo_same s n ld .now (by decide)
@[simp] theorem State.msixTo_regs (s : State) (n ld : Nat) : (s.msixTo n ld).regs = s.regs := State.msixTo_same s n ld .regs (by decide)
@[simp] theorem State.msixTo_freeCtr (s : State) (n ld : Nat) : (s.msixTo n ld).freeCtr = s.freeCtr := State.msixTo_same s n ld .freeCtr (by decide)
@[simp] theorem State.msixTo_mem (s : State) (n ld : Nat) : (s.msixTo n ld).mem = s.mem := State.msixTo_same s n ld .mem (by decide)
@[simp] theorem State.msixTo_fc (s : State) (n ld : Nat) : (s.msixTo n ld).fc = s.fc := State.msixTo_same s n ld .fc (by decide)
@[simp] theorem State.msixTo_rec_ (s : State) (n ld : Nat) : (s.msixTo n ld).rec_ = s.rec_ := State.msixTo_same s n ld .rec_ (by decide)
@[simp] theorem State.msixTo_nv (s : State) (n ld : Nat) : (s.msixTo n ld).nv = s.nv := State.msixTo_same s n ld .nv (by decide)
@[simp] theorem State.msixTo_cmd (s : State) (n ld : Nat) : (s.msixTo n ld).cmd = s.cmd := State.msixTo_same s n ld .cmd (by decide)
@[simp] theorem State.msixTo_cist (s : State) (n ld : Nat) : (s.msixTo n ld).cist = s.cist := State.msixTo_same s n ld .cist (by decide)
@[simp] theorem State.msixTo_weir (s : State) (n ld : Nat) : (s.msixTo n ld).weir = s.weir := State.msixTo_same s n ld .weir (by decide)
@[simp] theorem State.msixTo_basin (s : State) (n ld : Nat) : (s.msixTo n ld).basin = s.basin := State.msixTo_same s n ld .basin (by decide)
@[simp] theorem State.msixTo_rill (s : State) (n ld : Nat) : (s.msixTo n ld).rill = s.rill := State.msixTo_same s n ld .rill (by decide)
@[simp] theorem State.msixTo_res (s : State) (n ld : Nat) : (s.msixTo n ld).res = s.res := State.msixTo_same s n ld .res (by decide)
@[simp] theorem State.msixTo_whl (s : State) (n ld : Nat) : (s.msixTo n ld).whl = s.whl := State.msixTo_same s n ld .whl (by decide)
@[simp] theorem State.msixTo_spill (s : State) (n ld : Nat) : (s.msixTo n ld).spill = s.spill := State.msixTo_same s n ld .spill (by decide)
@[simp] theorem State.msixTo_sip (s : State) (n ld : Nat) : (s.msixTo n ld).sip = s.sip := State.msixTo_same s n ld .sip (by decide)
@[simp] theorem State.msixTo_seq (s : State) (n ld : Nat) : (s.msixTo n ld).seq = s.seq := State.msixTo_same s n ld .seq (by decide)
@[simp] theorem State.msixTo_mir (s : State) (n ld : Nat) : (s.msixTo n ld).mir = s.mir := State.msixTo_same s n ld .mir (by decide)
@[simp] theorem State.msixTo_mgmt (s : State) (n ld : Nat) : (s.msixTo n ld).mgmt = s.mgmt := State.msixTo_same s n ld .mgmt (by decide)
@[simp] theorem State.msixTo_pending (s : State) (n ld : Nat) : (s.msixTo n ld).pending = s.pending := State.msixTo_same s n ld .pending (by decide)

theorem State.msix_same (s : State) (n : Nat) :
    s.SameBut (s.msix n) [.port, .out] := by
  exact State.SameBut.foldl _ (fun s ld => s.msixTo_same n ld) _ s
@[simp] theorem State.msix_dev (s : State) (n : Nat) : (s.msix n).dev = s.dev := State.msix_same s n .dev (by decide)
@[simp] theorem State.msix_prev (s : State) (n : Nat) : (s.msix n).prev = s.prev := State.msix_same s n .prev (by decide)
@[simp] theorem State.msix_cold (s : State) (n : Nat) : (s.msix n).cold = s.cold := State.msix_same s n .cold (by decide)
@[simp] theorem State.msix_now (s : State) (n : Nat) : (s.msix n).now = s.now := State.msix_same s n .now (by decide)
@[simp] theorem State.msix_regs (s : State) (n : Nat) : (s.msix n).regs = s.regs := State.msix_same s n .regs (by decide)
@[simp] theorem State.msix_freeCtr (s : State) (n : Nat) : (s.msix n).freeCtr = s.freeCtr := State.msix_same s n .freeCtr (by decide)
@[simp] theorem State.msix_mem (s : State) (n : Nat) : (s.msix n).mem = s.mem := State.msix_same s n .mem (by decide)
@[simp] theorem State.msix_fc (s : State) (n : Nat) : (s.msix n).fc = s.fc := State.msix_same s n .fc (by decide)
@[simp] theorem State.msix_rec_ (s : State) (n : Nat) : (s.msix n).rec_ = s.rec_ := State.msix_same s n .rec_ (by decide)
@[simp] theorem State.msix_nv (s : State) (n : Nat) : (s.msix n).nv = s.nv := State.msix_same s n .nv (by decide)
@[simp] theorem State.msix_cmd (s : State) (n : Nat) : (s.msix n).cmd = s.cmd := State.msix_same s n .cmd (by decide)
@[simp] theorem State.msix_cist (s : State) (n : Nat) : (s.msix n).cist = s.cist := State.msix_same s n .cist (by decide)
@[simp] theorem State.msix_weir (s : State) (n : Nat) : (s.msix n).weir = s.weir := State.msix_same s n .weir (by decide)
@[simp] theorem State.msix_basin (s : State) (n : Nat) : (s.msix n).basin = s.basin := State.msix_same s n .basin (by decide)
@[simp] theorem State.msix_rill (s : State) (n : Nat) : (s.msix n).rill = s.rill := State.msix_same s n .rill (by decide)
@[simp] theorem State.msix_res (s : State) (n : Nat) : (s.msix n).res = s.res := State.msix_same s n .res (by decide)
@[simp] theorem State.msix_whl (s : State) (n : Nat) : (s.msix n).whl = s.whl := State.msix_same s n .whl (by decide)
@[simp] theorem State.msix_spill (s : State) (n : Nat) : (s.msix n).spill = s.spill := State.msix_same s n .spill (by decide)
@[simp] theorem State.msix_sip (s : State) (n : Nat) : (s.msix n).sip = s.sip := State.msix_same s n .sip (by decide)
@[simp] theorem State.msix_seq (s : State) (n : Nat) : (s.msix n).seq = s.seq := State.msix_same s n .seq (by decide)
@[simp] theorem State.msix_mir (s : State) (n : Nat) : (s.msix n).mir = s.mir := State.msix_same s n .mir (by decide)
@[simp] theorem State.msix_mgmt (s : State) (n : Nat) : (s.msix n).mgmt = s.mgmt := State.msix_same s n .mgmt (by decide)
@[simp] theorem State.msix_pending (s : State) (n : Nat) : (s.msix n).pending = s.pending := State.msix_same s n .pending (by decide)

theorem State.logMsix_same (s : State) (n ld : Nat) :
    s.SameBut (s.logMsix n ld) [.port, .out] := by
  unfold State.logMsix
  try dsimp only
  repeat' split
  all_goals (intro p hp; revert hp; cases p <;> simp [State.agree])
@[simp] theorem State.logMsix_dev (s : State) (n ld : Nat) : (s.logMsix n ld).dev = s.dev := State.logMsix_same s n ld .dev (by decide)
@[simp] theorem State.logMsix_prev (s : State) (n ld : Nat) : (s.logMsix n ld).prev = s.prev := State.logMsix_same s n ld .prev (by decide)
@[simp] theorem State.logMsix_cold (s : State) (n ld : Nat) : (s.logMsix n ld).cold = s.cold := State.logMsix_same s n ld .cold (by decide)
@[simp] theorem State.logMsix_now (s : State) (n ld : Nat) : (s.logMsix n ld).now = s.now := State.logMsix_same s n ld .now (by decide)
@[simp] theorem State.logMsix_regs (s : State) (n ld : Nat) : (s.logMsix n ld).regs = s.regs := State.logMsix_same s n ld .regs (by decide)
@[simp] theorem State.logMsix_freeCtr (s : State) (n ld : Nat) : (s.logMsix n ld).freeCtr = s.freeCtr := State.logMsix_same s n ld .freeCtr (by decide)
@[simp] theorem State.logMsix_mem (s : State) (n ld : Nat) : (s.logMsix n ld).mem = s.mem := State.logMsix_same s n ld .mem (by decide)
@[simp] theorem State.logMsix_fc (s : State) (n ld : Nat) : (s.logMsix n ld).fc = s.fc := State.logMsix_same s n ld .fc (by decide)
@[simp] theorem State.logMsix_rec_ (s : State) (n ld : Nat) : (s.logMsix n ld).rec_ = s.rec_ := State.logMsix_same s n ld .rec_ (by decide)
@[simp] theorem State.logMsix_nv (s : State) (n ld : Nat) : (s.logMsix n ld).nv = s.nv := State.logMsix_same s n ld .nv (by decide)
@[simp] theorem State.logMsix_cmd (s : State) (n ld : Nat) : (s.logMsix n ld).cmd = s.cmd := State.logMsix_same s n ld .cmd (by decide)
@[simp] theorem State.logMsix_cist (s : State) (n ld : Nat) : (s.logMsix n ld).cist = s.cist := State.logMsix_same s n ld .cist (by decide)
@[simp] theorem State.logMsix_weir (s : State) (n ld : Nat) : (s.logMsix n ld).weir = s.weir := State.logMsix_same s n ld .weir (by decide)
@[simp] theorem State.logMsix_basin (s : State) (n ld : Nat) : (s.logMsix n ld).basin = s.basin := State.logMsix_same s n ld .basin (by decide)
@[simp] theorem State.logMsix_rill (s : State) (n ld : Nat) : (s.logMsix n ld).rill = s.rill := State.logMsix_same s n ld .rill (by decide)
@[simp] theorem State.logMsix_res (s : State) (n ld : Nat) : (s.logMsix n ld).res = s.res := State.logMsix_same s n ld .res (by decide)
@[simp] theorem State.logMsix_whl (s : State) (n ld : Nat) : (s.logMsix n ld).whl = s.whl := State.logMsix_same s n ld .whl (by decide)
@[simp] theorem State.logMsix_spill (s : State) (n ld : Nat) : (s.logMsix n ld).spill = s.spill := State.logMsix_same s n ld .spill (by decide)
@[simp] theorem State.logMsix_sip (s : State) (n ld : Nat) : (s.logMsix n ld).sip = s.sip := State.logMsix_same s n ld .sip (by decide)
@[simp] theorem State.logMsix_seq (s : State) (n ld : Nat) : (s.logMsix n ld).seq = s.seq := State.logMsix_same s n ld .seq (by decide)
@[simp] theorem State.logMsix_mir (s : State) (n ld : Nat) : (s.logMsix n ld).mir = s.mir := State.logMsix_same s n ld .mir (by decide)
@[simp] theorem State.logMsix_mgmt (s : State) (n ld : Nat) : (s.logMsix n ld).mgmt = s.mgmt := State.logMsix_same s n ld .mgmt (by decide)
@[simp] theorem State.logMsix_pending (s : State) (n ld : Nat) : (s.logMsix n ld).pending = s.pending := State.logMsix_same s n ld .pending (by decide)

theorem State.logPut_same (s : State) (n : Nat) (x : LogRec) :
    s.SameBut (s.logPut n x) [.port, .out] := by
  unfold State.logPut
  try dsimp only
  repeat' split
  all_goals (intro p hp; revert hp; cases p <;> simp [State.agree])
@[simp] theorem State.logPut_dev (s : State) (n : Nat) (x : LogRec) : (s.logPut n x).dev = s.dev := State.logPut_same s n x .dev (by decide)
@[simp] theorem State.logPut_prev (s : State) (n : Nat) (x : LogRec) : (s.logPut n x).prev = s.prev := State.logPut_same s n x .prev (by decide)
@[simp] theorem State.logPut_cold (s : State) (n : Nat) (x : LogRec) : (s.logPut n x).cold = s.cold := State.logPut_same s n x .cold (by decide)
@[simp] theorem State.logPut_now (s : State) (n : Nat) (x : LogRec) : (s.logPut n x).now = s.now := State.logPut_same s n x .now (by decide)
@[simp] theorem State.logPut_regs (s : State) (n : Nat) (x : LogRec) : (s.logPut n x).regs = s.regs := State.logPut_same s n x .regs (by decide)
@[simp] theorem State.logPut_freeCtr (s : State) (n : Nat) (x : LogRec) : (s.logPut n x).freeCtr = s.freeCtr := State.logPut_same s n x .freeCtr (by decide)
@[simp] theorem State.logPut_mem (s : State) (n : Nat) (x : LogRec) : (s.logPut n x).mem = s.mem := State.logPut_same s n x .mem (by decide)
@[simp] theorem State.logPut_fc (s : State) (n : Nat) (x : LogRec) : (s.logPut n x).fc = s.fc := State.logPut_same s n x .fc (by decide)
@[simp] theorem State.logPut_rec_ (s : State) (n : Nat) (x : LogRec) : (s.logPut n x).rec_ = s.rec_ := State.logPut_same s n x .rec_ (by decide)
@[simp] theorem State.logPut_nv (s : State) (n : Nat) (x : LogRec) : (s.logPut n x).nv = s.nv := State.logPut_same s n x .nv (by decide)
@[simp] theorem State.logPut_cmd (s : State) (n : Nat) (x : LogRec) : (s.logPut n x).cmd = s.cmd := State.logPut_same s n x .cmd (by decide)
@[simp] theorem State.logPut_cist (s : State) (n : Nat) (x : LogRec) : (s.logPut n x).cist = s.cist := State.logPut_same s n x .cist (by decide)
@[simp] theorem State.logPut_weir (s : State) (n : Nat) (x : LogRec) : (s.logPut n x).weir = s.weir := State.logPut_same s n x .weir (by decide)
@[simp] theorem State.logPut_basin (s : State) (n : Nat) (x : LogRec) : (s.logPut n x).basin = s.basin := State.logPut_same s n x .basin (by decide)
@[simp] theorem State.logPut_rill (s : State) (n : Nat) (x : LogRec) : (s.logPut n x).rill = s.rill := State.logPut_same s n x .rill (by decide)
@[simp] theorem State.logPut_res (s : State) (n : Nat) (x : LogRec) : (s.logPut n x).res = s.res := State.logPut_same s n x .res (by decide)
@[simp] theorem State.logPut_whl (s : State) (n : Nat) (x : LogRec) : (s.logPut n x).whl = s.whl := State.logPut_same s n x .whl (by decide)
@[simp] theorem State.logPut_spill (s : State) (n : Nat) (x : LogRec) : (s.logPut n x).spill = s.spill := State.logPut_same s n x .spill (by decide)
@[simp] theorem State.logPut_sip (s : State) (n : Nat) (x : LogRec) : (s.logPut n x).sip = s.sip := State.logPut_same s n x .sip (by decide)
@[simp] theorem State.logPut_seq (s : State) (n : Nat) (x : LogRec) : (s.logPut n x).seq = s.seq := State.logPut_same s n x .seq (by decide)
@[simp] theorem State.logPut_mir (s : State) (n : Nat) (x : LogRec) : (s.logPut n x).mir = s.mir := State.logPut_same s n x .mir (by decide)
@[simp] theorem State.logPut_mgmt (s : State) (n : Nat) (x : LogRec) : (s.logPut n x).mgmt = s.mgmt := State.logPut_same s n x .mgmt (by decide)
@[simp] theorem State.logPut_pending (s : State) (n : Nat) (x : LogRec) : (s.logPut n x).pending = s.pending := State.logPut_same s n x .pending (by decide)

theorem State.cxlRecord_same (s : State) (n : Nat) (x : LogRec) :
    s.SameBut (s.cxlRecord n x) [.port, .out] := by
  exact (s.logPut_same n x).trans (State.SameBut.foldl _ (fun s ld => s.logMsix_same n ld) _ _)
@[simp] theorem State.cxlRecord_dev (s : State) (n : Nat) (x : LogRec) : (s.cxlRecord n x).dev = s.dev := State.cxlRecord_same s n x .dev (by decide)
@[simp] theorem State.cxlRecord_prev (s : State) (n : Nat) (x : LogRec) : (s.cxlRecord n x).prev = s.prev := State.cxlRecord_same s n x .prev (by decide)
@[simp] theorem State.cxlRecord_cold (s : State) (n : Nat) (x : LogRec) : (s.cxlRecord n x).cold = s.cold := State.cxlRecord_same s n x .cold (by decide)
@[simp] theorem State.cxlRecord_now (s : State) (n : Nat) (x : LogRec) : (s.cxlRecord n x).now = s.now := State.cxlRecord_same s n x .now (by decide)
@[simp] theorem State.cxlRecord_regs (s : State) (n : Nat) (x : LogRec) : (s.cxlRecord n x).regs = s.regs := State.cxlRecord_same s n x .regs (by decide)
@[simp] theorem State.cxlRecord_freeCtr (s : State) (n : Nat) (x : LogRec) : (s.cxlRecord n x).freeCtr = s.freeCtr := State.cxlRecord_same s n x .freeCtr (by decide)
@[simp] theorem State.cxlRecord_mem (s : State) (n : Nat) (x : LogRec) : (s.cxlRecord n x).mem = s.mem := State.cxlRecord_same s n x .mem (by decide)
@[simp] theorem State.cxlRecord_fc (s : State) (n : Nat) (x : LogRec) : (s.cxlRecord n x).fc = s.fc := State.cxlRecord_same s n x .fc (by decide)
@[simp] theorem State.cxlRecord_rec_ (s : State) (n : Nat) (x : LogRec) : (s.cxlRecord n x).rec_ = s.rec_ := State.cxlRecord_same s n x .rec_ (by decide)
@[simp] theorem State.cxlRecord_nv (s : State) (n : Nat) (x : LogRec) : (s.cxlRecord n x).nv = s.nv := State.cxlRecord_same s n x .nv (by decide)
@[simp] theorem State.cxlRecord_cmd (s : State) (n : Nat) (x : LogRec) : (s.cxlRecord n x).cmd = s.cmd := State.cxlRecord_same s n x .cmd (by decide)
@[simp] theorem State.cxlRecord_cist (s : State) (n : Nat) (x : LogRec) : (s.cxlRecord n x).cist = s.cist := State.cxlRecord_same s n x .cist (by decide)
@[simp] theorem State.cxlRecord_weir (s : State) (n : Nat) (x : LogRec) : (s.cxlRecord n x).weir = s.weir := State.cxlRecord_same s n x .weir (by decide)
@[simp] theorem State.cxlRecord_basin (s : State) (n : Nat) (x : LogRec) : (s.cxlRecord n x).basin = s.basin := State.cxlRecord_same s n x .basin (by decide)
@[simp] theorem State.cxlRecord_rill (s : State) (n : Nat) (x : LogRec) : (s.cxlRecord n x).rill = s.rill := State.cxlRecord_same s n x .rill (by decide)
@[simp] theorem State.cxlRecord_res (s : State) (n : Nat) (x : LogRec) : (s.cxlRecord n x).res = s.res := State.cxlRecord_same s n x .res (by decide)
@[simp] theorem State.cxlRecord_whl (s : State) (n : Nat) (x : LogRec) : (s.cxlRecord n x).whl = s.whl := State.cxlRecord_same s n x .whl (by decide)
@[simp] theorem State.cxlRecord_spill (s : State) (n : Nat) (x : LogRec) : (s.cxlRecord n x).spill = s.spill := State.cxlRecord_same s n x .spill (by decide)
@[simp] theorem State.cxlRecord_sip (s : State) (n : Nat) (x : LogRec) : (s.cxlRecord n x).sip = s.sip := State.cxlRecord_same s n x .sip (by decide)
@[simp] theorem State.cxlRecord_seq (s : State) (n : Nat) (x : LogRec) : (s.cxlRecord n x).seq = s.seq := State.cxlRecord_same s n x .seq (by decide)
@[simp] theorem State.cxlRecord_mir (s : State) (n : Nat) (x : LogRec) : (s.cxlRecord n x).mir = s.mir := State.cxlRecord_same s n x .mir (by decide)
@[simp] theorem State.cxlRecord_mgmt (s : State) (n : Nat) (x : LogRec) : (s.cxlRecord n x).mgmt = s.mgmt := State.cxlRecord_same s n x .mgmt (by decide)
@[simp] theorem State.cxlRecord_pending (s : State) (n : Nat) (x : LogRec) : (s.cxlRecord n x).pending = s.pending := State.cxlRecord_same s n x .pending (by decide)

theorem State.dcRecord_same (s : State) (n : Nat) (x : LogRec) :
    s.SameBut (s.dcRecord n x) [.port, .out] := by
  exact (State.logPut_same _ _ _).trans (State.logMsix_same _ _ _)
@[simp] theorem State.dcRecord_dev (s : State) (n : Nat) (x : LogRec) : (s.dcRecord n x).dev = s.dev := State.dcRecord_same s n x .dev (by decide)
@[simp] theorem State.dcRecord_prev (s : State) (n : Nat) (x : LogRec) : (s.dcRecord n x).prev = s.prev := State.dcRecord_same s n x .prev (by decide)
@[simp] theorem State.dcRecord_cold (s : State) (n : Nat) (x : LogRec) : (s.dcRecord n x).cold = s.cold := State.dcRecord_same s n x .cold (by decide)
@[simp] theorem State.dcRecord_now (s : State) (n : Nat) (x : LogRec) : (s.dcRecord n x).now = s.now := State.dcRecord_same s n x .now (by decide)
@[simp] theorem State.dcRecord_regs (s : State) (n : Nat) (x : LogRec) : (s.dcRecord n x).regs = s.regs := State.dcRecord_same s n x .regs (by decide)
@[simp] theorem State.dcRecord_freeCtr (s : State) (n : Nat) (x : LogRec) : (s.dcRecord n x).freeCtr = s.freeCtr := State.dcRecord_same s n x .freeCtr (by decide)
@[simp] theorem State.dcRecord_mem (s : State) (n : Nat) (x : LogRec) : (s.dcRecord n x).mem = s.mem := State.dcRecord_same s n x .mem (by decide)
@[simp] theorem State.dcRecord_fc (s : State) (n : Nat) (x : LogRec) : (s.dcRecord n x).fc = s.fc := State.dcRecord_same s n x .fc (by decide)
@[simp] theorem State.dcRecord_rec_ (s : State) (n : Nat) (x : LogRec) : (s.dcRecord n x).rec_ = s.rec_ := State.dcRecord_same s n x .rec_ (by decide)
@[simp] theorem State.dcRecord_nv (s : State) (n : Nat) (x : LogRec) : (s.dcRecord n x).nv = s.nv := State.dcRecord_same s n x .nv (by decide)
@[simp] theorem State.dcRecord_cmd (s : State) (n : Nat) (x : LogRec) : (s.dcRecord n x).cmd = s.cmd := State.dcRecord_same s n x .cmd (by decide)
@[simp] theorem State.dcRecord_cist (s : State) (n : Nat) (x : LogRec) : (s.dcRecord n x).cist = s.cist := State.dcRecord_same s n x .cist (by decide)
@[simp] theorem State.dcRecord_weir (s : State) (n : Nat) (x : LogRec) : (s.dcRecord n x).weir = s.weir := State.dcRecord_same s n x .weir (by decide)
@[simp] theorem State.dcRecord_basin (s : State) (n : Nat) (x : LogRec) : (s.dcRecord n x).basin = s.basin := State.dcRecord_same s n x .basin (by decide)
@[simp] theorem State.dcRecord_rill (s : State) (n : Nat) (x : LogRec) : (s.dcRecord n x).rill = s.rill := State.dcRecord_same s n x .rill (by decide)
@[simp] theorem State.dcRecord_res (s : State) (n : Nat) (x : LogRec) : (s.dcRecord n x).res = s.res := State.dcRecord_same s n x .res (by decide)
@[simp] theorem State.dcRecord_whl (s : State) (n : Nat) (x : LogRec) : (s.dcRecord n x).whl = s.whl := State.dcRecord_same s n x .whl (by decide)
@[simp] theorem State.dcRecord_spill (s : State) (n : Nat) (x : LogRec) : (s.dcRecord n x).spill = s.spill := State.dcRecord_same s n x .spill (by decide)
@[simp] theorem State.dcRecord_sip (s : State) (n : Nat) (x : LogRec) : (s.dcRecord n x).sip = s.sip := State.dcRecord_same s n x .sip (by decide)
@[simp] theorem State.dcRecord_seq (s : State) (n : Nat) (x : LogRec) : (s.dcRecord n x).seq = s.seq := State.dcRecord_same s n x .seq (by decide)
@[simp] theorem State.dcRecord_mir (s : State) (n : Nat) (x : LogRec) : (s.dcRecord n x).mir = s.mir := State.dcRecord_same s n x .mir (by decide)
@[simp] theorem State.dcRecord_mgmt (s : State) (n : Nat) (x : LogRec) : (s.dcRecord n x).mgmt = s.mgmt := State.dcRecord_same s n x .mgmt (by decide)
@[simp] theorem State.dcRecord_pending (s : State) (n : Nat) (x : LogRec) : (s.dcRecord n x).pending = s.pending := State.dcRecord_same s n x .pending (by decide)

theorem State.cxlLog_same (s : State) (a b c d : Nat) :
    s.SameBut (s.cxlLog a b c d) [.port, .out] := by
  unfold State.cxlLog
  try dsimp only
  repeat' split
  all_goals (intro p hp; revert hp; cases p <;> simp [State.agree])
@[simp] theorem State.cxlLog_dev (s : State) (a b c d : Nat) : (s.cxlLog a b c d).dev = s.dev := State.cxlLog_same s a b c d .dev (by decide)
@[simp] theorem State.cxlLog_prev (s : State) (a b c d : Nat) : (s.cxlLog a b c d).prev = s.prev := State.cxlLog_same s a b c d .prev (by decide)
@[simp] theorem State.cxlLog_cold (s : State) (a b c d : Nat) : (s.cxlLog a b c d).cold = s.cold := State.cxlLog_same s a b c d .cold (by decide)
@[simp] theorem State.cxlLog_now (s : State) (a b c d : Nat) : (s.cxlLog a b c d).now = s.now := State.cxlLog_same s a b c d .now (by decide)
@[simp] theorem State.cxlLog_regs (s : State) (a b c d : Nat) : (s.cxlLog a b c d).regs = s.regs := State.cxlLog_same s a b c d .regs (by decide)
@[simp] theorem State.cxlLog_freeCtr (s : State) (a b c d : Nat) : (s.cxlLog a b c d).freeCtr = s.freeCtr := State.cxlLog_same s a b c d .freeCtr (by decide)
@[simp] theorem State.cxlLog_mem (s : State) (a b c d : Nat) : (s.cxlLog a b c d).mem = s.mem := State.cxlLog_same s a b c d .mem (by decide)
@[simp] theorem State.cxlLog_fc (s : State) (a b c d : Nat) : (s.cxlLog a b c d).fc = s.fc := State.cxlLog_same s a b c d .fc (by decide)
@[simp] theorem State.cxlLog_rec_ (s : State) (a b c d : Nat) : (s.cxlLog a b c d).rec_ = s.rec_ := State.cxlLog_same s a b c d .rec_ (by decide)
@[simp] theorem State.cxlLog_nv (s : State) (a b c d : Nat) : (s.cxlLog a b c d).nv = s.nv := State.cxlLog_same s a b c d .nv (by decide)
@[simp] theorem State.cxlLog_cmd (s : State) (a b c d : Nat) : (s.cxlLog a b c d).cmd = s.cmd := State.cxlLog_same s a b c d .cmd (by decide)
@[simp] theorem State.cxlLog_cist (s : State) (a b c d : Nat) : (s.cxlLog a b c d).cist = s.cist := State.cxlLog_same s a b c d .cist (by decide)
@[simp] theorem State.cxlLog_weir (s : State) (a b c d : Nat) : (s.cxlLog a b c d).weir = s.weir := State.cxlLog_same s a b c d .weir (by decide)
@[simp] theorem State.cxlLog_basin (s : State) (a b c d : Nat) : (s.cxlLog a b c d).basin = s.basin := State.cxlLog_same s a b c d .basin (by decide)
@[simp] theorem State.cxlLog_rill (s : State) (a b c d : Nat) : (s.cxlLog a b c d).rill = s.rill := State.cxlLog_same s a b c d .rill (by decide)
@[simp] theorem State.cxlLog_res (s : State) (a b c d : Nat) : (s.cxlLog a b c d).res = s.res := State.cxlLog_same s a b c d .res (by decide)
@[simp] theorem State.cxlLog_whl (s : State) (a b c d : Nat) : (s.cxlLog a b c d).whl = s.whl := State.cxlLog_same s a b c d .whl (by decide)
@[simp] theorem State.cxlLog_spill (s : State) (a b c d : Nat) : (s.cxlLog a b c d).spill = s.spill := State.cxlLog_same s a b c d .spill (by decide)
@[simp] theorem State.cxlLog_sip (s : State) (a b c d : Nat) : (s.cxlLog a b c d).sip = s.sip := State.cxlLog_same s a b c d .sip (by decide)
@[simp] theorem State.cxlLog_seq (s : State) (a b c d : Nat) : (s.cxlLog a b c d).seq = s.seq := State.cxlLog_same s a b c d .seq (by decide)
@[simp] theorem State.cxlLog_mir (s : State) (a b c d : Nat) : (s.cxlLog a b c d).mir = s.mir := State.cxlLog_same s a b c d .mir (by decide)
@[simp] theorem State.cxlLog_mgmt (s : State) (a b c d : Nat) : (s.cxlLog a b c d).mgmt = s.mgmt := State.cxlLog_same s a b c d .mgmt (by decide)
@[simp] theorem State.cxlLog_pending (s : State) (a b c d : Nat) : (s.cxlLog a b c d).pending = s.pending := State.cxlLog_same s a b c d .pending (by decide)

theorem State.sendFrame_same (s : State) (a b : Nat) (h : MHdr) (l : List Nat) :
    s.SameBut (s.sendFrame a b h l) [.mir, .out] := by
  unfold State.sendFrame
  try dsimp only
  repeat' split
  all_goals (intro p hp; revert hp; cases p <;> simp [State.agree])
@[simp] theorem State.sendFrame_dev (s : State) (a b : Nat) (h : MHdr) (l : List Nat) : (s.sendFrame a b h l).dev = s.dev := State.sendFrame_same s a b h l .dev (by decide)
@[simp] theorem State.sendFrame_prev (s : State) (a b : Nat) (h : MHdr) (l : List Nat) : (s.sendFrame a b h l).prev = s.prev := State.sendFrame_same s a b h l .prev (by decide)
@[simp] theorem State.sendFrame_cold (s : State) (a b : Nat) (h : MHdr) (l : List Nat) : (s.sendFrame a b h l).cold = s.cold := State.sendFrame_same s a b h l .cold (by decide)
@[simp] theorem State.sendFrame_now (s : State) (a b : Nat) (h : MHdr) (l : List Nat) : (s.sendFrame a b h l).now = s.now := State.sendFrame_same s a b h l .now (by decide)
@[simp] theorem State.sendFrame_regs (s : State) (a b : Nat) (h : MHdr) (l : List Nat) : (s.sendFrame a b h l).regs = s.regs := State.sendFrame_same s a b h l .regs (by decide)
@[simp] theorem State.sendFrame_freeCtr (s : State) (a b : Nat) (h : MHdr) (l : List Nat) : (s.sendFrame a b h l).freeCtr = s.freeCtr := State.sendFrame_same s a b h l .freeCtr (by decide)
@[simp] theorem State.sendFrame_mem (s : State) (a b : Nat) (h : MHdr) (l : List Nat) : (s.sendFrame a b h l).mem = s.mem := State.sendFrame_same s a b h l .mem (by decide)
@[simp] theorem State.sendFrame_fc (s : State) (a b : Nat) (h : MHdr) (l : List Nat) : (s.sendFrame a b h l).fc = s.fc := State.sendFrame_same s a b h l .fc (by decide)
@[simp] theorem State.sendFrame_rec_ (s : State) (a b : Nat) (h : MHdr) (l : List Nat) : (s.sendFrame a b h l).rec_ = s.rec_ := State.sendFrame_same s a b h l .rec_ (by decide)
@[simp] theorem State.sendFrame_nv (s : State) (a b : Nat) (h : MHdr) (l : List Nat) : (s.sendFrame a b h l).nv = s.nv := State.sendFrame_same s a b h l .nv (by decide)
@[simp] theorem State.sendFrame_cmd (s : State) (a b : Nat) (h : MHdr) (l : List Nat) : (s.sendFrame a b h l).cmd = s.cmd := State.sendFrame_same s a b h l .cmd (by decide)
@[simp] theorem State.sendFrame_cist (s : State) (a b : Nat) (h : MHdr) (l : List Nat) : (s.sendFrame a b h l).cist = s.cist := State.sendFrame_same s a b h l .cist (by decide)
@[simp] theorem State.sendFrame_weir (s : State) (a b : Nat) (h : MHdr) (l : List Nat) : (s.sendFrame a b h l).weir = s.weir := State.sendFrame_same s a b h l .weir (by decide)
@[simp] theorem State.sendFrame_basin (s : State) (a b : Nat) (h : MHdr) (l : List Nat) : (s.sendFrame a b h l).basin = s.basin := State.sendFrame_same s a b h l .basin (by decide)
@[simp] theorem State.sendFrame_rill (s : State) (a b : Nat) (h : MHdr) (l : List Nat) : (s.sendFrame a b h l).rill = s.rill := State.sendFrame_same s a b h l .rill (by decide)
@[simp] theorem State.sendFrame_res (s : State) (a b : Nat) (h : MHdr) (l : List Nat) : (s.sendFrame a b h l).res = s.res := State.sendFrame_same s a b h l .res (by decide)
@[simp] theorem State.sendFrame_whl (s : State) (a b : Nat) (h : MHdr) (l : List Nat) : (s.sendFrame a b h l).whl = s.whl := State.sendFrame_same s a b h l .whl (by decide)
@[simp] theorem State.sendFrame_spill (s : State) (a b : Nat) (h : MHdr) (l : List Nat) : (s.sendFrame a b h l).spill = s.spill := State.sendFrame_same s a b h l .spill (by decide)
@[simp] theorem State.sendFrame_sip (s : State) (a b : Nat) (h : MHdr) (l : List Nat) : (s.sendFrame a b h l).sip = s.sip := State.sendFrame_same s a b h l .sip (by decide)
@[simp] theorem State.sendFrame_seq (s : State) (a b : Nat) (h : MHdr) (l : List Nat) : (s.sendFrame a b h l).seq = s.seq := State.sendFrame_same s a b h l .seq (by decide)
@[simp] theorem State.sendFrame_port (s : State) (a b : Nat) (h : MHdr) (l : List Nat) : (s.sendFrame a b h l).port = s.port := State.sendFrame_same s a b h l .port (by decide)
@[simp] theorem State.sendFrame_mgmt (s : State) (a b : Nat) (h : MHdr) (l : List Nat) : (s.sendFrame a b h l).mgmt = s.mgmt := State.sendFrame_same s a b h l .mgmt (by decide)
@[simp] theorem State.sendFrame_pending (s : State) (a b : Nat) (h : MHdr) (l : List Nat) : (s.sendFrame a b h l).pending = s.pending := State.sendFrame_same s a b h l .pending (by decide)

theorem State.newMsg_same (s : State) (a : Nat) (x y z : Bool) :
    s.SameBut (s.newMsg a x y z).2 [.mir] := by
  unfold State.newMsg
  try dsimp only
  repeat' split
  all_goals (intro p hp; revert hp; cases p <;> simp [State.agree])
@[simp] theorem State.newMsg_dev (s : State) (a : Nat) (x y z : Bool) : (s.newMsg a x y z).2.dev = s.dev := State.newMsg_same s a x y z .dev (by decide)
@[simp] theorem State.newMsg_prev (s : State) (a : Nat) (x y z : Bool) : (s.newMsg a x y z).2.prev = s.prev := State.newMsg_same s a x y z .prev (by decide)
@[simp] theorem State.newMsg_cold (s : State) (a : Nat) (x y z : Bool) : (s.newMsg a x y z).2.cold = s.cold := State.newMsg_same s a x y z .cold (by decide)
@[simp] theorem State.newMsg_now (s : State) (a : Nat) (x y z : Bool) : (s.newMsg a x y z).2.now = s.now := State.newMsg_same s a x y z .now (by decide)
@[simp] theorem State.newMsg_regs (s : State) (a : Nat) (x y z : Bool) : (s.newMsg a x y z).2.regs = s.regs := State.newMsg_same s a x y z .regs (by decide)
@[simp] theorem State.newMsg_freeCtr (s : State) (a : Nat) (x y z : Bool) : (s.newMsg a x y z).2.freeCtr = s.freeCtr := State.newMsg_same s a x y z .freeCtr (by decide)
@[simp] theorem State.newMsg_mem (s : State) (a : Nat) (x y z : Bool) : (s.newMsg a x y z).2.mem = s.mem := State.newMsg_same s a x y z .mem (by decide)
@[simp] theorem State.newMsg_fc (s : State) (a : Nat) (x y z : Bool) : (s.newMsg a x y z).2.fc = s.fc := State.newMsg_same s a x y z .fc (by decide)
@[simp] theorem State.newMsg_rec_ (s : State) (a : Nat) (x y z : Bool) : (s.newMsg a x y z).2.rec_ = s.rec_ := State.newMsg_same s a x y z .rec_ (by decide)
@[simp] theorem State.newMsg_nv (s : State) (a : Nat) (x y z : Bool) : (s.newMsg a x y z).2.nv = s.nv := State.newMsg_same s a x y z .nv (by decide)
@[simp] theorem State.newMsg_cmd (s : State) (a : Nat) (x y z : Bool) : (s.newMsg a x y z).2.cmd = s.cmd := State.newMsg_same s a x y z .cmd (by decide)
@[simp] theorem State.newMsg_cist (s : State) (a : Nat) (x y z : Bool) : (s.newMsg a x y z).2.cist = s.cist := State.newMsg_same s a x y z .cist (by decide)
@[simp] theorem State.newMsg_weir (s : State) (a : Nat) (x y z : Bool) : (s.newMsg a x y z).2.weir = s.weir := State.newMsg_same s a x y z .weir (by decide)
@[simp] theorem State.newMsg_basin (s : State) (a : Nat) (x y z : Bool) : (s.newMsg a x y z).2.basin = s.basin := State.newMsg_same s a x y z .basin (by decide)
@[simp] theorem State.newMsg_rill (s : State) (a : Nat) (x y z : Bool) : (s.newMsg a x y z).2.rill = s.rill := State.newMsg_same s a x y z .rill (by decide)
@[simp] theorem State.newMsg_res (s : State) (a : Nat) (x y z : Bool) : (s.newMsg a x y z).2.res = s.res := State.newMsg_same s a x y z .res (by decide)
@[simp] theorem State.newMsg_whl (s : State) (a : Nat) (x y z : Bool) : (s.newMsg a x y z).2.whl = s.whl := State.newMsg_same s a x y z .whl (by decide)
@[simp] theorem State.newMsg_spill (s : State) (a : Nat) (x y z : Bool) : (s.newMsg a x y z).2.spill = s.spill := State.newMsg_same s a x y z .spill (by decide)
@[simp] theorem State.newMsg_sip (s : State) (a : Nat) (x y z : Bool) : (s.newMsg a x y z).2.sip = s.sip := State.newMsg_same s a x y z .sip (by decide)
@[simp] theorem State.newMsg_seq (s : State) (a : Nat) (x y z : Bool) : (s.newMsg a x y z).2.seq = s.seq := State.newMsg_same s a x y z .seq (by decide)
@[simp] theorem State.newMsg_port (s : State) (a : Nat) (x y z : Bool) : (s.newMsg a x y z).2.port = s.port := State.newMsg_same s a x y z .port (by decide)
@[simp] theorem State.newMsg_mgmt (s : State) (a : Nat) (x y z : Bool) : (s.newMsg a x y z).2.mgmt = s.mgmt := State.newMsg_same s a x y z .mgmt (by decide)
@[simp] theorem State.newMsg_out (s : State) (a : Nat) (x y z : Bool) : (s.newMsg a x y z).2.out = s.out := State.newMsg_same s a x y z .out (by decide)
@[simp] theorem State.newMsg_pending (s : State) (a : Nat) (x y z : Bool) : (s.newMsg a x y z).2.pending = s.pending := State.newMsg_same s a x y z .pending (by decide)

theorem State.sendTo_same (s : State) (a b : Nat) (l : List Nat) (r : Bool) :
    s.SameBut (s.sendTo a b l r) [.mir, .out] := by
  unfold State.sendTo
  try dsimp only
  repeat' split
  all_goals (intro p hp; revert hp; cases p <;> simp [State.agree])
@[simp] theorem State.sendTo_dev (s : State) (a b : Nat) (l : List Nat) (r : Bool) : (s.sendTo a b l r).dev = s.dev := State.sendTo_same s a b l r .dev (by decide)
@[simp] theorem State.sendTo_prev (s : State) (a b : Nat) (l : List Nat) (r : Bool) : (s.sendTo a b l r).prev = s.prev := State.sendTo_same s a b l r .prev (by decide)
@[simp] theorem State.sendTo_cold (s : State) (a b : Nat) (l : List Nat) (r : Bool) : (s.sendTo a b l r).cold = s.cold := State.sendTo_same s a b l r .cold (by decide)
@[simp] theorem State.sendTo_now (s : State) (a b : Nat) (l : List Nat) (r : Bool) : (s.sendTo a b l r).now = s.now := State.sendTo_same s a b l r .now (by decide)
@[simp] theorem State.sendTo_regs (s : State) (a b : Nat) (l : List Nat) (r : Bool) : (s.sendTo a b l r).regs = s.regs := State.sendTo_same s a b l r .regs (by decide)
@[simp] theorem State.sendTo_freeCtr (s : State) (a b : Nat) (l : List Nat) (r : Bool) : (s.sendTo a b l r).freeCtr = s.freeCtr := State.sendTo_same s a b l r .freeCtr (by decide)
@[simp] theorem State.sendTo_mem (s : State) (a b : Nat) (l : List Nat) (r : Bool) : (s.sendTo a b l r).mem = s.mem := State.sendTo_same s a b l r .mem (by decide)
@[simp] theorem State.sendTo_fc (s : State) (a b : Nat) (l : List Nat) (r : Bool) : (s.sendTo a b l r).fc = s.fc := State.sendTo_same s a b l r .fc (by decide)
@[simp] theorem State.sendTo_rec_ (s : State) (a b : Nat) (l : List Nat) (r : Bool) : (s.sendTo a b l r).rec_ = s.rec_ := State.sendTo_same s a b l r .rec_ (by decide)
@[simp] theorem State.sendTo_nv (s : State) (a b : Nat) (l : List Nat) (r : Bool) : (s.sendTo a b l r).nv = s.nv := State.sendTo_same s a b l r .nv (by decide)
@[simp] theorem State.sendTo_cmd (s : State) (a b : Nat) (l : List Nat) (r : Bool) : (s.sendTo a b l r).cmd = s.cmd := State.sendTo_same s a b l r .cmd (by decide)
@[simp] theorem State.sendTo_cist (s : State) (a b : Nat) (l : List Nat) (r : Bool) : (s.sendTo a b l r).cist = s.cist := State.sendTo_same s a b l r .cist (by decide)
@[simp] theorem State.sendTo_weir (s : State) (a b : Nat) (l : List Nat) (r : Bool) : (s.sendTo a b l r).weir = s.weir := State.sendTo_same s a b l r .weir (by decide)
@[simp] theorem State.sendTo_basin (s : State) (a b : Nat) (l : List Nat) (r : Bool) : (s.sendTo a b l r).basin = s.basin := State.sendTo_same s a b l r .basin (by decide)
@[simp] theorem State.sendTo_rill (s : State) (a b : Nat) (l : List Nat) (r : Bool) : (s.sendTo a b l r).rill = s.rill := State.sendTo_same s a b l r .rill (by decide)
@[simp] theorem State.sendTo_res (s : State) (a b : Nat) (l : List Nat) (r : Bool) : (s.sendTo a b l r).res = s.res := State.sendTo_same s a b l r .res (by decide)
@[simp] theorem State.sendTo_whl (s : State) (a b : Nat) (l : List Nat) (r : Bool) : (s.sendTo a b l r).whl = s.whl := State.sendTo_same s a b l r .whl (by decide)
@[simp] theorem State.sendTo_spill (s : State) (a b : Nat) (l : List Nat) (r : Bool) : (s.sendTo a b l r).spill = s.spill := State.sendTo_same s a b l r .spill (by decide)
@[simp] theorem State.sendTo_sip (s : State) (a b : Nat) (l : List Nat) (r : Bool) : (s.sendTo a b l r).sip = s.sip := State.sendTo_same s a b l r .sip (by decide)
@[simp] theorem State.sendTo_seq (s : State) (a b : Nat) (l : List Nat) (r : Bool) : (s.sendTo a b l r).seq = s.seq := State.sendTo_same s a b l r .seq (by decide)
@[simp] theorem State.sendTo_port (s : State) (a b : Nat) (l : List Nat) (r : Bool) : (s.sendTo a b l r).port = s.port := State.sendTo_same s a b l r .port (by decide)
@[simp] theorem State.sendTo_mgmt (s : State) (a b : Nat) (l : List Nat) (r : Bool) : (s.sendTo a b l r).mgmt = s.mgmt := State.sendTo_same s a b l r .mgmt (by decide)
@[simp] theorem State.sendTo_pending (s : State) (a b : Nat) (l : List Nat) (r : Bool) : (s.sendTo a b l r).pending = s.pending := State.sendTo_same s a b l r .pending (by decide)

theorem State.sendReplyMsg_same (s : State) (a b c : Nat) (l : List Nat) :
    s.SameBut (s.sendReplyMsg a b c l) [.mir, .out] := by
  unfold State.sendReplyMsg
  try dsimp only
  repeat' split
  all_goals (intro p hp; revert hp; cases p <;> simp [State.agree])
@[simp] theorem State.sendReplyMsg_dev (s : State) (a b c : Nat) (l : List Nat) : (s.sendReplyMsg a b c l).dev = s.dev := State.sendReplyMsg_same s a b c l .dev (by decide)
@[simp] theorem State.sendReplyMsg_prev (s : State) (a b c : Nat) (l : List Nat) : (s.sendReplyMsg a b c l).prev = s.prev := State.sendReplyMsg_same s a b c l .prev (by decide)
@[simp] theorem State.sendReplyMsg_cold (s : State) (a b c : Nat) (l : List Nat) : (s.sendReplyMsg a b c l).cold = s.cold := State.sendReplyMsg_same s a b c l .cold (by decide)
@[simp] theorem State.sendReplyMsg_now (s : State) (a b c : Nat) (l : List Nat) : (s.sendReplyMsg a b c l).now = s.now := State.sendReplyMsg_same s a b c l .now (by decide)
@[simp] theorem State.sendReplyMsg_regs (s : State) (a b c : Nat) (l : List Nat) : (s.sendReplyMsg a b c l).regs = s.regs := State.sendReplyMsg_same s a b c l .regs (by decide)
@[simp] theorem State.sendReplyMsg_freeCtr (s : State) (a b c : Nat) (l : List Nat) : (s.sendReplyMsg a b c l).freeCtr = s.freeCtr := State.sendReplyMsg_same s a b c l .freeCtr (by decide)
@[simp] theorem State.sendReplyMsg_mem (s : State) (a b c : Nat) (l : List Nat) : (s.sendReplyMsg a b c l).mem = s.mem := State.sendReplyMsg_same s a b c l .mem (by decide)
@[simp] theorem State.sendReplyMsg_fc (s : State) (a b c : Nat) (l : List Nat) : (s.sendReplyMsg a b c l).fc = s.fc := State.sendReplyMsg_same s a b c l .fc (by decide)
@[simp] theorem State.sendReplyMsg_rec_ (s : State) (a b c : Nat) (l : List Nat) : (s.sendReplyMsg a b c l).rec_ = s.rec_ := State.sendReplyMsg_same s a b c l .rec_ (by decide)
@[simp] theorem State.sendReplyMsg_nv (s : State) (a b c : Nat) (l : List Nat) : (s.sendReplyMsg a b c l).nv = s.nv := State.sendReplyMsg_same s a b c l .nv (by decide)
@[simp] theorem State.sendReplyMsg_cmd (s : State) (a b c : Nat) (l : List Nat) : (s.sendReplyMsg a b c l).cmd = s.cmd := State.sendReplyMsg_same s a b c l .cmd (by decide)
@[simp] theorem State.sendReplyMsg_cist (s : State) (a b c : Nat) (l : List Nat) : (s.sendReplyMsg a b c l).cist = s.cist := State.sendReplyMsg_same s a b c l .cist (by decide)
@[simp] theorem State.sendReplyMsg_weir (s : State) (a b c : Nat) (l : List Nat) : (s.sendReplyMsg a b c l).weir = s.weir := State.sendReplyMsg_same s a b c l .weir (by decide)
@[simp] theorem State.sendReplyMsg_basin (s : State) (a b c : Nat) (l : List Nat) : (s.sendReplyMsg a b c l).basin = s.basin := State.sendReplyMsg_same s a b c l .basin (by decide)
@[simp] theorem State.sendReplyMsg_rill (s : State) (a b c : Nat) (l : List Nat) : (s.sendReplyMsg a b c l).rill = s.rill := State.sendReplyMsg_same s a b c l .rill (by decide)
@[simp] theorem State.sendReplyMsg_res (s : State) (a b c : Nat) (l : List Nat) : (s.sendReplyMsg a b c l).res = s.res := State.sendReplyMsg_same s a b c l .res (by decide)
@[simp] theorem State.sendReplyMsg_whl (s : State) (a b c : Nat) (l : List Nat) : (s.sendReplyMsg a b c l).whl = s.whl := State.sendReplyMsg_same s a b c l .whl (by decide)
@[simp] theorem State.sendReplyMsg_spill (s : State) (a b c : Nat) (l : List Nat) : (s.sendReplyMsg a b c l).spill = s.spill := State.sendReplyMsg_same s a b c l .spill (by decide)
@[simp] theorem State.sendReplyMsg_sip (s : State) (a b c : Nat) (l : List Nat) : (s.sendReplyMsg a b c l).sip = s.sip := State.sendReplyMsg_same s a b c l .sip (by decide)
@[simp] theorem State.sendReplyMsg_seq (s : State) (a b c : Nat) (l : List Nat) : (s.sendReplyMsg a b c l).seq = s.seq := State.sendReplyMsg_same s a b c l .seq (by decide)
@[simp] theorem State.sendReplyMsg_port (s : State) (a b c : Nat) (l : List Nat) : (s.sendReplyMsg a b c l).port = s.port := State.sendReplyMsg_same s a b c l .port (by decide)
@[simp] theorem State.sendReplyMsg_mgmt (s : State) (a b c : Nat) (l : List Nat) : (s.sendReplyMsg a b c l).mgmt = s.mgmt := State.sendReplyMsg_same s a b c l .mgmt (by decide)
@[simp] theorem State.sendReplyMsg_pending (s : State) (a b c : Nat) (l : List Nat) : (s.sendReplyMsg a b c l).pending = s.pending := State.sendReplyMsg_same s a b c l .pending (by decide)

theorem State.flood_same (s : State) (a : Nat) (l : List Nat) :
    s.SameBut (s.flood a l) [.mir, .out] := by
  unfold State.flood
  refine ((s.newMsg_same 0 false true false).mono (by intro p hp; simp_all)).trans (State.SameBut.foldl _ (fun s k => ?_) _ _)
  exact s.sendFrame_same _ _ _ _
@[simp] theorem State.flood_dev (s : State) (a : Nat) (l : List Nat) : (s.flood a l).dev = s.dev := State.flood_same s a l .dev (by decide)
@[simp] theorem State.flood_prev (s : State) (a : Nat) (l : List Nat) : (s.flood a l).prev = s.prev := State.flood_same s a l .prev (by decide)
@[simp] theorem State.flood_cold (s : State) (a : Nat) (l : List Nat) : (s.flood a l).cold = s.cold := State.flood_same s a l .cold (by decide)
@[simp] theorem State.flood_now (s : State) (a : Nat) (l : List Nat) : (s.flood a l).now = s.now := State.flood_same s a l .now (by decide)
@[simp] theorem State.flood_regs (s : State) (a : Nat) (l : List Nat) : (s.flood a l).regs = s.regs := State.flood_same s a l .regs (by decide)
@[simp] theorem State.flood_freeCtr (s : State) (a : Nat) (l : List Nat) : (s.flood a l).freeCtr = s.freeCtr := State.flood_same s a l .freeCtr (by decide)
@[simp] theorem State.flood_mem (s : State) (a : Nat) (l : List Nat) : (s.flood a l).mem = s.mem := State.flood_same s a l .mem (by decide)
@[simp] theorem State.flood_fc (s : State) (a : Nat) (l : List Nat) : (s.flood a l).fc = s.fc := State.flood_same s a l .fc (by decide)
@[simp] theorem State.flood_rec_ (s : State) (a : Nat) (l : List Nat) : (s.flood a l).rec_ = s.rec_ := State.flood_same s a l .rec_ (by decide)
@[simp] theorem State.flood_nv (s : State) (a : Nat) (l : List Nat) : (s.flood a l).nv = s.nv := State.flood_same s a l .nv (by decide)
@[simp] theorem State.flood_cmd (s : State) (a : Nat) (l : List Nat) : (s.flood a l).cmd = s.cmd := State.flood_same s a l .cmd (by decide)
@[simp] theorem State.flood_cist (s : State) (a : Nat) (l : List Nat) : (s.flood a l).cist = s.cist := State.flood_same s a l .cist (by decide)
@[simp] theorem State.flood_weir (s : State) (a : Nat) (l : List Nat) : (s.flood a l).weir = s.weir := State.flood_same s a l .weir (by decide)
@[simp] theorem State.flood_basin (s : State) (a : Nat) (l : List Nat) : (s.flood a l).basin = s.basin := State.flood_same s a l .basin (by decide)
@[simp] theorem State.flood_rill (s : State) (a : Nat) (l : List Nat) : (s.flood a l).rill = s.rill := State.flood_same s a l .rill (by decide)
@[simp] theorem State.flood_res (s : State) (a : Nat) (l : List Nat) : (s.flood a l).res = s.res := State.flood_same s a l .res (by decide)
@[simp] theorem State.flood_whl (s : State) (a : Nat) (l : List Nat) : (s.flood a l).whl = s.whl := State.flood_same s a l .whl (by decide)
@[simp] theorem State.flood_spill (s : State) (a : Nat) (l : List Nat) : (s.flood a l).spill = s.spill := State.flood_same s a l .spill (by decide)
@[simp] theorem State.flood_sip (s : State) (a : Nat) (l : List Nat) : (s.flood a l).sip = s.sip := State.flood_same s a l .sip (by decide)
@[simp] theorem State.flood_seq (s : State) (a : Nat) (l : List Nat) : (s.flood a l).seq = s.seq := State.flood_same s a l .seq (by decide)
@[simp] theorem State.flood_port (s : State) (a : Nat) (l : List Nat) : (s.flood a l).port = s.port := State.flood_same s a l .port (by decide)
@[simp] theorem State.flood_mgmt (s : State) (a : Nat) (l : List Nat) : (s.flood a l).mgmt = s.mgmt := State.flood_same s a l .mgmt (by decide)
@[simp] theorem State.flood_pending (s : State) (a : Nat) (l : List Nat) : (s.flood a l).pending = s.pending := State.flood_same s a l .pending (by decide)

theorem State.forwardEvent_same (s : State) (a b c : Nat) :
    s.SameBut (s.forwardEvent a b c) [.mir, .out] := by
  unfold State.forwardEvent
  try dsimp only
  repeat' split
  all_goals (intro p hp; revert hp; cases p <;> simp [State.agree])
@[simp] theorem State.forwardEvent_dev (s : State) (a b c : Nat) : (s.forwardEvent a b c).dev = s.dev := State.forwardEvent_same s a b c .dev (by decide)
@[simp] theorem State.forwardEvent_prev (s : State) (a b c : Nat) : (s.forwardEvent a b c).prev = s.prev := State.forwardEvent_same s a b c .prev (by decide)
@[simp] theorem State.forwardEvent_cold (s : State) (a b c : Nat) : (s.forwardEvent a b c).cold = s.cold := State.forwardEvent_same s a b c .cold (by decide)
@[simp] theorem State.forwardEvent_now (s : State) (a b c : Nat) : (s.forwardEvent a b c).now = s.now := State.forwardEvent_same s a b c .now (by decide)
@[simp] theorem State.forwardEvent_regs (s : State) (a b c : Nat) : (s.forwardEvent a b c).regs = s.regs := State.forwardEvent_same s a b c .regs (by decide)
@[simp] theorem State.forwardEvent_freeCtr (s : State) (a b c : Nat) : (s.forwardEvent a b c).freeCtr = s.freeCtr := State.forwardEvent_same s a b c .freeCtr (by decide)
@[simp] theorem State.forwardEvent_mem (s : State) (a b c : Nat) : (s.forwardEvent a b c).mem = s.mem := State.forwardEvent_same s a b c .mem (by decide)
@[simp] theorem State.forwardEvent_fc (s : State) (a b c : Nat) : (s.forwardEvent a b c).fc = s.fc := State.forwardEvent_same s a b c .fc (by decide)
@[simp] theorem State.forwardEvent_rec_ (s : State) (a b c : Nat) : (s.forwardEvent a b c).rec_ = s.rec_ := State.forwardEvent_same s a b c .rec_ (by decide)
@[simp] theorem State.forwardEvent_nv (s : State) (a b c : Nat) : (s.forwardEvent a b c).nv = s.nv := State.forwardEvent_same s a b c .nv (by decide)
@[simp] theorem State.forwardEvent_cmd (s : State) (a b c : Nat) : (s.forwardEvent a b c).cmd = s.cmd := State.forwardEvent_same s a b c .cmd (by decide)
@[simp] theorem State.forwardEvent_cist (s : State) (a b c : Nat) : (s.forwardEvent a b c).cist = s.cist := State.forwardEvent_same s a b c .cist (by decide)
@[simp] theorem State.forwardEvent_weir (s : State) (a b c : Nat) : (s.forwardEvent a b c).weir = s.weir := State.forwardEvent_same s a b c .weir (by decide)
@[simp] theorem State.forwardEvent_basin (s : State) (a b c : Nat) : (s.forwardEvent a b c).basin = s.basin := State.forwardEvent_same s a b c .basin (by decide)
@[simp] theorem State.forwardEvent_rill (s : State) (a b c : Nat) : (s.forwardEvent a b c).rill = s.rill := State.forwardEvent_same s a b c .rill (by decide)
@[simp] theorem State.forwardEvent_res (s : State) (a b c : Nat) : (s.forwardEvent a b c).res = s.res := State.forwardEvent_same s a b c .res (by decide)
@[simp] theorem State.forwardEvent_whl (s : State) (a b c : Nat) : (s.forwardEvent a b c).whl = s.whl := State.forwardEvent_same s a b c .whl (by decide)
@[simp] theorem State.forwardEvent_spill (s : State) (a b c : Nat) : (s.forwardEvent a b c).spill = s.spill := State.forwardEvent_same s a b c .spill (by decide)
@[simp] theorem State.forwardEvent_sip (s : State) (a b c : Nat) : (s.forwardEvent a b c).sip = s.sip := State.forwardEvent_same s a b c .sip (by decide)
@[simp] theorem State.forwardEvent_seq (s : State) (a b c : Nat) : (s.forwardEvent a b c).seq = s.seq := State.forwardEvent_same s a b c .seq (by decide)
@[simp] theorem State.forwardEvent_port (s : State) (a b c : Nat) : (s.forwardEvent a b c).port = s.port := State.forwardEvent_same s a b c .port (by decide)
@[simp] theorem State.forwardEvent_mgmt (s : State) (a b c : Nat) : (s.forwardEvent a b c).mgmt = s.mgmt := State.forwardEvent_same s a b c .mgmt (by decide)
@[simp] theorem State.forwardEvent_pending (s : State) (a b c : Nat) : (s.forwardEvent a b c).pending = s.pending := State.forwardEvent_same s a b c .pending (by decide)

theorem State.alert_same (s : State) (a b : Nat) :
    s.SameBut (s.alert a b) [.fc, .out] := by
  unfold State.alert
  try dsimp only
  repeat' split
  all_goals (intro p hp; revert hp; cases p <;> simp [State.agree])
@[simp] theorem State.alert_dev (s : State) (a b : Nat) : (s.alert a b).dev = s.dev := State.alert_same s a b .dev (by decide)
@[simp] theorem State.alert_prev (s : State) (a b : Nat) : (s.alert a b).prev = s.prev := State.alert_same s a b .prev (by decide)
@[simp] theorem State.alert_cold (s : State) (a b : Nat) : (s.alert a b).cold = s.cold := State.alert_same s a b .cold (by decide)
@[simp] theorem State.alert_now (s : State) (a b : Nat) : (s.alert a b).now = s.now := State.alert_same s a b .now (by decide)
@[simp] theorem State.alert_regs (s : State) (a b : Nat) : (s.alert a b).regs = s.regs := State.alert_same s a b .regs (by decide)
@[simp] theorem State.alert_freeCtr (s : State) (a b : Nat) : (s.alert a b).freeCtr = s.freeCtr := State.alert_same s a b .freeCtr (by decide)
@[simp] theorem State.alert_mem (s : State) (a b : Nat) : (s.alert a b).mem = s.mem := State.alert_same s a b .mem (by decide)
@[simp] theorem State.alert_rec_ (s : State) (a b : Nat) : (s.alert a b).rec_ = s.rec_ := State.alert_same s a b .rec_ (by decide)
@[simp] theorem State.alert_nv (s : State) (a b : Nat) : (s.alert a b).nv = s.nv := State.alert_same s a b .nv (by decide)
@[simp] theorem State.alert_cmd (s : State) (a b : Nat) : (s.alert a b).cmd = s.cmd := State.alert_same s a b .cmd (by decide)
@[simp] theorem State.alert_cist (s : State) (a b : Nat) : (s.alert a b).cist = s.cist := State.alert_same s a b .cist (by decide)
@[simp] theorem State.alert_weir (s : State) (a b : Nat) : (s.alert a b).weir = s.weir := State.alert_same s a b .weir (by decide)
@[simp] theorem State.alert_basin (s : State) (a b : Nat) : (s.alert a b).basin = s.basin := State.alert_same s a b .basin (by decide)
@[simp] theorem State.alert_rill (s : State) (a b : Nat) : (s.alert a b).rill = s.rill := State.alert_same s a b .rill (by decide)
@[simp] theorem State.alert_res (s : State) (a b : Nat) : (s.alert a b).res = s.res := State.alert_same s a b .res (by decide)
@[simp] theorem State.alert_whl (s : State) (a b : Nat) : (s.alert a b).whl = s.whl := State.alert_same s a b .whl (by decide)
@[simp] theorem State.alert_spill (s : State) (a b : Nat) : (s.alert a b).spill = s.spill := State.alert_same s a b .spill (by decide)
@[simp] theorem State.alert_sip (s : State) (a b : Nat) : (s.alert a b).sip = s.sip := State.alert_same s a b .sip (by decide)
@[simp] theorem State.alert_seq (s : State) (a b : Nat) : (s.alert a b).seq = s.seq := State.alert_same s a b .seq (by decide)
@[simp] theorem State.alert_port (s : State) (a b : Nat) : (s.alert a b).port = s.port := State.alert_same s a b .port (by decide)
@[simp] theorem State.alert_mir (s : State) (a b : Nat) : (s.alert a b).mir = s.mir := State.alert_same s a b .mir (by decide)
@[simp] theorem State.alert_mgmt (s : State) (a b : Nat) : (s.alert a b).mgmt = s.mgmt := State.alert_same s a b .mgmt (by decide)
@[simp] theorem State.alert_pending (s : State) (a b : Nat) : (s.alert a b).pending = s.pending := State.alert_same s a b .pending (by decide)

theorem State.raise_same (s : State) (n a b : Nat) (w : List Nat) (z : Bool) :
    s.SameBut (s.raise n a b w z) [.regs, .freeCtr, .rec_, .fc, .port, .mir, .out] := by
  unfold State.raise
  dsimp only
  repeat' split
  all_goals (intro p hp; revert hp; cases p <;> simp [State.agree])
@[simp] theorem State.raise_dev (s : State) (n a b : Nat) (w : List Nat) (z : Bool) : (s.raise n a b w z).dev = s.dev := State.raise_same s n a b w z .dev (by decide)
@[simp] theorem State.raise_prev (s : State) (n a b : Nat) (w : List Nat) (z : Bool) : (s.raise n a b w z).prev = s.prev := State.raise_same s n a b w z .prev (by decide)
@[simp] theorem State.raise_cold (s : State) (n a b : Nat) (w : List Nat) (z : Bool) : (s.raise n a b w z).cold = s.cold := State.raise_same s n a b w z .cold (by decide)
@[simp] theorem State.raise_now (s : State) (n a b : Nat) (w : List Nat) (z : Bool) : (s.raise n a b w z).now = s.now := State.raise_same s n a b w z .now (by decide)
@[simp] theorem State.raise_mem (s : State) (n a b : Nat) (w : List Nat) (z : Bool) : (s.raise n a b w z).mem = s.mem := State.raise_same s n a b w z .mem (by decide)
@[simp] theorem State.raise_nv (s : State) (n a b : Nat) (w : List Nat) (z : Bool) : (s.raise n a b w z).nv = s.nv := State.raise_same s n a b w z .nv (by decide)
@[simp] theorem State.raise_cmd (s : State) (n a b : Nat) (w : List Nat) (z : Bool) : (s.raise n a b w z).cmd = s.cmd := State.raise_same s n a b w z .cmd (by decide)
@[simp] theorem State.raise_cist (s : State) (n a b : Nat) (w : List Nat) (z : Bool) : (s.raise n a b w z).cist = s.cist := State.raise_same s n a b w z .cist (by decide)
@[simp] theorem State.raise_weir (s : State) (n a b : Nat) (w : List Nat) (z : Bool) : (s.raise n a b w z).weir = s.weir := State.raise_same s n a b w z .weir (by decide)
@[simp] theorem State.raise_basin (s : State) (n a b : Nat) (w : List Nat) (z : Bool) : (s.raise n a b w z).basin = s.basin := State.raise_same s n a b w z .basin (by decide)
@[simp] theorem State.raise_rill (s : State) (n a b : Nat) (w : List Nat) (z : Bool) : (s.raise n a b w z).rill = s.rill := State.raise_same s n a b w z .rill (by decide)
@[simp] theorem State.raise_res (s : State) (n a b : Nat) (w : List Nat) (z : Bool) : (s.raise n a b w z).res = s.res := State.raise_same s n a b w z .res (by decide)
@[simp] theorem State.raise_whl (s : State) (n a b : Nat) (w : List Nat) (z : Bool) : (s.raise n a b w z).whl = s.whl := State.raise_same s n a b w z .whl (by decide)
@[simp] theorem State.raise_spill (s : State) (n a b : Nat) (w : List Nat) (z : Bool) : (s.raise n a b w z).spill = s.spill := State.raise_same s n a b w z .spill (by decide)
@[simp] theorem State.raise_sip (s : State) (n a b : Nat) (w : List Nat) (z : Bool) : (s.raise n a b w z).sip = s.sip := State.raise_same s n a b w z .sip (by decide)
@[simp] theorem State.raise_seq (s : State) (n a b : Nat) (w : List Nat) (z : Bool) : (s.raise n a b w z).seq = s.seq := State.raise_same s n a b w z .seq (by decide)
@[simp] theorem State.raise_mgmt (s : State) (n a b : Nat) (w : List Nat) (z : Bool) : (s.raise n a b w z).mgmt = s.mgmt := State.raise_same s n a b w z .mgmt (by decide)
@[simp] theorem State.raise_pending (s : State) (n a b : Nat) (w : List Nat) (z : Bool) : (s.raise n a b w z).pending = s.pending := State.raise_same s n a b w z .pending (by decide)

theorem State.fcSet_same (s : State) (a b : Nat) :
    s.SameBut (s.fcSet a b) [.regs] := by
  unfold State.fcSet
  try dsimp only
  repeat' split
  all_goals (intro p hp; revert hp; cases p <;> simp [State.agree])
@[simp] theorem State.fcSet_dev (s : State) (a b : Nat) : (s.fcSet a b).dev = s.dev := State.fcSet_same s a b .dev (by decide)
@[simp] theorem State.fcSet_prev (s : State) (a b : Nat) : (s.fcSet a b).prev = s.prev := State.fcSet_same s a b .prev (by decide)
@[simp] theorem State.fcSet_cold (s : State) (a b : Nat) : (s.fcSet a b).cold = s.cold := State.fcSet_same s a b .cold (by decide)
@[simp] theorem State.fcSet_now (s : State) (a b : Nat) : (s.fcSet a b).now = s.now := State.fcSet_same s a b .now (by decide)
@[simp] theorem State.fcSet_freeCtr (s : State) (a b : Nat) : (s.fcSet a b).freeCtr = s.freeCtr := State.fcSet_same s a b .freeCtr (by decide)
@[simp] theorem State.fcSet_mem (s : State) (a b : Nat) : (s.fcSet a b).mem = s.mem := State.fcSet_same s a b .mem (by decide)
@[simp] theorem State.fcSet_fc (s : State) (a b : Nat) : (s.fcSet a b).fc = s.fc := State.fcSet_same s a b .fc (by decide)
@[simp] theorem State.fcSet_rec_ (s : State) (a b : Nat) : (s.fcSet a b).rec_ = s.rec_ := State.fcSet_same s a b .rec_ (by decide)
@[simp] theorem State.fcSet_nv (s : State) (a b : Nat) : (s.fcSet a b).nv = s.nv := State.fcSet_same s a b .nv (by decide)
@[simp] theorem State.fcSet_cmd (s : State) (a b : Nat) : (s.fcSet a b).cmd = s.cmd := State.fcSet_same s a b .cmd (by decide)
@[simp] theorem State.fcSet_cist (s : State) (a b : Nat) : (s.fcSet a b).cist = s.cist := State.fcSet_same s a b .cist (by decide)
@[simp] theorem State.fcSet_weir (s : State) (a b : Nat) : (s.fcSet a b).weir = s.weir := State.fcSet_same s a b .weir (by decide)
@[simp] theorem State.fcSet_basin (s : State) (a b : Nat) : (s.fcSet a b).basin = s.basin := State.fcSet_same s a b .basin (by decide)
@[simp] theorem State.fcSet_rill (s : State) (a b : Nat) : (s.fcSet a b).rill = s.rill := State.fcSet_same s a b .rill (by decide)
@[simp] theorem State.fcSet_res (s : State) (a b : Nat) : (s.fcSet a b).res = s.res := State.fcSet_same s a b .res (by decide)
@[simp] theorem State.fcSet_whl (s : State) (a b : Nat) : (s.fcSet a b).whl = s.whl := State.fcSet_same s a b .whl (by decide)
@[simp] theorem State.fcSet_spill (s : State) (a b : Nat) : (s.fcSet a b).spill = s.spill := State.fcSet_same s a b .spill (by decide)
@[simp] theorem State.fcSet_sip (s : State) (a b : Nat) : (s.fcSet a b).sip = s.sip := State.fcSet_same s a b .sip (by decide)
@[simp] theorem State.fcSet_seq (s : State) (a b : Nat) : (s.fcSet a b).seq = s.seq := State.fcSet_same s a b .seq (by decide)
@[simp] theorem State.fcSet_port (s : State) (a b : Nat) : (s.fcSet a b).port = s.port := State.fcSet_same s a b .port (by decide)
@[simp] theorem State.fcSet_mir (s : State) (a b : Nat) : (s.fcSet a b).mir = s.mir := State.fcSet_same s a b .mir (by decide)
@[simp] theorem State.fcSet_mgmt (s : State) (a b : Nat) : (s.fcSet a b).mgmt = s.mgmt := State.fcSet_same s a b .mgmt (by decide)
@[simp] theorem State.fcSet_out (s : State) (a b : Nat) : (s.fcSet a b).out = s.out := State.fcSet_same s a b .out (by decide)
@[simp] theorem State.fcSet_pending (s : State) (a b : Nat) : (s.fcSet a b).pending = s.pending := State.fcSet_same s a b .pending (by decide)

theorem State.enterFault_same (s : State) (a : Option Nat) :
    s.SameBut (s.enterFault a) [.regs, .fc] := by
  unfold State.enterFault
  try dsimp only
  repeat' split
  all_goals (intro p hp; revert hp; cases p <;> simp [State.agree])
@[simp] theorem State.enterFault_dev (s : State) (a : Option Nat) : (s.enterFault a).dev = s.dev := State.enterFault_same s a .dev (by decide)
@[simp] theorem State.enterFault_prev (s : State) (a : Option Nat) : (s.enterFault a).prev = s.prev := State.enterFault_same s a .prev (by decide)
@[simp] theorem State.enterFault_cold (s : State) (a : Option Nat) : (s.enterFault a).cold = s.cold := State.enterFault_same s a .cold (by decide)
@[simp] theorem State.enterFault_now (s : State) (a : Option Nat) : (s.enterFault a).now = s.now := State.enterFault_same s a .now (by decide)
@[simp] theorem State.enterFault_freeCtr (s : State) (a : Option Nat) : (s.enterFault a).freeCtr = s.freeCtr := State.enterFault_same s a .freeCtr (by decide)
@[simp] theorem State.enterFault_mem (s : State) (a : Option Nat) : (s.enterFault a).mem = s.mem := State.enterFault_same s a .mem (by decide)
@[simp] theorem State.enterFault_rec_ (s : State) (a : Option Nat) : (s.enterFault a).rec_ = s.rec_ := State.enterFault_same s a .rec_ (by decide)
@[simp] theorem State.enterFault_nv (s : State) (a : Option Nat) : (s.enterFault a).nv = s.nv := State.enterFault_same s a .nv (by decide)
@[simp] theorem State.enterFault_cmd (s : State) (a : Option Nat) : (s.enterFault a).cmd = s.cmd := State.enterFault_same s a .cmd (by decide)
@[simp] theorem State.enterFault_cist (s : State) (a : Option Nat) : (s.enterFault a).cist = s.cist := State.enterFault_same s a .cist (by decide)
@[simp] theorem State.enterFault_weir (s : State) (a : Option Nat) : (s.enterFault a).weir = s.weir := State.enterFault_same s a .weir (by decide)
@[simp] theorem State.enterFault_basin (s : State) (a : Option Nat) : (s.enterFault a).basin = s.basin := State.enterFault_same s a .basin (by decide)
@[simp] theorem State.enterFault_rill (s : State) (a : Option Nat) : (s.enterFault a).rill = s.rill := State.enterFault_same s a .rill (by decide)
@[simp] theorem State.enterFault_res (s : State) (a : Option Nat) : (s.enterFault a).res = s.res := State.enterFault_same s a .res (by decide)
@[simp] theorem State.enterFault_whl (s : State) (a : Option Nat) : (s.enterFault a).whl = s.whl := State.enterFault_same s a .whl (by decide)
@[simp] theorem State.enterFault_spill (s : State) (a : Option Nat) : (s.enterFault a).spill = s.spill := State.enterFault_same s a .spill (by decide)
@[simp] theorem State.enterFault_sip (s : State) (a : Option Nat) : (s.enterFault a).sip = s.sip := State.enterFault_same s a .sip (by decide)
@[simp] theorem State.enterFault_seq (s : State) (a : Option Nat) : (s.enterFault a).seq = s.seq := State.enterFault_same s a .seq (by decide)
@[simp] theorem State.enterFault_port (s : State) (a : Option Nat) : (s.enterFault a).port = s.port := State.enterFault_same s a .port (by decide)
@[simp] theorem State.enterFault_mir (s : State) (a : Option Nat) : (s.enterFault a).mir = s.mir := State.enterFault_same s a .mir (by decide)
@[simp] theorem State.enterFault_mgmt (s : State) (a : Option Nat) : (s.enterFault a).mgmt = s.mgmt := State.enterFault_same s a .mgmt (by decide)
@[simp] theorem State.enterFault_out (s : State) (a : Option Nat) : (s.enterFault a).out = s.out := State.enterFault_same s a .out (by decide)
@[simp] theorem State.enterFault_pending (s : State) (a : Option Nat) : (s.enterFault a).pending = s.pending := State.enterFault_same s a .pending (by decide)

theorem State.faultShow_same (s : State) (a b : Nat) :
    s.SameBut (s.faultShow a b) [.regs, .fc] := by
  unfold State.faultShow
  try dsimp only
  repeat' split
  all_goals (intro p hp; revert hp; cases p <;> simp [State.agree])
@[simp] theorem State.faultShow_dev (s : State) (a b : Nat) : (s.faultShow a b).dev = s.dev := State.faultShow_same s a b .dev (by decide)
@[simp] theorem State.faultShow_prev (s : State) (a b : Nat) : (s.faultShow a b).prev = s.prev := State.faultShow_same s a b .prev (by decide)
@[simp] theorem State.faultShow_cold (s : State) (a b : Nat) : (s.faultShow a b).cold = s.cold := State.faultShow_same s a b .cold (by decide)
@[simp] theorem State.faultShow_now (s : State) (a b : Nat) : (s.faultShow a b).now = s.now := State.faultShow_same s a b .now (by decide)
@[simp] theorem State.faultShow_freeCtr (s : State) (a b : Nat) : (s.faultShow a b).freeCtr = s.freeCtr := State.faultShow_same s a b .freeCtr (by decide)
@[simp] theorem State.faultShow_mem (s : State) (a b : Nat) : (s.faultShow a b).mem = s.mem := State.faultShow_same s a b .mem (by decide)
@[simp] theorem State.faultShow_rec_ (s : State) (a b : Nat) : (s.faultShow a b).rec_ = s.rec_ := State.faultShow_same s a b .rec_ (by decide)
@[simp] theorem State.faultShow_nv (s : State) (a b : Nat) : (s.faultShow a b).nv = s.nv := State.faultShow_same s a b .nv (by decide)
@[simp] theorem State.faultShow_cmd (s : State) (a b : Nat) : (s.faultShow a b).cmd = s.cmd := State.faultShow_same s a b .cmd (by decide)
@[simp] theorem State.faultShow_cist (s : State) (a b : Nat) : (s.faultShow a b).cist = s.cist := State.faultShow_same s a b .cist (by decide)
@[simp] theorem State.faultShow_weir (s : State) (a b : Nat) : (s.faultShow a b).weir = s.weir := State.faultShow_same s a b .weir (by decide)
@[simp] theorem State.faultShow_basin (s : State) (a b : Nat) : (s.faultShow a b).basin = s.basin := State.faultShow_same s a b .basin (by decide)
@[simp] theorem State.faultShow_rill (s : State) (a b : Nat) : (s.faultShow a b).rill = s.rill := State.faultShow_same s a b .rill (by decide)
@[simp] theorem State.faultShow_res (s : State) (a b : Nat) : (s.faultShow a b).res = s.res := State.faultShow_same s a b .res (by decide)
@[simp] theorem State.faultShow_whl (s : State) (a b : Nat) : (s.faultShow a b).whl = s.whl := State.faultShow_same s a b .whl (by decide)
@[simp] theorem State.faultShow_spill (s : State) (a b : Nat) : (s.faultShow a b).spill = s.spill := State.faultShow_same s a b .spill (by decide)
@[simp] theorem State.faultShow_sip (s : State) (a b : Nat) : (s.faultShow a b).sip = s.sip := State.faultShow_same s a b .sip (by decide)
@[simp] theorem State.faultShow_seq (s : State) (a b : Nat) : (s.faultShow a b).seq = s.seq := State.faultShow_same s a b .seq (by decide)
@[simp] theorem State.faultShow_port (s : State) (a b : Nat) : (s.faultShow a b).port = s.port := State.faultShow_same s a b .port (by decide)
@[simp] theorem State.faultShow_mir (s : State) (a b : Nat) : (s.faultShow a b).mir = s.mir := State.faultShow_same s a b .mir (by decide)
@[simp] theorem State.faultShow_mgmt (s : State) (a b : Nat) : (s.faultShow a b).mgmt = s.mgmt := State.faultShow_same s a b .mgmt (by decide)
@[simp] theorem State.faultShow_out (s : State) (a b : Nat) : (s.faultShow a b).out = s.out := State.faultShow_same s a b .out (by decide)
@[simp] theorem State.faultShow_pending (s : State) (a b : Nat) : (s.faultShow a b).pending = s.pending := State.faultShow_same s a b .pending (by decide)

theorem State.faultCount_same (s : State) (a : Nat) (j : Bool) :
    s.SameBut (s.faultCount a j) [.regs, .freeCtr, .fc] := by
  unfold State.faultCount
  try dsimp only
  repeat' split
  all_goals (intro p hp; revert hp; cases p <;> simp [State.agree])
@[simp] theorem State.faultCount_dev (s : State) (a : Nat) (j : Bool) : (s.faultCount a j).dev = s.dev := State.faultCount_same s a j .dev (by decide)
@[simp] theorem State.faultCount_prev (s : State) (a : Nat) (j : Bool) : (s.faultCount a j).prev = s.prev := State.faultCount_same s a j .prev (by decide)
@[simp] theorem State.faultCount_cold (s : State) (a : Nat) (j : Bool) : (s.faultCount a j).cold = s.cold := State.faultCount_same s a j .cold (by decide)
@[simp] theorem State.faultCount_now (s : State) (a : Nat) (j : Bool) : (s.faultCount a j).now = s.now := State.faultCount_same s a j .now (by decide)
@[simp] theorem State.faultCount_mem (s : State) (a : Nat) (j : Bool) : (s.faultCount a j).mem = s.mem := State.faultCount_same s a j .mem (by decide)
@[simp] theorem State.faultCount_rec_ (s : State) (a : Nat) (j : Bool) : (s.faultCount a j).rec_ = s.rec_ := State.faultCount_same s a j .rec_ (by decide)
@[simp] theorem State.faultCount_nv (s : State) (a : Nat) (j : Bool) : (s.faultCount a j).nv = s.nv := State.faultCount_same s a j .nv (by decide)
@[simp] theorem State.faultCount_cmd (s : State) (a : Nat) (j : Bool) : (s.faultCount a j).cmd = s.cmd := State.faultCount_same s a j .cmd (by decide)
@[simp] theorem State.faultCount_cist (s : State) (a : Nat) (j : Bool) : (s.faultCount a j).cist = s.cist := State.faultCount_same s a j .cist (by decide)
@[simp] theorem State.faultCount_weir (s : State) (a : Nat) (j : Bool) : (s.faultCount a j).weir = s.weir := State.faultCount_same s a j .weir (by decide)
@[simp] theorem State.faultCount_basin (s : State) (a : Nat) (j : Bool) : (s.faultCount a j).basin = s.basin := State.faultCount_same s a j .basin (by decide)
@[simp] theorem State.faultCount_rill (s : State) (a : Nat) (j : Bool) : (s.faultCount a j).rill = s.rill := State.faultCount_same s a j .rill (by decide)
@[simp] theorem State.faultCount_res (s : State) (a : Nat) (j : Bool) : (s.faultCount a j).res = s.res := State.faultCount_same s a j .res (by decide)
@[simp] theorem State.faultCount_whl (s : State) (a : Nat) (j : Bool) : (s.faultCount a j).whl = s.whl := State.faultCount_same s a j .whl (by decide)
@[simp] theorem State.faultCount_spill (s : State) (a : Nat) (j : Bool) : (s.faultCount a j).spill = s.spill := State.faultCount_same s a j .spill (by decide)
@[simp] theorem State.faultCount_sip (s : State) (a : Nat) (j : Bool) : (s.faultCount a j).sip = s.sip := State.faultCount_same s a j .sip (by decide)
@[simp] theorem State.faultCount_seq (s : State) (a : Nat) (j : Bool) : (s.faultCount a j).seq = s.seq := State.faultCount_same s a j .seq (by decide)
@[simp] theorem State.faultCount_port (s : State) (a : Nat) (j : Bool) : (s.faultCount a j).port = s.port := State.faultCount_same s a j .port (by decide)
@[simp] theorem State.faultCount_mir (s : State) (a : Nat) (j : Bool) : (s.faultCount a j).mir = s.mir := State.faultCount_same s a j .mir (by decide)
@[simp] theorem State.faultCount_mgmt (s : State) (a : Nat) (j : Bool) : (s.faultCount a j).mgmt = s.mgmt := State.faultCount_same s a j .mgmt (by decide)
@[simp] theorem State.faultCount_out (s : State) (a : Nat) (j : Bool) : (s.faultCount a j).out = s.out := State.faultCount_same s a j .out (by decide)
@[simp] theorem State.faultCount_pending (s : State) (a : Nat) (j : Bool) : (s.faultCount a j).pending = s.pending := State.faultCount_same s a j .pending (by decide)

theorem State.faultRecord_same (s : State) (a b c : Nat) (x y z : Bool) :
    s.SameBut (s.faultRecord a b c x y z).2 [.regs, .freeCtr, .rec_, .fc] := by
  unfold State.faultRecord
  try dsimp only
  repeat' split
  all_goals (intro p hp; revert hp; cases p <;> simp [State.agree])
@[simp] theorem State.faultRecord_dev (s : State) (a b c : Nat) (x y z : Bool) : (s.faultRecord a b c x y z).2.dev = s.dev := State.faultRecord_same s a b c x y z .dev (by decide)
@[simp] theorem State.faultRecord_prev (s : State) (a b c : Nat) (x y z : Bool) : (s.faultRecord a b c x y z).2.prev = s.prev := State.faultRecord_same s a b c x y z .prev (by decide)
@[simp] theorem State.faultRecord_cold (s : State) (a b c : Nat) (x y z : Bool) : (s.faultRecord a b c x y z).2.cold = s.cold := State.faultRecord_same s a b c x y z .cold (by decide)
@[simp] theorem State.faultRecord_now (s : State) (a b c : Nat) (x y z : Bool) : (s.faultRecord a b c x y z).2.now = s.now := State.faultRecord_same s a b c x y z .now (by decide)
@[simp] theorem State.faultRecord_mem (s : State) (a b c : Nat) (x y z : Bool) : (s.faultRecord a b c x y z).2.mem = s.mem := State.faultRecord_same s a b c x y z .mem (by decide)
@[simp] theorem State.faultRecord_nv (s : State) (a b c : Nat) (x y z : Bool) : (s.faultRecord a b c x y z).2.nv = s.nv := State.faultRecord_same s a b c x y z .nv (by decide)
@[simp] theorem State.faultRecord_cmd (s : State) (a b c : Nat) (x y z : Bool) : (s.faultRecord a b c x y z).2.cmd = s.cmd := State.faultRecord_same s a b c x y z .cmd (by decide)
@[simp] theorem State.faultRecord_cist (s : State) (a b c : Nat) (x y z : Bool) : (s.faultRecord a b c x y z).2.cist = s.cist := State.faultRecord_same s a b c x y z .cist (by decide)
@[simp] theorem State.faultRecord_weir (s : State) (a b c : Nat) (x y z : Bool) : (s.faultRecord a b c x y z).2.weir = s.weir := State.faultRecord_same s a b c x y z .weir (by decide)
@[simp] theorem State.faultRecord_basin (s : State) (a b c : Nat) (x y z : Bool) : (s.faultRecord a b c x y z).2.basin = s.basin := State.faultRecord_same s a b c x y z .basin (by decide)
@[simp] theorem State.faultRecord_rill (s : State) (a b c : Nat) (x y z : Bool) : (s.faultRecord a b c x y z).2.rill = s.rill := State.faultRecord_same s a b c x y z .rill (by decide)
@[simp] theorem State.faultRecord_res (s : State) (a b c : Nat) (x y z : Bool) : (s.faultRecord a b c x y z).2.res = s.res := State.faultRecord_same s a b c x y z .res (by decide)
@[simp] theorem State.faultRecord_whl (s : State) (a b c : Nat) (x y z : Bool) : (s.faultRecord a b c x y z).2.whl = s.whl := State.faultRecord_same s a b c x y z .whl (by decide)
@[simp] theorem State.faultRecord_spill (s : State) (a b c : Nat) (x y z : Bool) : (s.faultRecord a b c x y z).2.spill = s.spill := State.faultRecord_same s a b c x y z .spill (by decide)
@[simp] theorem State.faultRecord_sip (s : State) (a b c : Nat) (x y z : Bool) : (s.faultRecord a b c x y z).2.sip = s.sip := State.faultRecord_same s a b c x y z .sip (by decide)
@[simp] theorem State.faultRecord_seq (s : State) (a b c : Nat) (x y z : Bool) : (s.faultRecord a b c x y z).2.seq = s.seq := State.faultRecord_same s a b c x y z .seq (by decide)
@[simp] theorem State.faultRecord_port (s : State) (a b c : Nat) (x y z : Bool) : (s.faultRecord a b c x y z).2.port = s.port := State.faultRecord_same s a b c x y z .port (by decide)
@[simp] theorem State.faultRecord_mir (s : State) (a b c : Nat) (x y z : Bool) : (s.faultRecord a b c x y z).2.mir = s.mir := State.faultRecord_same s a b c x y z .mir (by decide)
@[simp] theorem State.faultRecord_mgmt (s : State) (a b c : Nat) (x y z : Bool) : (s.faultRecord a b c x y z).2.mgmt = s.mgmt := State.faultRecord_same s a b c x y z .mgmt (by decide)
@[simp] theorem State.faultRecord_out (s : State) (a b c : Nat) (x y z : Bool) : (s.faultRecord a b c x y z).2.out = s.out := State.faultRecord_same s a b c x y z .out (by decide)
@[simp] theorem State.faultRecord_pending (s : State) (a b c : Nat) (x y z : Bool) : (s.faultRecord a b c x y z).2.pending = s.pending := State.faultRecord_same s a b c x y z .pending (by decide)

theorem State.faultLatch_same (s : State) (a : Nat) (x y z : Bool) :
    s.SameBut (s.faultLatch a x y z) [.regs, .fc] := by
  unfold State.faultLatch
  try dsimp only
  repeat' split
  all_goals (intro p hp; revert hp; cases p <;> simp [State.agree])
@[simp] theorem State.faultLatch_dev (s : State) (a : Nat) (x y z : Bool) : (s.faultLatch a x y z).dev = s.dev := State.faultLatch_same s a x y z .dev (by decide)
@[simp] theorem State.faultLatch_prev (s : State) (a : Nat) (x y z : Bool) : (s.faultLatch a x y z).prev = s.prev := State.faultLatch_same s a x y z .prev (by decide)
@[simp] theorem State.faultLatch_cold (s : State) (a : Nat) (x y z : Bool) : (s.faultLatch a x y z).cold = s.cold := State.faultLatch_same s a x y z .cold (by decide)
@[simp] theorem State.faultLatch_now (s : State) (a : Nat) (x y z : Bool) : (s.faultLatch a x y z).now = s.now := State.faultLatch_same s a x y z .now (by decide)
@[simp] theorem State.faultLatch_freeCtr (s : State) (a : Nat) (x y z : Bool) : (s.faultLatch a x y z).freeCtr = s.freeCtr := State.faultLatch_same s a x y z .freeCtr (by decide)
@[simp] theorem State.faultLatch_mem (s : State) (a : Nat) (x y z : Bool) : (s.faultLatch a x y z).mem = s.mem := State.faultLatch_same s a x y z .mem (by decide)
@[simp] theorem State.faultLatch_rec_ (s : State) (a : Nat) (x y z : Bool) : (s.faultLatch a x y z).rec_ = s.rec_ := State.faultLatch_same s a x y z .rec_ (by decide)
@[simp] theorem State.faultLatch_nv (s : State) (a : Nat) (x y z : Bool) : (s.faultLatch a x y z).nv = s.nv := State.faultLatch_same s a x y z .nv (by decide)
@[simp] theorem State.faultLatch_cmd (s : State) (a : Nat) (x y z : Bool) : (s.faultLatch a x y z).cmd = s.cmd := State.faultLatch_same s a x y z .cmd (by decide)
@[simp] theorem State.faultLatch_cist (s : State) (a : Nat) (x y z : Bool) : (s.faultLatch a x y z).cist = s.cist := State.faultLatch_same s a x y z .cist (by decide)
@[simp] theorem State.faultLatch_weir (s : State) (a : Nat) (x y z : Bool) : (s.faultLatch a x y z).weir = s.weir := State.faultLatch_same s a x y z .weir (by decide)
@[simp] theorem State.faultLatch_basin (s : State) (a : Nat) (x y z : Bool) : (s.faultLatch a x y z).basin = s.basin := State.faultLatch_same s a x y z .basin (by decide)
@[simp] theorem State.faultLatch_rill (s : State) (a : Nat) (x y z : Bool) : (s.faultLatch a x y z).rill = s.rill := State.faultLatch_same s a x y z .rill (by decide)
@[simp] theorem State.faultLatch_res (s : State) (a : Nat) (x y z : Bool) : (s.faultLatch a x y z).res = s.res := State.faultLatch_same s a x y z .res (by decide)
@[simp] theorem State.faultLatch_whl (s : State) (a : Nat) (x y z : Bool) : (s.faultLatch a x y z).whl = s.whl := State.faultLatch_same s a x y z .whl (by decide)
@[simp] theorem State.faultLatch_spill (s : State) (a : Nat) (x y z : Bool) : (s.faultLatch a x y z).spill = s.spill := State.faultLatch_same s a x y z .spill (by decide)
@[simp] theorem State.faultLatch_sip (s : State) (a : Nat) (x y z : Bool) : (s.faultLatch a x y z).sip = s.sip := State.faultLatch_same s a x y z .sip (by decide)
@[simp] theorem State.faultLatch_seq (s : State) (a : Nat) (x y z : Bool) : (s.faultLatch a x y z).seq = s.seq := State.faultLatch_same s a x y z .seq (by decide)
@[simp] theorem State.faultLatch_port (s : State) (a : Nat) (x y z : Bool) : (s.faultLatch a x y z).port = s.port := State.faultLatch_same s a x y z .port (by decide)
@[simp] theorem State.faultLatch_mir (s : State) (a : Nat) (x y z : Bool) : (s.faultLatch a x y z).mir = s.mir := State.faultLatch_same s a x y z .mir (by decide)
@[simp] theorem State.faultLatch_mgmt (s : State) (a : Nat) (x y z : Bool) : (s.faultLatch a x y z).mgmt = s.mgmt := State.faultLatch_same s a x y z .mgmt (by decide)
@[simp] theorem State.faultLatch_out (s : State) (a : Nat) (x y z : Bool) : (s.faultLatch a x y z).out = s.out := State.faultLatch_same s a x y z .out (by decide)
@[simp] theorem State.faultLatch_pending (s : State) (a : Nat) (x y z : Bool) : (s.faultLatch a x y z).pending = s.pending := State.faultLatch_same s a x y z .pending (by decide)

theorem State.fault_same (s : State) (n : Nat) (v : Sev) (c : Nat) (j : Bool) (w : List Nat) :
    s.SameBut (s.fault n v c j w) [.regs, .freeCtr, .rec_, .fc, .port, .mir, .out] := by
  unfold State.fault
  try dsimp only
  repeat' split
  all_goals (intro p hp; revert hp; cases p <;> simp [State.agree])
@[simp] theorem State.fault_dev (s : State) (n : Nat) (v : Sev) (c : Nat) (j : Bool) (w : List Nat) : (s.fault n v c j w).dev = s.dev := State.fault_same s n v c j w .dev (by decide)
@[simp] theorem State.fault_prev (s : State) (n : Nat) (v : Sev) (c : Nat) (j : Bool) (w : List Nat) : (s.fault n v c j w).prev = s.prev := State.fault_same s n v c j w .prev (by decide)
@[simp] theorem State.fault_cold (s : State) (n : Nat) (v : Sev) (c : Nat) (j : Bool) (w : List Nat) : (s.fault n v c j w).cold = s.cold := State.fault_same s n v c j w .cold (by decide)
@[simp] theorem State.fault_now (s : State) (n : Nat) (v : Sev) (c : Nat) (j : Bool) (w : List Nat) : (s.fault n v c j w).now = s.now := State.fault_same s n v c j w .now (by decide)
@[simp] theorem State.fault_mem (s : State) (n : Nat) (v : Sev) (c : Nat) (j : Bool) (w : List Nat) : (s.fault n v c j w).mem = s.mem := State.fault_same s n v c j w .mem (by decide)
@[simp] theorem State.fault_nv (s : State) (n : Nat) (v : Sev) (c : Nat) (j : Bool) (w : List Nat) : (s.fault n v c j w).nv = s.nv := State.fault_same s n v c j w .nv (by decide)
@[simp] theorem State.fault_cmd (s : State) (n : Nat) (v : Sev) (c : Nat) (j : Bool) (w : List Nat) : (s.fault n v c j w).cmd = s.cmd := State.fault_same s n v c j w .cmd (by decide)
@[simp] theorem State.fault_cist (s : State) (n : Nat) (v : Sev) (c : Nat) (j : Bool) (w : List Nat) : (s.fault n v c j w).cist = s.cist := State.fault_same s n v c j w .cist (by decide)
@[simp] theorem State.fault_weir (s : State) (n : Nat) (v : Sev) (c : Nat) (j : Bool) (w : List Nat) : (s.fault n v c j w).weir = s.weir := State.fault_same s n v c j w .weir (by decide)
@[simp] theorem State.fault_basin (s : State) (n : Nat) (v : Sev) (c : Nat) (j : Bool) (w : List Nat) : (s.fault n v c j w).basin = s.basin := State.fault_same s n v c j w .basin (by decide)
@[simp] theorem State.fault_rill (s : State) (n : Nat) (v : Sev) (c : Nat) (j : Bool) (w : List Nat) : (s.fault n v c j w).rill = s.rill := State.fault_same s n v c j w .rill (by decide)
@[simp] theorem State.fault_res (s : State) (n : Nat) (v : Sev) (c : Nat) (j : Bool) (w : List Nat) : (s.fault n v c j w).res = s.res := State.fault_same s n v c j w .res (by decide)
@[simp] theorem State.fault_whl (s : State) (n : Nat) (v : Sev) (c : Nat) (j : Bool) (w : List Nat) : (s.fault n v c j w).whl = s.whl := State.fault_same s n v c j w .whl (by decide)
@[simp] theorem State.fault_spill (s : State) (n : Nat) (v : Sev) (c : Nat) (j : Bool) (w : List Nat) : (s.fault n v c j w).spill = s.spill := State.fault_same s n v c j w .spill (by decide)
@[simp] theorem State.fault_sip (s : State) (n : Nat) (v : Sev) (c : Nat) (j : Bool) (w : List Nat) : (s.fault n v c j w).sip = s.sip := State.fault_same s n v c j w .sip (by decide)
@[simp] theorem State.fault_seq (s : State) (n : Nat) (v : Sev) (c : Nat) (j : Bool) (w : List Nat) : (s.fault n v c j w).seq = s.seq := State.fault_same s n v c j w .seq (by decide)
@[simp] theorem State.fault_mgmt (s : State) (n : Nat) (v : Sev) (c : Nat) (j : Bool) (w : List Nat) : (s.fault n v c j w).mgmt = s.mgmt := State.fault_same s n v c j w .mgmt (by decide)
@[simp] theorem State.fault_pending (s : State) (n : Nat) (v : Sev) (c : Nat) (j : Bool) (w : List Nat) : (s.fault n v c j w).pending = s.pending := State.fault_same s n v c j w .pending (by decide)

theorem State.setMedia_same (s : State) (h : HostPort) :
    s.SameBut (s.setMedia h) [.port, .out] := by
  unfold State.setMedia
  try dsimp only
  repeat' split
  all_goals (intro p hp; revert hp; cases p <;> simp [State.agree])
@[simp] theorem State.setMedia_dev (s : State) (h : HostPort) : (s.setMedia h).dev = s.dev := State.setMedia_same s h .dev (by decide)
@[simp] theorem State.setMedia_prev (s : State) (h : HostPort) : (s.setMedia h).prev = s.prev := State.setMedia_same s h .prev (by decide)
@[simp] theorem State.setMedia_cold (s : State) (h : HostPort) : (s.setMedia h).cold = s.cold := State.setMedia_same s h .cold (by decide)
@[simp] theorem State.setMedia_now (s : State) (h : HostPort) : (s.setMedia h).now = s.now := State.setMedia_same s h .now (by decide)
@[simp] theorem State.setMedia_regs (s : State) (h : HostPort) : (s.setMedia h).regs = s.regs := State.setMedia_same s h .regs (by decide)
@[simp] theorem State.setMedia_freeCtr (s : State) (h : HostPort) : (s.setMedia h).freeCtr = s.freeCtr := State.setMedia_same s h .freeCtr (by decide)
@[simp] theorem State.setMedia_mem (s : State) (h : HostPort) : (s.setMedia h).mem = s.mem := State.setMedia_same s h .mem (by decide)
@[simp] theorem State.setMedia_fc (s : State) (h : HostPort) : (s.setMedia h).fc = s.fc := State.setMedia_same s h .fc (by decide)
@[simp] theorem State.setMedia_rec_ (s : State) (h : HostPort) : (s.setMedia h).rec_ = s.rec_ := State.setMedia_same s h .rec_ (by decide)
@[simp] theorem State.setMedia_nv (s : State) (h : HostPort) : (s.setMedia h).nv = s.nv := State.setMedia_same s h .nv (by decide)
@[simp] theorem State.setMedia_cmd (s : State) (h : HostPort) : (s.setMedia h).cmd = s.cmd := State.setMedia_same s h .cmd (by decide)
@[simp] theorem State.setMedia_cist (s : State) (h : HostPort) : (s.setMedia h).cist = s.cist := State.setMedia_same s h .cist (by decide)
@[simp] theorem State.setMedia_weir (s : State) (h : HostPort) : (s.setMedia h).weir = s.weir := State.setMedia_same s h .weir (by decide)
@[simp] theorem State.setMedia_basin (s : State) (h : HostPort) : (s.setMedia h).basin = s.basin := State.setMedia_same s h .basin (by decide)
@[simp] theorem State.setMedia_rill (s : State) (h : HostPort) : (s.setMedia h).rill = s.rill := State.setMedia_same s h .rill (by decide)
@[simp] theorem State.setMedia_res (s : State) (h : HostPort) : (s.setMedia h).res = s.res := State.setMedia_same s h .res (by decide)
@[simp] theorem State.setMedia_whl (s : State) (h : HostPort) : (s.setMedia h).whl = s.whl := State.setMedia_same s h .whl (by decide)
@[simp] theorem State.setMedia_spill (s : State) (h : HostPort) : (s.setMedia h).spill = s.spill := State.setMedia_same s h .spill (by decide)
@[simp] theorem State.setMedia_sip (s : State) (h : HostPort) : (s.setMedia h).sip = s.sip := State.setMedia_same s h .sip (by decide)
@[simp] theorem State.setMedia_seq (s : State) (h : HostPort) : (s.setMedia h).seq = s.seq := State.setMedia_same s h .seq (by decide)
@[simp] theorem State.setMedia_mir (s : State) (h : HostPort) : (s.setMedia h).mir = s.mir := State.setMedia_same s h .mir (by decide)
@[simp] theorem State.setMedia_mgmt (s : State) (h : HostPort) : (s.setMedia h).mgmt = s.mgmt := State.setMedia_same s h .mgmt (by decide)
@[simp] theorem State.setMedia_pending (s : State) (h : HostPort) : (s.setMedia h).pending = s.pending := State.setMedia_same s h .pending (by decide)

theorem State.setDev_same (s : State) (d : Dev) (c : Nat) :
    s.SameBut (s.setDev d c) [.regs, .freeCtr, .rec_, .fc, .port, .mir, .out, .dev] := by
  unfold State.setDev
  try dsimp only
  repeat' split
  all_goals (intro p hp; revert hp; cases p <;> simp [State.agree])
@[simp] theorem State.setDev_prev (s : State) (d : Dev) (c : Nat) : (s.setDev d c).prev = s.prev := State.setDev_same s d c .prev (by decide)
@[simp] theorem State.setDev_cold (s : State) (d : Dev) (c : Nat) : (s.setDev d c).cold = s.cold := State.setDev_same s d c .cold (by decide)
@[simp] theorem State.setDev_now (s : State) (d : Dev) (c : Nat) : (s.setDev d c).now = s.now := State.setDev_same s d c .now (by decide)
@[simp] theorem State.setDev_mem (s : State) (d : Dev) (c : Nat) : (s.setDev d c).mem = s.mem := State.setDev_same s d c .mem (by decide)
@[simp] theorem State.setDev_nv (s : State) (d : Dev) (c : Nat) : (s.setDev d c).nv = s.nv := State.setDev_same s d c .nv (by decide)
@[simp] theorem State.setDev_cmd (s : State) (d : Dev) (c : Nat) : (s.setDev d c).cmd = s.cmd := State.setDev_same s d c .cmd (by decide)
@[simp] theorem State.setDev_cist (s : State) (d : Dev) (c : Nat) : (s.setDev d c).cist = s.cist := State.setDev_same s d c .cist (by decide)
@[simp] theorem State.setDev_weir (s : State) (d : Dev) (c : Nat) : (s.setDev d c).weir = s.weir := State.setDev_same s d c .weir (by decide)
@[simp] theorem State.setDev_basin (s : State) (d : Dev) (c : Nat) : (s.setDev d c).basin = s.basin := State.setDev_same s d c .basin (by decide)
@[simp] theorem State.setDev_rill (s : State) (d : Dev) (c : Nat) : (s.setDev d c).rill = s.rill := State.setDev_same s d c .rill (by decide)
@[simp] theorem State.setDev_res (s : State) (d : Dev) (c : Nat) : (s.setDev d c).res = s.res := State.setDev_same s d c .res (by decide)
@[simp] theorem State.setDev_whl (s : State) (d : Dev) (c : Nat) : (s.setDev d c).whl = s.whl := State.setDev_same s d c .whl (by decide)
@[simp] theorem State.setDev_spill (s : State) (d : Dev) (c : Nat) : (s.setDev d c).spill = s.spill := State.setDev_same s d c .spill (by decide)
@[simp] theorem State.setDev_sip (s : State) (d : Dev) (c : Nat) : (s.setDev d c).sip = s.sip := State.setDev_same s d c .sip (by decide)
@[simp] theorem State.setDev_seq (s : State) (d : Dev) (c : Nat) : (s.setDev d c).seq = s.seq := State.setDev_same s d c .seq (by decide)
@[simp] theorem State.setDev_mgmt (s : State) (d : Dev) (c : Nat) : (s.setDev d c).mgmt = s.mgmt := State.setDev_same s d c .mgmt (by decide)
@[simp] theorem State.setDev_pending (s : State) (d : Dev) (c : Nat) : (s.setDev d c).pending = s.pending := State.setDev_same s d c .pending (by decide)

theorem State.nvHold_same (s : State) (d : NvData) :
    s.SameBut (s.nvHold d) [.nv] := by
  unfold State.nvHold
  try dsimp only
  repeat' split
  all_goals (intro p hp; revert hp; cases p <;> simp [State.agree])
@[simp] theorem State.nvHold_dev (s : State) (d : NvData) : (s.nvHold d).dev = s.dev := State.nvHold_same s d .dev (by decide)
@[simp] theorem State.nvHold_prev (s : State) (d : NvData) : (s.nvHold d).prev = s.prev := State.nvHold_same s d .prev (by decide)
@[simp] theorem State.nvHold_cold (s : State) (d : NvData) : (s.nvHold d).cold = s.cold := State.nvHold_same s d .cold (by decide)
@[simp] theorem State.nvHold_now (s : State) (d : NvData) : (s.nvHold d).now = s.now := State.nvHold_same s d .now (by decide)
@[simp] theorem State.nvHold_regs (s : State) (d : NvData) : (s.nvHold d).regs = s.regs := State.nvHold_same s d .regs (by decide)
@[simp] theorem State.nvHold_freeCtr (s : State) (d : NvData) : (s.nvHold d).freeCtr = s.freeCtr := State.nvHold_same s d .freeCtr (by decide)
@[simp] theorem State.nvHold_mem (s : State) (d : NvData) : (s.nvHold d).mem = s.mem := State.nvHold_same s d .mem (by decide)
@[simp] theorem State.nvHold_fc (s : State) (d : NvData) : (s.nvHold d).fc = s.fc := State.nvHold_same s d .fc (by decide)
@[simp] theorem State.nvHold_rec_ (s : State) (d : NvData) : (s.nvHold d).rec_ = s.rec_ := State.nvHold_same s d .rec_ (by decide)
@[simp] theorem State.nvHold_cmd (s : State) (d : NvData) : (s.nvHold d).cmd = s.cmd := State.nvHold_same s d .cmd (by decide)
@[simp] theorem State.nvHold_cist (s : State) (d : NvData) : (s.nvHold d).cist = s.cist := State.nvHold_same s d .cist (by decide)
@[simp] theorem State.nvHold_weir (s : State) (d : NvData) : (s.nvHold d).weir = s.weir := State.nvHold_same s d .weir (by decide)
@[simp] theorem State.nvHold_basin (s : State) (d : NvData) : (s.nvHold d).basin = s.basin := State.nvHold_same s d .basin (by decide)
@[simp] theorem State.nvHold_rill (s : State) (d : NvData) : (s.nvHold d).rill = s.rill := State.nvHold_same s d .rill (by decide)
@[simp] theorem State.nvHold_res (s : State) (d : NvData) : (s.nvHold d).res = s.res := State.nvHold_same s d .res (by decide)
@[simp] theorem State.nvHold_whl (s : State) (d : NvData) : (s.nvHold d).whl = s.whl := State.nvHold_same s d .whl (by decide)
@[simp] theorem State.nvHold_spill (s : State) (d : NvData) : (s.nvHold d).spill = s.spill := State.nvHold_same s d .spill (by decide)
@[simp] theorem State.nvHold_sip (s : State) (d : NvData) : (s.nvHold d).sip = s.sip := State.nvHold_same s d .sip (by decide)
@[simp] theorem State.nvHold_seq (s : State) (d : NvData) : (s.nvHold d).seq = s.seq := State.nvHold_same s d .seq (by decide)
@[simp] theorem State.nvHold_port (s : State) (d : NvData) : (s.nvHold d).port = s.port := State.nvHold_same s d .port (by decide)
@[simp] theorem State.nvHold_mir (s : State) (d : NvData) : (s.nvHold d).mir = s.mir := State.nvHold_same s d .mir (by decide)
@[simp] theorem State.nvHold_mgmt (s : State) (d : NvData) : (s.nvHold d).mgmt = s.mgmt := State.nvHold_same s d .mgmt (by decide)
@[simp] theorem State.nvHold_out (s : State) (d : NvData) : (s.nvHold d).out = s.out := State.nvHold_same s d .out (by decide)
@[simp] theorem State.nvHold_pending (s : State) (d : NvData) : (s.nvHold d).pending = s.pending := State.nvHold_same s d .pending (by decide)

theorem State.nvPut_same (s : State) (d : NvData) (g : NvStore → NvData → NvStore) :
    s.SameBut (s.nvPut d g) [.regs, .freeCtr, .rec_, .fc, .port, .mir, .out, .nv] := by
  unfold State.nvPut
  try dsimp only
  repeat' split
  all_goals (intro p hp; revert hp; cases p <;> simp [State.agree])
@[simp] theorem State.nvPut_dev (s : State) (d : NvData) (g : NvStore → NvData → NvStore) : (s.nvPut d g).dev = s.dev := State.nvPut_same s d g .dev (by decide)
@[simp] theorem State.nvPut_prev (s : State) (d : NvData) (g : NvStore → NvData → NvStore) : (s.nvPut d g).prev = s.prev := State.nvPut_same s d g .prev (by decide)
@[simp] theorem State.nvPut_cold (s : State) (d : NvData) (g : NvStore → NvData → NvStore) : (s.nvPut d g).cold = s.cold := State.nvPut_same s d g .cold (by decide)
@[simp] theorem State.nvPut_now (s : State) (d : NvData) (g : NvStore → NvData → NvStore) : (s.nvPut d g).now = s.now := State.nvPut_same s d g .now (by decide)
@[simp] theorem State.nvPut_mem (s : State) (d : NvData) (g : NvStore → NvData → NvStore) : (s.nvPut d g).mem = s.mem := State.nvPut_same s d g .mem (by decide)
@[simp] theorem State.nvPut_cmd (s : State) (d : NvData) (g : NvStore → NvData → NvStore) : (s.nvPut d g).cmd = s.cmd := State.nvPut_same s d g .cmd (by decide)
@[simp] theorem State.nvPut_cist (s : State) (d : NvData) (g : NvStore → NvData → NvStore) : (s.nvPut d g).cist = s.cist := State.nvPut_same s d g .cist (by decide)
@[simp] theorem State.nvPut_weir (s : State) (d : NvData) (g : NvStore → NvData → NvStore) : (s.nvPut d g).weir = s.weir := State.nvPut_same s d g .weir (by decide)
@[simp] theorem State.nvPut_basin (s : State) (d : NvData) (g : NvStore → NvData → NvStore) : (s.nvPut d g).basin = s.basin := State.nvPut_same s d g .basin (by decide)
@[simp] theorem State.nvPut_rill (s : State) (d : NvData) (g : NvStore → NvData → NvStore) : (s.nvPut d g).rill = s.rill := State.nvPut_same s d g .rill (by decide)
@[simp] theorem State.nvPut_res (s : State) (d : NvData) (g : NvStore → NvData → NvStore) : (s.nvPut d g).res = s.res := State.nvPut_same s d g .res (by decide)
@[simp] theorem State.nvPut_whl (s : State) (d : NvData) (g : NvStore → NvData → NvStore) : (s.nvPut d g).whl = s.whl := State.nvPut_same s d g .whl (by decide)
@[simp] theorem State.nvPut_spill (s : State) (d : NvData) (g : NvStore → NvData → NvStore) : (s.nvPut d g).spill = s.spill := State.nvPut_same s d g .spill (by decide)
@[simp] theorem State.nvPut_sip (s : State) (d : NvData) (g : NvStore → NvData → NvStore) : (s.nvPut d g).sip = s.sip := State.nvPut_same s d g .sip (by decide)
@[simp] theorem State.nvPut_seq (s : State) (d : NvData) (g : NvStore → NvData → NvStore) : (s.nvPut d g).seq = s.seq := State.nvPut_same s d g .seq (by decide)
@[simp] theorem State.nvPut_mgmt (s : State) (d : NvData) (g : NvStore → NvData → NvStore) : (s.nvPut d g).mgmt = s.mgmt := State.nvPut_same s d g .mgmt (by decide)
@[simp] theorem State.nvPut_pending (s : State) (d : NvData) (g : NvStore → NvData → NvStore) : (s.nvPut d g).pending = s.pending := State.nvPut_same s d g .pending (by decide)

theorem State.nvWrite_same (s : State) (d : NvData) :
    s.SameBut (s.nvWrite d) [.regs, .freeCtr, .rec_, .fc, .port, .mir, .out, .nv] := by
  exact s.nvPut_same _ _
@[simp] theorem State.nvWrite_dev (s : State) (d : NvData) : (s.nvWrite d).dev = s.dev := State.nvWrite_same s d .dev (by decide)
@[simp] theorem State.nvWrite_prev (s : State) (d : NvData) : (s.nvWrite d).prev = s.prev := State.nvWrite_same s d .prev (by decide)
@[simp] theorem State.nvWrite_cold (s : State) (d : NvData) : (s.nvWrite d).cold = s.cold := State.nvWrite_same s d .cold (by decide)
@[simp] theorem State.nvWrite_now (s : State) (d : NvData) : (s.nvWrite d).now = s.now := State.nvWrite_same s d .now (by decide)
@[simp] theorem State.nvWrite_mem (s : State) (d : NvData) : (s.nvWrite d).mem = s.mem := State.nvWrite_same s d .mem (by decide)
@[simp] theorem State.nvWrite_cmd (s : State) (d : NvData) : (s.nvWrite d).cmd = s.cmd := State.nvWrite_same s d .cmd (by decide)
@[simp] theorem State.nvWrite_cist (s : State) (d : NvData) : (s.nvWrite d).cist = s.cist := State.nvWrite_same s d .cist (by decide)
@[simp] theorem State.nvWrite_weir (s : State) (d : NvData) : (s.nvWrite d).weir = s.weir := State.nvWrite_same s d .weir (by decide)
@[simp] theorem State.nvWrite_basin (s : State) (d : NvData) : (s.nvWrite d).basin = s.basin := State.nvWrite_same s d .basin (by decide)
@[simp] theorem State.nvWrite_rill (s : State) (d : NvData) : (s.nvWrite d).rill = s.rill := State.nvWrite_same s d .rill (by decide)
@[simp] theorem State.nvWrite_res (s : State) (d : NvData) : (s.nvWrite d).res = s.res := State.nvWrite_same s d .res (by decide)
@[simp] theorem State.nvWrite_whl (s : State) (d : NvData) : (s.nvWrite d).whl = s.whl := State.nvWrite_same s d .whl (by decide)
@[simp] theorem State.nvWrite_spill (s : State) (d : NvData) : (s.nvWrite d).spill = s.spill := State.nvWrite_same s d .spill (by decide)
@[simp] theorem State.nvWrite_sip (s : State) (d : NvData) : (s.nvWrite d).sip = s.sip := State.nvWrite_same s d .sip (by decide)
@[simp] theorem State.nvWrite_seq (s : State) (d : NvData) : (s.nvWrite d).seq = s.seq := State.nvWrite_same s d .seq (by decide)
@[simp] theorem State.nvWrite_mgmt (s : State) (d : NvData) : (s.nvWrite d).mgmt = s.mgmt := State.nvWrite_same s d .mgmt (by decide)
@[simp] theorem State.nvWrite_pending (s : State) (d : NvData) : (s.nvWrite d).pending = s.pending := State.nvWrite_same s d .pending (by decide)

theorem State.nvDurable_same (s : State) (d : NvData) :
    s.SameBut (s.nvDurable d) [.regs, .freeCtr, .rec_, .fc, .port, .mir, .out, .nv] := by
  exact s.nvPut_same _ _
@[simp] theorem State.nvDurable_dev (s : State) (d : NvData) : (s.nvDurable d).dev = s.dev := State.nvDurable_same s d .dev (by decide)
@[simp] theorem State.nvDurable_prev (s : State) (d : NvData) : (s.nvDurable d).prev = s.prev := State.nvDurable_same s d .prev (by decide)
@[simp] theorem State.nvDurable_cold (s : State) (d : NvData) : (s.nvDurable d).cold = s.cold := State.nvDurable_same s d .cold (by decide)
@[simp] theorem State.nvDurable_now (s : State) (d : NvData) : (s.nvDurable d).now = s.now := State.nvDurable_same s d .now (by decide)
@[simp] theorem State.nvDurable_mem (s : State) (d : NvData) : (s.nvDurable d).mem = s.mem := State.nvDurable_same s d .mem (by decide)
@[simp] theorem State.nvDurable_cmd (s : State) (d : NvData) : (s.nvDurable d).cmd = s.cmd := State.nvDurable_same s d .cmd (by decide)
@[simp] theorem State.nvDurable_cist (s : State) (d : NvData) : (s.nvDurable d).cist = s.cist := State.nvDurable_same s d .cist (by decide)
@[simp] theorem State.nvDurable_weir (s : State) (d : NvData) : (s.nvDurable d).weir = s.weir := State.nvDurable_same s d .weir (by decide)
@[simp] theorem State.nvDurable_basin (s : State) (d : NvData) : (s.nvDurable d).basin = s.basin := State.nvDurable_same s d .basin (by decide)
@[simp] theorem State.nvDurable_rill (s : State) (d : NvData) : (s.nvDurable d).rill = s.rill := State.nvDurable_same s d .rill (by decide)
@[simp] theorem State.nvDurable_res (s : State) (d : NvData) : (s.nvDurable d).res = s.res := State.nvDurable_same s d .res (by decide)
@[simp] theorem State.nvDurable_whl (s : State) (d : NvData) : (s.nvDurable d).whl = s.whl := State.nvDurable_same s d .whl (by decide)
@[simp] theorem State.nvDurable_spill (s : State) (d : NvData) : (s.nvDurable d).spill = s.spill := State.nvDurable_same s d .spill (by decide)
@[simp] theorem State.nvDurable_sip (s : State) (d : NvData) : (s.nvDurable d).sip = s.sip := State.nvDurable_same s d .sip (by decide)
@[simp] theorem State.nvDurable_seq (s : State) (d : NvData) : (s.nvDurable d).seq = s.seq := State.nvDurable_same s d .seq (by decide)
@[simp] theorem State.nvDurable_mgmt (s : State) (d : NvData) : (s.nvDurable d).mgmt = s.mgmt := State.nvDurable_same s d .mgmt (by decide)
@[simp] theorem State.nvDurable_pending (s : State) (d : NvData) : (s.nvDurable d).pending = s.pending := State.nvDurable_same s d .pending (by decide)

theorem State.nvGroup_same (s : State) (d : List NvData) :
    s.SameBut (s.nvGroup d) [.nv] := by
  unfold State.nvGroup
  try dsimp only
  repeat' split
  all_goals (intro p hp; revert hp; cases p <;> simp [State.agree])
@[simp] theorem State.nvGroup_dev (s : State) (d : List NvData) : (s.nvGroup d).dev = s.dev := State.nvGroup_same s d .dev (by decide)
@[simp] theorem State.nvGroup_prev (s : State) (d : List NvData) : (s.nvGroup d).prev = s.prev := State.nvGroup_same s d .prev (by decide)
@[simp] theorem State.nvGroup_cold (s : State) (d : List NvData) : (s.nvGroup d).cold = s.cold := State.nvGroup_same s d .cold (by decide)
@[simp] theorem State.nvGroup_now (s : State) (d : List NvData) : (s.nvGroup d).now = s.now := State.nvGroup_same s d .now (by decide)
@[simp] theorem State.nvGroup_regs (s : State) (d : List NvData) : (s.nvGroup d).regs = s.regs := State.nvGroup_same s d .regs (by decide)
@[simp] theorem State.nvGroup_freeCtr (s : State) (d : List NvData) : (s.nvGroup d).freeCtr = s.freeCtr := State.nvGroup_same s d .freeCtr (by decide)
@[simp] theorem State.nvGroup_mem (s : State) (d : List NvData) : (s.nvGroup d).mem = s.mem := State.nvGroup_same s d .mem (by decide)
@[simp] theorem State.nvGroup_fc (s : State) (d : List NvData) : (s.nvGroup d).fc = s.fc := State.nvGroup_same s d .fc (by decide)
@[simp] theorem State.nvGroup_rec_ (s : State) (d : List NvData) : (s.nvGroup d).rec_ = s.rec_ := State.nvGroup_same s d .rec_ (by decide)
@[simp] theorem State.nvGroup_cmd (s : State) (d : List NvData) : (s.nvGroup d).cmd = s.cmd := State.nvGroup_same s d .cmd (by decide)
@[simp] theorem State.nvGroup_cist (s : State) (d : List NvData) : (s.nvGroup d).cist = s.cist := State.nvGroup_same s d .cist (by decide)
@[simp] theorem State.nvGroup_weir (s : State) (d : List NvData) : (s.nvGroup d).weir = s.weir := State.nvGroup_same s d .weir (by decide)
@[simp] theorem State.nvGroup_basin (s : State) (d : List NvData) : (s.nvGroup d).basin = s.basin := State.nvGroup_same s d .basin (by decide)
@[simp] theorem State.nvGroup_rill (s : State) (d : List NvData) : (s.nvGroup d).rill = s.rill := State.nvGroup_same s d .rill (by decide)
@[simp] theorem State.nvGroup_res (s : State) (d : List NvData) : (s.nvGroup d).res = s.res := State.nvGroup_same s d .res (by decide)
@[simp] theorem State.nvGroup_whl (s : State) (d : List NvData) : (s.nvGroup d).whl = s.whl := State.nvGroup_same s d .whl (by decide)
@[simp] theorem State.nvGroup_spill (s : State) (d : List NvData) : (s.nvGroup d).spill = s.spill := State.nvGroup_same s d .spill (by decide)
@[simp] theorem State.nvGroup_sip (s : State) (d : List NvData) : (s.nvGroup d).sip = s.sip := State.nvGroup_same s d .sip (by decide)
@[simp] theorem State.nvGroup_seq (s : State) (d : List NvData) : (s.nvGroup d).seq = s.seq := State.nvGroup_same s d .seq (by decide)
@[simp] theorem State.nvGroup_port (s : State) (d : List NvData) : (s.nvGroup d).port = s.port := State.nvGroup_same s d .port (by decide)
@[simp] theorem State.nvGroup_mir (s : State) (d : List NvData) : (s.nvGroup d).mir = s.mir := State.nvGroup_same s d .mir (by decide)
@[simp] theorem State.nvGroup_mgmt (s : State) (d : List NvData) : (s.nvGroup d).mgmt = s.mgmt := State.nvGroup_same s d .mgmt (by decide)
@[simp] theorem State.nvGroup_out (s : State) (d : List NvData) : (s.nvGroup d).out = s.out := State.nvGroup_same s d .out (by decide)
@[simp] theorem State.nvGroup_pending (s : State) (d : List NvData) : (s.nvGroup d).pending = s.pending := State.nvGroup_same s d .pending (by decide)

theorem State.bumpCounter_same (s : State) (i : Nat) :
    s.SameBut (s.bumpCounter i) [.regs, .freeCtr, .rec_, .fc, .port, .mir, .out, .nv] := by
  unfold State.bumpCounter
  try dsimp only
  repeat' split
  all_goals (intro p hp; revert hp; cases p <;> simp [State.agree])
@[simp] theorem State.bumpCounter_dev (s : State) (i : Nat) : (s.bumpCounter i).dev = s.dev := State.bumpCounter_same s i .dev (by decide)
@[simp] theorem State.bumpCounter_prev (s : State) (i : Nat) : (s.bumpCounter i).prev = s.prev := State.bumpCounter_same s i .prev (by decide)
@[simp] theorem State.bumpCounter_cold (s : State) (i : Nat) : (s.bumpCounter i).cold = s.cold := State.bumpCounter_same s i .cold (by decide)
@[simp] theorem State.bumpCounter_now (s : State) (i : Nat) : (s.bumpCounter i).now = s.now := State.bumpCounter_same s i .now (by decide)
@[simp] theorem State.bumpCounter_mem (s : State) (i : Nat) : (s.bumpCounter i).mem = s.mem := State.bumpCounter_same s i .mem (by decide)
@[simp] theorem State.bumpCounter_cmd (s : State) (i : Nat) : (s.bumpCounter i).cmd = s.cmd := State.bumpCounter_same s i .cmd (by decide)
@[simp] theorem State.bumpCounter_cist (s : State) (i : Nat) : (s.bumpCounter i).cist = s.cist := State.bumpCounter_same s i .cist (by decide)
@[simp] theorem State.bumpCounter_weir (s : State) (i : Nat) : (s.bumpCounter i).weir = s.weir := State.bumpCounter_same s i .weir (by decide)
@[simp] theorem State.bumpCounter_basin (s : State) (i : Nat) : (s.bumpCounter i).basin = s.basin := State.bumpCounter_same s i .basin (by decide)
@[simp] theorem State.bumpCounter_rill (s : State) (i : Nat) : (s.bumpCounter i).rill = s.rill := State.bumpCounter_same s i .rill (by decide)
@[simp] theorem State.bumpCounter_res (s : State) (i : Nat) : (s.bumpCounter i).res = s.res := State.bumpCounter_same s i .res (by decide)
@[simp] theorem State.bumpCounter_whl (s : State) (i : Nat) : (s.bumpCounter i).whl = s.whl := State.bumpCounter_same s i .whl (by decide)
@[simp] theorem State.bumpCounter_spill (s : State) (i : Nat) : (s.bumpCounter i).spill = s.spill := State.bumpCounter_same s i .spill (by decide)
@[simp] theorem State.bumpCounter_sip (s : State) (i : Nat) : (s.bumpCounter i).sip = s.sip := State.bumpCounter_same s i .sip (by decide)
@[simp] theorem State.bumpCounter_seq (s : State) (i : Nat) : (s.bumpCounter i).seq = s.seq := State.bumpCounter_same s i .seq (by decide)
@[simp] theorem State.bumpCounter_mgmt (s : State) (i : Nat) : (s.bumpCounter i).mgmt = s.mgmt := State.bumpCounter_same s i .mgmt (by decide)
@[simp] theorem State.bumpCounter_pending (s : State) (i : Nat) : (s.bumpCounter i).pending = s.pending := State.bumpCounter_same s i .pending (by decide)

theorem State.count_same (s : State) (a i : Nat) :
    s.SameBut (s.count a i) [.regs, .freeCtr, .rec_, .fc, .port, .mir, .out, .nv] := by
  unfold State.count
  try dsimp only
  repeat' split
  all_goals (intro p hp; revert hp; cases p <;> simp [State.agree])
@[simp] theorem State.count_dev (s : State) (a i : Nat) : (s.count a i).dev = s.dev := State.count_same s a i .dev (by decide)
@[simp] theorem State.count_prev (s : State) (a i : Nat) : (s.count a i).prev = s.prev := State.count_same s a i .prev (by decide)
@[simp] theorem State.count_cold (s : State) (a i : Nat) : (s.count a i).cold = s.cold := State.count_same s a i .cold (by decide)
@[simp] theorem State.count_now (s : State) (a i : Nat) : (s.count a i).now = s.now := State.count_same s a i .now (by decide)
@[simp] theorem State.count_mem (s : State) (a i : Nat) : (s.count a i).mem = s.mem := State.count_same s a i .mem (by decide)
@[simp] theorem State.count_cmd (s : State) (a i : Nat) : (s.count a i).cmd = s.cmd := State.count_same s a i .cmd (by decide)
@[simp] theorem State.count_cist (s : State) (a i : Nat) : (s.count a i).cist = s.cist := State.count_same s a i .cist (by decide)
@[simp] theorem State.count_weir (s : State) (a i : Nat) : (s.count a i).weir = s.weir := State.count_same s a i .weir (by decide)
@[simp] theorem State.count_basin (s : State) (a i : Nat) : (s.count a i).basin = s.basin := State.count_same s a i .basin (by decide)
@[simp] theorem State.count_rill (s : State) (a i : Nat) : (s.count a i).rill = s.rill := State.count_same s a i .rill (by decide)
@[simp] theorem State.count_res (s : State) (a i : Nat) : (s.count a i).res = s.res := State.count_same s a i .res (by decide)
@[simp] theorem State.count_whl (s : State) (a i : Nat) : (s.count a i).whl = s.whl := State.count_same s a i .whl (by decide)
@[simp] theorem State.count_spill (s : State) (a i : Nat) : (s.count a i).spill = s.spill := State.count_same s a i .spill (by decide)
@[simp] theorem State.count_sip (s : State) (a i : Nat) : (s.count a i).sip = s.sip := State.count_same s a i .sip (by decide)
@[simp] theorem State.count_seq (s : State) (a i : Nat) : (s.count a i).seq = s.seq := State.count_same s a i .seq (by decide)
@[simp] theorem State.count_mgmt (s : State) (a i : Nat) : (s.count a i).mgmt = s.mgmt := State.count_same s a i .mgmt (by decide)
@[simp] theorem State.count_pending (s : State) (a i : Nat) : (s.count a i).pending = s.pending := State.count_same s a i .pending (by decide)

end Sys2Proof.Machine
end

