-- ==== Sys2Proof/Laws/Store.lean ====
section
/-! SUPPORT. Sparse stores and byte memory: reads after writes, and the canonical form kept. -/

namespace Sys2Proof.Machine

theorem mget_mput_same {α : Type} (d : α) (k : Nat) (v : α) (m : List (Nat × α)) :
    mget d (mput k v m) k = v := by
  induction m with
  | nil => simp [mput, mget]
  | cons p m ih =>
    obtain ⟨j, w⟩ := p
    simp only [mput]
    split
    · simp [mget]
    · split
      · simp [mget]
      · rename_i h; simp [mget, Ne.symm h, ih]

theorem mget_mput_ne {α : Type} (d : α) (k j : Nat) (v : α) (m : List (Nat × α)) (h : j ≠ k) :
    mget d (mput k v m) j = mget d m j := by
  induction m with
  | nil => simp [mput, mget, h.symm]
  | cons p m ih =>
    obtain ⟨i, w⟩ := p
    simp only [mput]
    split
    · simp [mget, h.symm]
    · split
      · rename_i e; subst e; simp [mget, h.symm]
      · simp [mget, ih]

theorem mget_mdel_same {α : Type} (d : α) (k : Nat) (m : List (Nat × α)) : mget d (mdel k m) k = d := by
  induction m with
  | nil => rfl
  | cons p m ih =>
    obtain ⟨i, w⟩ := p
    simp only [mdel]
    split
    · exact ih
    · simp [mget, *]

theorem mget_mdel_ne {α : Type} (d : α) (k j : Nat) (m : List (Nat × α)) (h : j ≠ k) :
    mget d (mdel k m) j = mget d m j := by
  induction m with
  | nil => rfl
  | cons p m ih =>
    obtain ⟨i, w⟩ := p
    simp only [mdel]
    split
    · rename_i e; subst e; simp [mget, h.symm, ih]
    · simp [mget, ih]

@[simp] theorem mget_mset_same {α : Type} [DecidableEq α] (d : α) (m : List (Nat × α)) (k : Nat) (v : α) :
    mget d (mset d m k v) k = v := by
  unfold mset
  split
  · rename_i h; rw [h]; exact mget_mdel_same d k m
  · exact mget_mput_same d k v m

theorem mget_mset_ne {α : Type} [DecidableEq α] (d : α) (m : List (Nat × α)) (k j : Nat) (v : α) (h : j ≠ k) :
    mget d (mset d m k v) j = mget d m j := by
  unfold mset
  split
  · exact mget_mdel_ne d k j m h
  · exact mget_mput_ne d k j v m h

/-! ### The canonical form -/

/-- The keys of a store are above a bound, when one is given. -/
def Above {α : Type} (lo : Option Nat) (m : List (Nat × α)) : Prop := ∀ j, lo = some j → ∀ p ∈ m, j < p.1

theorem risingFrom_above {α : Type} (m : List (Nat × α)) : ∀ (j : Nat), risingFrom (some j) m = true → ∀ p ∈ m, j < p.1 := by
  induction m with
  | nil => intro j _ p hp; cases hp
  | cons q m ih =>
    obtain ⟨k, v⟩ := q
    intro j h p hp
    simp only [risingFrom, Bool.and_eq_true, decide_eq_true_eq] at h
    rcases List.mem_cons.mp hp with e | e
    · rw [e]; exact h.1
    · exact lt_trans h.1 (ih k h.2 p e)

theorem risingFrom_mono {α : Type} (m : List (Nat × α)) (i j : Nat) (h : i ≤ j) (r : risingFrom (some j) m = true) :
    risingFrom (some i) m = true := by
  cases m with
  | nil => rfl
  | cons q m =>
    obtain ⟨k, v⟩ := q
    simp only [risingFrom, Bool.and_eq_true, decide_eq_true_eq] at r ⊢
    exact ⟨lt_of_le_of_lt h r.1, r.2⟩

theorem risingFrom_none {α : Type} (m : List (Nat × α)) (j : Nat) (r : risingFrom (some j) m = true) :
    risingFrom none m = true := by
  cases m with
  | nil => rfl
  | cons q m =>
    obtain ⟨k, v⟩ := q
    simp only [risingFrom, Bool.and_eq_true, decide_eq_true_eq] at r ⊢
    exact r.2

theorem mput_rising {α : Type} (k : Nat) (v : α) (m : List (Nat × α)) :
    ∀ j, j < k → risingFrom (some j) m = true → risingFrom (some j) (mput k v m) = true := by
  induction m with
  | nil => intro j h _; simp [mput, risingFrom, h]
  | cons q m ih =>
    obtain ⟨i, w⟩ := q
    intro j h r
    simp only [risingFrom, Bool.and_eq_true, decide_eq_true_eq] at r
    simp only [mput]
    split
    · rename_i c; simp [risingFrom, h, c, r.2]
    · split
      · rename_i c e; subst e; simp [risingFrom, h, r.2]
      · rename_i c e
        simp only [risingFrom, Bool.and_eq_true, decide_eq_true_eq]
        exact ⟨r.1, ih i (by omega) r.2⟩

theorem mput_rising_none {α : Type} (k : Nat) (v : α) (m : List (Nat × α)) (r : risingFrom none m = true) :
    risingFrom none (mput k v m) = true := by
  cases m with
  | nil => rfl
  | cons q m =>
    obtain ⟨i, w⟩ := q
    simp only [risingFrom] at r
    simp only [mput]
    split
    · rename_i c; simp [risingFrom, c, r]
    · split
      · rename_i c e; subst e; simpa [risingFrom] using r
      · simpa [risingFrom] using mput_rising k v m i (by omega) r

theorem mdel_rising {α : Type} (k : Nat) (m : List (Nat × α)) :
    ∀ j, risingFrom (some j) m = true → risingFrom (some j) (mdel k m) = true := by
  induction m with
  | nil => intro j _; rfl
  | cons q m ih =>
    obtain ⟨i, w⟩ := q
    intro j r
    simp only [risingFrom, Bool.and_eq_true, decide_eq_true_eq] at r
    simp only [mdel]
    split
    · exact risingFrom_mono _ j i (le_of_lt r.1) (ih i r.2)
    · simp only [risingFrom, Bool.and_eq_true, decide_eq_true_eq]; exact ⟨r.1, ih i r.2⟩

theorem mdel_rising_none {α : Type} (k : Nat) (m : List (Nat × α)) (r : risingFrom none m = true) :
    risingFrom none (mdel k m) = true := by
  cases m with
  | nil => rfl
  | cons q m =>
    obtain ⟨i, w⟩ := q
    simp only [risingFrom] at r
    simp only [mdel]
    split
    · exact risingFrom_none _ i (mdel_rising k m i r)
    · simpa [risingFrom] using mdel_rising k m i r

theorem filter_rising {α : Type} (f : Nat × α → Bool) (m : List (Nat × α)) :
    ∀ j, risingFrom (some j) m = true → risingFrom (some j) (m.filter f) = true := by
  induction m with
  | nil => intro j _; rfl
  | cons q m ih =>
    obtain ⟨i, w⟩ := q
    intro j r
    simp only [risingFrom, Bool.and_eq_true, decide_eq_true_eq] at r
    by_cases c : f (i, w) = true
    · simp only [List.filter_cons, c, if_true, risingFrom, Bool.and_eq_true, decide_eq_true_eq]
      exact ⟨r.1, ih i r.2⟩
    · simp only [List.filter_cons, c]
      exact risingFrom_mono _ j i (le_of_lt r.1) (ih i r.2)

theorem filter_rising_none {α : Type} (f : Nat × α → Bool) (m : List (Nat × α)) (r : risingFrom none m = true) :
    risingFrom none (m.filter f) = true := by
  cases m with
  | nil => rfl
  | cons q m =>
    obtain ⟨i, w⟩ := q
    simp only [risingFrom] at r
    by_cases c : f (i, w) = true
    · simp only [List.filter_cons, c, if_true, risingFrom]; exact filter_rising f m i r
    · simp only [List.filter_cons, c]; exact risingFrom_none _ i (filter_rising f m i r)

theorem mem_mput {α : Type} (k : Nat) (v : α) (m : List (Nat × α)) : ∀ p ∈ mput k v m, p = (k, v) ∨ p ∈ m := by
  induction m with
  | nil => intro p h; simp [mput] at h; exact .inl h
  | cons q m ih =>
    obtain ⟨i, w⟩ := q
    intro p h
    simp only [mput] at h
    split at h
    · rcases List.mem_cons.mp h with e | e
      · exact .inl e
      · exact .inr e
    · split at h
      · rcases List.mem_cons.mp h with e | e
        · exact .inl e
        · exact .inr (List.mem_cons_of_mem _ e)
      · rcases List.mem_cons.mp h with e | e
        · exact .inr (e ▸ List.mem_cons_self)
        · rcases ih p e with x | x
          · exact .inl x
          · exact .inr (List.mem_cons_of_mem _ x)

theorem mem_mdel {α : Type} (k : Nat) (m : List (Nat × α)) : ∀ p ∈ mdel k m, p ∈ m := by
  induction m with
  | nil => intro p h; exact h
  | cons q m ih =>
    obtain ⟨i, w⟩ := q
    intro p h
    simp only [mdel] at h
    split at h
    · exact List.mem_cons_of_mem _ (ih p h)
    · rcases List.mem_cons.mp h with e | e
      · exact e ▸ List.mem_cons_self
      · exact List.mem_cons_of_mem _ (ih p e)

/-- A write keeps the canonical form. -/
theorem mset_wf {α : Type} [DecidableEq α] (d : α) (m : List (Nat × α)) (k : Nat) (v : α) (h : mwf d m = true) :
    mwf d (mset d m k v) = true := by
  simp only [mwf, Bool.and_eq_true, List.all_eq_true, decide_eq_true_eq] at h ⊢
  unfold mset
  split
  · exact ⟨mdel_rising_none k m h.1, fun p hp => h.2 p (mem_mdel k m p hp)⟩
  · rename_i c
    refine ⟨mput_rising_none k v m h.1, fun p hp => ?_⟩
    rcases mem_mput k v m p hp with e | e
    · rw [e]; exact c
    · exact h.2 p e

/-- Dropping entries keeps the canonical form. -/
theorem filter_wf {α : Type} [DecidableEq α] (d : α) (f : Nat × α → Bool) (m : List (Nat × α)) (h : mwf d m = true) :
    mwf d (m.filter f) = true := by
  simp only [mwf, Bool.and_eq_true, List.all_eq_true] at h ⊢
  exact ⟨filter_rising_none f m h.1, fun p hp => h.2 p (List.mem_filter.mp hp).1⟩

/-! ### Byte memory -/

@[simp] theorem readByte_writeByte_same (m : List Host.Cell) (a : Nat) (b : Byte) : readByte (writeByte m a b) a = b :=
  mget_mset_same _ m a b

theorem readByte_writeByte_ne (m : List Host.Cell) (a c : Nat) (b : Byte) (h : c ≠ a) :
    readByte (writeByte m a b) c = readByte m c := mget_mset_ne _ m a c b h

theorem writeByte_wf (m : List Host.Cell) (a : Nat) (b : Byte) (h : memWf m = true) : memWf (writeByte m a b) = true :=
  mset_wf _ m a b h

theorem writeBytes_wf (n : Nat) : ∀ (m : List Host.Cell) (a en x : Nat), memWf m = true →
    memWf (writeBytes m a en x n) = true := by
  induction n with
  | zero => intro m a en x h; exact h
  | succ n ih =>
    intro m a en x h
    simp only [writeBytes]
    exact ih _ _ _ _ (by split; exacts [writeByte_wf _ _ _ h, h])

theorem writeLine_wf (m : List Host.Cell) (a : Nat) (en : BitVec 64) (x : Line) (h : memWf m = true) :
    memWf (writeLine m a en x) = true := writeBytes_wf 64 m a en.toNat x.toNat h

/-- Bytes outside the ones written keep their values. -/
theorem readByte_writeBytes_out (n : Nat) : ∀ (m : List Host.Cell) (a en x c : Nat), (c < a ∨ a + n ≤ c) →
    readByte (writeBytes m a en x n) c = readByte m c := by
  induction n with
  | zero => intro m a en x c _; rfl
  | succ n ih =>
    intro m a en x c h
    simp only [writeBytes]
    rw [ih _ _ _ _ _ (by omega)]
    split
    · exact readByte_writeByte_ne m a c _ (by omega)
    · rfl

theorem readByte_writeLine_out (m : List Host.Cell) (a : Nat) (en : BitVec 64) (x : Line) (c : Nat)
    (h : c < a ∨ a + 64 ≤ c) : readByte (writeLine m a en x) c = readByte m c :=
  readByte_writeBytes_out 64 m a en.toNat x.toNat c h

end Sys2Proof.Machine
end

