-- ==== Sys2Proof/Laws/Regs.lean ====
section
/-! SUPPORT. The register file: a read after a write, what reports and events write to it, and its canonical form. -/

namespace Sys2Proof.Machine

/-! ### Read after write -/

theorem State.reg_setReg_same (s : State) (id v : Nat) : (s.setReg id v).reg id = v % 2 ^ paramWidth id := by
  unfold State.reg State.setReg
  dsimp only
  split
  · rename_i h; rw [h]; exact mget_mdel_same _ _ _
  · exact mget_mput_same _ _ _ _

theorem State.reg_setReg_ne (s : State) (id v j : Nat) (h : j ≠ id) : (s.setReg id v).reg j = s.reg j := by
  unfold State.reg State.setReg
  dsimp only
  split
  · exact mget_mdel_ne _ _ _ _ h
  · exact mget_mput_ne _ _ _ _ _ h

/-- A value within the register's width is read back as written (R9, R429). -/
theorem State.reg_setReg (s : State) (id v : Nat) (h : v < 2 ^ paramWidth id) : (s.setReg id v).reg id = v := by
  rw [State.reg_setReg_same, Nat.mod_eq_of_lt h]

theorem State.reg_addReg_ne (s : State) (id n j : Nat) (h : j ≠ id) : (s.addReg id n).reg j = s.reg j := by
  unfold State.addReg
  split
  · exact s.reg_setReg_ne _ _ _ h
  · exact s.reg_setReg_ne _ _ _ h

/-- The reading of a register depends on the register file alone. -/
theorem State.reg_of_regs {s t : State} (h : t.regs = s.regs) (id : Nat) : t.reg id = s.reg id := by
  unfold State.reg; rw [h]

/-! ### What records, events and reports write -/

theorem State.loseSeq_reg (s : State) (q id : Nat) (h : eventReg id = false) : (s.loseSeq q).reg id = s.reg id := by
  have n : id ≠ Reg.REC_LOST := by rintro rfl; simp [eventReg] at h
  exact s.reg_addReg_ne _ _ _ n

theorem State.record_reg (s : State) (t : RecType) (e : Nat) (l : List Nat) (id : Nat) (h : eventReg id = false) :
    (s.record t e l).2.reg id = s.reg id := by
  have n : id ≠ Reg.REC_LOST := by rintro rfl; simp [eventReg] at h
  have k : id ≠ Reg.REC_SEQ := by rintro rfl; simp [eventReg] at h
  unfold State.record
  dsimp only
  split
  · exact s.reg_addReg_ne _ _ _ n
  · split
    · rw [State.loseSeq_reg _ _ _ h]; exact s.reg_setReg_ne _ _ _ k
    · exact s.reg_setReg_ne _ _ _ k

theorem State.foldl_reg {α : Type} (f : State → α → State) (id : Nat) (h : ∀ (s : State) (a : α), (f s a).reg id = s.reg id) :
    ∀ (as : List α) (s : State), (as.foldl f s).reg id = s.reg id
  | [], _ => rfl
  | a :: as, s => (foldl_reg f id h as (f s a)).trans (h s a)

theorem State.foldl_reg_mem {α : Type} (f : State → α → State) (id : Nat) : ∀ (as : List α) (s : State),
    (∀ (s : State), ∀ a ∈ as, (f s a).reg id = s.reg id) → (as.foldl f s).reg id = s.reg id
  | [], _, _ => rfl
  | a :: as, s, h => (foldl_reg_mem f id as (f s a) fun s b hb => h s b (List.mem_cons_of_mem _ hb)).trans
      (h s a List.mem_cons_self)

theorem State.snapshots_reg (s : State) (n : Nat) (r : State → Nat → Nat) (id : Nat) (h : eventReg id = false) :
    (s.snapshots n r).reg id = s.reg id := by
  refine State.foldl_reg_mem _ id _ s fun s k hk => ?_
  have kk : k < 4 := List.mem_range.mp hk
  have n : id ≠ Reg.SNAP_TRIGGER + k := by
    rintro rfl
    simp [eventReg] at h
    omega
  dsimp only
  split
  · split
    · rw [State.reg_setReg_ne _ _ _ _ n]; exact s.record_reg _ _ _ _ h
    · exact s.record_reg _ _ _ _ h
  · rfl

@[simp] theorem State.msix_reg (s : State) (n id : Nat) : (s.msix n).reg id = s.reg id := State.reg_of_regs (by simp) id
@[simp] theorem State.cxlRecord_reg (s : State) (n : Nat) (x : LogRec) (id : Nat) : (s.cxlRecord n x).reg id = s.reg id :=
  State.reg_of_regs (by simp) id
@[simp] theorem State.cxlLog_reg (s : State) (a b c d id : Nat) : (s.cxlLog a b c d).reg id = s.reg id :=
  State.reg_of_regs (by simp) id
@[simp] theorem State.alert_reg (s : State) (a b id : Nat) : (s.alert a b).reg id = s.reg id := State.reg_of_regs (by simp) id
@[simp] theorem State.forwardEvent_reg (s : State) (a b c id : Nat) : (s.forwardEvent a b c).reg id = s.reg id :=
  State.reg_of_regs (by simp) id
@[simp] theorem State.sendFrame_reg (s : State) (a b : Nat) (h : MHdr) (l : List Nat) (id : Nat) :
    (s.sendFrame a b h l).reg id = s.reg id := State.reg_of_regs (by simp) id
@[simp] theorem State.sendTo_reg (s : State) (a b : Nat) (l : List Nat) (r : Bool) (id : Nat) :
    (s.sendTo a b l r).reg id = s.reg id := State.reg_of_regs (by simp) id
@[simp] theorem State.flood_reg (s : State) (a : Nat) (l : List Nat) (id : Nat) : (s.flood a l).reg id = s.reg id :=
  State.reg_of_regs (by simp) id

theorem eventAssigned_lt {n : Nat} (h : eventAssigned n = true) : n < 288 := by
  simp only [eventAssigned, Bool.or_eq_true, Bool.and_eq_true, decide_eq_true_eq] at h
  omega

/-- An event changes no register but those of `eventReg`. -/
theorem State.raise_reg (s : State) (n a b : Nat) (w : List Nat) (z : Bool) (id : Nat) (h : eventReg id = false) :
    (s.raise n a b w z).reg id = s.reg id := by
  unfold State.raise
  split
  · rfl
  · rename_i c
    have nn : n < 288 := eventAssigned_lt (by simpa using c)
    have e : id ≠ Reg.EV_STATUS + n / 48 := by
      rintro rfl
      simp [eventReg] at h
      omega
    dsimp only
    split
    · split <;> simp
    · rw [State.snapshots_reg _ _ _ _ h]
      repeat' split
      all_goals simp [State.record_reg _ _ _ _ _ h, State.reg_setReg_ne _ _ _ _ e]

theorem State.fcSet_reg (s : State) (a b id : Nat) (k : a < 48) (h : reportReg id = false) : (s.fcSet a b).reg id = s.reg id := by
  simp only [reportReg, Bool.or_eq_false_iff, decide_eq_false_iff_not, beq_eq_false_iff_ne] at h
  have e : id ≠ Reg.FC_STATUS := by rintro rfl; simp only [Reg.FC_STATUS, Reg.FC_SEV, Reg.FC_COUNT, Reg.FC_FIRST, Reg.FC_OVERFLOW, Reg.FC_LAST_FATAL, Reg.FC_IN_FAULT] at *; omega
  have f : id ≠ Reg.FC_SEV + a / 16 := by rintro rfl; simp only [Reg.FC_STATUS, Reg.FC_SEV, Reg.FC_COUNT, Reg.FC_FIRST, Reg.FC_OVERFLOW, Reg.FC_LAST_FATAL, Reg.FC_IN_FAULT] at *; omega
  unfold State.fcSet
  dsimp only
  split <;> simp [State.reg_setReg_ne _ _ _ _ e, State.reg_setReg_ne _ _ _ _ f]

theorem State.enterFault_reg (s : State) (a : Option Nat) (id : Nat) (h : reportReg id = false) :
    (s.enterFault a).reg id = s.reg id := by
  have e : id ≠ Reg.FC_IN_FAULT := by
    rintro rfl
    simp [reportReg, Reg.FC_IN_FAULT, Reg.FC_STATUS, Reg.FC_COUNT] at h
  simp [State.enterFault, State.reg_setReg_ne _ _ _ _ e]

/-- A fault report of a source changes no register but those of `reportReg`. -/
theorem State.fault_reg (s : State) (n : Nat) (v : Sev) (c : Nat) (j : Bool) (w : List Nat) (id : Nat) (k : n < 48)
    (h : reportReg id = false) : (s.fault n v c j w).reg id = s.reg id := by
  have ev : eventReg id = false := by simp only [reportReg, Bool.or_eq_false_iff] at h; tauto
  have h' := h
  simp only [reportReg, Bool.or_eq_false_iff, decide_eq_false_iff_not, beq_eq_false_iff_ne] at h'
  have c1 : id ≠ Reg.FC_COUNT + n := by rintro rfl; simp only [Reg.FC_STATUS, Reg.FC_SEV, Reg.FC_COUNT, Reg.FC_FIRST, Reg.FC_OVERFLOW, Reg.FC_LAST_FATAL, Reg.FC_IN_FAULT] at *; omega
  have c2 : id ≠ Reg.FC_FIRST := by rintro rfl; simp only [Reg.FC_STATUS, Reg.FC_SEV, Reg.FC_COUNT, Reg.FC_FIRST, Reg.FC_OVERFLOW, Reg.FC_LAST_FATAL, Reg.FC_IN_FAULT] at *; omega
  have c3 : id ≠ Reg.FC_OVERFLOW := by rintro rfl; simp only [Reg.FC_STATUS, Reg.FC_SEV, Reg.FC_COUNT, Reg.FC_FIRST, Reg.FC_OVERFLOW, Reg.FC_LAST_FATAL, Reg.FC_IN_FAULT] at *; omega
  have c4 : id ≠ Reg.FC_LAST_FATAL := by rintro rfl; simp only [Reg.FC_STATUS, Reg.FC_SEV, Reg.FC_COUNT, Reg.FC_FIRST, Reg.FC_OVERFLOW, Reg.FC_LAST_FATAL, Reg.FC_IN_FAULT] at *; omega
  have c5 : id ≠ Reg.FI_REMAINING := h'.2
  have show_ : ∀ (s : State) a, (s.faultShow n a).reg id = s.reg id := by
    intro s a
    unfold State.faultShow
    repeat' split
    · exact s.fcSet_reg _ _ _ k h
    · rfl
    · rfl
  have count : ∀ (s : State) j, (s.faultCount n j).reg id = s.reg id := by
    intro s j
    unfold State.faultCount
    dsimp only
    split
    · rw [State.reg_setReg_ne _ _ _ _ c5]; exact s.reg_addReg_ne _ _ _ c1
    · exact s.reg_addReg_ne _ _ _ c1
  have rec_ : ∀ (s : State) a b x y z, (s.faultRecord n a b x y z).2.reg id = s.reg id := by
    intro s a b x y z
    unfold State.faultRecord
    dsimp only
    repeat' split
    · exact s.record_reg _ _ _ _ ev
    · rfl
    · rfl
  have latch : ∀ (s : State) a x y z, (s.faultLatch a x y z).reg id = s.reg id := by
    intro s a x y z
    unfold State.faultLatch
    dsimp only
    repeat' split
    all_goals simp [State.reg_setReg_ne _ _ _ _ c4, State.reg_setReg_ne _ _ _ _ c2, State.reg_setReg_ne _ _ _ _ c3]
  unfold State.fault
  dsimp only
  repeat' split
  all_goals simp [State.raise_reg _ _ _ _ _ _ _ ev, State.enterFault_reg _ _ _ h, latch, rec_, count, show_]

/-! ### The register file keeps its canonical form -/

theorem State.setReg_regsOk (s : State) (id v : Nat) (h : s.RegsOk) : (s.setReg id v).RegsOk := by
  unfold State.RegsOk State.setReg
  dsimp only
  split
  · exact ⟨mdel_rising_none _ _ h.1, fun p hp => h.2 p (mem_mdel _ _ p hp)⟩
  · rename_i c
    refine ⟨mput_rising_none _ _ _ h.1, fun p hp => ?_⟩
    rcases mem_mput _ _ _ p hp with e | e
    · rw [e]; exact ⟨Nat.mod_lt _ (Nat.two_pow_pos _), c⟩
    · exact h.2 p e

end Sys2Proof.Machine
end

