-- ==== Sys2Proof/Tests/Slice0.lean ====
section
/-! SUPPORT. Tests: ill-formed commands that the check refuses, values of the specification's worked examples, and for
every statement a state and operands that meet its hypotheses. -/

namespace Sys2Proof.Machine

set_option Elab.async false

/-! ### States the tests start from -/

/-- A module of 64 GiB with one rank. -/
def dimm (ch slot : Nat) : Dimm :=
  { channel := ch, slot := slot, cap := 2, type := 0, ranks := 1, density := 16, serial := 100 + 2 * ch + slot, rates := [4800, 4000, 3200] }

/-- Eight modules, one on each channel. -/
def dimms8 : List Dimm := (List.range 8).map fun ch => dimm ch 0

/-- Two ports hold charged modules of the reference table. -/
def cport : CPort :=
  { state := .ready, table := some {}, v := 16000, temp := 25, sv := 1, sm := 1, soc := 1, eUse := 900000, eRem := 900000
    inserted := true, learned := some { qLearn := 80000 } }

/-- Four targets on each channel, with erased blocks on the first spokes. -/
def target (port : Nat) : Target := { port := port, jedec := 0, unique := 1000 + port, luns := 4 }

/-- A device that serves: every rail up, firmware running, the link up with one decoder, two extents online. -/
def onl : State :=
  { dev := .online, prev := .bringup, cold := none, now := 100000
    seq := { aonUp := true, coreUp := true, state := .supervising, mode := .charge, en := List.range 24, pg := List.range 24
             running := List.range 24 }
    mgmt := { state := .running, started := true }
    nv := { state := .running, early := true }
    port := { up := true, width := 16, rate := 32, memCapable := true, memActive := true, media := .ready, whole := true, volGiB := 64
              online := [0, 1], decoders := [(0, [{ base := 0, size := 2 ^ 38, dpaBase := 0, ways := 1, granularity := 256, lock := false }])] }
    basin := { state := .serving, found := dimms8, row := 1 }
    weir := { state := .planning }
    rill := { state := .running }
    res := { state := .running }
    whl := { state := .serving }
    spill := { state := .armed, present := true, chainA := 12000, chainB := 12000 }
    sip := { order := [0, 1], path := 1 }
    cist := { loaded := true, a := cport, b := cport }
    mir := { state := .standalone }
    regs := [(Reg.CEILING, 1000)] }

/-- The same with nothing committed and Dynamic Capacity. -/
def dcd : State := { onl with port := { onl.port with whole := false, decoders := [] } }

/-- The same with an SPDM session established. -/
def spd : State :=
  { onl with port := { onl.port with ideSecure := true, ideKeys := 1, spdm := { doe := { version := true, capabilities := true, algorithms := true }, sessions := [{ id := 1, established := true }, { id := 2 }] } } }

/-- The same with a passphrase set. -/
def secd : State := { dcd with port := { dcd.port with sec := { user := some 5 } } }

/-- The same, locked. -/
def lockd : State := { secd with port := { secd.port with sec := { user := some 5, locked := true } } }

/-- The core domain off, AON up. -/
def aon : State := { dev := .aonOnly, now := 100000, seq := { aonUp := true }, nv := { state := .aonRead, early := true } }

/-- One target of four LUNs on each channel. -/
def targets : List Target := (List.range 32).map fun c => target (16 * c)

/-- A band over the first sixteen channels, one row of it opened. -/
def bandAt (base : Nat) (st : Stream) (slc : Bool) (rows : Nat) : Nat × Band :=
  (base, { base := base, stream := st, slc := slc, d := 14, lane := 0, planSeq := 0, rows := rows, next := 1, opened := true
           spokes := (List.range 16).map fun c => { port := 16 * c, lun := 0, block := 600 + base } })

/-- The open wheel on a band's first row, with room for a whole segment. -/
def openAt (base : Nat) (st : Stream) (slc : Bool) : Nat × Wheel :=
  (base * 512, { stream := st, slc := slc, d := 40, band := base })

/-- The serving device with its flash: one band and one open wheel each for streams L, F, G and V. -/
def wl : State :=
  { onl with
    res := { state := .running, found := targets, perChannel := 1, reserveBpl := 500, journalBpl := 2, ckptBpl := 10, spareBpl := 8 }
    whl := { state := .serving
             bands := [bandAt 0 .l false 1536, bandAt 3 .f false 1536, bandAt 6 .g false 1536, bandAt 9 .v true 512]
             table := [openAt 0 .l false, openAt 3 .f false, openAt 6 .g false, openAt 9 .v true]
             l := { lanes := [(0, 0)], cur := some 0 }, f := { lanes := [(0, 3)], cur := some 1536 }
             g := { lanes := [(0, 6)], cur := some 3072 }, v := { lanes := [(0, 9)], cur := some 4608 }
             sets := (0, true) :: (List.range 60).map fun i => (i + 1, false) } }

/-- The same with a dirty segment: `d` its dirty pages. -/
def dirt (d : BitVec 512) : State :=
  { wl with weir := { wl.weir with above := true }, basin := { wl.basin with dst := [(32768, { d := d, age := 200 })] } }

/-- Plans that follow from a ceiling of 0. -/
def wl0 : State := { wl with regs := [] }

/-- The same without a reserve. -/
def wlNone : State := { wl with whl := { wl.whl with sets := [] } }

/-- The same before its first re-plan. -/
def wlUp : State := { wl with dev := .bringup, weir := {} }

/-- A fine map past its mark: eight pages of one segment, and no module that would give it more room. -/
def mrg : State :=
  { wl with
    basin := { wl.basin with found := [] }
    rill := { wl.rill with
      fine := (List.range 8).map fun i => (32768 * 512 + i, { loc := { wheel := 1536, unit := i }, bucket := 1, probe := i })
      runs := [{ seq := 40, seg := 32768, kind := .fine, pages := 255, spans := [(1536, 0, 8)] }] } }

/-- Vaulting on the host's supply: dirty pages of one segment, the spillway in a state, the vault at a step. -/
def vlt (d : BitVec 512) (st : SpillState) (step : VaultStep) : State :=
  { dirt d with
    dev := .vaulting
    spill := { wl.spill with state := st, warned := true, vault := some { man := { seq := 3 }, step := step } } }

/-- Four targets on each channel. -/
def targets4 : List Target := (List.range 32).flatMap fun c => (List.range 4).map fun t => target (16 * c + t)

/-- Bring-up before the flash is identified. -/
def idn : State :=
  { wl with dev := .bringup, res := { wl.res with state := .identifying }, regs := [(Reg.SERVICE_OPEN, 0)] }

/-- A wheel closed on the first row of stream L's band. -/
def closedL : Wheel := { stream := .l, state := .closed, filled := 224, units := 224, issued := true, parity := true, seqMin := 3, seqMax := 3 }

/-- The same with that wheel, and a block of the band in a state. -/
def clo (st : BlockState) : State :=
  { wl with
    regs := [(Reg.CEILING, 1000), (Reg.DAY_OF_SERVICE, 400)]
    whl := { wl.whl with table := [(0, closedL), openAt 3 .f false, openAt 6 .g false, openAt 9 .v true] }
    res := { wl.res with blocks := [(600, { state := st, band := some 0, progDay := 2 })] } }

/-- Stream L's band, ended, as the table has it. -/
def bandE : Band := { (bandAt 0 .l false 1536).2 with ended := some 1 }

/-- A truing of one of its columns under way. -/
def tru : State :=
  { clo .closed with
    whl := { (clo .closed).whl with
      bands := [(0, bandE), bandAt 3 .f false 1536, bandAt 6 .g false 1536, bandAt 9 .v true 512]
      trueQ := [{ base := 0, column := 2, slow := false, reason := 0 }] }
    cmd := { true_ := { state := .running, redundancy := 1 } } }

/-- A reshape that builds its reserve. -/
def bld (sets : Nat) : State :=
  { wl with whl := { wl.whl with build := some { d := 6, sets := sets } }, cmd := { reshape := { state := .running } } }

/-- The device with a module on port A. -/
def cst (p : CPort) : State := { onl with cist := { onl.cist with a := p } }

/-- A learn discharge of 36 kC whose rests bound nine tenths of the charge: 80 kC. -/
def learnt : CPort :=
  { cport with state := .learnRecharge, learn := .restEnd, s0 := 1, sv := 1 / 10, q := 72000, e := 900000 }

/-- Rails coming up, at a step. -/
def rise (u : Step) : State :=
  { aon with dev := .bringup, seq := { aonUp := true, state := .rising, active := .powerUp, step := some u, en := [16], pg := [16], todo := [([17, 18], 0)] } }

/-- A fault stops the device and has gone quiet. -/
def flt (d : Dev) (present : Bool) : State :=
  { onl with
    dev := d, regs := [(Reg.FC_IN_FAULT, 1)], fc := { state := .stopped }
    spill := { onl.spill with present := present } }

/-- A record, and the device with records queued and written. -/
def rec (n : Nat) : Rec := { type := .event, seq := n, event := 20, payload := [7, 8] }

def recd : State :=
  { onl with rec_ := { queue := [rec 9], circ := [({}, rec 5), ({ byte := 32 }, rec 7)], pinned := [rec 3], head := { byte := 64 }, durable := 7 } }

/-- The NV Store with a record being appended. -/
def nvb (u : NvUpdate) : State := { onl with nv := { onl.nv with buf := [u] } }

/-- A shutdown state record. -/
def nvr : NvRec := { nseq := 4, data := .shutdownState true }

/-- The NV Store before its mounts. -/
def mnt : State :=
  { onl with dev := .bringup, mgmt := { state := .bootRom }, nv := { state := .mounting, a := [nvr], b := [nvr], nseq := 4 } }

/-- Tokens to spare, no module charging, and an activity in a state. -/
def act (n : Nat) (a : Activity) : State :=
  { wl with
    regs := [(Reg.CEILING, 1000), (Reg.ENERGY_MARGIN_AVAIL, 500000)]
    cmd := { flashBw := 64000, true_ := if n = 2 then a else {}, scrubDeep := if n = 4 then a else {}, fwActivate := if n = 6 then a else {} } }

/-- Two entries of the command journal. -/
def jnl : State :=
  { onl with cmd := { cseq := 6, journal := [
    { cseq := 5, transport := 2, ld := 0, fm := false, std := false, state := 4, persist := false, opcode := 0xC010, tag := 9, digest := 0, status := 0, detail := 0, evDone := 0, flags := 0 },
    { cseq := 6, transport := 2, ld := 0, fm := false, std := false, state := 4, persist := true, opcode := 0xC011, tag := 10, digest := 0, status := 0, detail := 0, evDone := 0, flags := 0 }] } }

/-- A command body with no effect. -/
def noBody : Owed → State → Done := fun _ s => { s := s }

/-- Member 3 of domain 17 in a role and a state, its links to members 2 and 9 up. -/
def dom (r : Role) (st : MirState) : State :=
  { onl with
    regs := [(Reg.MEMBER_NO, 3), (Reg.DOMAIN_ID, 17), (Reg.ROLE_EPOCH, 5), (Reg.ROLE_CFG, 1), (Reg.CGEN, 7)]
    mir := { state := st, role := r, roleEpoch := 4, manager := some (if r = .manager then 3 else 2), alternate := some 9
             ports := [(0, { up := true, serial := 12, member := 2, depth := 1 }), (1, { up := true, serial := 19, member := 9, depth := 3 })]
             roster := [{ member := 3, serial := 13, reported := true }, { member := 9, serial := 19, reported := true }]
             routes := [(2, 0), (9, 1)], lastBeat := 1 } }

/-- A message to this member, from member 9. -/
def msg : MHdr := { port := 1, src := 9, dst := 3, epoch := 5, mseq := 40, domain := 17 }

/-- A reply that this member waits for. -/
def owed : Owed := { origin := { transport := 2, ld := 0 }, fm := false, tag := 6, opcode := 0xC313, cseq := 3 }

/-- The same with every link down. -/
def cut (all : Bool) : State :=
  { dom .worker .synced with mir := { (dom .worker .synced).mir with ports := [], syncAll := all } }

/-- Management in a state. -/
def mg (m : Mgmt) : State := { onl with mgmt := m }

/-- A firmware update at a stage. -/
def upd (p : PldmState) (at' size : Nat) : State :=
  { onl with
    regs := [(Reg.CEILING, 1000), (Reg.ENERGY_MARGIN_AVAIL, 500000)]
    mgmt := { state := .running, started := true, pldm := p, pldmAt := at', pldmSize := size, pldmMax := 32 } }

/-- A run that stands for none. -/
def run0 : Run := { seq := 0, seg := 0, kind := .vault, pages := 0, spans := [] }

/-- Pre-spilling with two dirty pages. -/
def psp : State := { vlt 0b1001 .preSpilling .drain with dev := .preSpill, spill := { wl.spill with state := .preSpilling, warned := true } }

/-- The manifest the pointer of `pth` names. -/
def man7 : Manifest := { seq := 7, copies := 2, token := 5, holdChosen := true }

/-- Bring-up ready to choose its path, with a pointer of a shutdown and a hold record. -/
def pth (sh : Shut) (fromHold : Bool) : State :=
  { wl with
    dev := .bringup, cold := none
    port := { wl.port with online := [] }
    regs := [(Reg.SERVICE_OPEN, 0), (Reg.WRITE_SEQ, 100)]
    basin := { wl.basin with token := if fromHold then TokenLine.of 5 7 else {} }
    nv := { wl.nv with a := [{ nseq := 1, data := .pointer { manifestSeq := 7, shutdown := sh, copies := 2 } }] }
    spill := { wl.spill with state := .unarmed, manifests := [man7] }
    sip := { state := .evaluating, fromHold := fromHold, hold := if fromHold then { state := .holding, token := 5, manifestSeq := 7 } else {} } }

/-- A restore in progress. -/
def rst (st : SiphonState) : State :=
  { pth .vaultedComplete false with
    dev := .restoring, port := { wl.port with online := [] }
    sip := { state := st, path := 5, order := [0, 1, 2], issued := 2, chain := [man7] } }

/-- A packet of an opcode over a transport. -/
def pk (tr op : Nat) (l : List Nat) : Pkt :=
  { transport := tr, ld := 0, opcode := op, length := 8 * l.length, carried := 8 * l.length, mailbox := op, slots := l }

/-- A packet is accepted when its conditions hold. -/
theorem accepted_of {v : VSpec} {p : Pkt} {s : State}
    (h : s.reaches p.transport = true ∧ s.aonServes = false
      ∧ (p.short = false ∧ p.carried = p.length ∧ p.length % 8 = 0 ∧ p.length ≤ 4088)
      ∧ (p.transport < 2 → p.mailbox = v.op) ∧ p.transport ∈ v.transports
      ∧ (v.status = true ∨ ∀ q ∈ s.cmd.owed, q.origin ≠ (pktOwed p v.op 0).origin) ∧ bit p.flags 0 = false
      ∧ ((∀ q ∈ s.cmd.owed, q.cseq ≤ s.cmd.cseq) ∧ ∀ e ∈ s.cmd.journal, e.cseq ≤ s.cmd.cseq)
      ∧ v.ok s = true ∧ pktOk p v = true ∧ (v.persist s p = true → s.nv.state ≠ .quiet)) : Accepted v p s := by
  obtain ⟨a, b, c, d, e, f, g, i, j, k, l⟩ := h
  exact ⟨a, b, c, d, e, f, g, i, j, k, l⟩

/-- The AON endpoint accepts a packet when its conditions hold. -/
theorem acceptedAon_of {v : VSpec} {p : Pkt} {s : State}
    (h : s.reaches p.transport = true ∧ s.aonServes = true ∧ p.transport = 3
      ∧ (p.short = false ∧ p.carried = p.length ∧ p.length % 8 = 0 ∧ p.length ≤ 4088)
      ∧ 3 ∈ v.transports ∧ v.aon = true ∧ v.ok s = true ∧ pktOk p v = true) : AcceptedAon v p s := by
  obtain ⟨a, b, c, d, e, f, g, i⟩ := h
  exact ⟨a, b, c, d, e, f, g, i⟩

/-- A message is heard when its conditions hold. -/
theorem heard_of {h : MHdr} {s : State}
    (k : s.mirHears h.port = true ∧ h.domain = s.reg Reg.DOMAIN_ID ∧ h.src ≠ s.reg Reg.MEMBER_NO
      ∧ ((h.flood = true ∧ (h.src, h.mseq) ∉ s.mir.seen) ∨ (h.flood = false ∧ h.toRole = true ∧ s.holds h.dst = true)
        ∨ (h.flood = false ∧ h.toRole = false ∧ h.dst = s.reg Reg.MEMBER_NO))) : Heard h s := by
  obtain ⟨a, b, c, d⟩ := k
  exact ⟨a, b, c, d⟩

/-- A reply is due when its conditions hold. -/
theorem due_of {o : Owed} {s : State}
    (h : o.discard = false ∧ o.origin.transport < 4 ∧ ∀ q ∈ s.cmd.owed, q.cseq = o.cseq → q = o) : Due o s := by
  obtain ⟨a, b, c⟩ := h
  exact ⟨a, b, c⟩

/-! ### Ill-formed commands -/

/-- A packet in order is well formed; one with a field out of its width is not. -/
theorem test_wf_packet :
    (pk 0 0xC010 [40]).wf = true
    ∧ ([{ pk 0 0xC010 [] with transport := 5 }, { pk 0 0xC010 [] with ld := 8 }, { pk 0 0xC010 [] with opcode := 2 ^ 16 },
        { pk 0 0xC010 [] with tag := 2 ^ 16 }, { pk 0 0xC010 [] with flags := 2 ^ 16 }, { pk 0 0xC010 [] with length := 2 ^ 16 },
        { pk 0 0xC010 [] with mailbox := 2 ^ 16 }, { pk 0 0xC010 [] with slots := [2 ^ 64] },
        { pk 0 0xC010 [] with slots := List.replicate 512 0 }, { pk 0 0xC010 [] with member := 2 ^ 11 },
        { pk 0 0xC010 [] with mseq := 2 ^ 16 }] : List Pkt).all (fun p => !p.wf) = true := by decide +kernel

/-- The same of a Mirsen header. -/
theorem test_wf_header :
    msg.wf = true
    ∧ ([{ msg with port := 6 }, { msg with src := 2 ^ 11 }, { msg with dst := 2 ^ 11 }, { msg with epoch := 2 ^ 24 },
        { msg with hops := 2 ^ 8 }, { msg with mseq := 2 ^ 16 }, { msg with domain := 2 ^ 13 }] : List MHdr).all
        (fun h => !h.wf) = true := by decide +kernel

/-- The same of a standard command's sender, a module, a target, a scrub's finding and an IDE message. -/
theorem test_wf_parts :
    ([{ transport := 4, ld := 0 }, { transport := 0, ld := 8 }] : List Cxl).all (fun c => !c.wf) = true
    ∧ ([dimm 8 0, dimm 0 2, { dimm 0 0 with cap := 4 }] : List Dimm).all (fun d => !d.wf) = true
    ∧ ([target 512, { target 0 with luns := 0 }] : List Target).all (fun t => !t.wf) = true
    ∧ ([.corrected 8 0 0 0, .corrected 0 2 0 0, .badLine (2 ^ 48)] : List ScrubFind).all (fun f => !f.wf) = true
    ∧ ([.keyProg 0 256, .setGo 0 256 true, .setStop 0 256] : List IdeMsg).all (fun m => !m.wf) = true := by
  decide +kernel

/-- A command with one operand out of its range is refused by the check, each range once. -/
theorem test_wf_commands :
    ([.memwr 8 0 0 0 false .none, .memwr 0 (2 ^ 64) 0 0 false .none, .memwrptl 8 0 0 0 0 .none, .memwrptl 0 (2 ^ 64) 0 0 0 .none,
      .memrd 8 0 0 0 .none, .memrd 0 (2 ^ 64) 0 0 .none, .memrddata 8 0 0 0 .none, .memrddata 0 (2 ^ 64) 0 0 .none,
      .gpfPhase1 8, .gpfPhase2 8 40, .flrPf1 8, .cxlIdeKm 1 (.setStop 0 256), .getCertificate 8, .challenge 8, .keyExchange 8,
      .getEventRecords { transport := 0, ld := 0 } 5, .clearEventRecords { transport := 0, ld := 0 } 5 0 true,
      .setEventInterruptPolicy { transport := 0, ld := 0 } [1, 2], .injectPoison { transport := 0, ld := 0 } (2 ^ 64),
      .clearPoison { transport := 0, ld := 0 } (2 ^ 64) 0, .getHealthInfo { transport := 4, ld := 0 },
      .patrolScrubStep (.badLine (2 ^ 48)), .dramCommandTimeout 8 0, .dramCommandTimeout 0 2, .dstDiagIndexWrite (2 ^ 48),
      .dramTrainingComplete [dimm 8 0] [], .stripProgramDone 0 16 0 false, .stripProgramFailed 0 16, .slotSetDrained 2,
      .slowSpokeTimeout 0 16, .flashIdentify [target 512] [] [] 0, .codewordRead 0 16 0 false none false 0 0,
      .codewordRead 0 0 16 false none false 0 0, .targetTimeout 512 none, .learnStart (pk 5 0xC211 [0])] : List Instr).all
      (fun c => !c.wf) = true
    ∧ ([.pgRise 24, .pgTimeout 24, .pgDrop 24, .retryOffTimeExpiry 24, .faultReport 48 0 0 false, .faultReport 0 8 0 false,
        .fcStatusWrite (2 ^ 48), .fiCtrlWrite (2 ^ 48), .evStatusWrite 6 0, .evStatusWrite 0 (2 ^ 48), .recCursorWrite (2 ^ 48),
        .journalCursorWrite (2 ^ 48), .barParamWrite 0x80C0 0 8, .barParamWrite 4 0, .barParamWrite 0x80C0 (2 ^ 64), .heldMsixDelivery [] 8, .registerWrite (2 ^ 16) 0,
        .registerWrite 0 (2 ^ 48), .clockCheckWindow (2 ^ 28), .thermalSample [], .agePeriodExpiry [], .counterLatch (2 ^ 48),
        .wheelDiagIndexWrite (2 ^ 48), .queryDeviceIdentifiers 0, .passComponentTable 2 (2 ^ 16) true,
        .updateComponent 3 (2 ^ 16) 0, .hdmDecoderCommit 8 true 0 0 0 1 256 false true, .entdaa 128, .cdatTableAccess 8,
        .doeDiscovery 8 0, .doeDiscovery 0 3, .otherStandardCxlCommand { transport := 0, ld := 0 } (2 ^ 16),
        .qosFractionSet 8 true 0, .qosFractionSet 0 true (2 ^ 48)] : List Instr).all (fun c => !c.wf) = true
    ∧ ([.mirsenLinkUp 6 0 0 0 0 [], .mirsenLinkUp 0 (2 ^ 48) 0 0 0 [], .mirsenLinkUp 0 0 (2 ^ 11) 0 0 [], .mirsenLinkDown 6 [],
        .failNotice 6 0 0 0 true, .failNotice 0 (2 ^ 11) 0 0 true, .failNotice 0 0 (2 ^ 24) 0 true, .failNotice 0 0 0 (2 ^ 13) true,
        .frameAckTimeout 6 0, .hello msg (2 ^ 48) 0 0, .hello msg 0 (2 ^ 11) 0, .memberHeartbeat msg 0 0 (2 ^ 24),
        .mgrBeat msg (2 ^ 24) 0 0 0, .mgrBeat msg 0 (2 ^ 24) 0 0, .roleAssign msg (2 ^ 24) 0 0 [], .roleAssign msg 0 (2 ^ 11) 0 [],
        .roleAssign msg 0 0 (2 ^ 11) [], .roleAssign msg 0 0 0 [1024], .sync msg (2 ^ 24) 0 0 [], .sync msg 0 0 (2 ^ 13) [],
        .report msg 0 (2 ^ 48) 0, .state msg (2 ^ 48) 0 0, .replica msg (2 ^ 24) [] [], .event msg (List.replicate 9 0),
        .cmd msg (pk 5 0 []), .takeoverQuery msg (2 ^ 24), .takeoverAck msg [1024], .stale msg (2 ^ 24) 0 0 [],
        .stale msg 0 (2 ^ 11) 0 [], .stale msg 0 0 (2 ^ 11) [], .stale msg 0 0 0 [1024], .memberTimeoutExpiry (2 ^ 11) [],
        .memberTimeoutExpiry 0 [1024], .domainForm (pk 0 0xC310 [1]) [] [1024], .domainRemove (pk 0 0xC312 [1]) [1024],
        .resolve { msg with port := 6 }] : List Instr).all (fun c => !c.wf) = true := by decide +kernel

/-! ### Values of the worked examples -/

/-- Factors of the Weir's worked example (04_weir.md, steps 2 to 4), and k_v of 16_management_lifecycle.md. -/
theorem test_factors :
    factor 430 400 = 1101 ∧ kTemp 74 = 1065 ∧ factor 2048 2044 = 1027 ∧ factor (790 * 790) (750 * 750) = 1137 := by decide +kernel

/-- Costs of the same example, warm and cooled (04_weir.md, steps 6 and 7, and steps 1 and 2 of the second table). -/
theorem test_costs :
    let s : State := { regs := [(Reg.E_BYTE_MEAS, 2150), (Reg.E_FIXED_MEAS, 38900)] }
    s.costPerGib (1101, 1065, 1027) = 2412 ∧ s.fixedCost 1065 = 40458
      ∧ s.costPerGib (1101, 1024, 1027) = 2319 ∧ s.fixedCost 1024 = 40000 := by decide +kernel

/-- Its ceilings (04_weir.md, steps 11 and 3). -/
theorem test_ceilings :
    energyCeiling 742000 40458 2412 50 = 192830 ∧ energyCeiling 742000 40000 2319 50 = 200766
      ∧ energyCeiling 900000 40000 2150 50 = 266716 := by decide +kernel

/-- E_use of the worked example of 10_cistern_energy.md, steps 8, 14 and 28: each within 0.01 J of its closed form. -/
theorem test_energy_use :
    (∃ e, energy { learned := some { qLearn := 82000, resFactor := 1 } } {} 1 190 25 960 80 150 70 = e
      ∧ 893824 ≤ e ∧ e ≤ 893844)
    ∧ (∃ e, energy { learned := some { qLearn := 82000, resFactor := 3 / 2 } } {} 1 190 25 960 80 150 70 = e
      ∧ 866406 ≤ e ∧ e ≤ 866426)
    ∧ (∃ e, energy { learned := some { qLearn := 73800, resFactor := 3 / 2 } } {} 1 190 25 960 80 150 70 = e
      ∧ 779764 ≤ e ∧ e ≤ 779784) := by
  refine ⟨⟨_, rfl, ?_⟩, ⟨_, rfl, ?_⟩, ⟨_, rfl, ?_⟩⟩ <;> decide +kernel

/-- Sixteen modules of 256 GiB. -/
def dimms16 : List Dimm := (List.range 16).map fun i => { dimm (i / 2) (i % 2) with cap := 3 }

/-- The address map of the Basin's worked example (03_basin.md, steps 2, 8, 9, 11 and 12). -/
theorem test_map :
    let b : Basin := { found := dimms16 }
    b.map 0x912345640 = (6, 1, 0x22468A40) ∧ segOf 0x912345640 = 18577 ∧ pageOf 0x912345640 = 325
      ∧ b.host = 4064 * GiB ∧ b.setOf 18577 = 1 := by decide +kernel

/-- Its write: the entry is allocated with page 325 dirty (03_basin.md, steps 13 and 14). -/
theorem test_write_dirties :
    let s : State := { onl with basin := { onl.basin with found := dimms16 }, port := { onl.port with volGiB := 0, online := [36] } }
    ∃ t, exec (.memwr 0 0x912345640 1 7 false .none) s = .next t ∧ t.basin.dirtyBytes = 4096
      ∧ (t.basin.entry 18577).map (·.d) = some (1 <<< 325) := ⟨_, rfl, by decide +kernel, by decide +kernel⟩

/-- The home bucket of the fine map's worked example (05_rill_image.md). -/
theorem test_bucket : homeBucket 23 0x912345 = 0x149E5A := by decide +kernel

/-! ### Hypotheses that something meets -/

/-- Operands and states that meet the hypotheses of each clause of `Obligations.Step_takes_the_front`. -/
theorem wit_Step_takes_the_front :
    (∃ (c : Instr) (l : List Instr) (s : State), s.pending = c :: l)
    ∧ (∃ (s : State), s.pending = []) :=
  ⟨⟨.recAdvance, [], { onl with pending := [.recAdvance] }, by decide +kernel⟩,
   ⟨{ onl with now := 999, dev := .kickstand, sip := { onl.sip with hold := { state := .holding } }, weir := { onl.weir with above := true } }, by decide +kernel⟩⟩

/-- Operands and states that meet the hypotheses of each clause of `Obligations.Step_keeps_protection`. -/
theorem wit_Step_keeps_protection :
    (∃ (s : State), s.ProtectionShown) :=
  ⟨State.reset, (by decide +kernel : State.reset.reg Reg.PROTECTION_STATUS = State.reset.protectionCode)⟩

/-- Operands and states that meet the hypotheses of each clause of `Obligations.Mem_writes`. -/
theorem wit_Mem_writes :
    (∃ (ld : Nat) (hpa : Nat) (s : State) (a : Nat), s.reach ld hpa = .served a)
    ∧ (∃ (ld : Nat) (hpa : Nat) (s : State) (a : Nat), s.reach ld hpa = .served a ∧ s.persistent a = false)
    ∧ (∃ (ld : Nat) (hpa : Nat) (s : State) (a : Nat), s.reach ld hpa = .notServed a ∧ s.reg Reg.OFFLINE_ACCESS_COUNT + 1 < 2 ^ 32)
    ∧ (∃ (ld : Nat) (hpa : Nat) (s : State), s.reach ld hpa = .unclaimed) :=
  ⟨⟨0, 2 ^ 36 + 64, onl, 2 ^ 36 + 64, by decide +kernel⟩,
   ⟨0, 4096, onl, 4096, by decide +kernel⟩,
   ⟨0, 2 ^ 37, onl, 2 ^ 37, by decide +kernel⟩,
   ⟨0, 2 ^ 40, onl, by decide +kernel⟩⟩

/-- Operands and states that meet the hypotheses of each clause of `Obligations.Mem_reads`. -/
theorem wit_Mem_reads :
    (∃ (ld : Nat) (hpa : Nat) (s : State) (a : Nat), s.reach ld hpa = .served a)
    ∧ (∃ (ld : Nat) (hpa : Nat) (lat : Nat) (s : State) (a : Nat), s.reach ld hpa = .served a ∧ lat < 65536)
    ∧ (∃ (ld : Nat) (hpa : Nat) (s : State) (a : Nat), s.reach ld hpa = .notServed a ∧ s.reg Reg.OFFLINE_ACCESS_COUNT + 1 < 2 ^ 32)
    ∧ (∃ (ld : Nat) (hpa : Nat) (s : State), s.reach ld hpa = .unclaimed)
    ∧ (∃ (s : State), s.memServes = true ∧ s.seq.coreUp = true) :=
  ⟨⟨0, 2 ^ 36 + 64, onl, 2 ^ 36 + 64, by decide +kernel⟩,
   ⟨0, 2 ^ 36 + 64, 250, onl, 2 ^ 36 + 64, by decide +kernel⟩,
   ⟨0, 2 ^ 37, onl, 2 ^ 37, by decide +kernel⟩,
   ⟨0, 2 ^ 40, onl, by decide +kernel⟩,
   ⟨onl, by decide +kernel⟩⟩

/-- Operands and states that meet the hypotheses of each clause of `Obligations.Address_rules`. -/
theorem wit_Address_rules :
    (∃ (s : State) (ld : Nat) (hpa : Nat), (s.memServes = false ∨ (∀ d ∈ s.port.decs ld, hpa < d.base ∨ d.base + d.size ≤ hpa)))
    ∧ (∃ (s : State) (hpa : Nat) (d : Decoder), s.memServes = true ∧ s.port.mld = false ∧ s.port.decs 0 = [d] ∧ d.ways = 1 ∧ 0 < d.granularity ∧ d.base ≤ hpa ∧ hpa < d.base + d.size ∧ d.dpaBase + (hpa - d.base) < s.volBytes)
    ∧ (∃ (s : State) (hpa : Nat) (d : Decoder) (a : Nat), s.memServes = true ∧ s.port.mld = false ∧ s.port.decs 0 = [d] ∧ d.ways = 1 ∧ 0 < d.granularity ∧ d.base ≤ hpa ∧ hpa < d.base + d.size ∧ a = d.dpaBase + (hpa - d.base) ∧ s.volBytes ≤ a ∧ a < s.volBytes + s.extents * GiB) :=
  ⟨⟨onl, 0, 2 ^ 40, by decide +kernel⟩,
   ⟨onl, 2 ^ 20 + 5, { base := 0, size := 2 ^ 38, dpaBase := 0, ways := 1, granularity := 256, lock := false }, by decide +kernel⟩,
   ⟨onl, 2 ^ 36 + 65, { base := 0, size := 2 ^ 38, dpaBase := 0, ways := 1, granularity := 256, lock := false }, 2 ^ 36 + 65, by decide +kernel⟩⟩

/-- Operands and states that meet the hypotheses of each clause of `Obligations.Link_and_resets`. -/
theorem wit_Link_and_resets :
    (∃ (s : State), s.gpfServes = true)
    ∧ (∃ (s : State), s.gpfServes = true ∧ s.dev ≠ .vaulting)
    ∧ (∃ (w : Nat) (r : Nat) (s : State), s.mayTrain = true ∧ s.linkOk w r = true ∧ 16 ≤ r)
    ∧ (∃ (w : Nat) (r : Nat) (s : State), s.mayTrain = true ∧ s.linkOk w r = true ∧ r < 16)
    ∧ (∃ (s : State), s.port.up = true)
    ∧ (∃ (s : State), s.port.clearAt < s.port.clearEnd) :=
  ⟨⟨onl, by decide +kernel⟩,
   ⟨{ onl with port := { onl.port with gpfStarted := [0, 1] } }, by decide +kernel⟩,
   ⟨16, 32, onl, by decide +kernel⟩,
   ⟨8, 8, onl, by decide +kernel⟩,
   ⟨onl, by decide +kernel⟩,
   ⟨{ onl with port := { onl.port with clearAt := 0, clearEnd := 5 } }, by decide +kernel⟩⟩

/-- Operands and states that meet the hypotheses of each clause of `Obligations.Ide_and_spdm`. -/
theorem wit_Ide_and_spdm :
    (∃ (s : State), s.port.ideSecure = true ∧ s.seq.coreUp = true)
    ∧ (∃ (n : Nat) (s : State), s.spdmUp .doe = true ∧ s.port.spdm.live .doe n = true)
    ∧ (∃ (n : Nat) (s : State), s.spdmUp .doe = true ∧ s.port.spdm.live .doe n = true ∧ s.port.ideKeys ≠ 0)
    ∧ (∃ (via : SpdmVia) (n : Nat) (s : State), s.spdmUp via = true ∧ (via ≠ .doe ∨ s.port.spdm.live via n = false))
    ∧ (∃ (via : SpdmVia) (s : State), s.spdmUp via = true)
    ∧ (∃ (via : SpdmVia) (s : State), s.spdmUp via = true ∧ (s.port.spdm.conn via).version = true)
    ∧ (∃ (via : SpdmVia) (s : State), s.spdmUp via = true ∧ (s.port.spdm.conn via).capabilities = true)
    ∧ (∃ (via : SpdmVia) (s : State), s.spdmUp via = true ∧ (s.port.spdm.conn via).algorithms = true)
    ∧ (∃ (via : SpdmVia) (k : Nat) (s : State), s.spdmUp via = true ∧ (s.port.spdm.conn via).algorithms = true ∧ k ∈ s.certSlots)
    ∧ (∃ (via : SpdmVia) (n : Nat) (s : State), s.spdmUp via = true ∧ (s.port.spdm.conn via).algorithms = true ∧ 1 ≤ n ∧ n ≤ 5)
    ∧ (∃ (via : SpdmVia) (s : State), s.spdmUp via = true ∧ (s.port.spdm.conn via).algorithms = false)
    ∧ (∃ (via : SpdmVia) (k : Nat) (s : State), s.spdmUp via = true ∧ (s.port.spdm.conn via).algorithms = true ∧ k ∈ s.certSlots ∧ s.port.spdm.sessions.length < 4)
    ∧ (∃ (via : SpdmVia) (n : Nat) (s : State), s.spdmUp via = true ∧ (∃ q ∈ s.port.spdm.sessions, q.id = n ∧ q.via = via ∧ q.established = false))
    ∧ (∃ (via : SpdmVia) (n : Nat) (s : State), s.spdmUp via = true ∧ s.port.spdm.live via n = true) :=
  ⟨⟨spd, by decide +kernel⟩,
   ⟨1, spd, by decide +kernel⟩,
   ⟨1, spd, by decide +kernel⟩,
   ⟨.doe, 9, spd, by decide +kernel⟩,
   ⟨.doe, spd, by decide +kernel⟩,
   ⟨.doe, spd, by decide +kernel⟩,
   ⟨.doe, spd, by decide +kernel⟩,
   ⟨.doe, spd, by decide +kernel⟩,
   ⟨.doe, 0, spd, by decide +kernel⟩,
   ⟨.doe, 5, spd, by decide +kernel⟩,
   ⟨.doe, onl, by decide +kernel⟩,
   ⟨.doe, 0, spd, by decide +kernel⟩,
   ⟨.doe, 2, spd, by decide +kernel⟩,
   ⟨.doe, 1, spd, by decide +kernel⟩⟩

/-- Operands and states that meet the hypotheses of each clause of `Obligations.Cxl_status_commands`. -/
theorem wit_Cxl_status_commands :
    (∃ (c : Cxl) (s : State), s.stdReaches c = true)
    ∧ (∃ (c : Cxl) (s : State), s.stdReaches c = true ∧ s.reg Reg.MLD_ENABLE ≠ 1 ∧ c.ld = 0)
    ∧ (∃ (c : Cxl) (log : Nat) (s : State), s.stdReaches c = true ∧ log < 5)
    ∧ (∃ (c : Cxl) (s : State), s.stdReaches c = true)
    ∧ (∃ (c : Cxl) (s : State), s.stdReaches c = true) :=
  ⟨⟨{ transport := 0, ld := 0 }, onl, by decide +kernel⟩,
   ⟨{ transport := 0, ld := 0 }, onl, by decide +kernel⟩,
   ⟨{ transport := 2, ld := 0 }, 4, onl, by decide +kernel⟩,
   ⟨{ transport := 1, ld := 0 }, onl, by decide +kernel⟩,
   ⟨{ transport := 0, ld := 0 }, dcd, by decide +kernel⟩⟩

/-- Operands and states that meet the hypotheses of each clause of `Obligations.Cxl_commands`. -/
theorem wit_Cxl_commands :
    (∃ (c : Cxl) (s : State), s.stdReaches c = true ∧ s.restricted = true)
    ∧ (∃ (c : Cxl) (s : State), s.stdReaches c = true ∧ s.restricted = false)
    ∧ (∃ (c : Cxl) (s : State), s.stdReaches c = true ∧ s.restricted = false ∧ (∀ e ∈ s.cmd.journal, e.cseq ≤ s.cmd.cseq) ∧ 4 ≤ s.nv.logFree)
    ∧ (∃ (c : Cxl) (master : Bool) (cur : BitVec 256) (s : State), s.stdReaches c = true ∧ s.restricted = false ∧ s.port.sec.frozen = false ∧ s.port.sec.locked = false ∧ (s.port.sec.pass master = none ∨ s.port.sec.pass master = some cur))
    ∧ (∃ (c : Cxl) (master : Bool) (cur : BitVec 256) (s : State), s.stdReaches c = true ∧ s.restricted = false ∧ s.port.sec.frozen = false ∧ s.port.sec.locked = false ∧ s.port.sec.pass master = some cur)
    ∧ (∃ (c : Cxl) (pass : BitVec 256) (s : State), s.stdReaches c = true ∧ s.restricted = false ∧ s.port.sec.frozen = false ∧ s.port.sec.locked = true ∧ s.port.sec.fails < 5 ∧ s.port.sec.user = some pass ∧ s.sip.state ≠ .lockWait)
    ∧ (∃ (c : Cxl) (pass : BitVec 256) (s : State), s.stdReaches c = true ∧ s.restricted = false ∧ s.port.sec.frozen = false ∧ s.port.sec.locked = true ∧ s.port.sec.fails < 5 ∧ s.port.sec.user ≠ some pass)
    ∧ (∃ (c : Cxl) (s : State), s.stdReaches c = true ∧ s.restricted = false ∧ 5 ≤ s.port.sec.fails)
    ∧ (∃ (c : Cxl) (s : State), s.stdReaches c = true ∧ s.restricted = false)
    ∧ (∃ (c : Cxl) (log : Nat) (n : Nat) (all : Bool) (s : State) (k : Nat), s.stdReaches c = true ∧ log < 5 ∧ k = logKey (log + 1) c.ld ∧ (all = true ∨ n ≤ (mget [] s.port.logs k).length))
    ∧ (∃ (c : Cxl) (vs : List Nat) (s : State), s.stdReaches c = true ∧ s.restricted = false ∧ vs.length = 5 ∧ (∀ v ∈ vs, v < 64))
    ∧ (∃ (c : Cxl) (s : State), s.stdReaches c = true ∧ s.restricted = false)
    ∧ (∃ (c : Cxl) (q : Nat × List (Nat × PoisonSrc)) (s : State), s.stdReaches c = true ∧ s.restricted = false ∧ (s.port.scans.find? fun p => p.1 == c.ld) = some q) :=
  ⟨⟨{ transport := 0, ld := 0 }, { onl with dev := .vaulting }, by decide +kernel⟩,
   ⟨{ transport := 0, ld := 0 }, onl, by decide +kernel⟩,
   ⟨{ transport := 0, ld := 0 }, onl, by decide +kernel⟩,
   ⟨{ transport := 0, ld := 0 }, false, 5, secd, by decide +kernel⟩,
   ⟨{ transport := 0, ld := 0 }, false, 5, secd, by decide +kernel⟩,
   ⟨{ transport := 0, ld := 0 }, 5, lockd, by decide +kernel⟩,
   ⟨{ transport := 0, ld := 0 }, 6, lockd, by decide +kernel⟩,
   ⟨{ transport := 0, ld := 0 }, { secd with port := { secd.port with sec := { user := some 5, locked := true, fails := 5 } } }, by decide +kernel⟩,
   ⟨{ transport := 0, ld := 0 }, secd, by decide +kernel⟩,
   ⟨{ transport := 0, ld := 0 }, 4, 1, false, { onl with port := { onl.port with logs := [(logKey 5 0, [{ event := 1, seq := 2, state := 4, sev := 0 }])] } }, logKey 5 0, by decide +kernel⟩,
   ⟨{ transport := 0, ld := 0 }, [1, 2, 3, 63, 0], onl, by decide +kernel⟩,
   ⟨{ transport := 0, ld := 0 }, { onl with port := { onl.port with poison := [(1, .injected)] } }, by decide +kernel⟩,
   ⟨{ transport := 0, ld := 0 }, (0, [(1, .injected)]), { onl with port := { onl.port with scans := [(0, [(1, .injected)])] } }, by decide +kernel⟩⟩

/-- Operands and states that meet the hypotheses of each clause of `Obligations.Poison_commands`. -/
theorem wit_Poison_commands :
    (∃ (c : Cxl) (dpa : Nat) (s : State) (a : Nat), s.stdReaches c = true ∧ s.dev = .online ∧ s.poisonAddr c.ld dpa = some a)
    ∧ (∃ (c : Cxl) (s : State), s.stdReaches c = true ∧ s.restricted = false ∧ s.dev ≠ .online)
    ∧ (∃ (c : Cxl) (dpa : Nat) (s : State) (a : Nat), s.stdReaches c = true ∧ s.restricted = false ∧ s.poisonAddr c.ld dpa = some a)
    ∧ (∃ (c : Cxl) (dpa : Nat) (s : State), s.stdReaches c = true ∧ s.restricted = false ∧ s.poisonAddr c.ld dpa = none)
    ∧ (∃ (c : Cxl) (dpa : Nat) (s : State), s.stdReaches c = true ∧ s.dev = .online ∧ s.poisonAddr c.ld dpa = none) :=
  ⟨⟨{ transport := 0, ld := 0 }, 2 ^ 36 + 70, onl, 2 ^ 36 + 64, by decide +kernel⟩,
   ⟨{ transport := 0, ld := 0 }, { onl with dev := .maintenance }, by decide +kernel⟩,
   ⟨{ transport := 0, ld := 0 }, 2 ^ 36 + 70, onl, 2 ^ 36 + 64, by decide +kernel⟩,
   ⟨{ transport := 0, ld := 0 }, 2 ^ 45, onl, by decide +kernel⟩,
   ⟨{ transport := 0, ld := 0 }, 2 ^ 45, onl, by decide +kernel⟩⟩

/-- Operands and states that meet the hypotheses of each clause of `Obligations.Capacity_commands`. -/
theorem wit_Capacity_commands :
    (∃ (c : Cxl) (acc : List Nat) (dec : List Nat) (s : State), s.stdReaches c = true ∧ s.restricted = false ∧ s.port.whole = false ∧ (∃ e ∈ acc ++ dec, s.extState c.ld e ≠ some .offered))
    ∧ (∃ (c : Cxl) (acc : List Nat) (dec : List Nat) (s : State), s.stdReaches c = true ∧ s.restricted = false ∧ s.port.whole = false ∧ (∀ e ∈ acc ++ dec, e < 8192 ∧ s.extState c.ld e = some .offered) ∧ (∀ e ∈ acc, e ∉ dec) ∧ (∀ e ∈ s.sip.order, e < 8192) ∧ (∀ k, ∀ e ∈ mget [] s.port.reoffer k, e < 8192 ∧ (k = c.ld → e ∉ acc)))
    ∧ (∃ (c : Cxl) (es : List Nat) (s : State), s.stdReaches c = true ∧ s.restricted = false ∧ s.port.whole = false ∧ (∀ e ∈ es, e < 8192 ∧ s.extState c.ld e = some .accepted))
    ∧ (∃ (c : Cxl) (v : Nat) (p : Nat) (s : State), s.stdReaches c = true ∧ s.restricted = false ∧ 2 ≤ c.transport ∧ 1 ≤ s.reg Reg.LD_COUNT ∧ s.port.allocs = [] ∧ s.reg Reg.SHUTDOWN_RECORD = 0 ∧ v ≤ s.reg Reg.VOLATILE_SIZE ∧ p ≤ s.basin.host / GiB - 64 * s.reg Reg.VOLATILE_SIZE ∧ (∀ e ∈ s.cmd.journal, e.cseq ≤ s.cmd.cseq))
    ∧ (∃ (ld : Nat) (v : Nat) (s : State), s.firmwareUp = true ∧ ld < 8 ∧ v < 256)
    ∧ (∃ (ld : Nat) (base : Nat) (size : Nat) (skip : Nat) (ways : Nat) (gran : Nat) (s : State), s.port.up = true ∧ ld ∈ s.lds ∧ s.port.decs ld = [] ∧ decoderOk base size skip ways gran true = true ∧ skip + size / ways ≤ (s.alloc ld).1 + (s.alloc ld).2 * GiB)
    ∧ (∃ (ld : Nat) (base : Nat) (size : Nat) (skip : Nat) (ways : Nat) (gran : Nat) (s : State) (l : List Decoder) (d : Decoder), s.port.up = true ∧ ld ∈ s.lds ∧ s.port.decs ld = l ++ [d] ∧ l.length < 7 ∧ decoderOk base size skip ways gran true = true ∧ d.base + d.size ≤ base ∧ d.dpaBase + d.size / d.ways + skip + size / ways ≤ (s.alloc ld).1 + (s.alloc ld).2 * GiB)
    ∧ (∃ (ld : Nat) (s : State), s.port.up = true ∧ ld ∈ s.lds)
    ∧ (∃ (ld : Nat) (s : State) (d : Decoder) (l : List Decoder), s.port.up = true ∧ ld ∈ s.lds ∧ s.port.decs ld = l ++ [d])
    ∧ (∃ (ld : Nat) (fn : Nat) (s : State), s.presents ld fn = true ∧ fn ≠ 0) :=
  ⟨⟨{ transport := 0, ld := 0 }, [1], [], dcd, by decide +kernel⟩,
   ⟨{ transport := 0, ld := 0 }, [0], [1], { dcd with port := { dcd.port with extents := [(0, .offered), (1, .offered)] } }, by decide +kernel, by decide +kernel, by decide +kernel, by decide +kernel, by decide +kernel, by decide +kernel, (fun _ e he => nomatch (show e ∈ ([] : List Nat) from he))⟩,
   ⟨{ transport := 0, ld := 0 }, [0], { dcd with port := { dcd.port with extents := [(0, .accepted), (1, .offered)] } }, by decide +kernel⟩,
   ⟨{ transport := 2, ld := 0, fm := true }, 1, 100, { dcd with regs := [(Reg.VOLATILE_SIZE, 1)] }, by decide +kernel⟩,
   ⟨7, 255, onl, by decide +kernel⟩,
   ⟨0, 0, 2 ^ 30, 0, 1, 256, dcd, by decide +kernel⟩,
   ⟨0, 2 ^ 37, 2 ^ 28, 0, 1, 256, { dcd with port := { dcd.port with decoders := [(0, [({ base := 0, size := 2 ^ 28, dpaBase := 0, ways := 1, granularity := 256, lock := false })])] } }, [], { base := 0, size := 2 ^ 28, dpaBase := 0, ways := 1, granularity := 256, lock := false }, by decide +kernel⟩,
   ⟨0, onl, by decide +kernel⟩,
   ⟨0, onl, { base := 0, size := 2 ^ 38, dpaBase := 0, ways := 1, granularity := 256, lock := false }, [], by decide +kernel⟩,
   ⟨0, 1, onl, by decide +kernel⟩⟩

/-- Operands and states that meet the hypotheses of each clause of `Obligations.Whole_device_erases`. -/
theorem wit_Whole_device_erases :
    (∃ (c : Cxl) (s : State), s.stdReaches c = true ∧ s.dev = .online ∧ s.port.committed = false ∧ s.port.erasing = none ∧ s.seq.flush = none ∧ s.rill.reformat = none)
    ∧ (∃ (c : Cxl) (master : Bool) (pass : BitVec 256) (s : State), s.stdReaches c = true ∧ s.dev = .online ∧ s.port.committed = false ∧ s.port.erasing = none ∧ s.seq.flush = none ∧ s.rill.reformat = none ∧ s.port.sec.frozen = false ∧ s.port.sec.pass master = some pass)
    ∧ (∃ (c : Cxl) (master : Bool) (pass : BitVec 256) (p : BitVec 256) (s : State), s.stdReaches c = true ∧ s.dev = .online ∧ s.port.committed = false ∧ s.port.sec.frozen = false ∧ s.port.sec.pass master = some p ∧ p ≠ pass)
    ∧ (∃ (c : Cxl) (s : State), s.stdReaches c = true ∧ s.restricted = false ∧ s.port.committed = true)
    ∧ (∃ (cseq : Nat) (s : State), s.port.erasing = some cseq ∧ s.dev = .maintenance ∧ s.nv.state = .running ∧ s.whl.lost = [])
    ∧ (∃ (s : State), s.port.erasing = some 0 ∧ s.port.eraseUser = false ∧ s.dev = .bringup ∧ s.sip.path = 1 ∧ s.nv.state = .running ∧ s.whl.lost = [] ∧ s.basin.state ≠ .populationHold ∧ s.res.state ≠ .hold) :=
  ⟨⟨{ transport := 0, ld := 0 }, dcd, by decide +kernel⟩,
   ⟨{ transport := 0, ld := 0 }, false, 5, secd, by decide +kernel⟩,
   ⟨{ transport := 0, ld := 0 }, false, 6, 5, secd, by decide +kernel⟩,
   ⟨{ transport := 0, ld := 0 }, onl, by decide +kernel⟩,
   ⟨7, { dcd with dev := .maintenance, port := { dcd.port with erasing := some 7 } }, by decide +kernel⟩,
   ⟨{ dcd with dev := .bringup, port := { dcd.port with erasing := some 0 } }, by decide +kernel⟩⟩

/-- Operands and states that meet the hypotheses of each clause of `Obligations.Basin_errors`. -/
theorem wit_Basin_errors :
    (∃ (s : State), s.dev.serving = true ∧ s.basin.state = .serving)
    ∧ (∃ (ch : Nat) (s : State), s.dev.serving = true ∧ s.basin.state = .serving ∧ ch < 8 ∧ s.seq.coreUp = true)
    ∧ (∃ (a : Nat) (s : State), s.dev.serving = true ∧ s.basin.state = .serving ∧ a < s.basin.host ∧ s.persistent a = true ∧ s.pageDirty a = false ∧ s.basin.ueTimes.length < 1024)
    ∧ (∃ (a : Nat) (s : State), s.dev.serving = true ∧ s.basin.state = .serving ∧ a < s.basin.host ∧ (s.persistent a = false ∨ s.pageDirty a = true))
    ∧ (∃ (row : Nat) (s : State), row ∈ s.basin.softRows)
    ∧ (∃ (line : Nat) (s : State), line ∈ s.basin.repair)
    ∧ (∃ (r : Nat) (s : State), s.basin.spareCopy = some r ∧ s.cmd.dimmSpare.state = .running)
    ∧ (∃ (a : Nat) (s : State) (m : Nat × Nat × Nat) (l : List (Nat × Nat)), s.dev.serving = true ∧ s.basin.state = .serving ∧ a < s.basin.host ∧ m = s.basin.map a ∧ l = (s.basin.ueTimes.filter fun p => decide (s.now < p.2 + 1000) && p.1 != a / 64) ++ [(a / 64, s.now)] ∧ 1024 < (l.filter fun p => (s.basin.map (64 * p.1)).1 == m.1 && (s.basin.map (64 * p.1)).2.1 == m.2.1).length)
    ∧ (∃ (ch : Nat) (s : State), ch < 8 ∧ s.basin.state = .serving) :=
  ⟨⟨onl, by decide +kernel⟩,
   ⟨7, onl, by decide +kernel⟩,
   ⟨2 ^ 36 + 64, onl, by decide +kernel⟩,
   ⟨64, onl, by decide +kernel⟩,
   ⟨77, { onl with basin := { onl.basin with softRows := [5, 77] } }, by decide +kernel⟩,
   ⟨9, { onl with basin := { onl.basin with repair := [9, 10] } }, by decide +kernel⟩,
   ⟨3, { onl with basin := { onl.basin with spareCopy := some 3 }, cmd := { dimmSpare := { state := .running } } }, by decide +kernel⟩,
   ⟨131072, { onl with basin := { onl.basin with found := [dimm 0 0], ueTimes := (List.range 1024).map (fun i => (i, 99900)) } }, Basin.map (State.basin ({ onl with basin := { onl.basin with found := [dimm 0 0], ueTimes := (List.range 1024).map (fun i => (i, 99900)) } })) (131072), (List.range 1024).map (fun i => (i, 99900)) ++ [(2048, 100000)], by decide +kernel⟩,
   ⟨0, { onl with basin := { onl.basin with dst := [(32768, { d := 1, ptr := 5 })] } }, by decide +kernel⟩⟩

/-- Operands and states that meet the hypotheses of each clause of `Obligations.Basin_ticks`. -/
theorem wit_Basin_ticks :
    (∃ (s : State), s.basin.state = .serving)
    ∧ (∃ (v : Nat) (s : State) (seg : Nat) (e : DstEntry) (l : List (Nat × DstEntry)) (m : List (Nat × DstEntry)), v < 2 ^ 18 ∧ s.seq.coreUp = true ∧ s.basin.dst = l ++ (seg, e) :: m ∧ e.ptr = v ∧ (∀ p ∈ l, p.2.ptr ≠ v))
    ∧ (∃ (v : Nat) (s : State), v < 2 ^ 18 ∧ s.seq.coreUp = true ∧ (∀ p ∈ s.basin.dst, p.2.ptr ≠ v))
    ∧ (∃ (dimms : List Dimm) (failed : List (Nat × Nat)) (s : State) (r : Nat), s.basin.state = .training ∧ s.nv.early = true ∧ s.popRow dimms failed ≤ 3 ∧ commonRate dimms = some r)
    ∧ (∃ (dimms : List Dimm) (failed : List (Nat × Nat)) (s : State), s.basin.state = .training ∧ s.nv.early = true ∧ 4 ≤ s.popRow dimms failed ∧ s.seq.coreUp = true) :=
  ⟨⟨{ onl with basin := { onl.basin with dst := [(32768, { d := 1, ptr := 5, heat := 100, age := 510 })] } }, by decide +kernel⟩,
   ⟨5, { onl with basin := { onl.basin with dst := [(32768, { d := 1, ptr := 5, heat := 100, age := 510 })] } }, 32768, { d := 1, ptr := 5, heat := 100, age := 510 }, [], [], by decide +kernel⟩,
   ⟨6, { onl with basin := { onl.basin with dst := [(32768, { d := 1, ptr := 5, heat := 100, age := 510 })] } }, by decide +kernel⟩,
   ⟨dimms8, [], { onl with dev := .bringup, basin := { state := .training } }, 4800, by decide +kernel⟩,
   ⟨dimms8, [(3, 0)], { onl with dev := .bringup, basin := { state := .training } }, by decide +kernel⟩⟩

/-- Operands and states that meet the hypotheses of each clause of `Obligations.Weir_replans`. -/
theorem wit_Weir_replans :
    (∃ (temp : Int) (r : Bool) (s : State) (u : State) (eb : Nat) (eFix : Nat) (e0 : Nat) (single : Bool) (lost : Bool), s.dev = .bringup ∧ s.seq.coreUp = true ∧ s.weir.state = .dormant ∧ s.weir.distrusted = false ∧ u = s.measure r ∧ lunsEligible u.res (u.barred .v) ≠ 0 ∧ eb = u.costPerGib (u.factors u.tNow temp) ∧ eFix = u.fixedCost (u.factors u.tNow temp).2.1 ∧ u.policy true (fun e => (u.rawCeiling (e - u.tokensOff) eFix eb).1) = (e0, single, lost))
    ∧ (∃ (temp : Int) (s : State) (eb : Nat) (eFix : Nat) (e0 : Nat) (single : Bool) (lost : Bool) (raw : Nat), s.weir.state = .planning ∧ s.weir.distrusted = false ∧ lunsEligible s.res (s.barred .v) ≠ 0 ∧ eb = s.costPerGib (s.factors s.tNow temp) ∧ eFix = s.fixedCost (s.factors s.tNow temp).2.1 ∧ s.policy false (fun e => (s.rawCeiling (e - s.tokensOff) eFix eb).1) = (e0, single, lost) ∧ raw = (s.rawCeiling (e0 - s.tokensOff) eFix eb).1 ∧ raw < s.reg Reg.CEILING)
    ∧ (∃ (temp : Int) (s : State) (eb : Nat) (eFix : Nat) (e0 : Nat) (single : Bool) (lost : Bool) (raw : Nat), s.weir.state = .planning ∧ s.weir.distrusted = false ∧ lunsEligible s.res (s.barred .v) ≠ 0 ∧ eb = s.costPerGib (s.factors s.tNow temp) ∧ eFix = s.fixedCost (s.factors s.tNow temp).2.1 ∧ s.policy false (fun e => (s.rawCeiling (e - s.tokensOff) eFix eb).1) = (e0, single, lost) ∧ raw = (s.rawCeiling (e0 - s.tokensOff) eFix eb).1 ∧ s.reg Reg.CEILING + s.reg Reg.WEIR_RISE_HYST < raw)
    ∧ (∃ (temp : Int) (s : State) (eb : Nat) (eFix : Nat) (e0 : Nat) (single : Bool) (lost : Bool) (raw : Nat), s.weir.state = .planning ∧ s.replanDue = true ∧ s.weir.distrusted = false ∧ lunsEligible s.res (s.barred .v) ≠ 0 ∧ eb = s.costPerGib (s.factors s.tNow temp) ∧ eFix = s.fixedCost (s.factors s.tNow temp).2.1 ∧ s.policy false (fun e => (s.rawCeiling (e - s.tokensOff) eFix eb).1) = (e0, single, lost) ∧ raw = (s.rawCeiling (e0 - s.tokensOff) eFix eb).1 ∧ raw < s.reg Reg.CEILING)
    ∧ (∃ (temp : Int) (s : State) (eb : Nat) (eFix : Nat) (e0 : Nat) (single : Bool) (lost : Bool) (raw : Nat), s.weir.state = .planning ∧ s.replanDue = true ∧ s.weir.distrusted = false ∧ lunsEligible s.res (s.barred .v) ≠ 0 ∧ eb = s.costPerGib (s.factors s.tNow temp) ∧ eFix = s.fixedCost (s.factors s.tNow temp).2.1 ∧ s.policy false (fun e => (s.rawCeiling (e - s.tokensOff) eFix eb).1) = (e0, single, lost) ∧ raw = (s.rawCeiling (e0 - s.tokensOff) eFix eb).1 ∧ s.reg Reg.CEILING + s.reg Reg.WEIR_RISE_HYST < raw)
    ∧ (∃ (s : State), s.weir.state = .planning ∧ s.replanDue = false)
    ∧ (∃ (s : State), s.weir.state = .planning ∧ lunsEligible s.res (s.barred .v) = 0) :=
  ⟨⟨35, false, wlUp, State.measure (wlUp) (false), State.costPerGib (State.measure (wlUp) (false)) (State.factors (State.measure (wlUp) (false)) (State.tNow (State.measure (wlUp) (false))) (35)), State.fixedCost (State.measure (wlUp) (false)) (State.factors (State.measure (wlUp) (false)) (State.tNow (State.measure (wlUp) (false))) (35)).2.1, (State.policy (State.measure (wlUp) (false)) true (fun e => (State.rawCeiling (State.measure (wlUp) (false)) (e - State.tokensOff (State.measure (wlUp) (false))) (State.fixedCost (State.measure (wlUp) (false)) (State.factors (State.measure (wlUp) (false)) (State.tNow (State.measure (wlUp) (false))) (35)).2.1) (State.costPerGib (State.measure (wlUp) (false)) (State.factors (State.measure (wlUp) (false)) (State.tNow (State.measure (wlUp) (false))) (35)))).1)).1, (State.policy (State.measure (wlUp) (false)) true (fun e => (State.rawCeiling (State.measure (wlUp) (false)) (e - State.tokensOff (State.measure (wlUp) (false))) (State.fixedCost (State.measure (wlUp) (false)) (State.factors (State.measure (wlUp) (false)) (State.tNow (State.measure (wlUp) (false))) (35)).2.1) (State.costPerGib (State.measure (wlUp) (false)) (State.factors (State.measure (wlUp) (false)) (State.tNow (State.measure (wlUp) (false))) (35)))).1)).2.1, (State.policy (State.measure (wlUp) (false)) true (fun e => (State.rawCeiling (State.measure (wlUp) (false)) (e - State.tokensOff (State.measure (wlUp) (false))) (State.fixedCost (State.measure (wlUp) (false)) (State.factors (State.measure (wlUp) (false)) (State.tNow (State.measure (wlUp) (false))) (35)).2.1) (State.costPerGib (State.measure (wlUp) (false)) (State.factors (State.measure (wlUp) (false)) (State.tNow (State.measure (wlUp) (false))) (35)))).1)).2.2, by decide +kernel⟩,
   ⟨35, wlNone, State.costPerGib (wlNone) (State.factors (wlNone) (State.tNow (wlNone)) (35)), State.fixedCost (wlNone) (State.factors (wlNone) (State.tNow (wlNone)) (35)).2.1, (State.policy (wlNone) false (fun e => (State.rawCeiling (wlNone) (e - State.tokensOff (wlNone)) (State.fixedCost (wlNone) (State.factors (wlNone) (State.tNow (wlNone)) (35)).2.1) (State.costPerGib (wlNone) (State.factors (wlNone) (State.tNow (wlNone)) (35)))).1)).1, (State.policy (wlNone) false (fun e => (State.rawCeiling (wlNone) (e - State.tokensOff (wlNone)) (State.fixedCost (wlNone) (State.factors (wlNone) (State.tNow (wlNone)) (35)).2.1) (State.costPerGib (wlNone) (State.factors (wlNone) (State.tNow (wlNone)) (35)))).1)).2.1, (State.policy (wlNone) false (fun e => (State.rawCeiling (wlNone) (e - State.tokensOff (wlNone)) (State.fixedCost (wlNone) (State.factors (wlNone) (State.tNow (wlNone)) (35)).2.1) (State.costPerGib (wlNone) (State.factors (wlNone) (State.tNow (wlNone)) (35)))).1)).2.2, (State.rawCeiling (wlNone) (((State.policy (wlNone) false (fun e => (State.rawCeiling (wlNone) (e - State.tokensOff (wlNone)) (State.fixedCost (wlNone) (State.factors (wlNone) (State.tNow (wlNone)) (35)).2.1) (State.costPerGib (wlNone) (State.factors (wlNone) (State.tNow (wlNone)) (35)))).1)).1) - State.tokensOff (wlNone)) (State.fixedCost (wlNone) (State.factors (wlNone) (State.tNow (wlNone)) (35)).2.1) (State.costPerGib (wlNone) (State.factors (wlNone) (State.tNow (wlNone)) (35)))).1, by decide +kernel⟩,
   ⟨35, wl0, State.costPerGib (wl0) (State.factors (wl0) (State.tNow (wl0)) (35)), State.fixedCost (wl0) (State.factors (wl0) (State.tNow (wl0)) (35)).2.1, (State.policy (wl0) false (fun e => (State.rawCeiling (wl0) (e - State.tokensOff (wl0)) (State.fixedCost (wl0) (State.factors (wl0) (State.tNow (wl0)) (35)).2.1) (State.costPerGib (wl0) (State.factors (wl0) (State.tNow (wl0)) (35)))).1)).1, (State.policy (wl0) false (fun e => (State.rawCeiling (wl0) (e - State.tokensOff (wl0)) (State.fixedCost (wl0) (State.factors (wl0) (State.tNow (wl0)) (35)).2.1) (State.costPerGib (wl0) (State.factors (wl0) (State.tNow (wl0)) (35)))).1)).2.1, (State.policy (wl0) false (fun e => (State.rawCeiling (wl0) (e - State.tokensOff (wl0)) (State.fixedCost (wl0) (State.factors (wl0) (State.tNow (wl0)) (35)).2.1) (State.costPerGib (wl0) (State.factors (wl0) (State.tNow (wl0)) (35)))).1)).2.2, (State.rawCeiling (wl0) (((State.policy (wl0) false (fun e => (State.rawCeiling (wl0) (e - State.tokensOff (wl0)) (State.fixedCost (wl0) (State.factors (wl0) (State.tNow (wl0)) (35)).2.1) (State.costPerGib (wl0) (State.factors (wl0) (State.tNow (wl0)) (35)))).1)).1) - State.tokensOff (wl0)) (State.fixedCost (wl0) (State.factors (wl0) (State.tNow (wl0)) (35)).2.1) (State.costPerGib (wl0) (State.factors (wl0) (State.tNow (wl0)) (35)))).1, by decide +kernel⟩,
   ⟨35, { wlNone with weir := { wlNone.weir with due := true } }, State.costPerGib ({ wlNone with weir := { wlNone.weir with due := true } }) (State.factors ({ wlNone with weir := { wlNone.weir with due := true } }) (State.tNow ({ wlNone with weir := { wlNone.weir with due := true } })) (35)), State.fixedCost ({ wlNone with weir := { wlNone.weir with due := true } }) (State.factors ({ wlNone with weir := { wlNone.weir with due := true } }) (State.tNow ({ wlNone with weir := { wlNone.weir with due := true } })) (35)).2.1, (State.policy ({ wlNone with weir := { wlNone.weir with due := true } }) false (fun e => (State.rawCeiling ({ wlNone with weir := { wlNone.weir with due := true } }) (e - State.tokensOff ({ wlNone with weir := { wlNone.weir with due := true } })) (State.fixedCost ({ wlNone with weir := { wlNone.weir with due := true } }) (State.factors ({ wlNone with weir := { wlNone.weir with due := true } }) (State.tNow ({ wlNone with weir := { wlNone.weir with due := true } })) (35)).2.1) (State.costPerGib ({ wlNone with weir := { wlNone.weir with due := true } }) (State.factors ({ wlNone with weir := { wlNone.weir with due := true } }) (State.tNow ({ wlNone with weir := { wlNone.weir with due := true } })) (35)))).1)).1, (State.policy ({ wlNone with weir := { wlNone.weir with due := true } }) false (fun e => (State.rawCeiling ({ wlNone with weir := { wlNone.weir with due := true } }) (e - State.tokensOff ({ wlNone with weir := { wlNone.weir with due := true } })) (State.fixedCost ({ wlNone with weir := { wlNone.weir with due := true } }) (State.factors ({ wlNone with weir := { wlNone.weir with due := true } }) (State.tNow ({ wlNone with weir := { wlNone.weir with due := true } })) (35)).2.1) (State.costPerGib ({ wlNone with weir := { wlNone.weir with due := true } }) (State.factors ({ wlNone with weir := { wlNone.weir with due := true } }) (State.tNow ({ wlNone with weir := { wlNone.weir with due := true } })) (35)))).1)).2.1, (State.policy ({ wlNone with weir := { wlNone.weir with due := true } }) false (fun e => (State.rawCeiling ({ wlNone with weir := { wlNone.weir with due := true } }) (e - State.tokensOff ({ wlNone with weir := { wlNone.weir with due := true } })) (State.fixedCost ({ wlNone with weir := { wlNone.weir with due := true } }) (State.factors ({ wlNone with weir := { wlNone.weir with due := true } }) (State.tNow ({ wlNone with weir := { wlNone.weir with due := true } })) (35)).2.1) (State.costPerGib ({ wlNone with weir := { wlNone.weir with due := true } }) (State.factors ({ wlNone with weir := { wlNone.weir with due := true } }) (State.tNow ({ wlNone with weir := { wlNone.weir with due := true } })) (35)))).1)).2.2, (State.rawCeiling ({ wlNone with weir := { wlNone.weir with due := true } }) (((State.policy ({ wlNone with weir := { wlNone.weir with due := true } }) false (fun e => (State.rawCeiling ({ wlNone with weir := { wlNone.weir with due := true } }) (e - State.tokensOff ({ wlNone with weir := { wlNone.weir with due := true } })) (State.fixedCost ({ wlNone with weir := { wlNone.weir with due := true } }) (State.factors ({ wlNone with weir := { wlNone.weir with due := true } }) (State.tNow ({ wlNone with weir := { wlNone.weir with due := true } })) (35)).2.1) (State.costPerGib ({ wlNone with weir := { wlNone.weir with due := true } }) (State.factors ({ wlNone with weir := { wlNone.weir with due := true } }) (State.tNow ({ wlNone with weir := { wlNone.weir with due := true } })) (35)))).1)).1) - State.tokensOff ({ wlNone with weir := { wlNone.weir with due := true } })) (State.fixedCost ({ wlNone with weir := { wlNone.weir with due := true } }) (State.factors ({ wlNone with weir := { wlNone.weir with due := true } }) (State.tNow ({ wlNone with weir := { wlNone.weir with due := true } })) (35)).2.1) (State.costPerGib ({ wlNone with weir := { wlNone.weir with due := true } }) (State.factors ({ wlNone with weir := { wlNone.weir with due := true } }) (State.tNow ({ wlNone with weir := { wlNone.weir with due := true } })) (35)))).1, by decide +kernel⟩,
   ⟨35, { wl0 with weir := { wl0.weir with due := true } }, State.costPerGib ({ wl0 with weir := { wl0.weir with due := true } }) (State.factors ({ wl0 with weir := { wl0.weir with due := true } }) (State.tNow ({ wl0 with weir := { wl0.weir with due := true } })) (35)), State.fixedCost ({ wl0 with weir := { wl0.weir with due := true } }) (State.factors ({ wl0 with weir := { wl0.weir with due := true } }) (State.tNow ({ wl0 with weir := { wl0.weir with due := true } })) (35)).2.1, (State.policy ({ wl0 with weir := { wl0.weir with due := true } }) false (fun e => (State.rawCeiling ({ wl0 with weir := { wl0.weir with due := true } }) (e - State.tokensOff ({ wl0 with weir := { wl0.weir with due := true } })) (State.fixedCost ({ wl0 with weir := { wl0.weir with due := true } }) (State.factors ({ wl0 with weir := { wl0.weir with due := true } }) (State.tNow ({ wl0 with weir := { wl0.weir with due := true } })) (35)).2.1) (State.costPerGib ({ wl0 with weir := { wl0.weir with due := true } }) (State.factors ({ wl0 with weir := { wl0.weir with due := true } }) (State.tNow ({ wl0 with weir := { wl0.weir with due := true } })) (35)))).1)).1, (State.policy ({ wl0 with weir := { wl0.weir with due := true } }) false (fun e => (State.rawCeiling ({ wl0 with weir := { wl0.weir with due := true } }) (e - State.tokensOff ({ wl0 with weir := { wl0.weir with due := true } })) (State.fixedCost ({ wl0 with weir := { wl0.weir with due := true } }) (State.factors ({ wl0 with weir := { wl0.weir with due := true } }) (State.tNow ({ wl0 with weir := { wl0.weir with due := true } })) (35)).2.1) (State.costPerGib ({ wl0 with weir := { wl0.weir with due := true } }) (State.factors ({ wl0 with weir := { wl0.weir with due := true } }) (State.tNow ({ wl0 with weir := { wl0.weir with due := true } })) (35)))).1)).2.1, (State.policy ({ wl0 with weir := { wl0.weir with due := true } }) false (fun e => (State.rawCeiling ({ wl0 with weir := { wl0.weir with due := true } }) (e - State.tokensOff ({ wl0 with weir := { wl0.weir with due := true } })) (State.fixedCost ({ wl0 with weir := { wl0.weir with due := true } }) (State.factors ({ wl0 with weir := { wl0.weir with due := true } }) (State.tNow ({ wl0 with weir := { wl0.weir with due := true } })) (35)).2.1) (State.costPerGib ({ wl0 with weir := { wl0.weir with due := true } }) (State.factors ({ wl0 with weir := { wl0.weir with due := true } }) (State.tNow ({ wl0 with weir := { wl0.weir with due := true } })) (35)))).1)).2.2, (State.rawCeiling ({ wl0 with weir := { wl0.weir with due := true } }) (((State.policy ({ wl0 with weir := { wl0.weir with due := true } }) false (fun e => (State.rawCeiling ({ wl0 with weir := { wl0.weir with due := true } }) (e - State.tokensOff ({ wl0 with weir := { wl0.weir with due := true } })) (State.fixedCost ({ wl0 with weir := { wl0.weir with due := true } }) (State.factors ({ wl0 with weir := { wl0.weir with due := true } }) (State.tNow ({ wl0 with weir := { wl0.weir with due := true } })) (35)).2.1) (State.costPerGib ({ wl0 with weir := { wl0.weir with due := true } }) (State.factors ({ wl0 with weir := { wl0.weir with due := true } }) (State.tNow ({ wl0 with weir := { wl0.weir with due := true } })) (35)))).1)).1) - State.tokensOff ({ wl0 with weir := { wl0.weir with due := true } })) (State.fixedCost ({ wl0 with weir := { wl0.weir with due := true } }) (State.factors ({ wl0 with weir := { wl0.weir with due := true } }) (State.tNow ({ wl0 with weir := { wl0.weir with due := true } })) (35)).2.1) (State.costPerGib ({ wl0 with weir := { wl0.weir with due := true } }) (State.factors ({ wl0 with weir := { wl0.weir with due := true } }) (State.tNow ({ wl0 with weir := { wl0.weir with due := true } })) (35)))).1, by decide +kernel⟩,
   ⟨{ onl with weir := { onl.weir with useA := some 900000, useB := some 900000, caps := State.weirCaps onl, lNow := 0 } }, by decide +kernel⟩,
   ⟨onl, by decide +kernel⟩⟩

/-- Operands and states that meet the hypotheses of each clause of `Obligations.Weir_watch`. -/
theorem wit_Weir_watch :
    (∃ (s : State), s.seq.coreUp = true ∧ s.weir.state ≠ .latched ∧ s.reg Reg.CEILING < 2 ^ 20)
    ∧ (∃ (s : State), s.seq.coreUp = true ∧ s.weir.state ≠ .latched ∧ s.weir.staleA = false ∧ s.cist.a.state ≠ .absent)
    ∧ (∃ (s : State), s.seq.coreUp = true ∧ s.weir.state ≠ .latched ∧ s.weir.staleB = false ∧ s.cist.b.state ≠ .absent)
    ∧ (∃ (s : State), s.weir.state = .planning ∧ s.reg Reg.CEILING * MiB < s.basin.dirtyBytes ∧ s.reg Reg.DEVLOAD_LEVEL ≤ 3)
    ∧ (∃ (s : State), s.weir.state = .planning ∧ s.basin.dirtyBytes < s.reg Reg.TARGET_FILL * MiB ∧ s.basin.dirtyBytes ≤ s.reg Reg.CEILING * MiB ∧ 100 * s.basin.dirtyBytes < s.reg Reg.DEVLOAD_MOD_FRAC * (s.reg Reg.CEILING * MiB) ∧ s.basin.dirtyBytes ≤ s.weir.dirtyAtEval ∧ s.reg Reg.DEVLOAD_LEVEL = 0)
    ∧ (∃ (s : State), s.weir.state = .planning ∧ s.basin.dirtyBytes < s.reg Reg.TARGET_FILL * MiB ∧ s.basin.dirtyBytes ≤ s.reg Reg.CEILING * MiB ∧ 100 * s.basin.dirtyBytes < s.reg Reg.DEVLOAD_MOD_FRAC * (s.reg Reg.CEILING * MiB) ∧ s.basin.dirtyBytes ≤ s.weir.dirtyAtEval ∧ 0 < s.reg Reg.DEVLOAD_LEVEL ∧ s.reg Reg.DEVLOAD_LEVEL ≤ 3) :=
  ⟨⟨onl, by decide +kernel⟩,
   ⟨onl, by decide +kernel⟩,
   ⟨onl, by decide +kernel⟩,
   ⟨{ dirt 1 with regs := [] }, by decide +kernel⟩,
   ⟨{ onl with regs := [(Reg.CEILING, 1000), (Reg.TARGET_FILL, 800)] }, by decide +kernel⟩,
   ⟨{ onl with regs := [(Reg.CEILING, 1000), (Reg.TARGET_FILL, 800), (Reg.DEVLOAD_LEVEL, 2)] }, by decide +kernel⟩⟩

/-- Operands and states that meet the hypotheses of each clause of `Obligations.Weir_measures`. -/
theorem wit_Weir_measures :
    (∃ (s : State) (m : Manifest) (l : List Manifest) (r : List Manifest) (de : Nat) (fixed : Nat), s.pointer.closed = true ∧ s.pointer.copies ≠ 0 ∧ (s.pointer.shutdown = .vaultedComplete ∨ s.pointer.shutdown = .vaultedShort) ∧ s.spill.manifests = l ++ m :: r ∧ m.seq = s.pointer.manifestSeq ∧ (∀ x ∈ l, x.seq ≠ s.pointer.manifestSeq) ∧ m.measValid = true ∧ m.valid = true ∧ m.eStart = m.eEnd + de ∧ m.eCommit = m.eClose + de + fixed ∧ 8 * GiB ≤ m.unitsDrained * 4096 ∧ s.reg Reg.E_BYTE_BASE * (m.unitsDrained * 4096) ≤ 2 * (de * GiB) ∧ de * GiB ≤ 2 * s.reg Reg.E_BYTE_BASE * (m.unitsDrained * 4096) ∧ s.reg Reg.E_FIXED_BASE ≤ 2 * fixed ∧ fixed ≤ 2 * s.reg Reg.E_FIXED_BASE ∧ fixed < 2 ^ paramWidth Reg.E_FIXED_MEAS ∧ ceilDiv (de * GiB) (m.unitsDrained * 4096) < 2 ^ paramWidth Reg.E_BYTE_MEAS ∧ m.lElig < 2 ^ paramWidth Reg.L_MEAS ∧ m.tMed < 2 ^ paramWidth Reg.T_MEAS)
    ∧ (∃ (s : State) (m : Manifest) (l : List Manifest) (r : List Manifest), s.pointer.closed = true ∧ s.spill.manifests = l ++ m :: r ∧ m.seq = s.pointer.manifestSeq ∧ (∀ x ∈ l, x.seq ≠ s.pointer.manifestSeq) ∧ m.unitsDrained * 4096 < 8 * GiB)
    ∧ (∃ (s : State) (m : Manifest) (l : List Manifest) (r : List Manifest) (de : Nat) (fixed : Nat), s.pointer.closed = true ∧ s.spill.manifests = l ++ m :: r ∧ m.seq = s.pointer.manifestSeq ∧ (∀ x ∈ l, x.seq ≠ s.pointer.manifestSeq) ∧ m.eStart = m.eEnd + de ∧ m.eCommit = m.eClose + de + fixed ∧ (2 * (de * GiB) < s.reg Reg.E_BYTE_BASE * (m.unitsDrained * 4096) ∨ 2 * s.reg Reg.E_BYTE_BASE * (m.unitsDrained * 4096) < de * GiB ∨ 2 * fixed < s.reg Reg.E_FIXED_BASE ∨ 2 * s.reg Reg.E_FIXED_BASE < fixed)) :=
  ⟨⟨{ onl with nv := { onl.nv with a := [{ nseq := 1, data := .pointer { manifestSeq := 7, shutdown := .vaultedComplete, copies := 2 } }] }, spill := { onl.spill with manifests := [({ seq := 7, eStart := 200000, eEnd := 150000, eCommit := 260000, eClose := 170000, unitsDrained := 5242880, lElig := 128, tMed := 400 })] } }, { seq := 7, eStart := 200000, eEnd := 150000, eCommit := 260000, eClose := 170000, unitsDrained := 5242880, lElig := 128, tMed := 400 }, [], [], 50000, 40000, by decide +kernel⟩,
   ⟨{ onl with nv := { onl.nv with a := [{ nseq := 1, data := .pointer { manifestSeq := 7, shutdown := .vaultedComplete, copies := 2 } }] }, spill := { onl.spill with manifests := [({ seq := 7 })] } }, { seq := 7 }, [], [], by decide +kernel⟩,
   ⟨{ onl with nv := { onl.nv with a := [{ nseq := 1, data := .pointer { manifestSeq := 7, shutdown := .vaultedComplete, copies := 2 } }] }, spill := { onl.spill with manifests := [({ seq := 7, eStart := 200000, eEnd := 199000, eCommit := 211000, eClose := 170000, unitsDrained := 5242880, lElig := 128, tMed := 400 })] } }, { seq := 7, eStart := 200000, eEnd := 199000, eCommit := 211000, eClose := 170000, unitsDrained := 5242880, lElig := 128, tMed := 400 }, [], [], 1000, 40000, by decide +kernel⟩⟩

/-- Operands and states that meet the hypotheses of each clause of `Obligations.Rill_captures`. -/
theorem wit_Rill_captures :
    (∃ (s : State) (seg : Nat) (e : DstEntry) (spans : List (Nat × Nat × Nat)) (r : State), (s.rill.state = .running ∨ s.rill.state = .flushing) ∧ s.basin.frozen = false ∧ s.rill.reformat = none ∧ s.nextCandidate = some seg ∧ s.basin.entry seg = some e ∧ e.state = .dirty ∧ s.reg Reg.RILL_LARGE_MIN ≤ pages e.d ∧ s.captureDue = true ∧ s.rateLeaves 512 = true ∧ s.reg Reg.WRITE_SEQ + 1 < 0xFFFF00000000 ∧ s.begin.place .l 512 = some (spans, r))
    ∧ (∃ (s : State) (seg : Nat) (e : DstEntry) (slots : List (Nat × Nat × Nat)) (spans : List (Nat × Nat × Nat)) (r : State), (s.rill.state = .running ∨ s.rill.state = .flushing) ∧ s.basin.frozen = false ∧ s.rill.reformat = none ∧ s.nextCandidate = some seg ∧ s.basin.entry seg = some e ∧ e.state = .dirty ∧ pages e.d < s.reg Reg.RILL_LARGE_MIN ∧ s.rill.fineCount seg + (s.rill.newPages seg e.d).length ≤ s.reg Reg.RILL_FOLD_FINE ∧ s.reserveSlots seg (s.rill.newPages seg e.d) = some slots ∧ s.reg Reg.WRITE_SEQ + 1 < 0xFFFF00000000 ∧ s.captureDue = true ∧ s.rateLeaves (pages e.d) = true ∧ s.begin.place .f (pages e.d) = some (spans, r))
    ∧ (∃ (s : State), (s.nextCandidate = none ∨ s.captureDue = false))
    ∧ (∃ (n : Nat) (w : Wheel) (s : State), s.seq.coreUp = true ∧ s.whl.wheel n = some w ∧ w.issued = true ∧ w.state = .open_ ∧ w.stream ≠ .v)
    ∧ (∃ (n : Nat) (w : Wheel) (s : State), (s.rill.state = .running ∨ s.rill.state = .flushing ∨ s.rill.state = .held) ∧ s.whl.wheel n = some w ∧ w.issued = false ∧ w.state = .open_ ∧ w.stream ≠ .v) :=
  ⟨⟨dirt (BitVec.allOnes 512), 32768, { d := BitVec.allOnes 512, age := 200 }, ((State.place (State.begin (dirt (BitVec.allOnes 512))) .l 512).getD ([], wl)).1, ((State.place (State.begin (dirt (BitVec.allOnes 512))) .l 512).getD ([], wl)).2, by decide +kernel⟩,
   ⟨dirt 0b1001, 32768, { d := 0b1001, age := 200 }, (State.reserveSlots (dirt 0b1001) 32768 (Rill.newPages (State.rill (dirt 0b1001)) 32768 0b1001)).getD [], ((State.place (State.begin (dirt 0b1001)) .f 2).getD ([], wl)).1, ((State.place (State.begin (dirt 0b1001)) .f 2).getD ([], wl)).2, by decide +kernel⟩,
   ⟨wl, by decide +kernel⟩,
   ⟨0, { stream := .l, filled := 224, units := 224, issued := true }, { wl with whl := { wl.whl with table := [(0, ({ stream := .l, filled := 224, units := 224, issued := true }))] } }, by decide +kernel⟩,
   ⟨1536, (openAt 3 .f false).2, wl, by decide +kernel⟩⟩

/-- Operands and states that meet the hypotheses of each clause of `Obligations.Rill_relocations`. -/
theorem wit_Rill_relocations :
    (∃ (c : Instr), (c = .fineMapMerge ∨ c = .migration ∨ c = .garbageCollection))
    ∧ (∃ (s : State) (u : State) (g : Nat) (spans : List (Nat × Nat × Nat)) (r : State), u = s.begin.rillGates ∧ u.relocates = true ∧ u.rill.merging = true ∧ u.nextMerge = some g ∧ State.placeWait .g 512 512 u [] = some (spans, r))
    ∧ (∃ (s : State) (q : Reloc) (l : Loc), s.rill.state ≠ .down ∧ s.rill.state ≠ .loading ∧ s.rill.reloading = false ∧ s.rill.relocs.find? (fun x => x.waits.isEmpty) = some q ∧ q.kind = .merge ∧ q.copy.seg = q.seg ∧ q.copy.locOf 0 = some l)
    ∧ (∃ (s : State), s.rill.state ≠ .down ∧ s.rill.state ≠ .loading ∧ s.rill.reloading = false ∧ (∀ q ∈ s.rill.relocs, q.waits ≠ []))
    ∧ (∃ (p : Bool) (s : State) (spans : List (Nat × Nat × Nat)) (r : State), s.rill.state = .running ∧ s.rill.reloading = false ∧ s.rill.reformat = none ∧ (p = true ∨ s.reg Reg.CKPT_BYTES * MiB ≤ s.rill.mapped) ∧ State.placeWait .c s.ckptUnits s.ckptUnits s.begin [] = some (spans, r) ∧ (∀ c ∈ s.rill.ckpts, c.seq ≤ s.reg Reg.CKPT_SEQ) ∧ s.reg Reg.CKPT_SEQ + 1 < 2 ^ 48)
    ∧ (∃ (p : Bool) (s : State), s.rill.state = .running ∧ s.rill.reloading = false ∧ s.rill.reformat = none ∧ ((p = false ∧ s.rill.mapped < s.reg Reg.CKPT_BYTES * MiB) ∨ State.placeWait .c s.ckptUnits s.ckptUnits s.begin [] = none))
    ∧ (∃ (s : State), s.rill.state ≠ .down ∧ s.rill.state ≠ .loading ∧ s.rill.reloading = false ∧ s.seq.coreUp = true)
    ∧ (∃ (s : State), s.rill.state ≠ .down ∧ s.rill.state ≠ .loading ∧ s.rill.reloading = true)
    ∧ (∃ (badC : List Nat) (s : State) (f : Ckpt), s.rill.state = .loading ∧ s.whl.state = .serving ∧ s.res.state = .running ∧ s.rill.ckpts = [f] ∧ f.full = true ∧ f.epoch = s.reg Reg.FORMAT_EPOCH ∧ f.seq ∉ badC ∧ s.rill.runs = [] ∧ s.spill.manifests = [] ∧ s.reg Reg.SHUTDOWN_RECORD = Shut.clean.code ∧ f.seq < 2 ^ 48 ∧ f.writeSeq + 1 < 0xFFFF00000000)
    ∧ (∃ (s : State), s.rill.state = .loading ∧ s.whl.state = .serving ∧ s.res.state = .running ∧ s.rill.ckpts = [] ∧ s.rill.runs = [] ∧ s.seq.coreUp = true) :=
  ⟨⟨.migration, by decide +kernel⟩,
   ⟨mrg, State.rillGates (State.begin (mrg)), 32768, ((State.placeWait .g 512 512 (State.rillGates (State.begin (mrg))) []).getD ([], wl)).1, ((State.placeWait .g 512 512 (State.rillGates (State.begin (mrg))) []).getD ([], wl)).2, by decide +kernel⟩,
   ⟨{ wl with rill := { wl.rill with relocs := [({ kind := .merge, seg := 32768, copy := { seq := 50, seg := 32768, kind := .large, pages := BitVec.allOnes 512, spans := [(3072, 0, 512)], reloc := true }, src := [(9, { wheel := 1536, unit := 3 })], waits := [] })], fine := [(32768 * 512 + 9, { loc := { wheel := 1536, unit := 3 }, bucket := 1, probe := 0 })], runs := [{ seq := 40, seg := 32768, kind := .fine, pages := 1 <<< 9, spans := [(1536, 3, 1)] }] } }, { kind := .merge, seg := 32768, copy := { seq := 50, seg := 32768, kind := .large, pages := BitVec.allOnes 512, spans := [(3072, 0, 512)], reloc := true }, src := [(9, { wheel := 1536, unit := 3 })], waits := [] }, { wheel := 3072, unit := 0 }, by decide +kernel⟩,
   ⟨{ wl with rill := { wl.rill with relocs := [{ kind := .merge, seg := 32768, copy := { seq := 50, seg := 32768, kind := .large, pages := BitVec.allOnes 512, spans := [(3072, 0, 512)], reloc := true }, src := [], waits := [3072] }] } }, by decide +kernel⟩,
   ⟨true, wl, ((State.placeWait .c (State.ckptUnits (wl)) (State.ckptUnits (wl)) (State.begin (wl)) []).getD ([], wl)).1, ((State.placeWait .c (State.ckptUnits (wl)) (State.ckptUnits (wl)) (State.begin (wl)) []).getD ([], wl)).2, by decide +kernel⟩,
   ⟨false, wl, by decide +kernel⟩,
   ⟨wl, by decide +kernel⟩,
   ⟨{ wl with rill := { wl.rill with reloading := true } }, by decide +kernel⟩,
   ⟨[], { wl with dev := .bringup, regs := [(Reg.SHUTDOWN_RECORD, 1)], rill := { state := .loading, ckpts := [({ seq := 3, full := true, base := 3, writeSeq := 90, epoch := 0, cursors := [], large := [(32768, { loc := { wheel := 0, unit := 0 } })], fine := [], heat := [] })] } }, { seq := 3, full := true, base := 3, writeSeq := 90, epoch := 0, cursors := [], large := [(32768, { loc := { wheel := 0, unit := 0 } })], fine := [], heat := [] }, by decide +kernel⟩,
   ⟨{ wl with dev := .bringup, rill := { state := .loading } }, by decide +kernel⟩⟩

/-- Operands and states that meet the hypotheses of each clause of `Obligations.Rill_shutdowns`. -/
theorem wit_Rill_shutdowns :
    (∃ (s : State), (s.rill.state ≠ .flushing ∨ s.basin.dirtyBytes ≠ 0 ∨ s.rill.captures ≠ [] ∨ s.whl.lost ≠ [] ∨ (∃ st, st ≠ Stream.v ∧ s.whl.openWheels st ≠ [])))
    ∧ (∃ (s : State) (k : FlushFor) (o : Option Owed) (spans : List (Nat × Nat × Nat)) (r : State), s.seq.flush = some (k, o) ∧ s.rill.state = .flushing ∧ s.basin.dirtyBytes = 0 ∧ s.rill.captures = [] ∧ s.whl.lost = [] ∧ (∀ st, st ≠ Stream.v → s.whl.openWheels st = []) ∧ s.nv.state = .running ∧ s.nv.downA = false ∧ State.placeWait .c s.ckptUnits s.ckptUnits s.begin [] = some (spans, r) ∧ (∀ c ∈ s.rill.ckpts, c.seq ≤ s.reg Reg.CKPT_SEQ) ∧ s.reg Reg.CKPT_SEQ + 1 < 2 ^ 48 ∧ s.dev = .online)
    ∧ (∃ (p : Pkt) (s : State), Accepted specReformat p s ∧ s.port.committed = false ∧ s.view Reg.FORMAT_OLD_WHEELS = 0 ∧ s.rill.state = .running ∧ s.seq.flush = none)
    ∧ (∃ (p : Pkt) (s : State), Accepted specReformat p s ∧ s.port.committed = true)
    ∧ (∃ (s : State), (s.rill.reformat = none ∨ s.dev ≠ .maintenance))
    ∧ (∃ (s : State) (e : Nat), s.rill.reformat = some e ∧ e < 256 ∧ s.dev = .maintenance ∧ s.mem = [] ∧ s.port.poison = [] ∧ s.basin.repair = [] ∧ s.nv.downA = false ∧ s.nv.state = .running)
    ∧ (∃ (s : State), s.rill.state ≠ .down ∧ s.rill.state ≠ .loading) :=
  ⟨⟨onl, Or.inl (by decide)⟩,
   ⟨{ wl with whl := { wl.whl with table := [] }, rill := { wl.rill with state := .flushing }, seq := { wl.seq with flush := some (.shutdown, none) } }, .shutdown, none, ((State.placeWait .c (State.ckptUnits ({ wl with whl := { wl.whl with table := [] }, rill := { wl.rill with state := .flushing }, seq := { wl.seq with flush := some (.shutdown, none) } })) (State.ckptUnits ({ wl with whl := { wl.whl with table := [] }, rill := { wl.rill with state := .flushing }, seq := { wl.seq with flush := some (.shutdown, none) } })) (State.begin ({ wl with whl := { wl.whl with table := [] }, rill := { wl.rill with state := .flushing }, seq := { wl.seq with flush := some (.shutdown, none) } })) []).getD ([], wl)).1, ((State.placeWait .c (State.ckptUnits ({ wl with whl := { wl.whl with table := [] }, rill := { wl.rill with state := .flushing }, seq := { wl.seq with flush := some (.shutdown, none) } })) (State.ckptUnits ({ wl with whl := { wl.whl with table := [] }, rill := { wl.rill with state := .flushing }, seq := { wl.seq with flush := some (.shutdown, none) } })) (State.begin ({ wl with whl := { wl.whl with table := [] }, rill := { wl.rill with state := .flushing }, seq := { wl.seq with flush := some (.shutdown, none) } })) []).getD ([], wl)).2, by decide +kernel, by decide +kernel, by decide +kernel, by decide +kernel, by decide +kernel, (fun _ _ => rfl), by decide +kernel, by decide +kernel, by decide +kernel, by decide +kernel, by decide +kernel, by decide +kernel⟩,
   ⟨pk 0 0xC230 [], dcd, accepted_of (by decide +kernel), by decide +kernel, by decide +kernel, by decide +kernel, by decide +kernel⟩,
   ⟨pk 0 0xC230 [], onl, accepted_of (by decide +kernel), by decide +kernel⟩,
   ⟨onl, by decide +kernel⟩,
   ⟨{ dcd with dev := .maintenance, rill := { dcd.rill with reformat := some 1 } }, 1, by decide +kernel⟩,
   ⟨wl, by decide +kernel⟩⟩

/-- Operands and states that meet the hypotheses of each clause of `Obligations.Input_supervision`. -/
theorem wit_Input_supervision :
    (∃ (a : Nat) (b : Nat) (s : State), s.spill.failA = false ∧ s.spill.failB = false ∧ s.dev = .online ∧ s.spill.warned = false ∧ s.seq.flush = none ∧ s.spill.state = .armed ∧ min a b < stepUp (s.reg Reg.EW_THRESHOLD))
    ∧ (∃ (a : Nat) (b : Nat) (s : State), s.spill.failA = false ∧ s.spill.failB = false ∧ s.dev = .preSpill ∧ s.spill.warned = true ∧ stepUp (s.reg Reg.RECOVERY_THRESHOLD) ≤ min a b)
    ∧ (∃ (a : Nat) (b : Nat) (s : State), s.spill.failA = false ∧ s.spill.failB = false ∧ s.dev = .online ∧ min a b < stepUp (s.reg Reg.COMMIT_THRESHOLD))
    ∧ (∃ (s : State), s.spill.timer.isSome = true ∧ s.spill.warned = true ∧ s.dev = .preSpill)
    ∧ (∃ (a : Nat) (b : Nat) (s : State), s.seq.aonUp = true ∧ s.spill.failA = false ∧ s.spill.failB = false ∧ 120 < a - b + (b - a))
    ∧ (∃ (s : State), s.seq.aonUp = true ∧ s.spill.failA = false ∧ s.spill.failB = false)
    ∧ (∃ (s : State), s.seq.aonUp = true ∧ s.spill.failA = false ∧ s.spill.failB = true ∧ s.dev = .online)
    ∧ (∃ (a : Nat) (b : Nat) (s : State), s.spill.failA = false ∧ s.spill.failB = false ∧ s.dev = .sealed ∧ s.spill.present = false ∧ stepUp (s.reg Reg.RECOVERY_THRESHOLD) ≤ min a b) :=
  ⟨⟨10000, 10000, onl, by decide +kernel⟩,
   ⟨12000, 12000, { onl with dev := .preSpill, spill := { onl.spill with state := .preSpilling, warned := true, present := false } }, by decide +kernel⟩,
   ⟨9000, 9000, onl, by decide +kernel⟩,
   ⟨{ onl with dev := .preSpill, spill := { onl.spill with state := .preSpilling, warned := true, present := false, timer := some 100200 } }, by decide +kernel⟩,
   ⟨12000, 11000, onl, by decide +kernel⟩,
   ⟨onl, by decide +kernel⟩,
   ⟨{ onl with spill := { onl.spill with failB := true } }, by decide +kernel⟩,
   ⟨12000, 12000, { onl with dev := .sealed, spill := { present := false } }, by decide +kernel⟩⟩

/-- Operands and states that meet the hypotheses of each clause of `Obligations.Vault_drain`. -/
theorem wit_Vault_drain :
    (∃ (s : State) (seg : Nat) (e : DstEntry) (slots : List (Nat × Nat × Nat)) (b : Basin) (u : Run) (s2 : State), s.speculates = true ∧ s.spill.bytes < s.reg Reg.PRESPILL_MAX * MiB ∧ s.begin.specNext = some (seg, e, slots) ∧ s.basin.capture seg e.d true = some b ∧ State.vRun { s.begin with basin := b } seg e.d = some (u, s2))
    ∧ (∃ (s : State), s.spill.state = .undoing)
    ∧ (∃ (v : Vault) (s : State), s.spill.vault = some v ∧ s.spill.state = .window ∧ v.man.powerReturned = false)
    ∧ (∃ (s : State) (v : Vault) (x : Nat × Nat × Nat × BitVec 512 × Bool) (rest : List (Nat × Nat × Nat × BitVec 512 × Bool)) (k : Nat) (h : Nat) (seg : Nat) (need : BitVec 512) (ovf : Bool) (u : Run) (s2 : State), s.spill.vault = some v ∧ s.spill.state = .draining ∧ s.closeoutDue = false ∧ sortBy drainBefore (s.begin.toDrain v) = x :: rest ∧ (s.begin.toDrain v).find? (fun y => y.2.2.1 == x.2.2.1) = some (k, h, seg, need, ovf) ∧ s.begin.vRun seg need = some (u, s2) ∧ s2.spill.vault = some v)
    ∧ (∃ (s : State) (v : Vault), s.spill.vault = some v ∧ s.spill.state = .draining ∧ s.closeoutDue = false ∧ s.begin.toDrain v = [])
    ∧ (∃ (s : State) (v : Vault), s.spill.vault = some v ∧ s.spill.state = .draining ∧ s.closeoutDue = true)
    ∧ (∃ (s : State) (v : Vault) (k : Nat), s.spill.vault = some v ∧ k < s.basin.topSet ∧ s.begin.setClosed k = true ∧ s.spill.state = .draining ∧ (s.begin.toDrain v).all (fun x => x.1 != k) = true ∧ k ∉ v.reported ∧ s.sip.hold.state ≠ .armed)
    ∧ (∃ (s : State) (n : Nat) (c : Nat) (w : Wheel) (b : Band × Nat) (sp : Spoke), s.whl.wheel n = some w ∧ s.whl.bandOf n = some b ∧ b.1.spoke b.2 c = some sp ∧ (s.dev = .preSpill ∨ s.dev = .vaulting) ∧ w.stream = .v ∧ w.state = .open_)
    ∧ (∃ (s : State), s.spill.state = .draining) :=
  ⟨⟨psp, 32768, { d := 0b1001, age := 200 }, ((State.specNext (State.begin psp)).getD (0, {}, [])).2.2, (Basin.capture (State.basin psp) 32768 0b1001 true).getD {}, ((State.vRun { State.begin psp with basin := ((Basin.capture (State.basin psp) 32768 0b1001 true).getD {}) } 32768 0b1001).getD (run0, psp)).1, ((State.vRun { State.begin psp with basin := ((Basin.capture (State.basin psp) 32768 0b1001 true).getD {}) } 32768 0b1001).getD (run0, psp)).2, by decide +kernel⟩,
   ⟨{ wl with spill := { wl.spill with state := .undoing } }, by decide +kernel⟩,
   ⟨{ man := { seq := 3 } }, vlt 3 .window .drain, by decide +kernel⟩,
   ⟨vlt 3 .draining .drain, { man := { seq := 3 } }, (0, 0, 32768, 3, false), [], 0, 0, 32768, 3, false, ((State.vRun (State.begin (vlt 3 .draining .drain)) 32768 3).getD (run0, psp)).1, ((State.vRun (State.begin (vlt 3 .draining .drain)) 32768 3).getD (run0, psp)).2, by decide +kernel, by decide +kernel, by decide +kernel, (by decide +kernel), by decide +kernel, by decide +kernel, by decide +kernel⟩,
   ⟨vlt 0 .draining .drain, { man := { seq := 3 } }, by decide +kernel⟩,
   ⟨{ vlt 3 .draining .drain with seq := { onl.seq with mode := .source }, cist := {} }, { man := { seq := 3 } }, by decide +kernel⟩,
   ⟨{ vlt 0 .draining .drain with basin := { onl.basin with found := dimms8 ++ (List.range 8).map fun ch => dimm ch 1 } }, { man := { seq := 3 } }, 0, by decide +kernel⟩,
   ⟨vlt 0 .draining .drain, 4608, 2, (openAt 9 .v true).2, ((bandAt 9 .v true 512).2, 0), { port := 32, lun := 0, block := 609 }, by decide +kernel⟩,
   ⟨vlt 3 .draining .drain, by decide +kernel⟩⟩

/-- Operands and states that meet the hypotheses of each clause of `Obligations.Vault_close`. -/
theorem wit_Vault_close :
    (∃ (s : State) (v : Vault), s.spill.vault = some v ∧ s.spill.state = .closing ∧ v.step = .metadata)
    ∧ (∃ (s : State) (v : Vault), s.spill.vault = some v ∧ s.spill.state = .closing ∧ v.step = .journal)
    ∧ (∃ (s : State) (v : Vault), s.spill.vault = some v ∧ s.spill.state = .closing ∧ v.step = .manifest ∧ s.mgmt.state = .running)
    ∧ (∃ (s : State) (v : Vault), s.spill.vault = some v ∧ s.spill.state = .closing ∧ v.step = .pointer ∧ s.spill.present = true ∧ v.man.cause ≠ 4 ∧ v.man.cause ≠ 5 ∧ s.sip.hold.state ≠ .armed) :=
  ⟨⟨vlt 3 .closing .metadata, { man := { seq := 3 }, step := .metadata }, by decide +kernel⟩,
   ⟨vlt 3 .closing .journal, { man := { seq := 3 }, step := .journal }, by decide +kernel⟩,
   ⟨vlt 3 .closing .manifest, { man := { seq := 3 }, step := .manifest }, by decide +kernel⟩,
   ⟨vlt 3 .closing .pointer, { man := { seq := 3 }, step := .pointer }, by decide +kernel⟩⟩

/-- Operands and states that meet the hypotheses of each clause of `Obligations.Reserve_upkeep`. -/
theorem wit_Reserve_upkeep :
    (∃ (s : State), s.reg Reg.DAMPED = 1 ∧ s.spill.warned = false)
    ∧ (∃ (s : State), s.seq.coreUp = true ∧ s.mgmt.state = .running ∧ s.dev = .online ∧ (s.cmd.act 5).state = .idle ∧ s.begin.tokenCheck 5 = none ∧ s.mir.state = .standalone ∧ (∀ q ∈ s.cmd.owed, q.cseq ≤ s.cmd.cseq) ∧ (∀ e ∈ s.cmd.journal, e.cseq ≤ s.cmd.cseq))
    ∧ (∃ (s : State) (tMed : Nat), s.spill.state = .rehearsing ∧ s.cmd.rehearse.state = .running ∧ tMed < 2 ^ paramWidth Reg.REHEARSE_T_MED)
    ∧ (∃ (s : State) (n : Nat) (rest : List Nat), s.rill.state = .running ∧ s.spill.released = n :: rest ∧ (s.whl.sets.filter fun p => !p.2).length * (setBytes s.res (s.reg Reg.RESERVE_DATA_SPOKES) / MiB) < s.reg Reg.RESERVE_TARGET ∧ ((s.whl.sets.filter fun p => !p.2).length + 1) * (lanesOf s.res .v (s.spokesOf .v + 2) * (s.spokesOf .v + 2)) ≤ s.res.usable .reserve)
    ∧ (∃ (s : State), s.spill.state = .armed ∧ s.reserveErased < s.reg Reg.RESERVE_TARGET) :=
  ⟨⟨{ onl with regs := [(Reg.DAMPED, 1)] }, by decide +kernel⟩,
   ⟨{ wl with regs := [(Reg.CEILING, 1000), (Reg.ENERGY_MARGIN_AVAIL, 500000)], cmd := { flashBw := 64000 } }, by decide +kernel⟩,
   ⟨{ wl with spill := { wl.spill with state := .rehearsing }, cmd := { rehearse := { state := .running } } }, 420, by decide +kernel⟩,
   ⟨{ wlNone with spill := { wl.spill with released := [4] } }, 4, [], by decide +kernel⟩,
   ⟨wlNone, by decide +kernel⟩⟩

/-- Operands and states that meet the hypotheses of each clause of `Obligations.Siphon_restores`. -/
theorem wit_Siphon_restores :
    (∃ (s : State), s.dev = .kickstand ∧ s.sip.hold.state = .holding)
    ∧ (∃ (s : State), (s.dev ≠ .kickstand ∨ s.sip.hold.state ≠ .holding))
    ∧ (∃ (s : State), s.dev = .sealed ∧ s.spill.present = true)
    ∧ (∃ (s : State), (s.dev ≠ .sealed ∨ s.spill.present = false))
    ∧ (∃ (s : State), s.dev = .sealed)
    ∧ (∃ (s : State), s.dev = .bringup ∧ s.sip.state = .evaluating ∧ s.sip.path = 0 ∧ s.basin.state = .serving ∧ s.rill.state = .running ∧ s.reg Reg.SERVICE_OPEN = 0 ∧ s.seq.lostOpen = false ∧ s.cold = none ∧ s.sip.fromHold = false ∧ s.sip.hold.state = .none ∧ s.pointer.shutdown = .none ∧ s.pointer.sanitizeIncomplete = false)
    ∧ (∃ (s : State), s.dev = .bringup ∧ s.sip.state = .evaluating ∧ s.sip.path = 0 ∧ s.basin.state = .serving ∧ s.rill.state = .running ∧ s.reg Reg.SERVICE_OPEN = 0 ∧ s.seq.lostOpen = false ∧ s.cold = none ∧ s.sip.fromHold = false ∧ s.sip.hold.state = .none ∧ s.pointer.shutdown = .clean ∧ s.restoreRec.activeSeq = 0)
    ∧ (∃ (badA : List Nat) (badB : List Nat) (bm : Bool) (tok : Bool) (s : State) (m : Manifest), s.dev = .bringup ∧ s.sip.state = .evaluating ∧ s.sip.path = 0 ∧ s.basin.state = .serving ∧ s.rill.state = .running ∧ s.reg Reg.SERVICE_OPEN = 0 ∧ s.seq.lostOpen = false ∧ s.cold = none ∧ s.whl.lost = [] ∧ s.pointer.shutdown = .vaultedComplete ∧ s.pointer.closed = true ∧ s.pointer.copies ≠ 0 ∧ s.restoreRec.retiredSeq < s.pointer.manifestSeq ∧ s.readManifest { badA := badA, badB := badB, bitmaps := bm, token := tok } s.pointer.manifestSeq = some (m, false) ∧ m.wheelFirst = s.pointer.wheelFirst ∧ m.wheelLast = s.pointer.wheelLast ∧ m.outcome = .vaultedComplete ∧ m.prevSeq = 0 ∧ s.sip.fromHold = false ∧ s.sip.hold.state = .none)
    ∧ (∃ (badA : List Nat) (badB : List Nat) (bm : Bool) (tok : Bool) (s : State) (m : Manifest), s.dev = .bringup ∧ s.sip.state = .evaluating ∧ s.sip.path = 0 ∧ s.basin.state = .serving ∧ s.rill.state = .running ∧ s.reg Reg.SERVICE_OPEN = 0 ∧ s.seq.lostOpen = false ∧ s.cold = none ∧ s.whl.lost = [] ∧ s.pointer.shutdown = .vaultedComplete ∧ s.pointer.closed = true ∧ s.pointer.copies ≠ 0 ∧ s.restoreRec.retiredSeq < s.pointer.manifestSeq ∧ s.readManifest { badA := badA, badB := badB, bitmaps := bm, token := tok } s.pointer.manifestSeq = some (m, false) ∧ m.wheelFirst = s.pointer.wheelFirst ∧ m.wheelLast = s.pointer.wheelLast ∧ m.outcome = .vaultedComplete ∧ m.prevSeq = 0 ∧ s.sip.fromHold = true ∧ s.holdCheck { badA := badA, badB := badB, bitmaps := bm, token := tok } = none)
    ∧ (∃ (s : State), s.dev = .bringup ∧ s.sip.state = .evaluating ∧ 2 ≤ s.sip.path ∧ s.weir.state = .planning ∧ s.res.state = .running ∧ s.nv.state = .running ∧ s.port.erasing = none ∧ s.mgmt.state = .running)
    ∧ (∃ (e : Nat) (s : State), s.dev = .restoring ∧ s.sip.state = .fetching ∧ e ∈ (s.sip.order.take s.sip.issued).drop s.sip.online ∧ e ∉ s.sip.fetched)
    ∧ (∃ (e : Nat) (s : State), (s.dev ≠ .restoring ∨ s.sip.state ≠ .fetching ∨ e ∉ (s.sip.order.take s.sip.issued).drop s.sip.online ∨ e ∈ s.sip.fetched))
    ∧ (∃ (seg : Nat) (s : State), (s.dev ≠ .restoring ∨ seg ∉ s.sip.settles))
    ∧ (∃ (seg : Nat) (seq : Nat) (u : Run) (l : Loc) (s : State), s.dev = .restoring ∧ seg ∈ s.sip.settles ∧ s.sip.folds.find? (fun f => f.1 == seg) = some (seg, seq, []) ∧ s.rill.runOfSeq seq seg = some u ∧ u.locOf 0 = some l ∧ s.rill.largeSeq seg < seq)
    ∧ (∃ (s : State), s.dev = .restoring ∧ s.sip.state = .settling ∧ s.sip.settles = [])
    ∧ (∃ (s : State), (s.dev ≠ .restoring ∨ s.sip.state ≠ .settling ∨ s.sip.settles ≠ []))
    ∧ (∃ (s : State), s.sip.state = .fetching ∧ s.seq.coreUp = true)
    ∧ (∃ (s : State), s.sip.state ≠ .fetching) :=
  ⟨⟨{ onl with dev := .kickstand, sip := { hold := { state := .holding, token := 5 } } }, by decide +kernel⟩,
   ⟨onl, by decide +kernel⟩,
   ⟨{ onl with dev := .sealed }, by decide +kernel⟩,
   ⟨onl, by decide +kernel⟩,
   ⟨{ onl with dev := .sealed }, by decide +kernel⟩,
   ⟨pth .none false, by decide +kernel⟩,
   ⟨pth .clean false, by decide +kernel⟩,
   ⟨[], [], true, true, pth .vaultedComplete false, man7, by decide +kernel⟩,
   ⟨[], [], true, true, pth .vaultedComplete true, man7, by decide +kernel⟩,
   ⟨{ pth .none false with sip := { state := .evaluating, path := 2 } }, by decide +kernel⟩,
   ⟨1, rst .fetching, by decide +kernel⟩,
   ⟨5, rst .fetching, by decide +kernel⟩,
   ⟨4, rst .settling, by decide +kernel⟩,
   ⟨32768, 50, { seq := 50, seg := 32768, kind := .vault, pages := BitVec.allOnes 512, spans := [(4608, 0, 512)] }, { wheel := 4608, unit := 0 }, { rst .settling with sip := { (rst .settling).sip with settles := [32768], folds := [(32768, 50, [])] }, rill := { wl.rill with runs := [({ seq := 50, seg := 32768, kind := .vault, pages := BitVec.allOnes 512, spans := [(4608, 0, 512)] })] } }, by decide +kernel⟩,
   ⟨rst .settling, by decide +kernel⟩,
   ⟨rst .fetching, by decide +kernel⟩,
   ⟨rst .fetching, by decide +kernel⟩,
   ⟨rst .settling, by decide +kernel⟩⟩

/-- Operands and states that meet the hypotheses of each clause of `Obligations.Reservoir_upkeep`. -/
theorem wit_Reservoir_upkeep :
    (∃ (n : Nat) (c : Nat) (us : Nat) (s : State) (w : Wheel) (b : Band) (row : Nat) (p : Spoke), s.whl.wheel n = some w ∧ s.whl.bandOf n = some (b, row) ∧ b.spoke row c = some p ∧ s.dev ≠ .preSpill ∧ s.dev ≠ .vaulting ∧ s.res.up = true ∧ us ≤ s.reg Reg.SLOW_SPOKE_FACTOR * (if w.slc then s.res.part.tProgSlc else s.res.part.tProgNative))
    ∧ (∃ (n : Nat) (c : Nat) (us : Nat) (s : State) (w : Wheel) (b : Band) (row : Nat) (p : Spoke), s.whl.wheel n = some w ∧ s.whl.bandOf n = some (b, row) ∧ b.spoke row c = some p ∧ s.dev ≠ .preSpill ∧ s.dev ≠ .vaulting ∧ s.res.up = true ∧ s.reg Reg.SLOW_SPOKE_FACTOR * (if w.slc then s.res.part.tProgSlc else s.res.part.tProgNative) < us)
    ∧ (∃ (s : State), s.res.up = true ∧ s.seq.coreUp = true)
    ∧ (∃ (n : Nat) (c : Nat) (s : State) (w : Wheel) (b : Band) (row : Nat) (p : Spoke), s.whl.wheel n = some w ∧ s.whl.bandOf n = some (b, row) ∧ b.spoke row c = some p ∧ w.state = .open_ ∧ w.stream ≠ .v ∧ s.res.up = true ∧ s.seq.coreUp = true ∧ s.reg Reg.BLOCKS_GROWN_BAD + 1 < 2 ^ paramWidth Reg.BLOCKS_GROWN_BAD)
    ∧ (∃ (n : Nat) (s : State) (w : Wheel), s.whl.wheel n = some w ∧ (w.state ≠ .open_ ∨ s.res.up = false))
    ∧ (∃ (s : State), (s.dev ≠ .bringup ∨ s.res.state ≠ .identifying ∨ s.nv.early = false))
    ∧ (∃ (l : List Target) (failed : List Nat) (s : State), s.dev = .bringup ∧ s.res.state = .identifying ∧ s.nv.early = true ∧ s.recordedFlash = none ∧ s.flashOk l failed = true ∧ s.noImage = true)
    ∧ (∃ (l : List Target) (failed : List Nat) (s : State), s.dev = .bringup ∧ s.res.state = .identifying ∧ s.nv.early = true ∧ s.recordedFlash = none ∧ (s.flashOk l failed = false ∨ s.noImage = false) ∧ s.seq.coreUp = true)
    ∧ (∃ (l : List Target) (s : State) (r : List Target), s.dev = .bringup ∧ s.res.state = .identifying ∧ s.nv.early = true ∧ s.recordedFlash = some r ∧ s.flashMissing r l [] = [] ∧ (∀ t ∈ l, ∃ u ∈ r, u.port = t.port) ∧ s.noImage = false)
    ∧ (∃ (n : Nat) (c : Nat) (u : Nat) (s : State) (b : Band) (row : Nat) (p : Spoke), s.res.up = true ∧ u < 16 ∧ s.whl.bandOf n = some (b, row) ∧ b.spoke row c = some p)
    ∧ (∃ (n : Nat) (c : Nat) (u : Nat) (s : State) (w : Wheel) (b : Band) (row : Nat) (p : Spoke), s.res.state = .running ∧ u < 16 ∧ s.whl.bandOf n = some (b, row) ∧ b.spoke row c = some p ∧ s.spill.warned = false ∧ s.whl.wheel n = some w ∧ w.state = .closed ∧ w.badUnits = [] ∧ s.whl.erasedCols s.res n w = [] ∧ s.reg Reg.LDPC_UNREADABLE + 1 < 2 ^ 32 ∧ s.reg Reg.RECON_UNITS + 1 < 2 ^ 32)
    ∧ (∃ (key : Nat) (s : State), (s.res.state ≠ .running ∨ s.scrubbed key = false))
    ∧ (∃ (key : Nat) (rber : Nat) (s : State), s.res.state = .running ∧ s.scrubbed key = true ∧ rber ≤ s.reg Reg.REFRESH_RBER)
    ∧ (∃ (key : Nat) (rber : Nat) (s : State), s.res.state = .running ∧ s.scrubbed key = true ∧ s.reg Reg.REFRESH_RBER < rber ∧ (s.res.blk key).state = .closed ∧ s.vaultBlock key = false)
    ∧ (∃ (s : State), s.res.state = .running)
    ∧ (∃ (key : Nat) (s : State), s.res.up = true ∧ (s.res.blk key).state = .erasing ∧ key ∉ s.res.eraseSuspended)
    ∧ (∃ (key : Nat) (s : State), (s.res.up = false ∨ (s.res.blk key).state ≠ .erasing ∨ key ∈ s.res.eraseSuspended))
    ∧ (∃ (port : Nat) (s : State) (m : Target), s.res.up = true ∧ s.dev ≠ .preSpill ∧ s.dev ≠ .vaulting ∧ s.res.serves port = true ∧ m ∈ s.res.found ∧ m.port / 16 = port / 16 ∧ m.port ≠ port ∧ s.res.serves m.port = true ∧ (∀ x ∈ s.res.misses, x.1 ≠ 8192 + m.port))
    ∧ (∃ (port : Nat) (s : State), (s.dev = .preSpill ∨ s.dev = .vaulting ∨ s.res.serves port = false)) :=
  ⟨⟨0, 2, 1800, wl, (openAt 0 .l false).2, (bandAt 0 .l false 1536).2, 0, { port := 32, lun := 0, block := 600 }, by decide +kernel⟩,
   ⟨0, 2, 90000, wl, (openAt 0 .l false).2, (bandAt 0 .l false 1536).2, 0, { port := 32, lun := 0, block := 600 }, by decide +kernel⟩,
   ⟨clo .closed, by decide +kernel⟩,
   ⟨0, 2, wl, (openAt 0 .l false).2, (bandAt 0 .l false 1536).2, 0, { port := 32, lun := 0, block := 600 }, by decide +kernel⟩,
   ⟨0, clo .closed, closedL, by decide +kernel⟩,
   ⟨wl, by decide +kernel⟩,
   ⟨targets4, [], idn, by decide +kernel⟩,
   ⟨targets, [], idn, by decide +kernel⟩,
   ⟨targets4, { idn with regs := [(Reg.SHUTDOWN_RECORD, 1)], nv := { idn.nv with a := [{ nseq := 1, data := .flashPop targets4 }] } }, targets4, by decide +kernel⟩,
   ⟨0, 0, 5, clo .closed, (bandAt 0 .l false 1536).2, 0, { port := 0, lun := 0, block := 600 }, by decide +kernel⟩,
   ⟨0, 0, 5, clo .closed, closedL, (bandAt 0 .l false 1536).2, 0, { port := 0, lun := 0, block := 600 }, by decide +kernel⟩,
   ⟨600, clo .erased, by decide +kernel⟩,
   ⟨600, 10, clo .closed, by decide +kernel⟩,
   ⟨600, 4000, clo .closed, by decide +kernel⟩,
   ⟨clo .closed, by decide +kernel⟩,
   ⟨600, clo .erasing, by decide +kernel⟩,
   ⟨600, clo .closed, by decide +kernel⟩,
   ⟨32, { wl with res := { wl.res with found := targets4 } }, target 33, by decide +kernel⟩,
   ⟨300, wl, by decide +kernel⟩⟩

/-- Operands and states that meet the hypotheses of each clause of `Obligations.Wheel_upkeep`. -/
theorem wit_Wheel_upkeep :
    (∃ (s : State), s.whl.pending ≠ [] ∧ s.whl.state = .serving ∧ s.res.up = true)
    ∧ (∃ (s : State) (a : Nat) (b : Nat), s.whl.pending ≠ [] ∧ s.whl.state = .serving ∧ s.res.up = true ∧ 4 ≤ a ∧ 4 ≤ b ∧ s.seq.coreUp = true)
    ∧ (∃ (s : State), (s.whl.pending = [] ∨ s.whl.state ≠ .serving ∨ s.res.up = false))
    ∧ (∃ (s : State), s.whl.state = .serving ∧ s.res.state = .running ∧ s.dev = .online)
    ∧ (∃ (s : State) (n : Nat) (w : Wheel), s.whl.state = .recovering ∧ s.res.state = .running ∧ s.whl.wheel n = some w ∧ w.stream ≠ .v)
    ∧ (∃ (s : State) (j : TrueJob) (b : Band) (n : Spoke), s.cmd.true_.state = .running ∧ s.dev = .online ∧ s.whl.state = .serving ∧ s.res.state = .running ∧ s.nextTrue = some j ∧ s.whl.trueQ.filter (fun q => q.base == j.base) = [j] ∧ s.whl.band j.base = some b ∧ b.base = j.base ∧ (b.ended.isSome = true ∨ b.next = b.rows) ∧ s.walked b = false ∧ s.spareFor b j.column = some (n, false) ∧ s.reg Reg.TRUE_DONE + 1 < 2 ^ paramWidth Reg.TRUE_DONE)
    ∧ (∃ (s : State) (j : TrueJob) (b : Band), s.cmd.true_.state = .running ∧ s.dev = .online ∧ s.whl.state = .serving ∧ s.res.state = .running ∧ s.nextTrue = some j ∧ s.whl.trueQ.filter (fun q => q.base == j.base) = [j] ∧ s.whl.band j.base = some b ∧ b.base = j.base ∧ (b.ended.isSome = true ∨ b.next = b.rows) ∧ s.walked b = false ∧ s.spareFor b j.column = none ∧ s.seq.coreUp = true)
    ∧ (∃ (n : Nat) (s : State), (∀ p ∈ s.whl.lost, p.1 ≠ n))
    ∧ (∃ (n : Nat) (g : Nat) (seq : Nat) (u : Run) (l : Loc) (s : State), s.whl.lost = [(n, [g])] ∧ s.sip.folds = [(g, seq, [])] ∧ s.rill.state = .running ∧ s.rill.runOfSeq seq g = some u ∧ u.locOf 0 = some l ∧ s.rill.largeSeq g < seq)
    ∧ (∃ (n : Nat) (s : State) (b : Band) (row : Nat), s.cmd.scrubDeep.state = .running ∧ s.whl.state = .serving ∧ s.res.state = .running ∧ n ∈ s.deepLeft ∧ s.whl.bandOf n = some (b, row))
    ∧ (∃ (n : Nat) (s : State), (s.cmd.scrubDeep.state ≠ .running ∨ n ∉ s.deepLeft))
    ∧ (∃ (s : State), (s.cmd.reshape.state ≠ .running ∨ s.reg Reg.RESHAPE_FROM = 0))
    ∧ (∃ (s : State), s.cmd.reshape.state = .running ∧ s.relocates = true ∧ s.reg Reg.RESHAPE_FROM ≠ 0)
    ∧ (∃ (s : State) (b : ReserveBuild), s.whl.build = some b ∧ s.cmd.reshape.state = .running ∧ s.reg Reg.RESHAPE_FROM = 0 ∧ s.res.state = .running ∧ s.buildFull b = false ∧ s.setBlocks b.d ≤ s.res.usable .pool)
    ∧ (∃ (s : State) (b : ReserveBuild), s.whl.build = some b ∧ s.cmd.reshape.state = .running ∧ s.reg Reg.RESHAPE_FROM = 0 ∧ s.res.state = .running ∧ (s.buildFull b = true ∨ s.res.usable .pool < s.setBlocks b.d))
    ∧ (∃ (s : State) (d : Nat) (n : Nat), s.whl.build = none ∧ s.whl.oldSets = some (d, n) ∧ s.cmd.reshape.state = .running ∧ s.reg Reg.RESHAPE_FROM = 0 ∧ s.res.state = .running)
    ∧ (∃ (s : State) (b : ReserveBuild), s.whl.build = some b ∧ s.cmd.reshape.state = .running ∧ s.buildFull b = true ∧ s.res.reserveReady = true ∧ s.dev = .online ∧ s.spill.state = .armed ∧ s.whl.openWheels .v = [] ∧ b.d < 16)
    ∧ (∃ (torn : Nat) (s : State) (b : ReserveBuild), s.whl.build = some b ∧ (torn = true ∨ s.cmd.reshape.state ≠ .running ∨ s.buildFull b = false ∨ s.res.reserveReady = false ∨ s.dev ≠ .online ∨ s.spill.state ≠ .armed ∨ s.whl.openWheels .v ≠ []))
    ∧ (∃ (v : Nat) (s : State) (w : Wheel), v < 2 ^ 29 ∧ s.seq.coreUp = true ∧ s.whl.wheel v = some w)
    ∧ (∃ (v : Nat) (s : State), v < 2 ^ 29 ∧ s.seq.coreUp = true ∧ s.whl.wheel v = none) :=
  ⟨⟨{ wl with whl := { wl.whl with pending := [{ wheel := 0, type := .open_, stream := .l }] } }, by decide +kernel⟩,
   ⟨{ wl with whl := { wl.whl with pending := [{ wheel := 0, type := .open_, stream := .l }] } }, 4, 5, by decide +kernel⟩,
   ⟨wl, by decide +kernel⟩,
   ⟨{ wl with whl := { wl.whl with journal := [{ jseq := 1, ckptSeq := 0, descs := [{ wheel := 0, type := .open_, stream := .l }], copyB := false }], jseq := 1 } }, by decide +kernel⟩,
   ⟨{ wl with dev := .bringup, whl := { wl.whl with state := .recovering, journal := [{ jseq := 1, ckptSeq := 0, descs := [{ wheel := 0, type := .void, stream := .l }] }] } }, 0, (openAt 0 .l false).2, by decide +kernel⟩,
   ⟨tru, { base := 0, column := 2, slow := false, reason := 0 }, bandE, { port := 32, lun := 0, block := 512 }, by decide +kernel⟩,
   ⟨{ tru with res := { tru.res with found := [] } }, { base := 0, column := 2, slow := false, reason := 0 }, bandE, by decide +kernel⟩,
   ⟨0, wl, by decide +kernel⟩,
   ⟨0, 32768, 50, { seq := 50, seg := 32768, kind := .large, pages := BitVec.allOnes 512, spans := [(0, 0, 512)] }, { wheel := 0, unit := 0 }, { wl with rill := { wl.rill with runs := [({ seq := 50, seg := 32768, kind := .large, pages := BitVec.allOnes 512, spans := [(0, 0, 512)] })] }, sip := { folds := [(32768, 50, [])] }, whl := { wl.whl with lost := [(0, [32768])] } }, by decide +kernel⟩,
   ⟨0, { clo .closed with cmd := { scrubDeep := { state := .running } } }, (bandAt 0 .l false 1536).2, 0, by decide +kernel⟩,
   ⟨0, clo .closed, by decide +kernel⟩,
   ⟨wl, by decide +kernel⟩,
   ⟨{ wl with cmd := { reshape := { state := .running } }, regs := [(Reg.CEILING, 1000), (Reg.RESHAPE_FROM, 12)] }, by decide +kernel⟩,
   ⟨bld 0, { d := 6, sets := 0 }, by decide +kernel⟩,
   ⟨bld 800, { d := 6, sets := 800 }, by decide +kernel⟩,
   ⟨{ bld 0 with whl := { (bld 0).whl with build := none, oldSets := some (16, 3) } }, 16, 3, by decide +kernel⟩,
   ⟨{ bld 800 with whl := { (bld 800).whl with table := [] } }, { d := 6, sets := 800 }, by decide +kernel⟩,
   ⟨0, bld 0, { d := 6, sets := 0 }, by decide +kernel⟩,
   ⟨0, clo .closed, closedL, by decide +kernel⟩,
   ⟨77, wl, by decide +kernel⟩⟩

/-- Operands and states that meet the hypotheses of each clause of `Obligations.Cistern_samples`. -/
theorem wit_Cistern_samples :
    (∃ (x : PortId) (v : Int) (s : State), s.seq.aonUp = true ∧ s.cist.loaded = true ∧ s.dev ≠ .kickstand ∧ -1000 ≤ v ∧ v < 2 * (s.reg Reg.PORT_ABSENT_V : Int) ∧ (s.cist.port x).absentRun < 2)
    ∧ (∃ (x : PortId) (v : Int) (s : State), s.seq.aonUp = true ∧ s.cist.loaded = true ∧ s.dev ≠ .kickstand ∧ -1000 ≤ v ∧ v < 2 * (s.reg Reg.PORT_ABSENT_V : Int) ∧ (s.cist.port x).absentRun = 2 ∧ (s.cist.port x).state ≠ .absent)
    ∧ (∃ (x : PortId) (v : Int) (s : State), s.seq.aonUp = true ∧ s.cist.loaded = true ∧ s.dev ≠ .kickstand ∧ -1000 ≤ v ∧ 2 * (s.reg Reg.PORT_ABSENT_V : Int) ≤ v ∧ (s.cist.port x).state = .absent) :=
  ⟨⟨.a, 100, onl, by decide +kernel⟩,
   ⟨.a, 100, cst { cport with absentRun := 2 }, by decide +kernel⟩,
   ⟨.a, 30000, cst {}, by decide +kernel⟩⟩

/-- Operands and states that meet the hypotheses of each clause of `Obligations.Cistern_discharge`. -/
theorem wit_Cistern_discharge :
    (∃ (x : PortId) (s : State), s.seq.aonUp = true ∧ s.cist.loaded = true ∧ ((s.cist.port x).state = .ready ∨ (s.cist.port x).state = .charging) ∧ (s.cist.port x).learnLoad = false)
    ∧ (∃ (x : PortId) (s : State), (s.cist.port x).discharge = true ∧ (s.cist.port x).learnLoad = false ∧ s.drawsFrom x = false ∧ (s.cist.port x).state = .discharging)
    ∧ (∃ (x : PortId) (s : State), (s.cist.port x).discharge = false ∧ s.pulling x = false ∧ (s.cist.port x).state = .ready ∧ (s.cist.port x).learn = .none ∧ (s.cist.port x).relearnRec = false)
    ∧ (∃ (x : PortId) (s : State) (m : ModTable), (s.cist.port x).state = .charging ∧ (s.cist.port x).learn = .none ∧ s.seq.mode = .charge ∧ (s.cist.port x).table = some m)
    ∧ (∃ (s : State), s.seq.aonUp = true ∧ (∀ x, (s.cist.port x).discharge = false ∧ s.pulling x = false ∧ (s.cist.port x).state ≠ .charging ∧ (s.cist.port x).learn = .none))
    ∧ (∃ (s : State), s.seq.aonUp = true)
    ∧ (∃ (x : PortId) (s : State) (m : ModTable), s.seq.aonUp = true ∧ (s.cist.port x).currentLimit = true ∧ (s.cist.port x).table = some m ∧ (s.cist.port x).v < (m.vEmpty : Int) ∧ (s.cist.port x).enabled = true ∧ s.dev ≠ .kickstand) :=
  ⟨⟨.a, onl, by decide +kernel⟩,
   ⟨.a, cst { cport with state := .discharging, discharge := true, iwake := true }, by decide +kernel⟩,
   ⟨.a, onl, by decide +kernel⟩,
   ⟨.a, cst { cport with state := .charging }, {}, by decide +kernel⟩,
   ⟨onl, by decide +kernel, (fun x => by cases x <;> decide)⟩,
   ⟨onl, by decide +kernel⟩,
   ⟨.a, cst { cport with currentLimit := true, v := 700 }, {}, by decide +kernel⟩⟩

/-- Operands and states that meet the hypotheses of each clause of `Obligations.Cistern_identity`. -/
theorem wit_Cistern_identity :
    (∃ (x : PortId) (d : ModId) (l : Learned) (m : ModTable) (s : State), s.seq.aonUp = true ∧ s.cist.loaded = true ∧ (s.cist.port x).state = .identifying ∧ 0 ≤ (s.cist.port x).v ∧ s.tableFor x (some d) = some m ∧ (s.cist.port x).learned = some l ∧ l.serial ≠ d.serial)
    ∧ (∃ (x : PortId) (d : ModId) (m : ModTable) (s : State), s.seq.aonUp = true ∧ s.cist.loaded = true ∧ (s.cist.port x).state = .identifying ∧ 0 ≤ (s.cist.port x).v ∧ s.tableFor x (some d) = some m ∧ (s.cist.port x).learned = none)
    ∧ (∃ (x : PortId) (m : ModTable) (s : State), s.seq.aonUp = true ∧ s.cist.loaded = true ∧ (s.cist.port x).state = .identifying ∧ 0 ≤ (s.cist.port x).v ∧ s.tableFor x none = some m ∧ (s.cist.port x).inserted = true)
    ∧ (∃ (x : PortId) (s : State), s.seq.aonUp = true ∧ s.cist.loaded = true ∧ (s.cist.port x).state = .identifying ∧ 0 ≤ (s.cist.port x).v ∧ s.tableFor x none = none ∧ (s.cist.port x).inserted = false)
    ∧ (∃ (s : State), s.cist.loaded = false ∧ s.dev = .bringup ∧ s.seq.coreUp = true ∧ s.cist.a.relearnRec = false ∧ s.cist.b.relearnRec = false)
    ∧ (∃ (x : PortId) (l : Learned) (mv : Nat) (s : State), (s.cist.port x).pendingRec = some l ∧ s.cist.lastEw = none ∧ s.inputMv = some mv ∧ s.reg Reg.LEARN_WB_V ≤ mv ∧ s.nv.state = .running ∧ 4 ≤ s.nv.logFree) :=
  ⟨⟨.a, { tableId := 257, serial := 9 }, { qLearn := 80000, serial := 8, idBound := true }, {}, cst { cport with state := .identifying, learned := some { qLearn := 80000, serial := 8, idBound := true } }, by decide +kernel⟩,
   ⟨.a, { tableId := 257, serial := 9 }, {}, cst { cport with state := .identifying, learned := none }, by decide +kernel⟩,
   ⟨.a, {}, cst { cport with state := .identifying }, by decide +kernel⟩,
   ⟨.a, { cst { cport with state := .identifying, inserted := false } with regs := [(Reg.TABLE_SLOT_A, 3)] }, by decide +kernel⟩,
   ⟨{ onl with dev := .bringup, cist := {}, nv := { onl.nv with a := [{ nseq := 1, data := .learned { port := .b, qLearn := 78000 } }] } }, by decide +kernel⟩,
   ⟨.a, { qLearn := 80000 }, 12000, cst { cport with pendingRec := some { qLearn := 80000 } }, by decide +kernel⟩⟩

/-- Operands and states that meet the hypotheses of each clause of `Obligations.Cistern_learns`. -/
theorem wit_Cistern_learns :
    (∃ (x : PortId) (s : State), s.reg Reg.LEARN_PERIOD ≠ 0 ∧ s.seq.coreUp = true ∧ s.mgmt.state = .running ∧ s.learnReady x false = true ∧ (s.cmd.act 1).state = .idle ∧ s.mir.state = .standalone ∧ s.nv.state = .running ∧ 4 ≤ s.nv.logFree ∧ (∀ q ∈ s.cmd.owed, q.cseq ≤ s.cmd.cseq) ∧ (∀ e ∈ s.cmd.journal, e.cseq ≤ s.cmd.cseq))
    ∧ (∃ (s : State), (s.reg Reg.LEARN_PERIOD = 0 ∨ s.dev ≠ .online))
    ∧ (∃ (x : PortId) (p : Pkt) (s : State), Accepted specLearnStart p s ∧ portOfSlot p.slots = some x ∧ s.learnReady x (bit p.flags 1) = true ∧ (s.cmd.act 1).state = .idle ∧ s.mir.state = .standalone ∧ s.nv.state = .running ∧ 4 ≤ s.nv.logFree)
    ∧ (∃ (x : PortId) (s : State), (s.cist.port x).learn = .restFull ∧ (s.cist.port x).state = .learning)
    ∧ (∃ (x : PortId) (m : ModTable) (s : State), (s.cist.port x).learn = .restEnd ∧ (s.cist.port x).table = some m ∧ (9 : Rat) / 10 ≤ (s.cist.port x).s0 - (s.cist.port x).sv ∧ (s.reg Reg.LEARN_ACCEPT_MIN : Rat) / 100 * m.qNom ≤ (s.cist.port x).q / ((s.cist.port x).s0 - (s.cist.port x).sv) ∧ (s.cist.port x).q / ((s.cist.port x).s0 - (s.cist.port x).sv) ≤ (s.reg Reg.LEARN_ACCEPT_MAX : Rat) / 100 * m.qNom ∧ (s.reg Reg.WORN_FRAC : Rat) * m.qNom ≤ (s.cist.port x).q / ((s.cist.port x).s0 - (s.cist.port x).sv) * 100)
    ∧ (∃ (x : PortId) (s : State), (s.cist.port x).state = .ready ∧ (s.cist.port x).relaxed = true ∧ (s.cist.port x).empty = false ∧ (s.cist.port x).learn = .none ∧ (s.cist.port x).check = .none)
    ∧ (∃ (x : PortId) (m : ModTable) (s : State), (s.cist.port x).table = some m ∧ (s.cist.port x).check = .pulse ∧ (s.cist.port x).learn = .none ∧ (s.cist.port x).learnLoad = true ∧ (s.cist.port x).vBefore = none ∧ (s.cist.port x).learned = none)
    ∧ (∃ (x : PortId) (tau : Nat) (l : Learned) (s : State), (s.cist.port x).check = .rebound ∧ (s.cist.port x).learned = some l ∧ s.reg Reg.RELAX_SIG_TOL * l.tauRelax < 100 * (l.tauRelax - tau)) :=
  ⟨⟨.a, onl, by decide +kernel⟩,
   ⟨{ onl with regs := [(Reg.LEARN_PERIOD, 0)] }, by decide +kernel⟩,
   ⟨.a, { pk 0 0xC211 [0] with flags := 2 }, onl, accepted_of (by decide +kernel), by decide +kernel, by decide +kernel, by decide +kernel, by decide +kernel, by decide +kernel, by decide +kernel⟩,
   ⟨.a, cst { cport with state := .learning, learn := .restFull }, by decide +kernel⟩,
   ⟨.a, {}, cst learnt, by decide +kernel⟩,
   ⟨.a, cst { cport with relaxed := true }, by decide +kernel⟩,
   ⟨.a, {}, cst { cport with check := .pulse, learnLoad := true, learned := none, rStep := 3 / 1000 }, by decide +kernel⟩,
   ⟨.a, 10, { qLearn := 80000, tauRelax := 100 }, cst { cport with check := .rebound, learned := some { qLearn := 80000, tauRelax := 100 } }, by decide +kernel⟩⟩

/-- Operands and states that meet the hypotheses of each clause of `Obligations.Cistern_clears`. -/
theorem wit_Cistern_clears :
    (∃ (x : PortId) (p : Pkt) (s : State), Accepted specPackReplaced p s ∧ portOfSlot p.slots = some x ∧ s.nv.state = .running ∧ 4 ≤ s.nv.logFree ∧ s.dev ≠ .online)
    ∧ (∃ (x : PortId) (p : Pkt) (s : State), Accepted specPortClear p s ∧ portOfSlot p.slots = some x ∧ (s.cist.port x).state = .latchedOff) :=
  ⟨⟨.a, pk 2 0xC210 [0], { onl with dev := .bringup }, accepted_of (by decide +kernel), by decide +kernel, by decide +kernel, by decide +kernel, by decide +kernel⟩,
   ⟨.a, pk 2 0xC212 [0], cst { cport with state := .latchedOff }, accepted_of (by decide +kernel), by decide +kernel, by decide +kernel⟩⟩

/-- Operands and states that meet the hypotheses of each clause of `Obligations.Sequencer_steps`. -/
theorem wit_Sequencer_steps :
    (∃ (n : Nat) (s : State), s.seq.aonUp = true ∧ n < 24 ∧ n ∉ s.seq.pg ∧ s.slotKind n ≠ 0)
    ∧ (∃ (s : State) (u : Step), s.seq.step = some u ∧ u.phase = .stable ∧ s.seq.active = .powerUp ∧ u.delay ≠ 0)
    ∧ (∃ (s : State) (u : Step) (l : List Nat) (d : Nat) (rest : List (List Nat × Nat)), s.seq.step = some u ∧ u.phase = .delay ∧ s.seq.active = .powerUp ∧ s.seq.todo = (l, d) :: rest)
    ∧ (∃ (n : Nat) (s : State) (u : Step), s.seq.step = some u ∧ u.phase = .waitPg ∧ n ∈ u.slots ∧ s.seq.state = .rising ∧ n ∉ s.seq.pg ∧ s.dev = .bringup)
    ∧ (∃ (n : Nat) (s : State) (u : Step), n ∈ s.seq.pg ∧ s.seq.step = some u ∧ u.phase = .waitPg ∧ n ∈ u.slots ∧ s.seq.state ≠ .rising ∧ (∃ m ∈ u.slots, m ≠ n ∧ m ∈ s.seq.pg))
    ∧ (∃ (n : Nat) (s : State), n ∈ s.seq.pg ∧ s.seq.step = none ∧ s.sideOf n = none ∧ n ∈ s.seq.running ∧ s.dev ≠ .kickstand ∧ s.slotReaction n = 0)
    ∧ (∃ (n : Nat) (s : State), n ∈ s.seq.pg ∧ s.seq.step = none ∧ s.sideOf n = none ∧ n ∈ s.seq.running ∧ s.dev = .online ∧ s.begin.slotReaction n = 3)
    ∧ (∃ (n : Nat) (s : State), n ∈ s.seq.pg ∧ s.seq.step = none ∧ s.sideOf n = none ∧ n ∈ s.seq.running ∧ s.dev ≠ .kickstand ∧ s.begin.slotReaction n = 1 ∧ s.seq.state ≠ .falling)
    ∧ (∃ (n : Nat) (s : State) (d : SideStep), s.sideOf n = some d ∧ d.off = true)
    ∧ (∃ (s : State), s.seq.retryWaits = true ∧ s.seq.state ≠ .railsOff)
    ∧ (∃ (s : State), s.seq.retryWaits = true ∧ s.seq.state = .railsOff ∧ s.upSteps ≠ [])
    ∧ (∃ (s : State), s.seq.sysResetWaits = true ∧ s.seq.state ≠ .railsOff) :=
  ⟨⟨17, rise { slots := [17] }, by decide +kernel⟩,
   ⟨rise { slots := [16], phase := .stable, delay := 5 }, { slots := [16], phase := .stable, delay := 5 }, by decide +kernel⟩,
   ⟨rise { slots := [16], phase := .delay }, { slots := [16], phase := .delay }, [17, 18], 0, [], by decide +kernel⟩,
   ⟨17, rise { slots := [17] }, { slots := [17] }, by decide +kernel⟩,
   ⟨16, { onl with seq := { onl.seq with state := .falling, active := .powerDown, step := some { slots := [16, 17] }, en := [], pg := [16, 17] } }, { slots := [16, 17] }, by decide +kernel, by decide +kernel, by decide +kernel, by decide +kernel, by decide +kernel, ⟨17, by decide⟩⟩,
   ⟨22, { onl with regs := [(Reg.SLOT_CFG + 176, 3)] }, by decide +kernel⟩,
   ⟨3, onl, by decide +kernel⟩,
   ⟨22, { onl with regs := [(Reg.SLOT_CFG + 176, 3 + 2 ^ 36)] }, by decide +kernel⟩,
   ⟨22, { onl with seq := { onl.seq with en := [], pg := [], side := [{ step := { slots := [22] }, retry := some 22, off := true }] } }, { step := { slots := [22] }, retry := some 22, off := true }, by decide +kernel⟩,
   ⟨{ onl with seq := { onl.seq with retryWaits := true } }, by decide +kernel⟩,
   ⟨{ aon with seq := { aonUp := true, retryWaits := true } }, by decide +kernel⟩,
   ⟨{ onl with seq := { onl.seq with sysResetWaits := true } }, by decide +kernel⟩⟩

/-- Operands and states that meet the hypotheses of each clause of `Obligations.Power_commands`. -/
theorem wit_Power_commands :
    (∃ (p : Pkt) (s : State), AcceptedAon specPowerOn p s ∧ s.seq.state = .railsOff)
    ∧ (∃ (p : Pkt) (s : State) (g : Nat), Accepted specGroupRestart p s ∧ p.slots = [g] ∧ g < 8 ∧ g ∈ s.seq.groupOff)
    ∧ (∃ (p : Pkt) (s : State) (n : Nat), Accepted specRstPulse p s ∧ p.slots = [n] ∧ n < 8 ∧ n ∈ s.outputsOf s.seq.running)
    ∧ (∃ (n : Nat) (s : State), n ∈ s.seq.stretch)
    ∧ (∃ (p : Pkt) (s : State), Accepted specOrderlyShutdown p s ∧ s.rill.state = .running ∧ s.seq.flush = none)
    ∧ (∃ (s : State) (o : Option Owed), s.seq.flush = some (.shutdown, o) ∧ s.rill.state = .flushing)
    ∧ (∃ (s : State), s.seq.lastCounters = 0 ∧ s.seq.countersDirty = true ∧ s.nv.state = .running) :=
  ⟨⟨pk 3 0xC223 [], { aon with dev := .aonOnly }, acceptedAon_of (by decide +kernel), by decide +kernel⟩,
   ⟨pk 2 0xC221 [2], { onl with seq := { onl.seq with groupOff := [2, 5] } }, 2, accepted_of (by decide +kernel), by decide +kernel, by decide +kernel, by decide +kernel⟩,
   ⟨pk 2 0xC222 [0], { onl with seq := { onl.seq with released := [0] } }, 0, accepted_of (by decide +kernel), by decide +kernel, by decide +kernel, by decide +kernel⟩,
   ⟨0, { onl with seq := { onl.seq with stretch := [0] } }, by decide +kernel⟩,
   ⟨pk 0 0xC220 [], onl, accepted_of (by decide +kernel), by decide +kernel, by decide +kernel⟩,
   ⟨{ onl with rill := { state := .flushing }, seq := { onl.seq with flush := some (.shutdown, none) } }, none, by decide +kernel⟩,
   ⟨{ onl with seq := { onl.seq with countersDirty := true } }, by decide +kernel⟩⟩

/-- Operands and states that meet the hypotheses of each clause of `Obligations.Pmbus_and_converter`. -/
theorem wit_Pmbus_and_converter :
    (∃ (s : State) (n : Nat), s.seq.coreUp = true ∧ s.begin.pmSlaves = [n] ∧ (mget {} s.seq.slaves n).used = true)
    ∧ (∃ (s : State) (n : Nat), s.seq.coreUp = true ∧ s.dev = .bringup ∧ s.begin.pmSlaves = [n])
    ∧ (∃ (s : State) (n : Nat), s.seq.coreUp = true ∧ s.begin.pmSlaves = [n])
    ∧ (∃ (s : State) (n : Nat), s.seq.coreUp = true ∧ (mget {} s.seq.slaves n).tries + 1 < 3)
    ∧ (∃ (s : State) (n : Nat), s.seq.coreUp = true ∧ (mget {} s.seq.slaves n).tries = 2)
    ∧ (∃ (s : State), s.seq.coreUp = true)
    ∧ (∃ (s : State) (mv : Nat), s.seq.coreUp = true ∧ s.reg Reg.AVS_ENABLE ≠ 0 ∧ s.seq.avsStopped = false ∧ classO s = true ∧ s.spill.warned = false ∧ s.seq.voutWrite = none ∧ s.reg Reg.VCORE_MIN ≤ mv ∧ mv ≤ s.reg Reg.VCORE_MAX ∧ mv ≠ s.reg Reg.VCORE_NOW ∧ mv ≤ s.reg Reg.VCORE_NOW + s.reg Reg.VCORE_STEP ∧ s.reg Reg.VCORE_NOW ≤ mv + s.reg Reg.VCORE_STEP ∧ s.seq.lastVout = 0 ∧ bit (s.slotCfg (s.reg Reg.VCORE_SLOT)) 11 = true ∧ (mget {} s.seq.slaves s.vcoreSlave).used = true)
    ∧ (∃ (s : State) (mv : Nat), s.seq.coreUp = true ∧ s.seq.lastVout ≠ 0 ∧ mv - s.reg Reg.VCORE_NOW + (s.reg Reg.VCORE_NOW - mv) ≤ 15)
    ∧ (∃ (s : State) (mv : Nat), s.seq.coreUp = true ∧ s.seq.lastVout ≠ 0 ∧ 15 < mv - s.reg Reg.VCORE_NOW + (s.reg Reg.VCORE_NOW - mv))
    ∧ (∃ (s : State), s.seq.aonUp = true ∧ s.seq.convFailed = false)
    ∧ (∃ (s : State), s.seq.aonUp = true)
    ∧ (∃ (s : State), s.seq.standby = true) :=
  ⟨⟨onl, 0, by decide +kernel⟩,
   ⟨{ onl with dev := .bringup }, 0, by decide +kernel⟩,
   ⟨onl, 0, by decide +kernel⟩,
   ⟨onl, 0, by decide +kernel⟩,
   ⟨{ onl with seq := { onl.seq with slaves := [(0, { tries := 2 })] } }, 0, by decide +kernel⟩,
   ⟨onl, by decide +kernel⟩,
   ⟨{ onl with regs := [(Reg.CEILING, 1000), (Reg.AVS_ENABLE, 1)] }, 753, by decide +kernel⟩,
   ⟨{ onl with seq := { onl.seq with lastVout := 5 } }, 752, by decide +kernel⟩,
   ⟨{ onl with seq := { onl.seq with lastVout := 5 } }, 800, by decide +kernel⟩,
   ⟨onl, by decide +kernel⟩,
   ⟨{ onl with seq := { onl.seq with convFailed := true } }, by decide +kernel⟩,
   ⟨{ onl with seq := { onl.seq with standby := true } }, by decide +kernel⟩⟩

/-- Operands and states that meet the hypotheses of each clause of `Obligations.Fault_report`. -/
theorem wit_Fault_report :
    (∃ (src : Nat) (s : State), src < 48 ∧ s.seq.aonUp = true ∧ s.seq.coreUp = true)
    ∧ (∃ (src : Nat) (s : State), s.seq.aonUp = true ∧ s.seq.coreUp = false ∧ aonSource src = true)
    ∧ (∃ (src : Nat) (s : State), (s.seq.aonUp = false ∨ (s.seq.coreUp = false ∧ aonSource src = false))) :=
  ⟨⟨20, onl, by decide +kernel⟩,
   ⟨31, aon, by decide +kernel⟩,
   ⟨20, aon, by decide +kernel⟩⟩

/-- Operands and states that meet the hypotheses of each clause of `Obligations.Event_raised`. -/
theorem wit_Event_raised :
    (∃ (s : State) (n : Nat), eventAssigned n = true ∧ s.seq.coreUp = true)
    ∧ (∃ (s : State) (n : Nat) (m : Nat), eventAssigned n = true ∧ s.seq.coreUp = true ∧ m < 288 ∧ m ≠ n)
    ∧ (∃ (s : State) (n : Nat) (ld : Nat), eventAssigned n = true ∧ s.seq.coreUp = true ∧ evBit s Reg.EV_STATUS n = false ∧ evBit s Reg.EV_MASK n = false ∧ bit (s.reg (Reg.EV_ROUTE + n)) 6 = true ∧ ld ∈ s.lds)
    ∧ (∃ (s : State) (n : Nat), eventAssigned n = true ∧ s.seq.coreUp = true ∧ evBit s Reg.EV_STATUS n = true)
    ∧ (∃ (n : Nat), eventAssigned n = false) :=
  ⟨⟨onl, 20, by decide +kernel⟩,
   ⟨onl, 20, 21, by decide +kernel⟩,
   ⟨onl, 20, 0, by decide +kernel⟩,
   ⟨{ onl with regs := [(Reg.EV_STATUS, 2 ^ 20)] }, 20, by decide +kernel⟩,
   ⟨59, by decide +kernel⟩⟩

/-- Operands and states that meet the hypotheses of each clause of `Obligations.Collector_writes`. -/
theorem wit_Collector_writes :
    (∃ (s : State), s.seq.coreUp = true)
    ∧ (∃ (s : State), s.seq.coreUp = true)
    ∧ (∃ (k : Nat) (s : State), k < 6 ∧ s.seq.coreUp = true)
    ∧ (∃ (v : Nat) (s : State), s.seq.coreUp = true ∧ (s.dev = .online ∨ s.dev = .maintenance) ∧ s.fc.armed = none ∧ valueOk Reg.FI_CTRL v = true ∧ bit v 29 = true)
    ∧ (∃ (s : State), ((s.dev ≠ .online ∧ s.dev ≠ .maintenance) ∨ s.fc.armed ≠ none))
    ∧ (∃ (s : State) (v : Nat), s.fc.armed = some v ∧ s.seq.coreUp = true ∧ s.reg Reg.REC_SEQ ≤ s.rec_.durable + 4096 ∧ s.rec_.queue.length < 1024) :=
  ⟨⟨{ onl with regs := [(Reg.FC_STATUS, 13)] }, by decide +kernel⟩,
   ⟨{ onl with regs := [(Reg.FC_FIRST, 13), (Reg.FC_OVERFLOW, 1)] }, by decide +kernel⟩,
   ⟨2, { onl with regs := [(Reg.EV_STATUS + 2, 13)] }, by decide +kernel⟩,
   ⟨2 ^ 29, onl, by decide +kernel⟩,
   ⟨{ onl with dev := .restoring }, by decide +kernel⟩,
   ⟨{ onl with fc := { armed := some (2 ^ 29) } }, 2 ^ 29, by decide +kernel⟩⟩

/-- Operands and states that meet the hypotheses of each clause of `Obligations.Fault_exit`. -/
theorem wit_Fault_exit :
    (∃ (s : State), s.reg Reg.FC_IN_FAULT = 1 ∧ s.fc.state = .stopped ∧ s.dev ≠ .vaulting ∧ s.dev ≠ .fault ∧ s.recentExits < s.reg Reg.FC_RECOVERY_LIMIT ∧ s.seq.coreUp = true ∧ s.reg Reg.FC_RECOVERIES + 1 < 2 ^ 32)
    ∧ (∃ (s : State), s.reg Reg.FC_IN_FAULT = 1 ∧ s.fc.state = .stopped ∧ s.dev ≠ .vaulting ∧ s.reg Reg.FC_RECOVERY_LIMIT ≤ s.recentExits)
    ∧ (∃ (s : State), s.reg Reg.FC_IN_FAULT = 1 ∧ s.fc.state = .stopped ∧ s.dev = .fault ∧ s.spill.present = false ∧ s.recentExits < s.reg Reg.FC_RECOVERY_LIMIT)
    ∧ (∃ (s : State), s.reg Reg.FC_IN_FAULT = 1 ∧ s.fc.state = .stopped ∧ s.dev = .fault ∧ s.spill.present = true ∧ s.recentExits < s.reg Reg.FC_RECOVERY_LIMIT ∧ s.seq.coreUp = true)
    ∧ (∃ (p : Pkt) (s : State), Accepted specFaultRestart p s ∧ s.dev ≠ .fault ∧ s.dev ≠ .vaulting ∧ s.nv.state = .running ∧ 4 ≤ s.nv.logFree) :=
  ⟨⟨flt .online true, by decide +kernel⟩,
   ⟨{ flt .online true with fc := { state := .stopped, exits := [1, 2, 3] } }, by decide +kernel⟩,
   ⟨flt .fault false, by decide +kernel⟩,
   ⟨flt .fault true, by decide +kernel⟩,
   ⟨pk 0 0xC240 [], flt .online true, accepted_of (by decide +kernel), by decide +kernel, by decide +kernel, by decide +kernel, by decide +kernel⟩⟩

/-- Operands and states that meet the hypotheses of each clause of `Obligations.Recorder_moves`. -/
theorem wit_Recorder_moves :
    (∃ (s : State) (r : Rec) (rest : List Rec), s.rec_.queue = r :: rest ∧ s.recWindow = false ∧ s.nv.state = .running ∧ s.rec_.gap = none ∧ s.rec_.lostNoSeq = 0 ∧ (s.rec_.writes.filter fun u => decide (s.now < u + 1000)).length < s.reg Reg.REC_RATE_MAX)
    ∧ (∃ (s : State) (r : Rec) (rest : List Rec), s.rec_.queue = r :: rest ∧ s.recWindow = false ∧ s.nv.state = .running ∧ s.rec_.gap = none ∧ s.rec_.lostNoSeq = 0 ∧ (s.rec_.writes.filter fun u => decide (s.now < u + 1000)).length < s.reg Reg.REC_RATE_MAX ∧ s.rec_.head.byte + r.size < 512)
    ∧ (∃ (v : Nat) (s : State) (q : Nat), s.seq.coreUp = true ∧ v < 2 ^ 48 ∧ q < 2 ^ 48 ∧ v ≤ q ∧ q ∈ (s.rec_.circ.map (·.2.seq)) ++ s.rec_.pinned.map (·.seq) ∧ (∀ u ∈ (s.rec_.circ.map (·.2.seq)) ++ s.rec_.pinned.map (·.seq), v ≤ u → q ≤ u))
    ∧ (∃ (v : Nat) (s : State), s.seq.coreUp = true ∧ v < 2 ^ 48 ∧ (∀ u ∈ (s.rec_.circ.map (·.2.seq)) ++ s.rec_.pinned.map (·.seq), u < v))
    ∧ (∃ (s : State) (q : Nat), s.seq.coreUp = true ∧ q < 2 ^ 48 ∧ s.reg Reg.REC_SEQ_FOUND < q ∧ q ∈ (s.rec_.circ.map (·.2.seq)) ++ s.rec_.pinned.map (·.seq) ∧ (∀ u ∈ (s.rec_.circ.map (·.2.seq)) ++ s.rec_.pinned.map (·.seq), s.reg Reg.REC_SEQ_FOUND < u → q ≤ u)) :=
  ⟨⟨recd, rec 9, [], by decide +kernel⟩,
   ⟨recd, rec 9, [], by decide +kernel⟩,
   ⟨6, recd, 7, by decide +kernel⟩,
   ⟨8, recd, by decide +kernel⟩,
   ⟨{ recd with regs := [(Reg.REC_SEQ_FOUND, 5)] }, 7, by decide +kernel⟩⟩

/-- Operands and states that meet the hypotheses of each clause of `Obligations.Recorder_read`. -/
theorem wit_Recorder_read :
    (∃ (n : Nat), n < 5)
    ∧ (∃ (p : Pkt) (s : State) (q : Nat), Accepted specEvrecRead p s ∧ p.slots.headD 0 ≤ q ∧ q ∈ (s.rec_.circ.map (·.2.seq)) ++ s.rec_.pinned.map (·.seq) ∧ (∀ u ∈ (s.rec_.circ.map (·.2.seq)) ++ s.rec_.pinned.map (·.seq), p.slots.headD 0 ≤ u → q ≤ u))
    ∧ (∃ (p : Pkt) (s : State), Accepted specEvrecRead p s ∧ (∀ u ∈ (s.rec_.circ.map (·.2.seq)) ++ s.rec_.pinned.map (·.seq), u < p.slots.headD 0))
    ∧ (∃ (p : Pkt) (s : State) (q : Nat), AcceptedAon specEvrecRead p s ∧ p.slots.headD 0 ≤ q ∧ q ∈ s.rec_.pinned.map (·.seq) ∧ (∀ u ∈ s.rec_.pinned.map (·.seq), p.slots.headD 0 ≤ u → q ≤ u))
    ∧ (∃ (p : Pkt) (s : State), AcceptedAon specEvrecRead p s ∧ (∀ u ∈ s.rec_.pinned.map (·.seq), u < p.slots.headD 0)) :=
  ⟨⟨4, by decide +kernel⟩,
   ⟨pk 0 0xC241 [4], recd, 5, accepted_of (by decide +kernel), by decide +kernel, by decide +kernel, by decide +kernel⟩,
   ⟨pk 0 0xC241 [8], recd, accepted_of (by decide +kernel), by decide +kernel⟩,
   ⟨pk 3 0xC241 [2], { aon with rec_ := { pinned := [rec 3] } }, 3, acceptedAon_of (by decide +kernel), by decide +kernel, by decide +kernel, by decide +kernel⟩,
   ⟨pk 3 0xC241 [4], { aon with rec_ := { pinned := [rec 3] } }, acceptedAon_of (by decide +kernel), by decide +kernel⟩⟩

/-- Operands and states that meet the hypotheses of each clause of `Obligations.Event_delivery`. -/
theorem wit_Event_delivery :
    (∃ (s : State), s.seq.coreUp = true ∧ s.port.up = true)
    ∧ (∃ (n : Nat) (k : Nat) (s : State), s.seq.aonUp = true ∧ mget 0 s.fc.alertRecur n = k ∧ k ≠ 0) :=
  ⟨⟨{ onl with port := { onl.port with pf1 := [(0, { msix := { held := [(4, 20), (5, 21)] } })] } }, by decide +kernel⟩,
   ⟨20, 2, { onl with fc := { alertRecur := [(20, 2)] } }, by decide +kernel⟩⟩

/-- Operands and states that meet the hypotheses of each clause of `Obligations.Nv_mounts`. -/
theorem wit_Nv_mounts :
    (∃ (s : State), s.nv.state = .mounting ∧ s.dev = .bringup ∧ s.nv.a = s.nv.b ∧ (∀ r ∈ s.nv.a, r.group = none) ∧ s.nv.failedA = false ∧ s.nv.failedB = false)
    ∧ (∃ (s : State), s.nv.state = .mounting ∧ s.dev = .bringup)
    ∧ (∃ (s : State) (img : CfgImage), s.nv.state = .mounting ∧ s.dev = .bringup ∧ s.mgmt.state ≠ .running ∧ s.nv.a = s.nv.b ∧ (∀ r ∈ s.nv.a, r.group = none) ∧ s.nv.failedA = false ∧ s.nv.failedB = false ∧ s.nv.resync = false ∧ img = (if s.cfgNamed.2 = 0 then s.nv.image0 else s.nv.image1) ∧ s.cfgNamed.1 < 2 ^ 32 ∧ (∀ r ∈ s.nv.a, r.data.type ≠ 0x11)) :=
  ⟨⟨mnt, by decide +kernel⟩,
   ⟨mnt, by decide +kernel⟩,
   ⟨{ mnt with nv := { mnt.nv with early := true } }, {}, by decide +kernel⟩⟩

/-- Operands and states that meet the hypotheses of each clause of `Obligations.Nv_programs`. -/
theorem wit_Nv_programs :
    (∃ (s : State) (u : NvUpdate) (rest : List NvUpdate), s.nv.buf = u :: rest ∧ u.onA = false ∧ u.tries = 0 ∧ s.nv.downA = false ∧ s.nv.downB = false)
    ∧ (∃ (s : State) (u : NvUpdate) (rest : List NvUpdate), s.nv.buf = u :: rest ∧ u.onA = true ∧ u.tries = 0)
    ∧ (∃ (s : State) (u : NvUpdate) (rest : List NvUpdate), s.nv.buf = u :: rest ∧ u.tries < 2)
    ∧ (∃ (s : State) (u : NvUpdate) (rest : List NvUpdate), s.nv.buf = u :: rest ∧ 2 ≤ u.tries ∧ u.onA = false ∧ s.nv.downA = false ∧ s.nv.failedB = false ∧ s.seq.coreUp = true)
    ∧ (∃ (s : State), s.nv.state ≠ .down ∧ s.nv.state ≠ .aonRead ∧ s.nv.failedA = false ∧ s.seq.coreUp = true)
    ∧ (∃ (s : State), s.nv.resync = true) :=
  ⟨⟨nvb { rec_ := nvr }, { rec_ := nvr }, [], by decide +kernel⟩,
   ⟨nvb { rec_ := nvr, onA := true }, { rec_ := nvr, onA := true }, [], by decide +kernel⟩,
   ⟨nvb { rec_ := nvr, tries := 1 }, { rec_ := nvr, tries := 1 }, [], by decide +kernel⟩,
   ⟨nvb { rec_ := nvr, tries := 2 }, { rec_ := nvr, tries := 2 }, [], by decide +kernel⟩,
   ⟨onl, by decide +kernel⟩,
   ⟨{ onl with nv := { onl.nv with resync := true, a := [nvr] } }, by decide +kernel⟩⟩

/-- Operands and states that meet the hypotheses of each clause of `Obligations.Nv_upkeep`. -/
theorem wit_Nv_upkeep :
    (∃ (s : State), s.nv.state = .running ∧ s.nv.erasing = none ∧ 2 ≤ s.nv.vaultFree ∧ s.nv.logFree < s.reg Reg.NV_COMPACT_LOW ∧ s.nv.downA = false)
    ∧ (∃ (s : State) (k : Nat), s.nv.erasing = some (k, false) ∧ s.nv.eraseSuspended = false ∧ s.nv.single = false)
    ∧ (∃ (s : State) (k : Nat), s.nv.erasing = some (k, true) ∧ s.nv.eraseSuspended = false ∧ s.nv.held = [])
    ∧ (∃ (s : State) (r : NvRec), s.nv.state = .running ∧ s.nv.downA = false ∧ s.nv.a.filter (fun q => q.nseq == r.nseq) = [r] ∧ s.nvLive s.nv.a r = true ∧ s.nv.buf = [] ∧ 4 ≤ s.nv.logFree ∧ s.reg Reg.NV_WEAK_REWRITES + 1 < 2 ^ 32)
    ∧ (∃ (s : State), s.nv.state = .running ∧ s.reg Reg.CFG_REWRITE_AT ≤ s.reg Reg.CFG_DELTAS ∧ 4 ≤ s.nv.logFree ∧ s.reg Reg.CFG_GEN + 1 < 2 ^ 32) :=
  ⟨⟨{ onl with nv := { onl.nv with a := [nvr], b := [nvr], logUsed := 40, logFree := 30 } }, by decide +kernel⟩,
   ⟨{ onl with nv := { onl.nv with erasing := some (40, false) } }, 40, by decide +kernel⟩,
   ⟨{ onl with nv := { onl.nv with erasing := some (40, true) } }, 40, by decide +kernel⟩,
   ⟨{ onl with nv := { onl.nv with a := [nvr], b := [nvr] } }, nvr, by decide +kernel⟩,
   ⟨{ onl with regs := [(Reg.CFG_DELTAS, 64), (Reg.WEIR_MARGIN, 40)] }, by decide +kernel⟩⟩

/-- Operands and states that meet the hypotheses of each clause of `Obligations.Packet_rules`. -/
theorem wit_Packet_rules :
    (∃ (s : State) (p : Pkt), s.reaches p.transport = false)
    ∧ (∃ (s : State) (p : Pkt), s.reaches p.transport = true ∧ p.transport < 2 ∧ (p.short = true ∨ p.carried ≠ p.length))
    ∧ (∃ (s : State) (p : Pkt), s.reaches p.transport = true ∧ 2 ≤ p.transport ∧ p.transport < 5 ∧ p.short = false ∧ (p.length % 8 ≠ 0 ∨ 4088 < p.length ∨ p.carried ≠ p.length))
    ∧ (∃ (s : State) (v : VSpec) (p : Pkt), s.reaches p.transport = true ∧ p.transport < 5 ∧ p.short = false ∧ p.carried = p.length ∧ (p.transport < 2 → p.mailbox = v.op) ∧ p.length % 8 = 0 ∧ p.length ≤ 4088 ∧ p.transport ∉ v.transports)
    ∧ (∃ (s : State) (v : VSpec) (p : Pkt) (q : Owed), s.reaches p.transport = true ∧ p.transport < 5 ∧ p.short = false ∧ p.carried = p.length ∧ (p.transport < 2 → p.mailbox = v.op) ∧ p.length % 8 = 0 ∧ p.length ≤ 4088 ∧ p.transport ∈ v.transports ∧ s.aonServes = false ∧ v.status = false ∧ q ∈ s.cmd.owed ∧ q.origin = (pktOwed p v.op 0).origin ∧ q.opcode ≠ 0xC313)
    ∧ (∃ (s : State) (v : VSpec) (p : Pkt) (e : JEntry), s.reaches p.transport = true ∧ p.transport < 5 ∧ p.short = false ∧ p.carried = p.length ∧ (p.transport < 2 → p.mailbox = v.op) ∧ p.length % 8 = 0 ∧ p.length ≤ 4088 ∧ p.transport ∈ v.transports ∧ s.aonServes = false ∧ (∀ q ∈ s.cmd.owed, q.origin ≠ (pktOwed p v.op 0).origin) ∧ v.journal = true ∧ bit p.flags 0 = true ∧ s.cmd.replay p v.op = some e)
    ∧ (∃ (s : State) (v : VSpec) (p : Pkt), s.reaches p.transport = true ∧ p.transport < 5 ∧ p.short = false ∧ p.carried = p.length ∧ (p.transport < 2 → p.mailbox = v.op) ∧ p.length % 8 = 0 ∧ p.length ≤ 4088 ∧ p.transport ∈ v.transports ∧ s.aonServes = false ∧ (∀ q ∈ s.cmd.owed, q.origin ≠ (pktOwed p v.op 0).origin ∧ q.cseq ≤ s.cmd.cseq) ∧ (∀ e ∈ s.cmd.journal, e.cseq ≤ s.cmd.cseq) ∧ v.journal = true ∧ v.inGroup = false ∧ bit p.flags 0 = false ∧ (v.ok s = false ∨ pktOk p v = false) ∧ v.persist s p = false)
    ∧ (∃ (v : VSpec) (p : Pkt) (s : State) (body : Owed → State → Done), Accepted v p s ∧ v.journal = true ∧ v.inGroup = false ∧ (body (pktOwed p v.op (s.cmd.cseq + 1)) ((s.journalAdd (s.entryOf p v.op (v.persist s p))).mirror (s.cmd.cseq + 1))).later = false) :=
  ⟨⟨{}, pk 3 0xC010 [40], by decide +kernel⟩,
   ⟨onl, { pk 0 0xC010 [40] with carried := 4 }, by decide +kernel⟩,
   ⟨onl, { pk 2 0xC010 [40] with carried := 4 }, by decide +kernel⟩,
   ⟨onl, specPowerOn, pk 4 0xC223 [], by decide +kernel⟩,
   ⟨{ onl with cmd := { owed := [({ origin := { transport := 2, ld := 0 }, fm := false, tag := 3, opcode := 0xC220, cseq := 4 })], cseq := 4 } }, specLearnStart, pk 2 0xC211 [0], { origin := { transport := 2, ld := 0 }, fm := false, tag := 3, opcode := 0xC220, cseq := 4 }, by decide +kernel⟩,
   ⟨{ onl with cmd := { cseq := 6, journal := [({ cseq := 6, transport := 2, ld := 0, fm := false, std := false, state := 4, persist := true, opcode := 0xC011, tag := 10, digest := digestOf [40, 1], status := 0, detail := 0, evDone := 0, flags := 0 })] } }, specParamSet, { pk 2 0xC011 [40, 1] with tag := 10, flags := 1 }, { cseq := 6, transport := 2, ld := 0, fm := false, std := false, state := 4, persist := true, opcode := 0xC011, tag := 10, digest := digestOf [40, 1], status := 0, detail := 0, evDone := 0, flags := 0 }, by decide +kernel⟩,
   ⟨jnl, specPowerOn, pk 2 0xC223 [], by decide +kernel⟩,
   ⟨specPortClear, pk 2 0xC212 [0], jnl, noBody, accepted_of (by decide +kernel), by decide +kernel, by decide +kernel, by decide +kernel⟩⟩

/-- Operands and states that meet the hypotheses of each clause of `Obligations.Identity_reads`. -/
theorem wit_Identity_reads :
    (∃ (p : Pkt) (s : State), Accepted (specStatus 0xC000 0) p s)
    ∧ (∃ (p : Pkt) (s : State), Accepted (specStatus 0xC001 0) p s)
    ∧ (∃ (p : Pkt) (s : State), AcceptedAon (specStatus 0xC000 0) p s ∧ s.seq.coreUp = false)
    ∧ (∃ (p : Pkt) (s : State), AcceptedAon (specStatus 0xC001 0) p s ∧ s.seq.coreUp = false) :=
  ⟨⟨pk 0 0xC000 [], onl, accepted_of (by decide +kernel)⟩,
   ⟨pk 2 0xC001 [], onl, accepted_of (by decide +kernel)⟩,
   ⟨pk 3 0xC000 [], aon, acceptedAon_of (by decide +kernel), by decide +kernel⟩,
   ⟨pk 3 0xC001 [], aon, acceptedAon_of (by decide +kernel), by decide +kernel⟩⟩

/-- Operands and states that meet the hypotheses of each clause of `Obligations.Parameter_read`. -/
theorem wit_Parameter_read :
    (∃ (p : Pkt) (s : State), Accepted specParamGet p s ∧ (∀ id ∈ p.slots, id < 0x3200 ∧ (rowOf id).isSome = true ∧ accessOf id ≠ some .rc ∧ accessOf id ≠ some .wo))
    ∧ (∃ (p : Pkt) (s : State) (id : Nat), Accepted specParamGet p s ∧ p.slots = [id] ∧ id < 0x3200 ∧ accessOf id = some .rc ∧ counterReg id = false)
    ∧ (∃ (p : Pkt) (s : State) (id : Nat), Accepted specParamGet p s ∧ p.slots = [id] ∧ id < 0x3200 ∧ accessOf id = some .wo)
    ∧ (∃ (p : Pkt) (s : State) (id : Nat), Accepted specParamGet p s ∧ p.slots = [id] ∧ id < 65536 ∧ (rowOf id = none ∨ 0x3200 ≤ id))
    ∧ (∃ (p : Pkt) (s : State) (id : Nat), AcceptedAon specParamGet p s ∧ p.slots = [id] ∧ id < 0x3200 ∧ (rowOf id).isSome = true ∧ aonHeld id = false) :=
  ⟨⟨pk 0 0xC010 [40, 2065], onl, accepted_of (by decide +kernel), by decide +kernel⟩,
   ⟨pk 0 0xC010 [1044], { onl with regs := [(1044, 6)] }, 1044, accepted_of (by decide +kernel), by decide +kernel, by decide +kernel, by decide +kernel, by decide +kernel⟩,
   ⟨pk 0 0xC010 [10757], onl, 10757, accepted_of (by decide +kernel), by decide +kernel, by decide +kernel, by decide +kernel⟩,
   ⟨pk 0 0xC010 [65000], onl, 65000, accepted_of (by decide +kernel), by decide +kernel, by decide +kernel, by decide +kernel⟩,
   ⟨pk 3 0xC010 [2065], aon, 2065, acceptedAon_of (by decide +kernel), by decide +kernel, by decide +kernel, by decide +kernel, by decide +kernel⟩⟩

/-- Operands and states that meet the hypotheses of each clause of `Obligations.Commit_checks`. -/
theorem wit_Commit_checks :
    (∃ (es : List (Nat × Nat)) (r : Nat × (Nat → Bool) × (State → Bool)), r ∈ groupRules ∧ (∃ e ∈ es, r.2.1 e.1 = true)) :=
  ⟨[(2824, 70)], (groupRules.getD 2 (0, fun _ => false, fun _ => true)), (by simp [groupRules]), ⟨(2824, 70), by decide, by decide⟩⟩

/-- Operands and states that meet the hypotheses of each clause of `Obligations.Parameter_writes`. -/
theorem wit_Parameter_writes :
    (∃ (p : Pkt) (s : State) (id : Nat) (v : Nat), Accepted specParamSet p s ∧ p.transport < 5 ∧ p.slots = [id, v] ∧ persistedId id = true ∧ s.checkEntries [(id, v)] = none ∧ s.reg Reg.PARAM_GEN + 1 < 2 ^ paramWidth Reg.PARAM_GEN ∧ (flag s Reg.CFG_STATUS 0 = true ∨ slotCounter id = true → 4 ≤ s.nv.logFree))
    ∧ (∃ (p : Pkt) (s : State) (id : Nat) (v : Nat) (st : Nat) (bad : Nat), Accepted specParamSet p s ∧ p.transport < 5 ∧ p.slots = [id, v] ∧ s.checkEntries [(id, v)] = some (st, bad))
    ∧ (∃ (p : Pkt) (s : State) (es : List (Nat × Nat)), Accepted specParamCommit p s ∧ s.stageOf (pktOwed p 0xC013 0).origin = es ∧ s.checkEntries es = none ∧ flag s Reg.CFG_STATUS 0 = false)
    ∧ (∃ (p : Pkt) (s : State) (es : List (Nat × Nat)) (st : Nat) (bad : Nat), Accepted specParamCommit p s ∧ s.stageOf (pktOwed p 0xC013 0).origin = es ∧ s.checkEntries es = some (st, bad))
    ∧ (∃ (p : Pkt) (s : State), Accepted specParamStage p s ∧ stageRefuses (s.stageOf (pktOwed p 0xC012 0).origin) (pairsOf p.slots) = none)
    ∧ (∃ (p : Pkt) (s : State), Accepted specParamDiscard p s)
    ∧ (∃ (p : Pkt) (s : State), Accepted specParamStageRead p s) :=
  ⟨⟨pk 0 0xC011 [2065, 25], onl, 2065, 25, accepted_of (by decide +kernel), by decide +kernel, by decide +kernel, by decide +kernel, by decide +kernel, by decide +kernel, by decide +kernel⟩,
   ⟨pk 0 0xC011 [2824, 99], onl, 2824, 99, 3, 2824, accepted_of (by decide +kernel), by decide +kernel, by decide +kernel, by decide +kernel⟩,
   ⟨pk 0 0xC013 [], { onl with cmd := { stages := [(({ transport := 0, ld := 0 } : Origin).key, ([(2065, 25), (2824, 70)]))] } }, [(2065, 25), (2824, 70)], accepted_of (by decide +kernel), by decide +kernel, by decide +kernel, by decide +kernel⟩,
   ⟨pk 0 0xC013 [], { onl with cmd := { stages := [(({ transport := 0, ld := 0 } : Origin).key, ([(2065, 25), (2824, 99)]))] } }, [(2065, 25), (2824, 99)], 3, 2824, accepted_of (by decide +kernel), by decide +kernel, by decide +kernel⟩,
   ⟨pk 0 0xC012 [2065, 25], onl, accepted_of (by decide +kernel), by decide +kernel⟩,
   ⟨pk 0 0xC014 [], onl, accepted_of (by decide +kernel)⟩,
   ⟨pk 0 0xC015 [], onl, accepted_of (by decide +kernel)⟩⟩

/-- Operands and states that meet the hypotheses of each clause of `Obligations.Journal_reads`. -/
theorem wit_Journal_reads :
    (∃ (p : Pkt) (s : State) (c : Nat) (n : Nat) (e : JEntry) (l : List JEntry), Accepted (specStatus 0xC020 2) p s ∧ p.slots = [c, n] ∧ 1 ≤ n ∧ n ≤ 127 ∧ (s.cmd.journal.filter fun x => decide (c ≤ x.cseq)).take n = e :: l)
    ∧ (∃ (p : Pkt) (s : State) (c : Nat) (n : Nat), Accepted (specStatus 0xC020 2) p s ∧ p.slots = [c, n] ∧ 1 ≤ n ∧ n ≤ 127 ∧ (∀ x ∈ s.cmd.journal, x.cseq < c))
    ∧ (∃ (p : Pkt) (s : State) (c : Nat) (n : Nat), Accepted (specStatus 0xC020 2) p s ∧ p.slots = [c, n] ∧ (n = 0 ∨ 127 < n))
    ∧ (∃ (p : Pkt) (s : State) (c : Nat) (n : Nat), AcceptedAon (specStatus 0xC020 2) p s ∧ s.seq.coreUp = false ∧ p.slots = [c, n] ∧ 1 ≤ n ∧ n ≤ 127)
    ∧ (∃ (p : Pkt) (s : State) (w : Nat) (e : JEntry) (l : List JEntry) (m : List JEntry), Accepted (specStatus 0xC021 1) p s ∧ p.slots = [w] ∧ field w 15 7 = 0 ∧ s.cmd.journal = l ++ e :: m ∧ (e.transport = field w 2 0 ∧ e.ld = field w 5 3 ∧ b2n e.fm = field w 6 6 ∧ e.tag = field w 31 16 ∧ e.opcode = field w 47 32) ∧ (∀ x ∈ m, x.transport ≠ field w 2 0 ∨ x.ld ≠ field w 5 3 ∨ b2n x.fm ≠ field w 6 6 ∨ x.tag ≠ field w 31 16 ∨ x.opcode ≠ field w 47 32))
    ∧ (∃ (p : Pkt) (s : State) (w : Nat), Accepted (specStatus 0xC021 1) p s ∧ p.slots = [w] ∧ field w 15 7 = 0 ∧ (∀ x ∈ s.cmd.journal, x.transport ≠ field w 2 0 ∨ x.ld ≠ field w 5 3 ∨ b2n x.fm ≠ field w 6 6 ∨ x.tag ≠ field w 31 16 ∨ x.opcode ≠ field w 47 32))
    ∧ (∃ (v : Nat) (s : State) (e : JEntry) (l : List JEntry) (m : List JEntry), s.seq.coreUp = true ∧ v < 2 ^ 48 ∧ s.cmd.journal = l ++ e :: m ∧ v ≤ e.cseq ∧ (∀ x ∈ l, x.cseq < v)) :=
  ⟨⟨pk 2 0xC020 [6, 4], jnl, 6, 4, { cseq := 6, transport := 2, ld := 0, fm := false, std := false, state := 4, persist := true, opcode := 0xC011, tag := 10, digest := 0, status := 0, detail := 0, evDone := 0, flags := 0 }, [], accepted_of (by decide +kernel), by decide +kernel, by decide +kernel, by decide +kernel, by decide +kernel⟩,
   ⟨pk 2 0xC020 [7, 4], jnl, 7, 4, accepted_of (by decide +kernel), by decide +kernel, by decide +kernel, by decide +kernel, by decide +kernel⟩,
   ⟨pk 2 0xC020 [7, 0], jnl, 7, 0, accepted_of (by decide +kernel), by decide +kernel, by decide +kernel⟩,
   ⟨pk 3 0xC020 [7, 4], aon, 7, 4, acceptedAon_of (by decide +kernel), by decide +kernel, by decide +kernel, by decide +kernel, by decide +kernel⟩,
   ⟨pk 2 0xC021 [0xC011000A0002], jnl, 0xC011000A0002, { cseq := 6, transport := 2, ld := 0, fm := false, std := false, state := 4, persist := true, opcode := 0xC011, tag := 10, digest := 0, status := 0, detail := 0, evDone := 0, flags := 0 }, jnl.cmd.journal.take 1, [], accepted_of (by decide +kernel), by decide +kernel, by decide +kernel, by decide +kernel, by decide +kernel, by decide +kernel⟩,
   ⟨pk 2 0xC021 [0xC01100FF0002], jnl, 0xC01100FF0002, accepted_of (by decide +kernel), by decide +kernel, by decide +kernel, by decide +kernel⟩,
   ⟨6, jnl, { cseq := 6, transport := 2, ld := 0, fm := false, std := false, state := 4, persist := true, opcode := 0xC011, tag := 10, digest := 0, status := 0, detail := 0, evDone := 0, flags := 0 }, jnl.cmd.journal.take 1, [], by decide +kernel⟩⟩

/-- Operands and states that meet the hypotheses of each clause of `Obligations.Maintenance_commands`. -/
theorem wit_Maintenance_commands :
    (∃ (p : Pkt) (s : State) (n : Nat), Accepted specMaintStart p s ∧ p.slots = [n] ∧ (n = 2 ∨ n = 4) ∧ (s.cmd.act n).state = .idle ∧ s.tokenCheck n = none)
    ∧ (∃ (p : Pkt) (s : State) (n : Nat), Accepted specMaintStart p s ∧ p.slots = [n] ∧ (n = 6 ∨ n = 8) ∧ (s.cmd.act n).state = .idle ∧ s.tokenCheck n = none ∧ 0 < (s.tokensOf n).1)
    ∧ (∃ (p : Pkt) (s : State) (n : Nat) (slots : List Nat), Accepted specMaintStart p s ∧ p.slots = [n] ∧ (n = 2 ∨ n = 4 ∨ n = 5 ∨ n = 6 ∨ n = 8) ∧ (s.cmd.act n).state = .idle ∧ s.tokenCheck n = some slots ∧ s.reg Reg.MARGIN_CONFLICTS + 1 < 2 ^ 32)
    ∧ (∃ (p : Pkt) (s : State) (n : Nat), Accepted specMaintStart p s ∧ p.slots = [n] ∧ (n < 2 ∨ 8 < n))
    ∧ (∃ (p : Pkt) (s : State) (n : Nat), Accepted specMaintStart p s ∧ p.slots = [n] ∧ 2 ≤ n ∧ n ≤ 8 ∧ n ≠ 3 ∧ (s.cmd.act n).state ≠ .idle)
    ∧ (∃ (p : Pkt) (s : State) (n : Nat), Accepted specMaintStop p s ∧ p.slots = [n] ∧ (n = 2 ∨ n = 4) ∧ s.dev = .online ∧ (s.cmd.act n).state = .running ∧ (s.cmd.act n).grant = none ∧ (s.cmd.act n).owed = none)
    ∧ (∃ (p : Pkt) (s : State), Accepted specMaintStatus p s) :=
  ⟨⟨pk 2 0xC100 [2], act 0 {}, 2, accepted_of (by decide +kernel), by decide +kernel, by decide +kernel, by decide +kernel, by decide +kernel⟩,
   ⟨pk 2 0xC100 [6], act 0 {}, 6, accepted_of (by decide +kernel), by decide +kernel, by decide +kernel, by decide +kernel, by decide +kernel, by decide +kernel⟩,
   ⟨pk 2 0xC100 [2], onl, 2, (onl.tokenCheck 2).getD [], accepted_of (by decide +kernel), by decide +kernel, by decide +kernel, by decide +kernel, by decide +kernel, by decide +kernel⟩,
   ⟨pk 2 0xC100 [9], onl, 9, accepted_of (by decide +kernel), by decide +kernel, by decide +kernel⟩,
   ⟨pk 2 0xC100 [2], act 2 { state := .running }, 2, accepted_of (by decide +kernel), by decide +kernel, by decide +kernel, by decide +kernel, by decide +kernel, by decide +kernel⟩,
   ⟨pk 2 0xC101 [2], act 2 { state := .running }, 2, accepted_of (by decide +kernel), by decide +kernel, by decide +kernel, by decide +kernel, by decide +kernel, by decide +kernel, by decide +kernel⟩,
   ⟨pk 2 0xC102 [], act 2 { state := .running }, accepted_of (by decide +kernel)⟩⟩

/-- Operands and states that meet the hypotheses of each clause of `Obligations.Direct_registers`. -/
theorem wit_Direct_registers :
    (∃ (ld : Nat) (k : Nat) (v : Nat) (s : State), k < 6 ∧ s.pf1Of ld = true ∧ Accepted specParamSet (barPkt ld (Reg.EV_MASK + k) v) s ∧ s.checkEntries [(Reg.EV_MASK + k, v % 2 ^ 48)] = none ∧ (flag s Reg.CFG_STATUS 0 = true → 4 ≤ s.nv.logFree))
    ∧ (∃ (ld : Nat) (s : State), s.pf1Of ld = true)
    ∧ (∃ (s : State), s.pf1 = true)
    ∧ (∃ (id : Nat) (v : Nat) (s : State), s.seq.coreUp = true ∧ (accessOf id = some .rw ∨ accessOf id = some .rws) ∧ v < 2 ^ 48 ∧ valueOk id v = true ∧ s.writableNow id = true)
    ∧ (∃ (id : Nat) (v : Nat) (s : State), s.seq.coreUp = true ∧ accessOf id = some .rw1c ∧ id ≠ Reg.FC_FIRST ∧ v < 2 ^ 48 ∧ valueOk id v = true)
    ∧ (∃ (id : Nat), persistedId id = false ∧ settable id = false)
    ∧ (∃ (p : Pkt) (s : State), opAssigned p.opcode = false ∧ s.reaches p.transport = true ∧ 2 ≤ p.transport ∧ p.transport < 5 ∧ p.short = false ∧ p.length % 8 = 0 ∧ p.length ≤ 4088 ∧ p.carried = p.length)
    ∧ (∃ (p : Pkt) (s : State), opAssigned p.opcode = false ∧ s.reaches p.transport = true ∧ p.transport < 2 ∧ p.short = false ∧ p.carried = p.length ∧ p.mailbox = p.opcode)
    ∧ (∃ (p : Pkt) (s : State), 0xC800 ≤ p.opcode ∧ p.opcode ≤ 0xCFFF ∧ Accepted (specCamub p.opcode) p s) :=
  ⟨⟨0, 1, 12, onl, by decide +kernel, by decide +kernel, accepted_of (by decide +kernel), by decide +kernel, by decide +kernel⟩,
   ⟨0, onl, by decide +kernel⟩,
   ⟨onl, by decide +kernel⟩,
   ⟨304, 2, onl, by decide +kernel⟩,
   ⟨10112, 5, onl, by decide +kernel⟩,
   ⟨65000, by decide +kernel⟩,
   ⟨pk 2 0xC7FF [], onl, by decide +kernel⟩,
   ⟨pk 0 0xC7FF [], onl, by decide +kernel⟩,
   ⟨pk 2 0xC800 [1, 2, 3], onl, by decide +kernel, by decide +kernel, accepted_of (by decide +kernel)⟩⟩

/-- Operands and states that meet the hypotheses of each clause of `Obligations.Mir_reception`. -/
theorem wit_Mir_reception :
    (∃ (c : Instr) (h : MHdr) (s : State), msgOf c = some h ∧ s.mirHears h.port = false)
    ∧ (∃ (c : Instr) (h : MHdr) (s : State), msgOf c = some h ∧ s.mirHears h.port = true ∧ h.domain ≠ s.reg Reg.DOMAIN_ID)
    ∧ (∃ (c : Instr) (h : MHdr) (s : State), msgOf c = some h ∧ h.domain = s.reg Reg.DOMAIN_ID ∧ h.flood = false ∧ h.toRole = false ∧ h.dst ≠ s.reg Reg.MEMBER_NO)
    ∧ (∃ (c : Instr) (h : MHdr) (s : State), msgOf c = some h ∧ s.mirHears h.port = true ∧ h.domain = s.reg Reg.DOMAIN_ID ∧ h.src ≠ s.reg Reg.MEMBER_NO ∧ h.flood = false ∧ h.toRole = true ∧ s.holds h.dst = false ∧ h.dst ∈ s.mir.former)
    ∧ (∃ (h : MHdr) (s : State), s.mirHears h.port = true ∧ h.domain = s.reg Reg.DOMAIN_ID)
    ∧ (∃ (q : Nat) (o : Nat) (g : Nat) (d : Nat) (ok : Bool) (s : State), (ok = false ∨ d ≠ s.reg Reg.DOMAIN_ID ∨ s.seq.coreUp = false ∨ (mget {} s.mir.ports q).up = false ∨ (o, g) ∈ s.mir.notices))
    ∧ (∃ (q : Nat) (o : Nat) (g : Nat) (s : State), s.seq.coreUp = true ∧ (mget {} s.mir.ports q).up = true ∧ (o, g) ∉ s.mir.notices ∧ s.allOrNone = false)
    ∧ (∃ (q : Nat) (o : Nat) (g : Nat) (s : State), s.seq.coreUp = true ∧ (mget {} s.mir.ports q).up = true ∧ (o, g) ∉ s.mir.notices ∧ s.allOrNone = true ∧ s.dev = .online)
    ∧ (∃ (h : MHdr) (e : Nat) (m : Nat) (s : State), Heard h s ∧ s.reg Reg.ROLE_EPOCH < e ∧ e < 2 ^ 24 ∧ m ≠ s.reg Reg.MEMBER_NO)
    ∧ (∃ (h : MHdr) (e : Nat) (o : Owed) (s : State), Heard h s ∧ e ≤ s.reg Reg.ROLE_EPOCH ∧ s.mir.relays.find? (fun q => q.1 == h.mseq) = some (h.mseq, o) ∧ Due o s)
    ∧ (∃ (h : MHdr) (s : State), Heard h s)
    ∧ (∃ (h : MHdr) (s : State), Heard h s ∧ s.stale h = true)
    ∧ (∃ (h : MHdr) (p : Pkt) (q : Pkt) (s : State), Heard h s ∧ s.stale h = false ∧ h.port < 6 ∧ p.opcode = 0xC300 ∧ q = { p with transport := 4, ld := 0, fm := false, member := h.src, mseq := h.mseq } ∧ Accepted specDomainStatus q s)
    ∧ (∃ (h : MHdr) (o : Owed) (s : State), Heard h s ∧ s.stale h = false ∧ s.mir.relays.find? (fun q => q.1 == h.mseq) = some (h.mseq, o) ∧ Due o s) :=
  ⟨⟨.memberHeartbeat msg 4 1 7, msg, onl, by decide +kernel⟩,
   ⟨.memberHeartbeat { msg with domain := 5 } 4 1 7, { msg with domain := 5 }, dom .worker .synced, by decide +kernel⟩,
   ⟨.memberHeartbeat { msg with dst := 2 } 4 1 7, { msg with dst := 2 }, dom .worker .synced, by decide +kernel⟩,
   ⟨.memberHeartbeat { msg with dst := 0, toRole := true } 4 1 7, { msg with dst := 0, toRole := true }, { dom .worker .synced with mir := { (dom .worker .synced).mir with former := [0] } }, by decide +kernel⟩,
   ⟨msg, dom .none .linking, by decide +kernel⟩,
   ⟨0, 9, 7, 17, false, dom .worker .synced, by decide +kernel⟩,
   ⟨0, 9, 7, dom .worker .synced, by decide +kernel⟩,
   ⟨0, 9, 7, { dom .worker .synced with mir := { (dom .worker .synced).mir with syncAll := true } }, by decide +kernel⟩,
   ⟨msg, 6, 2, dom .worker .synced, heard_of (by decide +kernel), by decide +kernel, by decide +kernel, by decide +kernel⟩,
   ⟨msg, 5, owed, { dom .worker .synced with mir := { (dom .worker .synced).mir with relays := [(40, owed)] }, cmd := { owed := [owed], cseq := 3 } }, heard_of (by decide +kernel), by decide +kernel, by decide +kernel, due_of (by decide +kernel)⟩,
   ⟨msg, dom .worker .synced, heard_of (by decide +kernel)⟩,
   ⟨{ msg with epoch := 3 }, dom .worker .synced, heard_of (by decide +kernel), by decide +kernel⟩,
   ⟨msg, pk 0 0xC300 [], { pk 0 0xC300 [] with transport := 4, member := 9, mseq := 40 }, dom .worker .synced, heard_of (by decide +kernel), by decide +kernel, by decide +kernel, by decide +kernel, by decide +kernel, accepted_of (by decide +kernel)⟩,
   ⟨msg, owed, { dom .worker .synced with mir := { (dom .worker .synced).mir with relays := [(40, owed)] }, cmd := { owed := [owed], cseq := 3 } }, heard_of (by decide +kernel), by decide +kernel, by decide +kernel, due_of (by decide +kernel)⟩⟩

/-- Operands and states that meet the hypotheses of each clause of `Obligations.Mir_messages`. -/
theorem wit_Mir_messages :
    (∃ (h : MHdr) (s : State) (r : RosterRec), Heard h s ∧ s.stale h = false ∧ s.mir.roster.find? (fun r => r.member == h.src) = some r ∧ r.missing = false)
    ∧ (∃ (h : MHdr) (s : State), Heard h s ∧ s.stale h = false ∧ (∀ r ∈ s.mir.roster, r.member ≠ h.src))
    ∧ (∃ (h : MHdr) (s : State), Heard h s ∧ s.stale h = false ∧ s.mir.role ≠ .manager)
    ∧ (∃ (h : MHdr) (e : Nat) (s : State), Heard h s ∧ e < s.reg Reg.ROLE_EPOCH)
    ∧ (∃ (h : MHdr) (e : Nat) (s : State), Heard h s ∧ s.reg Reg.ROLE_EPOCH < e ∧ e + 1 < 2 ^ 24)
    ∧ (∃ (h : MHdr) (g : Nat) (d : Nat) (s : State), Heard h s ∧ s.stale h = false ∧ s.mir.role ≠ .manager ∧ (s.mir.state = .unsynced ∨ s.mir.state = .synced) ∧ g < 2 ^ 24 ∧ d < 2 ^ 13)
    ∧ (∃ (h : MHdr) (s : State), Heard h s ∧ s.stale h = false ∧ (∃ e ∈ s.mir.roster, e.member = h.src))
    ∧ (∃ (h : MHdr) (s : State), Heard h s ∧ s.stale h = false ∧ (∀ e ∈ s.mir.roster, e.member ≠ h.src))
    ∧ (∃ (h : MHdr) (n : Nat) (u : Bool) (s : State), Heard h s ∧ s.stale h = false ∧ h.port < 6 ∧ (∃ e ∈ s.mir.roster, e.member = h.src) ∧ domainAct n = true ∧ s.judgeGrant n h.src u = true)
    ∧ (∃ (h : MHdr) (n : Nat) (u : Bool) (s : State), Heard h s ∧ s.stale h = false ∧ h.port < 6 ∧ ((∀ e ∈ s.mir.roster, e.member ≠ h.src) ∨ domainAct n = false ∨ s.judgeGrant n h.src u = false))
    ∧ (∃ (h : MHdr) (s : State) (n : Nat), Heard h s ∧ s.stale h = false ∧ 1 ≤ n ∧ n ≤ 8 ∧ s.mir.asks.find? (fun q => q.1 == h.mseq) = some (h.mseq, n) ∧ (s.cmd.act n).state = .waitDomain ∧ (s.cmd.act n).grant = some h.mseq)
    ∧ (∃ (h : MHdr) (s : State), Heard h s ∧ s.stale h = false)
    ∧ (∃ (h : MHdr) (s : State), Heard h s ∧ s.stale h = false)
    ∧ (∃ (h : MHdr) (s : State), Heard h s ∧ s.stale h = false)
    ∧ (∃ (h : MHdr) (s : State), Heard h s ∧ s.stale h = false ∧ h.port < 6 ∧ s.mir.role ≠ .manager ∧ s.missesBeat = true)
    ∧ (∃ (h : MHdr) (s : State), Heard h s ∧ s.stale h = false ∧ h.port < 6 ∧ (s.mir.role = .manager ∨ s.missesBeat = false))
    ∧ (∃ (h : MHdr) (s : State) (q : List Nat), Heard h s ∧ s.stale h = false ∧ s.mir.query = some q ∧ s.mir.role = .alternate ∧ h.src ∉ q ∧ (∃ e ∈ s.mir.roster, e.member = h.src) ∧ s.mir.roster.length < 2 * (q.length + 1) ∧ s.reg Reg.ROLE_EPOCH + 1 < 2 ^ 24)
    ∧ (∃ (h : MHdr) (s : State) (q : List Nat), Heard h s ∧ s.stale h = false ∧ s.mir.query = some q ∧ s.mir.role = .alternate ∧ h.src ∉ q ∧ (∃ e ∈ s.mir.roster, e.member = h.src) ∧ 2 * (q.length + 1) ≤ s.mir.roster.length) :=
  ⟨⟨msg, dom .manager .synced, { member := 9, serial := 19, reported := true }, heard_of (by decide +kernel), by decide +kernel, by decide +kernel, by decide +kernel⟩,
   ⟨{ msg with src := 30 }, dom .manager .synced, heard_of (by decide +kernel), by decide +kernel, by decide +kernel⟩,
   ⟨msg, dom .worker .synced, heard_of (by decide +kernel), by decide +kernel, by decide +kernel⟩,
   ⟨msg, 4, dom .worker .synced, heard_of (by decide +kernel), by decide +kernel⟩,
   ⟨{ msg with epoch := 6 }, 6, dom .worker .synced, heard_of (by decide +kernel), by decide +kernel, by decide +kernel⟩,
   ⟨msg, 8, 17, dom .worker .unsynced, heard_of (by decide +kernel), by decide +kernel, by decide +kernel, by decide +kernel, by decide +kernel, by decide +kernel⟩,
   ⟨msg, dom .manager .synced, heard_of (by decide +kernel), by decide +kernel, by decide +kernel⟩,
   ⟨{ msg with src := 30 }, dom .manager .synced, heard_of (by decide +kernel), by decide +kernel, by decide +kernel⟩,
   ⟨msg, 1, false, dom .manager .synced, heard_of (by decide +kernel), by decide +kernel, by decide +kernel, by decide +kernel, by decide +kernel, by decide +kernel⟩,
   ⟨msg, 2, false, dom .manager .synced, heard_of (by decide +kernel), by decide +kernel, by decide +kernel, by decide +kernel⟩,
   ⟨msg, { dom .worker .synced with cmd := { rehearse := { state := .waitDomain, grant := some 40 } }, mir := { (dom .worker .synced).mir with asks := [(40, 5)] } }, 5, heard_of (by decide +kernel), by decide +kernel, by decide +kernel, by decide +kernel, by decide +kernel, by decide +kernel, by decide +kernel⟩,
   ⟨msg, { dom .manager .synced with mir := { (dom .manager .synced).mir with grants := [{ activity := 5, member := 9 }] } }, heard_of (by decide +kernel), by decide +kernel⟩,
   ⟨msg, dom .alternate .synced, heard_of (by decide +kernel), by decide +kernel⟩,
   ⟨msg, dom .manager .synced, heard_of (by decide +kernel), by decide +kernel⟩,
   ⟨msg, dom .worker .synced, heard_of (by decide +kernel), by decide +kernel, by decide +kernel, by decide +kernel, by decide +kernel⟩,
   ⟨msg, dom .manager .synced, heard_of (by decide +kernel), by decide +kernel, by decide +kernel, by decide +kernel⟩,
   ⟨msg, { dom .alternate .synced with mir := { (dom .alternate .synced).mir with query := some [], roster := [{ member := 9, serial := 19 }] } }, [], heard_of (by decide +kernel), by decide +kernel, by decide +kernel, by decide +kernel, by decide +kernel, by decide +kernel, by decide +kernel, by decide +kernel⟩,
   ⟨msg, { dom .alternate .synced with mir := { (dom .alternate .synced).mir with query := some [] } }, [], heard_of (by decide +kernel), by decide +kernel, by decide +kernel, by decide +kernel, by decide +kernel, by decide +kernel, by decide +kernel⟩⟩

/-- Operands and states that meet the hypotheses of each clause of `Obligations.Mir_timers_and_commands`. -/
theorem wit_Mir_timers_and_commands :
    (∃ (q : Nat) (s : State), (6 ≤ q ∨ s.seq.coreUp = false ∨ (mget {} s.mir.ports q).up = true))
    ∧ (∃ (q : Nat) (s : State), q < 6 ∧ s.seq.coreUp = true ∧ (mget {} s.mir.ports q).up = false)
    ∧ (∃ (q : Nat) (s : State), (mget {} s.mir.ports q).up = false)
    ∧ (∃ (q : Nat) (s : State), q < 6 ∧ s.seq.coreUp = true ∧ (mget {} s.mir.ports q).up = true)
    ∧ (∃ (q : Nat) (n : Nat) (s : State), (s.mir.unacked.filter fun u => u.port == q).length ≤ n)
    ∧ (∃ (q : Nat) (n : Nat) (u : Unacked) (l : List Unacked) (s : State), (s.mir.unacked.filter fun u => u.port == q).drop n = u :: l)
    ∧ (∃ (s : State), (s.mgmt.state ≠ .running ∨ (s.mir.role ≠ .manager ∧ s.mir.state ≠ .unsynced ∧ s.mir.state ≠ .synced)))
    ∧ (∃ (s : State), s.mgmt.state = .running ∧ s.mir.role = .manager)
    ∧ (∃ (s : State), s.mgmt.state = .running ∧ s.mir.role ≠ .manager ∧ (s.mir.state = .unsynced ∨ s.mir.state = .synced) ∧ s.upPort.isSome = true)
    ∧ (∃ (s : State), (s.mir.role = .manager ∨ s.upPort.isSome = true ∨ s.seq.coreUp = false ∨ (s.mir.state ≠ .unsynced ∧ s.mir.state ≠ .synced)))
    ∧ (∃ (s : State), s.mir.role ≠ .manager ∧ s.upPort = none ∧ s.seq.coreUp = true ∧ (s.mir.state = .unsynced ∨ s.mir.state = .synced) ∧ s.allOrNone = false)
    ∧ (∃ (s : State), s.mir.role ≠ .manager ∧ s.upPort = none ∧ s.seq.coreUp = true ∧ (s.mir.state = .unsynced ∨ s.mir.state = .synced) ∧ s.allOrNone = true ∧ s.dev = .online)
    ∧ (∃ (m : Nat) (s : State), s.mir.role = .manager ∧ s.mgmt.state = .running ∧ m ≠ s.reg Reg.MEMBER_NO ∧ (∃ r ∈ s.mir.roster, r.member = m ∧ r.missing = false) ∧ s.seq.coreUp = true ∧ s.allOrNone = false)
    ∧ (∃ (m : Nat) (s : State), s.mir.role = .manager ∧ s.mgmt.state = .running ∧ m ≠ s.reg Reg.MEMBER_NO ∧ (∃ r ∈ s.mir.roster, r.member = m ∧ r.missing = false) ∧ s.seq.coreUp = true ∧ s.allOrNone = true ∧ s.dev = .online)
    ∧ (∃ (s : State), s.mgmt.state = .running ∧ s.mir.role = .alternate)
    ∧ (∃ (s : State), s.mgmt.state = .running ∧ s.mir.role = .manager ∧ 2 * s.heardNow ≤ s.mir.roster.length)
    ∧ (∃ (s : State), s.mgmt.state = .running ∧ s.mir.role = .manager ∧ s.mir.roster.length < 2 * s.heardNow)
    ∧ (∃ (n : Nat) (s : State), ((s.cmd.act n).state ≠ .waitDomain ∨ n = 0 ∨ 8 < n))
    ∧ (∃ (n : Nat) (s : State), 1 ≤ n ∧ n ≤ 8 ∧ (s.cmd.act n).state = .waitDomain)
    ∧ (∃ (p : Pkt) (s : State), Accepted specDomainStatus p s)
    ∧ (∃ (p : Pkt) (s : State) (a : Nat) (n : Nat), Accepted specDomainRosterRead p s ∧ p.slots = [a, n] ∧ 1 ≤ n ∧ n ≤ 127)
    ∧ (∃ (p : Pkt) (s : State) (a : Nat) (n : Nat), Accepted specDomainRosterRead p s ∧ p.slots = [a, n] ∧ (n = 0 ∨ 127 < n))
    ∧ (∃ (p : Pkt) (s : State) (a : Nat), Accepted specDomainEventRead p s ∧ p.slots = [a])
    ∧ (∃ (p : Pkt) (s : State) (i : Nat), Accepted specDomainForm p s ∧ p.slots = [i] ∧ i < 2 ^ 13 ∧ s.reg Reg.MEMBER_NO ≠ 0x7FF ∧ s.reg Reg.ROLE_EPOCH + 1 < 2 ^ 24)
    ∧ (∃ (p : Pkt) (s : State) (i : Nat), Accepted specDomainForm p s ∧ p.slots = [i] ∧ 2 ^ 13 ≤ i)
    ∧ (∃ (p : Pkt) (s : State) (a : Nat) (m : Nat), Accepted specDomainAdmit p s ∧ p.slots = [a, m] ∧ m < 1024 ∧ (∀ r ∈ s.mir.roster, r.member ≠ m ∧ r.serial ≠ a))
    ∧ (∃ (p : Pkt) (s : State) (a : Nat) (m : Nat), Accepted specDomainAdmit p s ∧ p.slots = [a, m] ∧ (1024 ≤ m ∨ (∃ r ∈ s.mir.roster, r.member = m ∨ r.serial = a)))
    ∧ (∃ (p : Pkt) (s : State) (m : Nat), Accepted specDomainRemove p s ∧ p.slots = [m] ∧ m ≠ s.reg Reg.MEMBER_NO ∧ (∃ r ∈ s.mir.roster, r.member = m))
    ∧ (∃ (p : Pkt) (s : State) (m : Nat) (w : Nat) (l : List Nat), Accepted specDomainRelay p s ∧ p.slots = m :: w :: l ∧ m < 1024 ∧ m ≠ s.reg Reg.MEMBER_NO ∧ s.upPort.isSome = true)
    ∧ (∃ (p : Pkt) (s : State) (a : Nat), Accepted specDomainHandover p s ∧ s.mir.alternate = some a ∧ s.reg Reg.ROLE_EPOCH + 1 < 2 ^ 24)
    ∧ (∃ (p : Pkt) (s : State), Accepted specDomainHandover p s ∧ s.mir.alternate = none) :=
  ⟨⟨0, dom .worker .synced, by decide +kernel⟩,
   ⟨2, dom .worker .synced, by decide +kernel⟩,
   ⟨2, dom .worker .synced, by decide +kernel⟩,
   ⟨1, dom .worker .synced, by decide +kernel⟩,
   ⟨1, 1, { dom .worker .synced with mir := { (dom .worker .synced).mir with unacked := [{ port := 1, type := 2, hdr := msg, payload := [] }] } }, by decide +kernel⟩,
   ⟨1, 0, { port := 1, type := 2, hdr := msg, payload := [4], tries := 3 }, [], { dom .worker .synced with mir := { (dom .worker .synced).mir with unacked := [({ port := 1, type := 2, hdr := msg, payload := [4], tries := 3 })] } }, by decide +kernel⟩,
   ⟨onl, by decide +kernel⟩,
   ⟨dom .manager .synced, by decide +kernel⟩,
   ⟨dom .worker .synced, by decide +kernel⟩,
   ⟨dom .worker .synced, by decide +kernel⟩,
   ⟨cut false, by decide +kernel⟩,
   ⟨cut true, by decide +kernel⟩,
   ⟨9, dom .manager .synced, by decide +kernel⟩,
   ⟨9, { dom .manager .synced with mir := { (dom .manager .synced).mir with syncAll := true } }, by decide +kernel⟩,
   ⟨dom .alternate .synced, by decide +kernel⟩,
   ⟨dom .manager .synced, by decide +kernel⟩,
   ⟨{ dom .manager .synced with mir := { (dom .manager .synced).mir with heard := [(9, 99990)] } }, by decide +kernel⟩,
   ⟨5, dom .worker .synced, by decide +kernel⟩,
   ⟨5, { dom .worker .synced with cmd := { rehearse := { state := .waitDomain, grant := some 40 } } }, by decide +kernel⟩,
   ⟨pk 0 0xC300 [], dom .worker .synced, accepted_of (by decide +kernel)⟩,
   ⟨pk 0 0xC301 [4, 10], dom .manager .synced, 4, 10, accepted_of (by decide +kernel), by decide +kernel, by decide +kernel, by decide +kernel⟩,
   ⟨pk 0 0xC301 [4, 128], dom .manager .synced, 4, 128, accepted_of (by decide +kernel), by decide +kernel, by decide +kernel⟩,
   ⟨pk 0 0xC302 [2], { dom .manager .synced with mir := { (dom .manager .synced).mir with ring := [{ seq := 1, member := 9, recSeq := 3, payload := [5, 6] }, { seq := 2, member := 9, recSeq := 4, payload := [7, 8] }] } }, 2, accepted_of (by decide +kernel), by decide +kernel⟩,
   ⟨pk 0 0xC310 [40], dom .worker .unsynced, 40, accepted_of (by decide +kernel), by decide +kernel, by decide +kernel, by decide +kernel, by decide +kernel⟩,
   ⟨pk 0 0xC310 [8192], dom .worker .unsynced, 8192, accepted_of (by decide +kernel), by decide +kernel, by decide +kernel⟩,
   ⟨pk 0 0xC311 [12, 2], dom .manager .synced, 12, 2, accepted_of (by decide +kernel), by decide +kernel, by decide +kernel, by decide +kernel⟩,
   ⟨pk 0 0xC311 [12, 9], dom .manager .synced, 12, 9, accepted_of (by decide +kernel), by decide +kernel, by decide +kernel⟩,
   ⟨pk 0 0xC312 [9], dom .manager .synced, 9, accepted_of (by decide +kernel), by decide +kernel, by decide +kernel, by decide +kernel⟩,
   ⟨pk 0 0xC313 [9, 0xC010], dom .manager .synced, 9, 0xC010, [], accepted_of (by decide +kernel), by decide +kernel, by decide +kernel, by decide +kernel, by decide +kernel⟩,
   ⟨pk 0 0xC314 [], dom .manager .synced, 9, accepted_of (by decide +kernel), by decide +kernel, by decide +kernel⟩,
   ⟨pk 0 0xC314 [], { dom .manager .synced with mir := { (dom .manager .synced).mir with alternate := none } }, accepted_of (by decide +kernel), by decide +kernel⟩⟩

/-- Operands and states that meet the hypotheses of each clause of `Obligations.Management_health`. -/
theorem wit_Management_health :
    (∃ (c : Instr) (s : State), (c = .lockstepMismatch ∨ c = .watchdogExpiry) ∧ s.mgmt.state = .off)
    ∧ (∃ (c : Instr) (s : State), (c = .lockstepMismatch ∨ c = .watchdogExpiry) ∧ s.mgmt.state = .running ∧ (s.mgmt.lastRestart = 0 ∨ s.mgmt.lastRestart - 1 + 10000 ≤ s.now) ∧ s.seq.coreUp = true ∧ s.reg Reg.MGMT_RESTARTS + 1 < 2 ^ 32)
    ∧ (∃ (c : Instr) (s : State), (c = .lockstepMismatch ∨ c = .watchdogExpiry) ∧ s.mgmt.state ≠ .off ∧ s.mgmt.lastRestart ≠ 0 ∧ s.now < s.mgmt.lastRestart - 1 + 10000)
    ∧ (∃ (s : State), s.seq.coreUp = false)
    ∧ (∃ (s : State), s.seq.coreUp = true)
    ∧ (∃ (s : State), s.seq.coreUp = true ∧ s.mgmt.state = .running ∧ s.mgmt.lastRestart = 0)
    ∧ (∃ (s : State), (s.mgmt.state = .off ∨ s.mgmt.state = .running))
    ∧ (∃ (s : State), s.mgmt.state = .bootRom ∧ s.mgmt.started = true)
    ∧ (∃ (g : Bool) (s : State) (a : Activation), s.mgmt.state = .restarting ∧ s.mgmt.activation = some a ∧ a.started = true ∧ s.slotCheck a.slot g ≠ 0)
    ∧ (∃ (g : Bool) (s : State) (a : Activation), s.mgmt.state = .restarting ∧ s.mgmt.activation = some a ∧ a.started = true ∧ s.slotCheck a.slot g = 0 ∧ s.mgmt.svn a.slot < 2 ^ 16)
    ∧ (∃ (okA : Bool) (okB : Bool) (s : State) (n : Nat), s.mgmt.state = .bootRom ∧ s.mgmt.started = false ∧ s.mgmt.recovery = false ∧ s.nv.early = true ∧ s.fwBoot = (n, false) ∧ s.slotCheck n (if n = 0 then okA else okB) = 0)
    ∧ (∃ (okA : Bool) (okB : Bool) (s : State) (n : Nat), s.mgmt.state = .bootRom ∧ s.mgmt.started = false ∧ s.mgmt.recovery = false ∧ s.nv.early = true ∧ s.fwBoot = (n, false) ∧ s.slotCheck n (if n = 0 then okA else okB) ≠ 0 ∧ s.slotCheck (1 - n) (if 1 - n = 0 then okA else okB) = 0)
    ∧ (∃ (okA : Bool) (okB : Bool) (s : State) (n : Nat), s.mgmt.state = .bootRom ∧ s.mgmt.started = false ∧ s.mgmt.recovery = false ∧ s.nv.early = true ∧ s.fwBoot = (n, false) ∧ s.slotCheck n (if n = 0 then okA else okB) ≠ 0 ∧ s.slotCheck (1 - n) (if 1 - n = 0 then okA else okB) ≠ 0 ∧ s.seq.coreUp = true)
    ∧ (∃ (lost : Nat) (s : State), s.seq.coreUp = true ∧ clearBits (lost % 2 ^ 28) (s.reg Reg.CLOCK_STATUS) = 0)
    ∧ (∃ (s : State), s.seq.coreUp = true ∧ bit (s.reg Reg.CLOCK_STATUS) 0 = false)
    ∧ (∃ (s : State) (k : Nat), s.seq.coreUp = true ∧ k < 8 ∧ bit (s.reg Reg.CLOCK_STATUS) (12 + k) = false)
    ∧ (∃ (l : List Int) (s : State), s.seq.coreUp = true ∧ l.length = 8)
    ∧ (∃ (l : List Nat) (s : State), s.mgmt.state = .running ∧ l.length = 12 ∧ s.ageHeld = false)
    ∧ (∃ (s : State), s.mgmt.state = .running)
    ∧ (∃ (s : State), s.seq.aonUp = true ∧ s.reg Reg.DAY_OF_SERVICE + 1 < 2 ^ 16)
    ∧ (∃ (v : Nat) (s : State), s.seq.coreUp = true ∧ v % 2 = 1)
    ∧ (∃ (v : Nat) (s : State), (s.seq.coreUp = false ∨ v % 2 = 0)) :=
  ⟨⟨.watchdogExpiry, mg {}, by decide +kernel⟩,
   ⟨.lockstepMismatch, onl, by decide +kernel⟩,
   ⟨.watchdogExpiry, mg { state := .running, lastRestart := 99000 }, by decide +kernel⟩,
   ⟨aon, by decide +kernel⟩,
   ⟨jnl, by decide +kernel⟩,
   ⟨onl, by decide +kernel⟩,
   ⟨onl, by decide +kernel⟩,
   ⟨mg { state := .bootRom, started := true }, by decide +kernel⟩,
   ⟨false, mg { state := .restarting, started := true, slotB := factoryImage, activation := some { slot := 1, started := true } }, { slot := 1, started := true }, by decide +kernel⟩,
   ⟨true, mg { state := .restarting, started := true, slotB := factoryImage, activation := some { slot := 1, started := true } }, { slot := 1, started := true }, by decide +kernel⟩,
   ⟨true, true, mg { state := .bootRom }, 0, by decide +kernel⟩,
   ⟨false, true, mg { state := .bootRom, slotB := factoryImage }, 0, by decide +kernel⟩,
   ⟨false, false, mg { state := .bootRom }, 0, by decide +kernel⟩,
   ⟨4, { onl with regs := [(Reg.CLOCK_STATUS, 12)] }, by decide +kernel⟩,
   ⟨onl, by decide +kernel⟩,
   ⟨onl, 2, by decide +kernel⟩,
   ⟨[40, 41, 42, 50, 43, 44, 45, 46], onl, by decide +kernel⟩,
   ⟨[100, 101, 102, 103, 104, 105, 106, 107, 108, 109, 110, 2000], onl, by decide +kernel⟩,
   ⟨{ onl with basin := { onl.basin with rankErrs := [(3, 90000), (3, 91000)] } }, by decide +kernel⟩,
   ⟨onl, by decide +kernel⟩,
   ⟨1, onl, by decide +kernel⟩,
   ⟨2, onl, by decide +kernel⟩⟩

/-- Operands and states that meet the hypotheses of each clause of `Obligations.Firmware_updates`. -/
theorem wit_Firmware_updates :
    (∃ (p : Pkt) (s : State), Accepted specFwInfo p s)
    ∧ (∃ (p : Pkt) (s : State) (w : Nat) (data : List Nat), Accepted specFwWrite p s ∧ p.slots = w :: data ∧ field w 7 1 = 0 ∧ field w 47 8 < slotBytes ∧ w % 2 ≠ s.mgmt.active ∧ s.mgmt.active < 2 ∧ s.mgmt.pldm = .idle ∧ s.mgmt.activation = none)
    ∧ (∃ (p : Pkt) (s : State) (w : Nat) (data : List Nat), Accepted specFwWrite p s ∧ p.slots = w :: data ∧ field w 7 1 = 0 ∧ field w 47 8 < slotBytes ∧ (w % 2 = s.mgmt.active ∨ s.mgmt.pldm ≠ .idle ∨ s.mgmt.activation.isSome = true))
    ∧ (∃ (p : Pkt) (s : State) (w : Nat) (data : List Nat), Accepted specFwWrite p s ∧ p.slots = w :: data ∧ (field w 7 1 ≠ 0 ∨ slotBytes ≤ field w 47 8))
    ∧ (∃ (p : Pkt) (s : State) (n : Nat), Accepted specFwVerify p s ∧ p.slots = [n] ∧ n < 2)
    ∧ (∃ (p : Pkt) (s : State), Accepted specFwActivate p s ∧ s.mgmt.activation = none ∧ s.mgmt.pldm = .idle ∧ s.cmd.fwActivate.state = .idle ∧ 0 < s.reg Reg.E_TOKEN_FW_ACTIVATE ∧ s.reg Reg.E_TOKEN_FW_ACTIVATE * 100 ≤ s.reg Reg.ENERGY_MARGIN_AVAIL * (100 + s.reg Reg.WEIR_MARGIN))
    ∧ (∃ (p : Pkt) (s : State), Accepted specFwActivate p s ∧ (s.mgmt.activation.isSome = true ∨ s.mgmt.pldm ≠ .idle) ∧ p.transport < 5)
    ∧ (∃ (s : State), (∀ a, s.mgmt.activation = some a → a.started = false))
    ∧ (∃ (s : State) (a : Activation), s.mgmt.activation = some a ∧ a.started = true)
    ∧ (∃ (x : Nat) (s : State) (c : Instr), s.pldmUp x = false ∧ c ∈ [Instr.queryDeviceIdentifiers x, .getFirmwareParameters x, .requestUpdate x 0, .passComponentTable x 0x4816 true, .updateComponent x 0x4816 0, .transferComplete x true, .verifyComplete x, .applyComplete x, .activateFirmware x true, .pldmGetStatus x, .cancelUpdateComponent x, .cancelUpdate x])
    ∧ (∃ (x : Nat) (s : State), s.pldmUp x = true)
    ∧ (∃ (x : Nat) (s : State), s.pldmUp x = true ∧ s.mgmt.pldm = .idle ∧ s.mgmt.activation = none)
    ∧ (∃ (x : Nat) (s : State), s.pldmUp x = true ∧ s.mgmt.pldm ≠ .idle)
    ∧ (∃ (x : Nat) (s : State), s.pldmUp x = true ∧ s.mgmt.pldm = .learn)
    ∧ (∃ (x : Nat) (s : State) (size : Nat), s.pldmUp x = true ∧ s.mgmt.pldm = .ready ∧ size ≤ slotBytes)
    ∧ (∃ (x : Nat) (s : State) (data : List Nat), s.pldmUp x = true ∧ s.mgmt.pldm = .download ∧ s.mgmt.pldmAt < s.mgmt.pldmSize ∧ data.length = Nat.min (Nat.max 32 s.mgmt.pldmMax) (s.mgmt.pldmSize - s.mgmt.pldmAt))
    ∧ (∃ (x : Nat) (s : State), s.pldmUp x = true ∧ s.mgmt.pldm = .download ∧ s.mgmt.pldmSize ≤ s.mgmt.pldmAt)
    ∧ (∃ (x : Nat) (s : State), s.pldmUp x = true ∧ s.mgmt.pldm = .verify ∧ s.mgmt.pldmSize ≠ 0)
    ∧ (∃ (x : Nat) (s : State), s.pldmUp x = true ∧ s.mgmt.pldm = .apply ∧ s.mgmt.recovery = false)
    ∧ (∃ (x : Nat) (s : State), s.pldmUp x = true ∧ s.mgmt.pldm = .apply ∧ s.mgmt.recovery = true)
    ∧ (∃ (x : Nat) (s : State), s.pldmUp x = true ∧ s.mgmt.pldm = .ready ∧ s.mgmt.pldmSize ≠ 0 ∧ s.dev = .online ∧ s.mgmt.activation = none ∧ s.cmd.fwActivate.state = .idle ∧ 0 < s.reg Reg.E_TOKEN_FW_ACTIVATE ∧ s.reg Reg.E_TOKEN_FW_ACTIVATE * 100 ≤ s.reg Reg.ENERGY_MARGIN_AVAIL * (100 + s.reg Reg.WEIR_MARGIN))
    ∧ (∃ (x : Nat) (s : State), s.pldmUp x = true ∧ s.mgmt.pldm = .ready ∧ s.mgmt.pldmSize ≠ 0 ∧ s.dev ≠ .online)
    ∧ (∃ (x : Nat) (s : State), s.pldmUp x = true ∧ (s.mgmt.pldm = .download ∨ s.mgmt.pldm = .verify ∨ s.mgmt.pldm = .apply))
    ∧ (∃ (x : Nat) (s : State), s.pldmUp x = true ∧ s.mgmt.pldm ≠ .idle ∧ s.mgmt.pldm ≠ .activate) :=
  ⟨⟨pk 0 0xC400 [], onl, accepted_of (by decide +kernel)⟩,
   ⟨pk 0 0xC401 [0x1001, 0x0605040302], onl, 0x1001, [0x0605040302], accepted_of (by decide +kernel), by decide +kernel, by decide +kernel, by decide +kernel, by decide +kernel, by decide +kernel, by decide +kernel, by decide +kernel⟩,
   ⟨pk 0 0xC401 [0x1000, 5], onl, 0x1000, [5], accepted_of (by decide +kernel), by decide +kernel, by decide +kernel, by decide +kernel, by decide +kernel⟩,
   ⟨pk 0 0xC401 [0x1003, 5], onl, 0x1003, [5], accepted_of (by decide +kernel), by decide +kernel, by decide +kernel⟩,
   ⟨pk 0 0xC402 [1], onl, 1, accepted_of (by decide +kernel), by decide +kernel, by decide +kernel⟩,
   ⟨pk 0 0xC403 [], upd .idle 0 0, accepted_of (by decide +kernel), by decide +kernel, by decide +kernel, by decide +kernel, by decide +kernel, by decide +kernel⟩,
   ⟨pk 0 0xC403 [], upd .ready 0 0, accepted_of (by decide +kernel), by decide +kernel, by decide +kernel⟩,
   ⟨onl, (fun _ h => nomatch h)⟩,
   ⟨mg { state := .restarting, activation := some { slot := 1, started := true } }, { slot := 1, started := true }, by decide +kernel⟩,
   ⟨3, aon, .cancelUpdate 3, by decide +kernel⟩,
   ⟨3, onl, by decide +kernel⟩,
   ⟨3, onl, by decide +kernel⟩,
   ⟨3, upd .ready 0 0, by decide +kernel⟩,
   ⟨3, upd .learn 0 0, by decide +kernel⟩,
   ⟨3, upd .ready 0 0, 4096, by decide +kernel⟩,
   ⟨3, upd .download 64 4096, List.range 32, by decide +kernel⟩,
   ⟨3, upd .download 64 64, by decide +kernel⟩,
   ⟨3, upd .verify 64 64, by decide +kernel⟩,
   ⟨3, upd .apply 64 64, by decide +kernel⟩,
   ⟨3, mg { state := .bootRom, recovery := true, pldm := .apply, pldmAt := 64, pldmSize := 64 }, by decide +kernel⟩,
   ⟨3, upd .ready 64 64, by decide +kernel⟩,
   ⟨3, { upd .ready 64 64 with dev := .restoring }, by decide +kernel⟩,
   ⟨3, upd .verify 64 64, by decide +kernel⟩,
   ⟨3, upd .download 0 64, by decide +kernel⟩⟩

/-- Operands and states that meet the hypotheses of each clause of `Obligations.Aon_and_bist`. -/
theorem wit_Aon_and_bist :
    (∃ (s : State), s.dev = .off)
    ∧ (∃ (s : State), s.dev ≠ .off)
    ∧ (∃ (s : State), s.seq.aonUp = false)
    ∧ (∃ (s : State), s.seq.aonUp = true ∧ s.cist.a.pendingRec = none ∧ s.cist.b.pendingRec = none)
    ∧ (∃ (a : Nat) (s : State), s.seq.aonUp = true ∧ a < 128)
    ∧ (∃ (a : Nat) (s : State), (s.seq.aonUp = false ∨ 128 ≤ a))
    ∧ (∃ (p : Pkt) (s : State) (w : Nat), Accepted specBistRun p s ∧ p.slots = [w] ∧ (w = 0 ∨ 65536 ≤ w))
    ∧ (∃ (p : Pkt) (s : State) (w : Nat), Accepted specBistRun p s ∧ p.slots = [w] ∧ 0 < w ∧ w < 65536 ∧ s.mgmt.bistLeft ≠ [])
    ∧ (∃ (p : Pkt) (s : State) (w : Nat), Accepted specBistRun p s ∧ p.slots = [w] ∧ 0 < w ∧ w < 65536 ∧ s.mgmt.bistLeft = [] ∧ (∃ n, n < 11 ∧ bit w n = true) ∧ s.port.committed = false ∧ s.rill.state = .running ∧ s.seq.flush = none)
    ∧ (∃ (p : Pkt) (s : State), Accepted specBistStatus p s)
    ∧ (∃ (s : State) (n : Nat) (m : Nat) (l : List Nat), s.mgmt.bistLeft = n :: m :: l ∧ n < 16 ∧ s.mgmt.bistOff = true ∧ s.dev = .maintenance)
    ∧ (∃ (s : State), (s.mgmt.bistLeft = [] ∨ (s.mgmt.bistOff = true ∧ s.dev ≠ .maintenance) ∨ (s.mgmt.bistOff = false ∧ s.cmd.bist.state ≠ .running))) :=
  ⟨⟨{}, by decide +kernel⟩,
   ⟨aon, by decide +kernel⟩,
   ⟨{}, by decide +kernel⟩,
   ⟨onl, by decide +kernel⟩,
   ⟨9, aon, by decide +kernel⟩,
   ⟨128, aon, by decide +kernel⟩,
   ⟨pk 0 0xC480 [0], onl, 0, accepted_of (by decide +kernel), by decide +kernel, by decide +kernel⟩,
   ⟨pk 0 0xC480 [4], mg { state := .running, started := true, bistLeft := [3] }, 4, accepted_of (by decide +kernel), by decide +kernel, by decide +kernel, by decide +kernel, by decide +kernel⟩,
   ⟨pk 0 0xC480 [4], dcd, 4, accepted_of (by decide +kernel), by decide +kernel, by decide +kernel, by decide +kernel, by decide +kernel, ⟨2, by decide, by decide⟩, by decide +kernel, by decide +kernel, by decide +kernel⟩,
   ⟨pk 0 0xC481 [], onl, accepted_of (by decide +kernel)⟩,
   ⟨{ onl with dev := .maintenance, mgmt := { state := .running, started := true, bistLeft := [2, 5], bistOff := true } }, 2, 5, [], by decide +kernel⟩,
   ⟨onl, by decide +kernel⟩⟩

end Sys2Proof.Machine
end

section
/-! PROOFS. Frames of the plain updates, and the state at reset (O3). -/

namespace Sys2Proof.Machine

/-! ### Frames that widen -/

theorem State.SameBut.sub {s t : State} {l m : List Part} (h : s.SameBut t l) (k : l ⊆ m) : s.SameBut t m :=
  h.mono fun _ hp hl => hp (k hl)

theorem State.setReg_same (s : State) (id v : Nat) : s.SameBut (s.setReg id v) [.regs] := by
  intro p; cases p <;> simp [State.agree]

theorem State.onWeir_same (s : State) (f : Weir → Weir) : s.SameBut (s.onWeir f) [.weir] := by
  intro p; cases p <;> simp [State.agree]

theorem State.onMir_same (s : State) (f : Mirsen → Mirsen) : s.SameBut (s.onMir f) [.mir] := by
  intro p; cases p <;> simp [State.agree]

theorem State.onRec_same (s : State) (f : Recorder → Recorder) : s.SameBut (s.onRec f) [.rec_] := by
  intro p; cases p <;> simp [State.agree]

theorem State.onNv_same (s : State) (f : NvStore → NvStore) : s.SameBut (s.onNv f) [.nv] := by
  intro p; cases p <;> simp [State.agree]

theorem State.onCmd_same (s : State) (f : Cmd → Cmd) : s.SameBut (s.onCmd f) [.cmd] := by
  intro p; cases p <;> simp [State.agree]

theorem State.onFc_same (s : State) (f : Collector → Collector) : s.SameBut (s.onFc f) [.fc] := by
  intro p; cases p <;> simp [State.agree]

theorem State.emit_same (s : State) (o : Out) : s.SameBut (s.emit o) [.out] := by
  intro p; cases p <;> simp [State.agree]

theorem State.begin_same (s : State) : s.SameBut s.begin [.out] := by
  intro p; cases p <;> simp [State.agree]

/-! ### Answers -/

theorem Answers.imp {c : Instr} {s : State} {P Q : State → Prop} (h : Answers c s P) (k : ∀ t, P t → Q t) : Answers c s Q :=
  let ⟨t, e, p⟩ := h
  ⟨t, e, k t p⟩

/-! ### The state at reset (R9, R22, R429) -/

theorem State.reset_reg (id : Nat) : State.reset.reg id = paramDefault id := rfl

theorem State.reset_regsOk : State.reset.RegsOk := ⟨rfl, fun _ h => nomatch h⟩

theorem State.reset_protectionShown : State.reset.ProtectionShown := by
  unfold State.ProtectionShown
  rw [State.reset_reg]
  decide +kernel

/-- Settles O3: every field of the reset state is its default, and an empty register file reads every default. -/
theorem reset_state : Obligations.Reset_state :=
  ⟨rfl, rfl, rfl, rfl, rfl, rfl, State.reset_reg, by rw [State.reset_reg]; decide +kernel,
    State.reset_protectionShown, State.reset_regsOk, rfl⟩

end Sys2Proof.Machine
end

section
/-! PROOFS. Command packets: what acceptance by firmware leads to, the journal entry a command makes, and what a reply
sends and changes. -/

namespace Sys2Proof.Machine

/-! ### Packets: what acceptance leads to, and what a reply changes -/

theorem State.countStatus_same (s : State) (tr st : Nat) : s.SameBut (s.countStatus tr st) [.regs, .freeCtr] :=
  .ite ((s.addReg_same _ _).trans (State.addReg_same _ _ _))
    (.ite ((s.addReg_same _ _).trans (State.addReg_same _ _ _)) (.refl _ _))

theorem State.sendReply_same (s : State) (o : Owed) (st cs d : Nat) (l : List Nat) :
    s.SameBut (s.sendReply o st cs d l) [.out, .regs, .freeCtr, .mir] := by
  have c : s.SameBut (s.countStatus o.origin.transport st) [.out, .regs, .freeCtr, .mir] :=
    (s.countStatus_same _ _).sub (by decide)
  have e : ∀ (s : State) x, s.SameBut (s.emit x) [.out, .regs, .freeCtr, .mir] := fun s x =>
    (s.emit_same x).sub (by decide)
  unfold State.sendReply
  dsimp only
  exact .ite c (.ite ((c.trans (e _ _)).trans ((State.sendReplyMsg_same _ _ _ _ _).sub (by decide))) (c.trans (e _ _)))

/-- Acceptance does not look at what the previous command sent out. -/
theorem Accepted.begin {v : VSpec} {p : Pkt} {s : State} (h : Accepted v p s) (ok : v.ok s.begin = v.ok s)
    (persist : v.persist s.begin p = v.persist s p) : Accepted v p s.begin :=
  ⟨h.reaches, h.firmware, h.whole, h.mailbox, h.transport, h.free, h.fresh, h.older, ok.trans h.state, h.fields,
    fun k => h.quiet (persist ▸ k)⟩

/-- On a mailbox the packet's opcode is the mailbox's own (R422). -/
theorem Accepted.mail {v : VSpec} {p : Pkt} {s : State} (h : Accepted v p s) :
    (decide (p.transport < 2) && p.mailbox != v.op) = false := by
  by_cases low : p.transport < 2
  · simp [h.mailbox low]
  · simp only [decide_eq_false low, Bool.false_and]

/-- A status command without a journal entry, accepted by firmware, is its body and the reply. -/
theorem State.vendor_of_status {v : VSpec} {p : Pkt} {s : State} (h : Accepted v p s) (hs : v.status = true)
    (hj : v.journal = false) (body : Owed → State → Done) (hl : (body (pktOwed p v.op 0) s).later = false) :
    s.vendor v p body = (body (pktOwed p v.op 0) s).s.sendReply (pktOwed p v.op 0) (body (pktOwed p v.op 0) s).status 0
      (body (pktOwed p v.op 0) s).detail (body (pktOwed p v.op 0) s).slots := by
  have mail := h.mail
  obtain ⟨hr, hf, ⟨hshort, hcar, hmod, hlen⟩, -, htr, -, -, -, hok, hfields, -⟩ := h
  have len : ¬ 4088 < p.length := by omega
  unfold State.vendor
  simp only [hr, hf, hshort, hcar, hmod, hok, hfields, hj, hs, hl, htr, mail, len, bne_self_eq_false, Bool.not_true,
    Bool.not_false, Bool.and_false, Bool.false_and, Bool.or_false, if_true, if_false, List.contains_iff_mem.mpr,
    Bool.false_eq_true, decide_false]

/-! ### Replies: what goes out and what they count -/

theorem State.sendReplyMsg_out (s : State) (a b c : Nat) (l : List Nat) : s.out ⊆ (s.sendReplyMsg a b c l).out := by
  unfold State.sendReplyMsg
  dsimp only
  split
  · exact List.subset_append_left _ _
  · exact fun _ h => h

/-- A reply that is not discarded goes out, over every transport that carries packets (R422, R423). -/
theorem State.sendReply_mem (s : State) (o : Owed) (st cs d : Nat) (l : List Nat) (keep : o.discard = false)
    (tr : o.origin.transport < 5) : Out.reply o.origin o.opcode o.tag st cs d l ∈ (s.sendReply o st cs d l).out := by
  have go : ¬ (o.discard = true ∨ 5 ≤ o.origin.transport) := by simp [keep, tr]
  unfold State.sendReply
  dsimp only
  rw [if_neg go]
  split
  · exact State.sendReplyMsg_out _ _ _ _ _ (by simp)
  · simp

theorem counterReg_global {n : Nat} (h : n < 11) : counterReg (Reg.GLOBAL_COUNTER + n) = true := by
  simp [counterReg, h]

theorem counterReg_transport {n : Nat} (h : n < 64) : counterReg (Reg.TRANSPORT_COUNT + n) = true := by
  simp [counterReg, h]

theorem State.countStatus_reg (s : State) {tr : Nat} (st : Nat) (h : tr < 8) {j : Nat} (hj : counterReg j = false) :
    (s.countStatus tr st).reg j = s.reg j := by
  have ne {k : Nat} (hk : counterReg k = true) : j ≠ k := by rintro rfl; simp [hj] at hk
  unfold State.countStatus
  split
  · rw [State.reg_addReg_ne _ _ _ _ (ne (counterReg_transport (by omega))),
      State.reg_addReg_ne _ _ _ _ (ne (counterReg_global (n := 0) (by decide)))]
  · split
    · rename_i c
      have g : Reg.GLOBAL_COUNTER + st - 1 = Reg.GLOBAL_COUNTER + (st - 1) := by omega
      rw [add_assoc, State.reg_addReg_ne _ _ _ _ (ne (counterReg_transport (by omega))), g,
        State.reg_addReg_ne _ _ _ _ (ne (counterReg_global (by omega)))]
    · rfl

/-- A reply changes no register but the packet counters. -/
theorem State.sendReply_reg (s : State) (o : Owed) (st cs d : Nat) (l : List Nat) (h : o.origin.transport < 8) :
    s.RegsBut (s.sendReply o st cs d l) counterReg := by
  intro j hj
  have count := s.countStatus_reg st h hj
  unfold State.sendReply
  dsimp only
  split
  · exact count
  · split
    · exact (State.reg_of_regs (State.sendReplyMsg_same _ _ _ _ _ .regs (by decide)) j).trans count
    · exact count

/-! ### The journal: the entry a command has just made (R430, R431) -/

/-- The journal after an entry is added is what is kept of the old one and the entry. -/
theorem State.journalAdd_journal (s : State) (e : JEntry) :
    ∃ k, (s.journalAdd e).cmd.journal = s.cmd.journal.drop k ++ [e] := by
  refine ⟨(s.cmd.journal ++ [e]).length - 8192, ?_⟩
  rw [← List.drop_append_of_le_length (by rw [List.length_append, List.length_singleton]; omega)]
  simp only [State.journalAdd, State.onCmd_cmd]

/-- A completed entry is found under its CSEQ, when every older one has a lower one. -/
theorem State.journalDone_entry (s u : State) (e : JEntry) (st d : Nat) (older : ∀ x ∈ s.cmd.journal, x.cseq < e.cseq)
    (k : u.cmd = (s.journalAdd e).cmd) :
    (u.journalDone e.cseq st d).cmd.entry e.cseq = some { e with status := st, detail := d, evDone := u.reg Reg.REC_SEQ } := by
  obtain ⟨n, hn⟩ := s.journalAdd_journal e
  have journal : u.cmd.journal = s.cmd.journal.drop n ++ [e] := by rw [k, hn]
  have rest : ((s.cmd.journal.drop n).find? fun x => x.cseq == e.cseq) = none := by
    rw [List.find?_eq_none]
    intro x hx
    have := older x (List.mem_of_mem_drop hx)
    simp; omega
  have keeps : ((fun x : JEntry => x.cseq == e.cseq) ∘ fun x : JEntry =>
      if x.cseq = e.cseq then { x with status := st, detail := d, evDone := u.reg Reg.REC_SEQ } else x)
      = fun x => x.cseq == e.cseq := by
    funext x
    simp only [Function.comp]
    split <;> rfl
  unfold Cmd.entry State.journalDone
  rw [State.onCmd_cmd, journal]
  simp only [List.find?_map, keeps, List.find?_append, rest]
  simp

/-! ### Journalled commands whose mirrors stand in their own group (R414, R432) -/

/-- A journalled command whose mirrors stand in its own group, accepted by firmware: an entry under the next CSEQ, the
body, the entry completed, what the group writes to the NV Store, and the reply. -/
theorem State.vendor_of_group {v : VSpec} {p : Pkt} {s : State} (h : Accepted v p s) (hs : v.status = false)
    (hj : v.journal = true) (hg : v.inGroup = true) (body : Owed → State → Done)
    (hl : ∀ o s, (body o s).later = false) :
    ∃ (e : JEntry) (d : Done) (u : State), e.cseq = s.cmd.cseq + 1 ∧ d = body (pktOwed p v.op e.cseq) (s.journalAdd e)
      ∧ (d.s.journalDone e.cseq d.status d.detail).SameBut u [.nv]
      ∧ s.vendor v p body = u.sendReply (pktOwed p v.op e.cseq) d.status e.cseq d.detail d.slots := by
  have mail := h.mail
  obtain ⟨hr, hf, ⟨hshort, hcar, hmod, hlen⟩, -, htr, hfree, hfresh, -, hok, hfields, hquiet⟩ := h
  have len : ¬ 4088 < p.length := by omega
  have free : (s.cmd.owed.any fun q => decide (q.origin = (pktOwed p v.op 0).origin) && q.opcode != 0xC313) = false := by
    rcases hfree with c | c
    · simp [hs] at c
    · rw [List.any_eq_false]
      intro q hq
      simp [c q hq]
  have quiet : (v.persist s p && decide (s.nv.state = .quiet)) = false := by
    by_cases c : v.persist s p = true
    · simp [hquiet c]
    · simp [c]
  obtain ⟨e, he⟩ : ∃ e, e = s.entryOf p v.op (v.persist s p) := ⟨_, rfl⟩
  obtain ⟨d, hd⟩ : ∃ d, d = body (pktOwed p v.op e.cseq) (s.journalAdd e) := ⟨_, rfl⟩
  have now : d.later = false := by rw [hd]; exact hl _ _
  unfold State.vendor
  simp only [hr, hf, hshort, hcar, hmod, hfresh, hok, hfields, hj, hs, hg, free, htr, mail, quiet, len, ← he, ← hd,
    bne_self_eq_false, Bool.not_true, Bool.not_false, Bool.and_false, Bool.true_and, Bool.or_false, if_true, if_false,
    List.contains_iff_mem.mpr, Bool.false_eq_true, decide_false]
  refine ⟨e, d, _, by rw [he]; rfl, hd, ?_, by rw [if_neg (by simp [now])]; rfl⟩
  split
  · refine .ite (.refl _ _) (.ite (State.nvGroup_same _ _) (.ite (.refl _ _) (State.nvGroup_same _ _)))
  · exact .refl _ _

end Sys2Proof.Machine
end

section
/-! PROOFS. PARAM_GET (O49): reading a module's voltage wakes the estimator, so the read has an effect beside its reply. -/

namespace Sys2Proof.Machine

/-! ### What follows a command leaves the Cistern, where nothing is due -/

/-- What follows a command in a state in which the converter is sound, no FATAL report, begun activity or lost wheel
waits and no sequence is due changes these parts alone. -/
def finParts : List Part :=
  [.regs, .freeCtr, .rec_, .fc, .port, .mir, .out, .weir, .mgmt, .rill, .cmd, .whl]

theorem State.convJudge_of_good (s : State) (hf : s.seq.faultN = true) (hp : s.seq.holdupPg = true) :
    s.SameBut s.convJudge [.seq] ∧ s.convJudge.seq.stay = s.seq.stay := by
  have e : s.convJudge = s.onSeq fun x => { x with convFailed := false } := by simp [State.convJudge, hf, hp]
  rw [e]
  exact ⟨by intro p; cases p <;> simp [State.agree], rfl⟩

theorem State.startFresh_of_none (s : State) (h : ∀ n, (s.cmd.act n).fresh = false) : s.startFresh = s :=
  List.foldl_fixed' (fun n => by simp [h]) _

theorem State.activationRefused_same (s : State) : s.SameBut s.activationRefused [.regs, .mgmt, .out] := by
  unfold State.activationRefused
  dsimp only
  repeat' split
  all_goals (intro p; cases p <;> simp [State.agree])

theorem State.bistOver_same (s : State) : s.SameBut s.bistOver [.regs, .mgmt] := by
  unfold State.bistOver
  split
  all_goals (intro p; cases p <;> simp [State.agree])

theorem State.devLoad_same (s : State) (b : Bool) : s.SameBut (s.devLoad b) [.regs, .weir] := by
  have r : ∀ (s : State) (id v : Nat), s.SameBut (s.setReg id v) [.regs, .weir] := fun s id v =>
    (s.setReg_same id v).sub (by decide)
  have w : ∀ (s : State) (f : Weir → Weir), s.SameBut (s.onWeir f) [.regs, .weir] := fun s f =>
    (s.onWeir_same f).sub (by decide)
  unfold State.devLoad
  dsimp only
  refine .ite ((r _ _ _).trans (w _ _)) (.ite (.ite (.refl _ _) (.ite (w _ _) ((w _ _).trans (r _ _ _)))) (w _ _))

theorem State.rillGates_same (s : State) : s.SameBut s.rillGates [.rill] := by
  unfold State.rillGates
  dsimp only
  split
  all_goals (intro p; cases p <;> simp [State.agree])

theorem State.notePoison_same (s : State) : s.SameBut s.notePoison [.port] := by
  unfold State.notePoison
  intro p; cases p <;> simp [State.agree]

theorem State.protection_same (s : State) :
    s.SameBut s.protection [.regs, .freeCtr, .rec_, .fc, .port, .mir, .out] := by
  unfold State.protection
  dsimp only
  repeat' split
  all_goals (intro p; cases p <;> simp [State.agree])

theorem State.zeroCeiling_same (s : State) : s.SameBut s.zeroCeiling finParts := by
  unfold State.zeroCeiling
  repeat' split
  all_goals (intro p; cases p <;> simp [State.agree, finParts])

theorem State.compare_same (s : State) : s.SameBut s.compare finParts := by
  have w : ∀ (s : State) (f : Weir → Weir), s.SameBut (s.onWeir f) finParts := fun s f =>
    (s.onWeir_same f).sub (by decide)
  have r : ∀ (s : State) n, s.SameBut ((s.devLoad false).raise n) finParts := fun s n =>
    ((s.devLoad_same false).sub (by decide)).trans ((State.raise_same _ n 0 0 [] false).sub (by decide))
  have peak : ∀ (s : State) (c : Prop) [Decidable c] (v : Nat),
      s.SameBut (if c then s.putReg Reg.BREACH_PEAK v else s) finParts := fun s c _ v =>
    .ite ((s.putReg_same _ _).sub (by decide)) (.refl _ _)
  unfold State.compare
  dsimp only
  refine .ite (.refl _ _) (.ite (.ite (peak _ _ _) ?_) (.ite ((w _ _).trans (r _ _)) (.refl _ _)))
  exact (peak _ _ _).trans (((w _ _).trans ((State.addReg_same _ _ _).sub (by decide))).trans (r _ _))

theorem State.sendSync_same (s : State) (m : Nat) : s.SameBut (s.sendSync m) [.mir, .out] := by
  unfold State.sendSync
  exact .ite (.refl _ _) (s.sendTo_same _ _ _ _)

theorem State.syncAll_same (s : State) : s.SameBut s.syncAll [.mir, .out] :=
  .foldl _ (fun s (r : RosterRec) => s.sendSync_same r.member) _ _

theorem State.policySync_same (s : State) : s.SameBut s.policySync [.mir, .out] := by
  have m : ∀ f, s.SameBut (s.onMir f) [.mir, .out] := fun f => (s.onMir_same f).sub (by decide)
  exact .ite ((m _).trans (State.syncAll_same _)) (.refl _ _)

theorem State.lostFolds_of_none (s : State) (h : s.whl.lost = []) : s.lostFolds = s := by
  simp [State.lostFolds, h]

/-- Outside ONLINE the schedule only forgets what it asked for. -/
theorem State.schedule_of_offline (s : State) (h : s.dev ≠ .online) :
    s.SameBut s.schedule finParts ∧ s.schedule.whl.lost = s.whl.lost ∧ ∀ n, s.schedule.cmd.act n = s.cmd.act n := by
  unfold State.schedule
  rw [if_neg h]
  split
  · exact ⟨.refl _ _, rfl, fun _ => rfl⟩
  · exact ⟨by intro p; cases p <;> simp [State.agree, finParts], rfl, fun _ => rfl⟩

/-- A state in which nothing that could reach the energy modules is due after a command. -/
structure State.Calm (s : State) : Prop where
  faultN : s.seq.faultN = true
  holdupPg : s.seq.holdupPg = true
  stay : s.seq.stay = false
  fatal : s.fc.fatalPend = false
  offline : s.dev ≠ .online
  fresh : ∀ n, (s.cmd.act n).fresh = false
  lost : s.whl.lost = []

theorem State.startWaiting_of_stay (s : State) (h : s.seq.stay = false) : s.startWaiting = s := by
  simp [State.startWaiting, h]

/-- What follows a command in a calm state leaves the Cistern as it is. -/
theorem State.Calm.fin_cist {s : State} (h : s.Calm) : s.fin.cist = s.cist := by
  obtain ⟨a, ha, hj, hstay⟩ : ∃ a, a = (if s.seq.aonUp then s.convJudge else s) ∧ s.SameBut a [.seq]
      ∧ a.seq.stay = s.seq.stay := by
    refine ⟨_, rfl, ?_⟩
    split
    · exact s.convJudge_of_good h.faultN h.holdupPg
    · exact ⟨.refl _ _, rfl⟩
  have fatal : a.fatalReaction = a := by
    simp [State.fatalReaction, show a.fc = s.fc from hj .fc (by decide), h.fatal]
  obtain ⟨hs, hlost, hact⟩ := a.schedule_of_offline (by rw [show a.dev = s.dev from hj .dev (by decide)]; exact h.offline)
  have fresh : a.schedule.startFresh = a.schedule := State.startFresh_of_none _ fun n => by
    rw [hact, show a.cmd = s.cmd from hj .cmd (by decide)]; exact h.fresh n
  obtain ⟨c, hc⟩ : ∃ c, c = a.schedule.activationRefused.bistOver := ⟨_, rfl⟩
  have sc : a.schedule.SameBut c [.regs, .mgmt, .out] := by
    rw [hc]; exact (State.activationRefused_same _).trans ((State.bistOver_same _).sub (by decide))
  have lost : c.lostFolds = c := State.lostFolds_of_none _ (by
    rw [show c.whl = a.schedule.whl from sc .whl (by decide), hlost, show a.whl = s.whl from hj .whl (by decide)]
    exact h.lost)
  obtain ⟨d, hd⟩ : ∃ d, d = c.compare.zeroCeiling.rillGates.policySync := ⟨_, rfl⟩
  have sd : a.SameBut d finParts := by
    rw [hd]
    exact ((((hs.trans (sc.sub (by decide))).trans c.compare_same).trans (State.zeroCeiling_same _)).trans
      ((State.rillGates_same _).sub (by decide))).trans ((State.policySync_same _).sub (by decide))
  have offline : d.dev ≠ .online := by
    rw [show d.dev = a.dev from sd .dev (by decide), show a.dev = s.dev from hj .dev (by decide)]; exact h.offline
  have stay : d.startWaiting = d := State.startWaiting_of_stay _ (by
    rw [show d.seq = a.seq from sd .seq (by decide), hstay]; exact h.stay)
  have e : s.fin = d.notePoison.protection := by
    simp only [State.fin, ← ha, fatal, fresh, ← hc, lost, ← hd, if_neg offline, stay]
  rw [e]
  exact (State.protection_same _ .cist (by decide)).trans <| (State.notePoison_same _ .cist (by decide)).trans <|
    (sd .cist (by decide)).trans (hj .cist (by decide))

/-! ### PARAM_GET and the estimator's hibernation (R317, R428) -/

theorem runParamGet_of_accepted {p : Pkt} {s : State} (h : Accepted specParamGet p s) (hid : ∀ id ∈ p.slots, id < 65536) :
    runParamGet p s = (s.getAll p.slots).2.sendReply (pktOwed p 0xC010 0) St.SUCCESS 0 0 (s.getAll p.slots).1 := by
  have small : (p.slots.any fun w => decide (65536 ≤ w)) = false := by
    simpa [List.any_eq_false] using hid
  unfold runParamGet
  rw [State.vendor_of_status h rfl rfl _ (by simp [small])]
  simp [small, specParamGet]

/-- A device in MAINTENANCE, its firmware running and its link up, whose estimator hibernates. -/
def asleep : State :=
  { dev := .maintenance, prev := .online, cold := none
    seq := { aonUp := true, coreUp := true, state := .supervising }
    mgmt := { state := .running, started := true }
    nv := { state := .running, early := true }
    port := { up := true, media := .disabled }
    cist := { loaded := true, hibernating := true } }

/-- A PARAM_GET of MOD_VOLT_A over the primary mailbox. -/
def readVolt : Pkt :=
  { transport := 0, ld := 0, opcode := 0xC010, length := 8, carried := 8, mailbox := 0xC010, slots := [Reg.MOD_VOLT_A] }

theorem State.Calm.of_same {s t : State} (h : s.Calm) (k : s.SameBut t [.out, .regs, .freeCtr, .mir, .cist]) : t.Calm := by
  have q : t.seq = s.seq := k .seq (by decide)
  have f : t.fc = s.fc := k .fc (by decide)
  have d : t.dev = s.dev := k .dev (by decide)
  have c : t.cmd = s.cmd := k .cmd (by decide)
  have w : t.whl = s.whl := k .whl (by decide)
  exact ⟨q ▸ h.faultN, q ▸ h.holdupPg, q ▸ h.stay, f ▸ h.fatal, d ▸ h.offline, fun n => c ▸ h.fresh n, w ▸ h.lost⟩

theorem asleep_calm : asleep.Calm where
  faultN := rfl
  holdupPg := rfl
  stay := rfl
  fatal := rfl
  offline := by decide
  fresh n := by unfold Cmd.act; (repeat' split) <;> rfl
  lost := rfl

/-- The read wakes the estimator and changes nothing else of the machine. -/
theorem asleep_getAll : (asleep.begin.getAll readVolt.slots).2 = (asleep.begin.onCist fun c => { c with hibernating := false }) := by
  decide +kernel

theorem readVolt_accepted : Accepted specParamGet readVolt asleep where
  reaches := by decide +kernel
  firmware := rfl
  whole := ⟨rfl, rfl, rfl, by decide⟩
  mailbox _ := rfl
  transport := by decide
  free := .inl rfl
  fresh := rfl
  older := ⟨fun _ h => (nomatch h), fun _ h => (nomatch h)⟩
  state := rfl
  fields := by decide +kernel
  quiet h := nomatch h

/-- The machine after the read, before what follows the command. -/
theorem runParamGet_readVolt_same :
    (asleep.begin.onCist fun c => { c with hibernating := false }).SameBut (runParamGet readVolt asleep.begin)
      [.out, .regs, .freeCtr, .mir] := by
  rw [runParamGet_of_accepted (readVolt_accepted.begin rfl rfl) (by decide), asleep_getAll]
  exact State.sendReply_same _ _ _ _ _ _

/-- Refutes O49: reading MOD_VOLT_A is a bus access, which wakes a hibernating estimator (R317), so an accepted PARAM_GET
of assigned read-only IDs does not leave the Cistern as it was. -/
theorem not_parameter_read : ¬ Obligations.Parameter_read := by
  unfold Obligations.Parameter_read
  rintro ⟨reads, -⟩
  obtain ⟨t, run, -, same, -⟩ := reads readVolt asleep readVolt_accepted (by decide +kernel)
  have fin : (runParamGet readVolt asleep.begin).fin = t.fin := Host.Outcome.next.inj run
  have woken : (runParamGet readVolt asleep.begin).cist.hibernating = false := by
    rw [runParamGet_readVolt_same .cist (by decide)]; rfl
  have calmRun : (runParamGet readVolt asleep.begin).Calm := by
    have e : asleep.SameBut (asleep.begin.onCist fun c => { c with hibernating := false })
        [.out, .regs, .freeCtr, .mir, .cist] := by
      intro p; cases p <;> simp [State.agree]
    exact asleep_calm.of_same (e.trans (runParamGet_readVolt_same.sub (by decide)))
  have calm : t.Calm := asleep_calm.of_same (same.sub (by decide))
  have asleepStill : t.cist.hibernating = true := by rw [same .cist (by decide)]; rfl
  rw [← calm.fin_cist, ← fin, calmRun.fin_cist, woken] at asleepStill
  exact Bool.false_ne_true asleepStill

end Sys2Proof.Machine
end

section
/-! PROOFS. Writes of registers by their access codes (R11). -/

namespace Sys2Proof.Machine

/-! ### Bits -/

/-- Clearing takes away exactly the bits of the mask (R11). -/
theorem bit_clearBits (n : Nat) : ∀ x m : Nat, bit (clearBits x m) n = (bit x n && !bit m n) := by
  have low : ∀ x m : Nat, (x &&& m) % 2 = x % 2 &&& m % 2 := fun x m => Nat.and_mod_two_pow (n := 1)
  have half : ∀ x m : Nat, (x &&& m) / 2 = x / 2 &&& m / 2 := fun x m => Nat.and_div_two
  unfold bit clearBits
  induction n with
  | zero =>
    intro x m
    have le := Nat.and_le_left (n := x) (m := m)
    have l := low x m
    generalize x &&& m = y at le l ⊢
    simp only [Nat.testBit_zero]
    rcases Nat.mod_two_eq_zero_or_one x with hx | hx <;> rcases Nat.mod_two_eq_zero_or_one m with hm | hm <;>
      rw [hx, hm] at l <;> norm_num [hx, hm] at l ⊢ <;> omega
  | succ n ih =>
    intro x m
    have le := Nat.and_le_left (n := x) (m := m)
    have le2 := Nat.and_le_left (n := x % 2) (m := m % 2)
    have div : (x - (x &&& m)) / 2 = x / 2 - (x / 2 &&& m / 2) := by
      have l := low x m
      have h := half x m
      omega
    simp only [Nat.testBit_succ, div, ih]

theorem mem_setBits {x w n : Nat} : n ∈ setBits x w ↔ n < w ∧ bit x n = true := by
  have go : ∀ w k, n ∈ setBitsFrom x w k ↔ k ≤ n ∧ n < k + w ∧ bit x n = true := by
    intro w
    induction w with
    | zero => intro k; simp [setBitsFrom]; omega
    | succ w ih =>
      intro k
      unfold setBitsFrom
      split
      · rename_i hb
        rw [List.mem_cons, ih]
        constructor
        · rintro (rfl | ⟨h, h', b⟩)
          · exact ⟨le_refl _, by omega, hb⟩
          · exact ⟨by omega, by omega, b⟩
        · rintro ⟨h, h', b⟩
          rcases Nat.eq_or_lt_of_le h with e | e
          · exact .inl e.symm
          · exact .inr ⟨e, by omega, b⟩
      · rename_i hb
        rw [ih]
        constructor
        · rintro ⟨h, h', b⟩; exact ⟨by omega, by omega, b⟩
        · rintro ⟨h, h', b⟩
          have : n ≠ k := fun e => hb (e ▸ b)
          exact ⟨by omega, by omega, b⟩
  have := go w 0
  simpa [setBits] using this

theorem bit_mod {x w n : Nat} (h : n < w) : bit (x % 2 ^ w) n = bit x n := by
  simp [bit, Nat.testBit_mod_two_pow, h]

theorem bit_two_pow {n k : Nat} : bit (2 ^ n) k = decide (n = k) := by
  simp [bit, Nat.testBit_two_pow]

/-! ### Access codes of the registers that writes treat by themselves (R11) -/

theorem accessOf_evMask {id : Nat} (h : Reg.EV_MASK ≤ id ∧ id < Reg.EV_MASK + 6) : accessOf id = some .rwp := by
  have all : ∀ k < 6, accessOf (Reg.EV_MASK + k) = some .rwp := by decide +kernel
  obtain ⟨k, rfl⟩ := Nat.exists_eq_add_of_le h.1
  exact all k (by omega)

theorem accessOf_slotCounter {id : Nat} (h : slotCounter id = true) : accessOf id = some .rwp := by
  simp only [slotCounter, decide_eq_true_eq] at h
  obtain ⟨lo, hi, high⟩ := h
  have row : rowOf id = some ⟨id, id, 16, .rwp, 0, 0, 65535⟩ := by
    rw [rowOf, if_pos ⟨lo, hi⟩, slotRow, if_neg (by omega), if_neg (by omega), if_pos high]
  simp [accessOf, row]

theorem persistedId_false {id : Nat} {a : Access} (h : accessOf id = some a) (p : a ≠ .rwp) (q : a ≠ .rwsp) :
    persistedId id = false := by
  unfold persistedId
  rw [h]
  cases a <;> simp_all

theorem settable_of {id : Nat} {a : Access} (h : accessOf id = some a) (p : a = .rw ∨ a = .rws ∨ a = .rw1c) :
    settable id = true := by
  unfold settable
  rw [h]
  rcases p with rfl | rfl | rfl <;> rfl

theorem valueOk_lt {id v : Nat} (h : valueOk id v = true) : v < 2 ^ paramWidth id := by
  unfold valueOk at h
  unfold paramWidth
  split at h
  · cases h
  · rename_i r e
    simp only [Bool.and_eq_true, decide_eq_true_eq] at h
    rw [e]
    exact h.1.1

/-! ### What a write of a register stores -/

/-- The registers whose write starts something of its own (R366 to R389, R170), the masks and slot counters apart. -/
def ownEffect : List Nat :=
  [Reg.FC_STATUS, Reg.FC_FIRST, Reg.REC_CURSOR, Reg.REC_ADVANCE, Reg.JOURNAL_CURSOR, Reg.DST_DIAG_INDEX,
    Reg.WHEEL_DIAG_INDEX, Reg.COUNTER_LATCH, Reg.FI_CTRL, Reg.RIDE_THROUGH_MAX]

/-- Of the other registers, one of access RW or RWS takes the value and one of access RW1C loses its bits (R11). -/
theorem State.writeReg_of_plain (s : State) {id : Nat} {a : Access} (v : Nat) (h : accessOf id = some a) (ne : a ≠ .rwp)
    (o : id ∉ ownEffect) : (a = .rw ∨ a = .rws → s.writeReg id v = s.setReg id v)
      ∧ (a = .rw1c → s.writeReg id v = s.setReg id (clearBits (s.reg id) v)) := by
  have other : accessOf id ≠ some .rwp := by rw [h]; exact fun c => ne (Option.some.inj c)
  have mask : ¬ (Reg.EV_MASK ≤ id ∧ id < Reg.EV_MASK + 6) := fun c => other (accessOf_evMask c)
  have slot : ¬ slotCounter id = true := fun c => other (accessOf_slotCounter c)
  simp only [ownEffect, List.mem_cons, List.not_mem_nil, or_false, not_or] at o
  obtain ⟨o1, o2, o3, o4, o5, o6, o7, o8, o9, o10⟩ := o
  rw [State.writeReg, if_neg o1, if_neg o2, if_neg mask, if_neg o3, if_neg o4, if_neg o5, if_neg o6, if_neg o7,
    if_neg o8, if_neg o9, if_neg o10, if_neg slot, h]
  constructor
  · rintro (rfl | rfl) <;> rfl
  · rintro rfl
    rfl

/-- A register holds the value written, and what commits persist, host memory and the device state are as before. -/
structure State.Stores (s t : State) (id v : Nat) : Prop where
  value : t.reg id = v
  persisted : ∀ j, persistedId j = true → t.reg j = s.reg j
  mem : t.mem = s.mem
  dev : t.dev = s.dev

theorem State.reg_setReg_persisted (s : State) {k j : Nat} (v : Nat) (hk : persistedId k = false)
    (hj : persistedId j = true) : (s.setReg k v).reg j = s.reg j :=
  s.reg_setReg_ne k v j (by rintro rfl; simp [hk] at hj)

theorem State.setReg_stores (s : State) {id v : Nat} (hv : v < 2 ^ paramWidth id) (hp : persistedId id = false) :
    s.Stores (s.setReg id v) id v :=
  ⟨s.reg_setReg _ _ hv, fun _ hj => s.reg_setReg_persisted v hp hj, rfl, rfl⟩

/-- A further register that is not persisted may be written after the one in question. -/
theorem State.Stores.setReg {s t : State} {id v : Nat} (h : s.Stores t id v) {k : Nat} (w : Nat) (ne : id ≠ k)
    (hk : persistedId k = false) : s.Stores (t.setReg k w) id v :=
  ⟨(t.reg_setReg_ne _ _ _ ne).trans h.value, fun j hj => (t.reg_setReg_persisted w hk hj).trans (h.persisted j hj),
    h.mem, h.dev⟩

/-- Nor does a change of the recorder, the commands or the collector touch it. -/
theorem State.Stores.of_same {s t u : State} {id v : Nat} (h : s.Stores t id v) (k : t.SameBut u [.rec_, .cmd, .fc]) :
    s.Stores u id v :=
  have r := fun j => State.reg_of_regs (k .regs (by decide)) j
  ⟨(r id).trans h.value, fun j hj => (r j).trans (h.persisted j hj), (k .mem (by decide)).trans h.mem,
    (k .dev (by decide)).trans h.dev⟩

theorem State.loadRec_stores (s : State) {c : Nat} (hc : c < 2 ^ 48) : s.Stores (s.loadRec c) Reg.REC_CURSOR c := by
  have base := s.setReg_stores (id := Reg.REC_CURSOR) (v := c) hc (by decide +kernel)
  have info : persistedId Reg.REC_INFO = false := by decide +kernel
  unfold State.loadRec
  dsimp only
  split
  · exact base.setReg _ (by decide) info
  · exact ((base.setReg _ (by decide) (by decide +kernel)).setReg _ (by decide) info).of_same
      ((State.onRec_same _ _).sub (by decide))

theorem State.journalCursor_stores (s : State) {c : Nat} (hc : c < 2 ^ 48) :
    s.Stores (s.journalCursor c) Reg.JOURNAL_CURSOR c := by
  have base := s.setReg_stores (id := Reg.JOURNAL_CURSOR) (v := c) hc (by decide +kernel)
  unfold State.journalCursor
  dsimp only
  split <;> exact base.of_same ((State.onCmd_same _ _).sub (by decide))

theorem State.dstDiag_stores (s : State) {v : Nat} (hv : v < 2 ^ paramWidth Reg.DST_DIAG_INDEX) :
    s.Stores (s.dstDiag v) Reg.DST_DIAG_INDEX v := by
  have base := s.setReg_stores hv (by decide +kernel)
  have words := fun a b => (base.setReg (k := Reg.DST_DIAG_WORD0) a (by decide) (by decide +kernel)).setReg
    (k := Reg.DST_DIAG_WORD1) b (by decide) (by decide +kernel)
  unfold State.dstDiag
  dsimp only
  split <;> exact words _ _

theorem State.wheelDiag_stores (s : State) {v : Nat} (hv : v < 2 ^ paramWidth Reg.WHEEL_DIAG_INDEX) :
    s.Stores (s.wheelDiag v) Reg.WHEEL_DIAG_INDEX v := by
  have base := s.setReg_stores hv (by decide +kernel)
  have word := fun a => base.setReg (k := Reg.WHEEL_DIAG) a (by decide) (by decide +kernel)
  unfold State.wheelDiag
  dsimp only
  split <;> exact word _

theorem State.fiWrite_stores (s : State) {v : Nat} (hv : v < 2 ^ paramWidth Reg.FI_CTRL) :
    s.Stores (s.fiWrite v) Reg.FI_CTRL v := by
  have base := s.setReg_stores hv (by decide +kernel)
  unfold State.fiWrite
  split
  · exact (base.setReg _ (by decide) (by decide +kernel)).of_same ((State.onFc_same _ _).sub (by decide))
  · exact base

/-- A write of a register of access RW or RWS stores a value of its range (R11). -/
theorem State.writeReg_stores (s : State) {id v : Nat} (h : accessOf id = some .rw ∨ accessOf id = some .rws)
    (hv : v < 2 ^ paramWidth id) : s.Stores (s.writeReg id v) id v := by
  have hp : persistedId id = false := h.elim (fun e => persistedId_false e (by decide) (by decide))
    fun e => persistedId_false e (by decide) (by decide)
  have not {k : Nat} {a : Access} (ha : accessOf k = some a) (b : a ≠ .rw) (c : a ≠ .rws) : id ≠ k := by
    rintro rfl
    rw [ha] at h
    rcases h with e | e <;> simp_all
  have n1 : id ≠ Reg.FC_STATUS := not (a := .rw1c) (by decide +kernel) (by decide) (by decide)
  have n2 : id ≠ Reg.FC_FIRST := not (a := .rw1c) (by decide +kernel) (by decide) (by decide)
  have n3 : id ≠ Reg.REC_ADVANCE := not (a := .wo) (by decide +kernel) (by decide) (by decide)
  have n4 : id ≠ Reg.COUNTER_LATCH := not (a := .wo) (by decide +kernel) (by decide) (by decide)
  have n5 : id ≠ Reg.RIDE_THROUGH_MAX := not (a := .rwp) (by decide +kernel) (by decide) (by decide)
  by_cases c1 : id = Reg.REC_CURSOR
  · subst c1; exact s.loadRec_stores hv
  by_cases c2 : id = Reg.JOURNAL_CURSOR
  · subst c2; exact s.journalCursor_stores hv
  by_cases c3 : id = Reg.DST_DIAG_INDEX
  · subst c3; exact s.dstDiag_stores hv
  by_cases c4 : id = Reg.WHEEL_DIAG_INDEX
  · subst c4; exact s.wheelDiag_stores hv
  by_cases c5 : id = Reg.FI_CTRL
  · subst c5; exact s.fiWrite_stores hv
  have plain : id ∉ ownEffect := by simp [ownEffect, n1, n2, n3, n4, n5, c1, c2, c3, c4, c5]
  have write : s.writeReg id v = s.setReg id v := by
    rcases h with e | e
    · exact (s.writeReg_of_plain v e (by decide) plain).1 (.inl rfl)
    · exact (s.writeReg_of_plain v e (by decide) plain).1 (.inr rfl)
  rw [write]
  exact s.setReg_stores hv hp

/-! ### Write-one-to-clear -/

/-- One FC_STATUS bit and its severity field cleared. -/
def State.clearSource (s : State) (n : Nat) : State :=
  (s.setReg Reg.FC_STATUS (clearBits (s.reg Reg.FC_STATUS) (2 ^ n))).setReg (Reg.FC_SEV + n / 16)
    (setField (s.reg (Reg.FC_SEV + n / 16)) (3 * (n % 16) + 2) (3 * (n % 16)) 0)

theorem State.clearFc_eq (s : State) (m : Nat) : s.clearFc m = (setBits m 48).foldl State.clearSource s := rfl

theorem State.clearSource_reg (s : State) {n j : Nat} (hn : n < 48) (h : ∀ k < 4, j ≠ Reg.FC_STATUS + k) :
    (s.clearSource n).reg j = s.reg j := by
  have sev : j ≠ Reg.FC_SEV + n / 16 := by
    have := h (1 + n / 16) (by omega)
    simp only [Reg.FC_STATUS, Reg.FC_SEV] at this ⊢
    omega
  rw [State.clearSource, State.reg_setReg_ne _ _ _ _ sev, State.reg_setReg_ne _ _ _ _ (h 0 (by decide))]

theorem State.clearFc_same (s : State) (m : Nat) : s.SameBut (s.clearFc m) [.regs] :=
  .foldl State.clearSource (fun s _ => (s.setReg_same _ _).trans (State.setReg_same _ _ _)) _ _

theorem State.clearFc_reg (s : State) (m : Nat) {j : Nat} (h : ∀ k < 4, j ≠ Reg.FC_STATUS + k) :
    (s.clearFc m).reg j = s.reg j :=
  State.foldl_reg_mem State.clearSource j _ s fun s _ hn => s.clearSource_reg (mem_setBits.mp hn).1 h

theorem State.clearSource_status (s : State) (i : Nat) {n : Nat} (h : n < 48) :
    bit ((s.clearSource i).reg Reg.FC_STATUS) n = (bit (s.reg Reg.FC_STATUS) n && !decide (i = n)) := by
  have ne : Reg.FC_STATUS ≠ Reg.FC_SEV + i / 16 := by simp only [Reg.FC_STATUS, Reg.FC_SEV]; omega
  have w : paramWidth Reg.FC_STATUS = 48 := by decide +kernel
  rw [State.clearSource, State.reg_setReg_ne _ _ _ _ ne, State.reg_setReg_same, w, bit_mod h, bit_clearBits, bit_two_pow]

/-- FC_STATUS loses exactly the bits written as 1 (R366). -/
theorem State.clearFc_status (s : State) (m : Nat) {n : Nat} (h : n < 48) :
    bit ((s.clearFc m).reg Reg.FC_STATUS) n = (bit (s.reg Reg.FC_STATUS) n && !bit m n) := by
  have go : ∀ (l : List Nat) (s : State), bit ((l.foldl State.clearSource s).reg Reg.FC_STATUS) n
      = (bit (s.reg Reg.FC_STATUS) n && !decide (n ∈ l)) := by
    intro l
    induction l with
    | nil => intro s; simp
    | cons i l ih =>
      intro s
      rw [List.foldl_cons, ih, s.clearSource_status i h]
      by_cases c : n = i <;> simp [c, eq_comm]
  have mem : decide (n ∈ setBits m 48) = bit m n := by simp [mem_setBits, h]
  rw [s.clearFc_eq, go, mem]

/-- A write of a register of access RW1C, FC_FIRST apart, clears in it the bits that are 1 (R11); nothing that commits
persist changes, and no part of the state but the register file. -/
structure State.Clears (s t : State) (id v : Nat) : Prop where
  bits : ∀ n, n < paramWidth id → bit (t.reg id) n = (bit (s.reg id) n && !bit v n)
  persisted : ∀ j, persistedId j = true → t.reg j = s.reg j
  same : s.SameBut t [.regs]

theorem State.setReg_clears (s : State) {id : Nat} (v : Nat) (hp : persistedId id = false) :
    s.Clears (s.setReg id (clearBits (s.reg id) v)) id v :=
  ⟨fun n hn => by rw [State.reg_setReg_same, bit_mod hn, bit_clearBits],
    fun _ hj => s.reg_setReg_persisted _ hp hj, s.setReg_same _ _⟩

theorem State.clearFc_clears (s : State) (m : Nat) : s.Clears (s.clearFc m) Reg.FC_STATUS m := by
  have w : paramWidth Reg.FC_STATUS = 48 := by decide +kernel
  have free : ∀ k < 4, persistedId (Reg.FC_STATUS + k) = false := by decide +kernel
  refine ⟨fun n hn => s.clearFc_status m (w ▸ hn), fun j hj => s.clearFc_reg m fun k hk => ?_, s.clearFc_same m⟩
  rintro rfl
  simp [free k hk] at hj

theorem State.writeReg_clears (s : State) {id : Nat} (v : Nat) (h : accessOf id = some .rw1c) (first : id ≠ Reg.FC_FIRST) :
    s.Clears (s.writeReg id v) id v := by
  have not {k : Nat} {a : Access} (ha : accessOf k = some a) (b : a ≠ .rw1c) : id ≠ k := by
    rintro rfl
    rw [ha] at h
    exact b (Option.some.inj h)
  by_cases c : id = Reg.FC_STATUS
  · subst c; exact s.clearFc_clears v
  have n1 : id ≠ Reg.REC_CURSOR := not (a := .rw) (by decide +kernel) (by decide)
  have n2 : id ≠ Reg.REC_ADVANCE := not (a := .wo) (by decide +kernel) (by decide)
  have n3 : id ≠ Reg.JOURNAL_CURSOR := not (a := .rw) (by decide +kernel) (by decide)
  have n4 : id ≠ Reg.DST_DIAG_INDEX := not (a := .rw) (by decide +kernel) (by decide)
  have n5 : id ≠ Reg.WHEEL_DIAG_INDEX := not (a := .rw) (by decide +kernel) (by decide)
  have n6 : id ≠ Reg.COUNTER_LATCH := not (a := .wo) (by decide +kernel) (by decide)
  have n7 : id ≠ Reg.FI_CTRL := not (a := .rw) (by decide +kernel) (by decide)
  have n8 : id ≠ Reg.RIDE_THROUGH_MAX := not (a := .rwp) (by decide +kernel) (by decide)
  have plain : id ∉ ownEffect := by simp [ownEffect, c, first, n1, n2, n3, n4, n5, n6, n7, n8]
  rw [(s.writeReg_of_plain v h (by decide) plain).2 rfl]
  exact s.setReg_clears v (persistedId_false h (by decide) (by decide))

/-! ### REGISTER_WRITE (R11) -/

theorem answers_registerWrite {id v : Nat} {s : State} (up : s.seq.coreUp = true) (hp : persistedId id = false)
    (hs : settable id = true) (hv : v < 2 ^ 48) (ok : valueOk id v = true) (now : s.writableNow id = true)
    {P : State → Prop} (h : P (s.begin.writeReg id v)) : Answers (.registerWrite id v) s P := by
  refine ⟨_, rfl, ?_⟩
  have now' : s.begin.writableNow id = true := now
  rw [Nat.mod_eq_of_lt hv]
  simpa [hp, hs, ok, now', State.softWrite, up] using h

/-- Only persisted registers and FI_CTRL and DOMAIN_POLICY are ever held back. -/
theorem State.writableNow_of_rw1c (s : State) {id : Nat} (h : accessOf id = some .rw1c) : s.writableNow id = true := by
  have bound : ∀ k ∈ boundIds, accessOf k = some .rwp := by decide +kernel
  have n1 : id ∉ boundIds := fun c => by simpa [h] using bound id c
  have n2 : id ≠ Reg.FI_CTRL := by rintro rfl; revert h; decide +kernel
  have n3 : id ≠ Reg.DOMAIN_POLICY := by rintro rfl; revert h; decide +kernel
  simp [State.writableNow, n1, n2, n3]

/-- A register of access RW or RWS within its range stores the value written (R11). -/
theorem registerWrite_stores {id v : Nat} {s : State} (up : s.seq.coreUp = true)
    (h : accessOf id = some .rw ∨ accessOf id = some .rws) (hv : v < 2 ^ 48) (ok : valueOk id v = true)
    (now : s.writableNow id = true) : Answers (.registerWrite id v) s fun t => s.begin.Stores t id v := by
  have hp : persistedId id = false := h.elim (fun e => persistedId_false e (by decide) (by decide))
    fun e => persistedId_false e (by decide) (by decide)
  have hs : settable id = true := h.elim (fun e => settable_of e (.inl rfl)) fun e => settable_of e (.inr (.inl rfl))
  exact answers_registerWrite up hp hs hv ok now (s.begin.writeReg_stores h (valueOk_lt ok))

theorem registerWrite_clears {id v : Nat} {s : State} (up : s.seq.coreUp = true) (h : accessOf id = some .rw1c)
    (first : id ≠ Reg.FC_FIRST) (hv : v < 2 ^ 48) (ok : valueOk id v = true) :
    Answers (.registerWrite id v) s fun t => s.begin.Clears t id v :=
  answers_registerWrite up (persistedId_false h (by decide) (by decide)) (settable_of h (.inr (.inr rfl))) hv ok
    (s.writableNow_of_rw1c h) (s.begin.writeReg_clears v h first)

theorem registerWrite_unsettable {id v : Nat} {s : State} (hp : persistedId id = false) (hs : settable id = false) :
    Answers (.registerWrite id v) s fun t => t = s.begin := by
  refine ⟨_, rfl, ?_⟩
  simp [hp, hs]

end Sys2Proof.Machine
end

section
/-! PROOFS. PF1's direct registers, register writes and unassigned opcodes (O54). -/

namespace Sys2Proof.Machine

/-! ### Opcodes with no command, and the diagnostics of camub (R422, R426) -/

theorem reservedOpcode_reply {p : Pkt} {s : State} (ho : opAssigned p.opcode = false) (hr : s.reaches p.transport = true)
    (lo : 2 ≤ p.transport) (hi : p.transport < 5) (hs : p.short = false) (hm : p.length % 8 = 0) (hl : p.length ≤ 4088)
    (hc : p.carried = p.length) : Answers (.reservedOpcode p) s fun t =>
      (∃ o, Out.reply o p.opcode p.tag St.UNSUPPORTED 0 0 [] ∈ t.out) ∧ s.SameBut t [.out, .regs, .freeCtr, .mir] := by
  have run : runReservedOpcode p s.begin = s.begin.sendReply (pktOwed p p.opcode 0) St.UNSUPPORTED 0 0 [] := by
    have hr' : s.begin.reaches p.transport = true := hr
    unfold runReservedOpcode
    simp [ho, hr', hs, hm, hc, Nat.not_lt.mpr hl, Nat.not_lt.mpr lo]
  refine ⟨runReservedOpcode p s.begin, rfl, ?_⟩
  rw [run]
  exact ⟨⟨_, State.sendReply_mem _ _ _ _ _ _ rfl hi⟩, (s.begin_same.sub (by decide)).trans (State.sendReply_same _ _ _ _ _ _)⟩

theorem reservedOpcode_mailbox {p : Pkt} {s : State} (ho : opAssigned p.opcode = false) (hr : s.reaches p.transport = true)
    (lo : p.transport < 2) (hs : p.short = false) (hc : p.carried = p.length) (hm : p.mailbox = p.opcode) :
    Answers (.reservedOpcode p) s fun t => t.out = [.mailbox p.opcode 3] ∧ s.SameBut t [.out] := by
  have run : runReservedOpcode p s.begin = s.begin.emit (.mailbox p.opcode 3) := by
    have hr' : s.begin.reaches p.transport = true := hr
    unfold runReservedOpcode
    simp [ho, hr', hs, hc, hm, lo, Ret.code]
  refine ⟨runReservedOpcode p s.begin, rfl, ?_⟩
  rw [run]
  exact ⟨rfl, s.begin_same.trans (State.emit_same _ _)⟩

theorem State.free_same (s : State) (tag : Nat) : s.SameBut (s.free tag).2 [.freeCtr] := by
  intro p; cases p <;> simp [State.agree, State.free]

theorem State.freeWords_same (s : State) (tag n : Nat) : s.SameBut (s.freeWords tag n).2 [.freeCtr] := by
  induction n generalizing s with
  | zero => exact .refl _ _
  | succ n ih => exact (s.free_same tag).trans (ih _)

/-- What a diagnostic's body answers: free values alone (R426). -/
theorem runCamub_of_accepted {p : Pkt} {s : State} (lo : 0xC800 ≤ p.opcode) (hi : p.opcode ≤ 0xCFFF)
    (h : Accepted (specCamub p.opcode) p s) : ∃ u st l, s.SameBut u [.freeCtr]
      ∧ runCamubDiagnostic p s = u.sendReply (pktOwed p p.opcode 0) st 0 0 l := by
  unfold runCamubDiagnostic
  rw [if_neg (by omega), State.vendor_of_status h rfl rfl _ rfl]
  exact ⟨_, _, _, ((s.free_same _).trans (State.free_same _ _)).trans (State.freeWords_same _ _ _), rfl⟩

theorem camubDiagnostic_answers {p : Pkt} {s : State} (lo : 0xC800 ≤ p.opcode) (hi : p.opcode ≤ 0xCFFF)
    (h : Accepted (specCamub p.opcode) p s) : Answers (.camubDiagnostic p) s fun t =>
      (∃ status slots, Replied (specCamub p.opcode) p t status slots) ∧ s.SameBut t [.out, .regs, .freeCtr, .mir]
        ∧ s.RegsBut t counterReg := by
  obtain ⟨u, st, l, same, run⟩ := runCamub_of_accepted lo hi (h.begin rfl rfl)
  have tr : p.transport < 4 := by
    have := h.transport
    simp only [specCamub, List.mem_cons, List.not_mem_nil, or_false] at this
    omega
  have all : s.SameBut u [.out, .regs, .freeCtr, .mir] := (s.begin_same.sub (by decide)).trans (same.sub (by decide))
  refine ⟨runCamubDiagnostic p s.begin, rfl, ?_⟩
  rw [run]
  refine ⟨⟨st, l, 0, 0, u.sendReply_mem _ _ _ _ _ rfl (by simp [pktOwed]; omega)⟩,
    all.trans (State.sendReply_same _ _ _ _ _ _), fun j hj => ?_⟩
  rw [u.sendReply_reg _ _ _ _ _ (by simp [pktOwed]; omega) j hj]
  exact (State.reg_of_regs (same .regs (by decide)) j).trans (State.begin_reg s j)

/-! ### PF1's doorbells (R381, R435) -/

theorem hostDoorbellLatch_answers {s : State} (h : s.pf1 = true) : Answers .hostDoorbellLatch s fun t =>
    t.cmd.latched = ([Reg.DIRTY_BYTES, Reg.JOURNAL_HEAD, Reg.JOURNAL_OLDEST, Reg.REC_SEQ].map fun id => (id, s.begin.view id))
      ∧ s.SameBut t [.out, .cmd] := by
  have h' : s.begin.pf1 = true := h
  refine ⟨_, rfl, ?_⟩
  rw [if_pos h']
  exact ⟨rfl, (s.begin_same.sub (by decide)).trans ((State.onCmd_same _ _).sub (by decide))⟩

/-- A later state of a PF1's MSI-X table: the same masks, and every message sent or held is still sent or held. -/
structure State.MsixAfter (s t : State) (ld : Nat) : Prop where
  regs : t.regs = s.regs
  deliver : ∀ v, canDeliver t ld v = canDeliver s ld v
  out : s.out ⊆ t.out
  held : (s.port.fn1 ld).msix.held ⊆ (t.port.fn1 ld).msix.held

theorem State.MsixAfter.refl (s : State) (ld : Nat) : s.MsixAfter s ld := ⟨rfl, fun _ => rfl, fun _ h => h, fun _ h => h⟩

theorem State.MsixAfter.trans {s t u : State} {ld : Nat} (h : s.MsixAfter t ld) (k : t.MsixAfter u ld) : s.MsixAfter u ld :=
  ⟨k.regs.trans h.regs, fun v => (k.deliver v).trans (h.deliver v), List.Subset.trans h.out k.out, List.Subset.trans h.held k.held⟩

theorem State.fn1_onPf1 (s : State) (ld : Nat) (f : Pf1 → Pf1) : ((s.onPf1 ld f).port.fn1 ld) = f (s.port.fn1 ld) :=
  mget_mset_same _ _ _ _

theorem State.msixTo_after (s : State) (n ld : Nat) : s.MsixAfter (s.msixTo n ld) ld := by
  unfold State.msixTo
  dsimp only
  split
  · exact ⟨rfl, fun _ => rfl, List.subset_append_left _ _, fun _ h => h⟩
  · refine ⟨by simp, fun v => ?_, by simp, ?_⟩
    · simp only [canDeliver, State.fn1_onPf1]
      rfl
    · rw [State.fn1_onPf1]
      exact List.subset_append_left _ _

/-- The message of event `n` has gone out or is held on a PF1, as that PF1's masks say (R381). -/
def State.Signalled (s t : State) (ld n : Nat) : Prop :=
  if canDeliver s ld (field (s.reg (Reg.EV_ROUTE + n)) 5 0) then .msix ld (field (s.reg (Reg.EV_ROUTE + n)) 5 0) ∈ t.out
  else (field (s.reg (Reg.EV_ROUTE + n)) 5 0, n) ∈ (t.port.fn1 ld).msix.held

theorem State.msixTo_signalled (s : State) (n ld : Nat) : s.Signalled (s.msixTo n ld) ld n := by
  unfold State.Signalled State.msixTo
  dsimp only
  split
  · simp
  · rw [State.fn1_onPf1]
    simp

theorem State.Signalled.after {s t u : State} {ld n : Nat} (h : s.Signalled t ld n) (k : t.MsixAfter u ld) :
    s.Signalled u ld n := by
  unfold State.Signalled at h ⊢
  split
  · rename_i c; rw [if_pos c] at h; exact k.out h
  · rename_i c; rw [if_neg c] at h; exact k.held h

theorem State.Signalled.before {s t u : State} {ld n : Nat} (k : s.MsixAfter t ld) (h : t.Signalled u ld n) :
    s.Signalled u ld n := by
  unfold State.Signalled at h ⊢
  rwa [k.deliver, State.reg_of_regs k.regs] at h

/-- An event whose message RESEND sends: set, unmasked, its route sending one (R435). -/
def resends (s : State) (n : Nat) : Bool :=
  evBit s Reg.EV_STATUS n && !evBit s Reg.EV_MASK n && bit (s.reg (Reg.EV_ROUTE + n)) 6

/-- RESEND's work for one event. -/
def State.resendOne (ld : Nat) (s : State) (n : Nat) : State := if resends s n then s.msixTo n ld else s

theorem resends_of_after {s t : State} {ld : Nat} (h : s.MsixAfter t ld) (n : Nat) : resends t n = resends s n := by
  simp only [resends, evBit, State.reg_of_regs h.regs]

theorem State.resendOne_after (ld : Nat) (s : State) (n : Nat) : s.MsixAfter (s.resendOne ld n) ld := by
  unfold State.resendOne
  split
  · exact s.msixTo_after n ld
  · exact .refl _ _

theorem State.resend_after (ld : Nat) (l : List Nat) (s : State) : s.MsixAfter (l.foldl (State.resendOne ld) s) ld := by
  induction l generalizing s with
  | nil => exact .refl _ _
  | cons n l ih => exact (State.resendOne_after ld s n).trans (ih _)

theorem State.resend_signalled (ld : Nat) (l : List Nat) (s : State) {n : Nat} (hn : n ∈ l) (h : resends s n = true) :
    s.Signalled (l.foldl (State.resendOne ld) s) ld n := by
  induction l generalizing s with
  | nil => cases hn
  | cons i l ih =>
    have step := State.resendOne_after ld s i
    rcases List.mem_cons.mp hn with rfl | later
    · have one : s.Signalled (s.resendOne ld n) ld n := by
        rw [State.resendOne, if_pos h]; exact s.msixTo_signalled n ld
      exact one.after (State.resend_after ld l _)
    · exact .before step (ih _ later ((resends_of_after step n).trans h))

theorem State.resend_same (ld : Nat) (l : List Nat) (s : State) :
    s.SameBut (l.foldl (State.resendOne ld) s) [.out, .port] :=
  .foldl _ (fun s n => .ite ((s.msixTo_same n ld).sub (by decide)) (.refl _ _)) _ _

theorem hostDoorbellResend_answers {ld : Nat} {s : State} (h : s.pf1Of ld = true) : Answers (.hostDoorbellResend ld) s fun t =>
    (∀ n, n < 288 → evBit s Reg.EV_STATUS n = true → evBit s Reg.EV_MASK n = false → bit (s.reg (Reg.EV_ROUTE + n)) 6 = true →
      s.Signalled t ld n) ∧ s.SameBut t [.out, .port] := by
  have h' : s.begin.pf1Of ld = true := h
  refine ⟨(List.range 288).foldl (State.resendOne ld) s.begin, ?_, fun n hn set open_ sends => ?_, ?_⟩
  · change after _ = _
    rw [if_pos h']
    rfl
  · have due : resends s.begin n = true := by
      change (evBit s Reg.EV_STATUS n && !evBit s Reg.EV_MASK n && bit (s.reg (Reg.EV_ROUTE + n)) 6) = true
      simp [set, open_, sends]
    exact State.resend_signalled ld _ s.begin (List.mem_range.mpr hn) due
  · exact (s.begin_same.sub (by decide)).trans (State.resend_same ld _ _)

/-! ### The checks of a commit look at neither the journal nor what has gone out (R414) -/

/-- The state with other commands and another output. -/
def State.withCmdOut (s : State) (c : Cmd) (o : List Out) : State := { s with cmd := c, out := o }

theorem State.begin_journalAdd (s : State) (e : JEntry) : ∃ c, s.begin.journalAdd e = s.withCmdOut c [] := ⟨_, rfl⟩

theorem groupRules_withCmdOut (c : Cmd) (o : List Out) : ∀ r ∈ groupRules, ∀ s : State, r.2.2 (s.withCmdOut c o) = r.2.2 s := by
  simp only [groupRules, List.forall_mem_cons]
  repeat' apply And.intro
  on_goal 21 => exact fun _ h => nomatch h
  all_goals exact fun _ => rfl

theorem State.overlay_withCmdOut (c : Cmd) (o : List Out) (es : List (Nat × Nat)) (s : State) :
    es.foldl (fun t p => if persistedId p.1 then t.setReg p.1 p.2 else t) (s.withCmdOut c o)
      = (es.foldl (fun t p => if persistedId p.1 then t.setReg p.1 p.2 else t) s).withCmdOut c o := by
  induction es generalizing s with
  | nil => rfl
  | cons p es ih =>
    simp only [List.foldl_cons]
    rw [← ih]
    split <;> rfl

theorem State.writableNow_withCmdOut (s : State) (c : Cmd) (o : List Out) (id : Nat) :
    (s.withCmdOut c o).writableNow id = s.writableNow id := rfl

theorem State.checkEntries_withCmdOut (s : State) (c : Cmd) (o : List Out) (es : List (Nat × Nat)) :
    (s.withCmdOut c o).checkEntries es = s.checkEntries es := by
  unfold State.checkEntries
  simp only [State.writableNow_withCmdOut, State.overlay_withCmdOut]
  generalize es.foldl (fun t p => if persistedId p.1 then t.setReg p.1 p.2 else t) s = u
  have rules : ∀ r ∈ groupRules, (es.any (fun p => r.2.1 p.1) && !r.2.2 (u.withCmdOut c o))
      = (es.any (fun p => r.2.1 p.1) && !r.2.2 u) := fun r hr => by rw [groupRules_withCmdOut c o r hr]
  rw [List.find?_congr rules]

/-! ### One persisted register set through the commit boundary (R412, R414) -/

/-- A persisted register reads a value, no other persisted one has changed, and of the machine's parts only those that a
commit writes have. -/
structure State.Sets (s t : State) (id v : Nat) : Prop where
  value : t.reg id = v
  persisted : ∀ j, persistedId j = true → j ≠ id → t.reg j = s.reg j
  same : s.SameBut t [.out, .regs, .freeCtr, .nv, .cmd, .port, .mir]

theorem State.setReg_sets (s : State) {id v : Nat} (hv : v < 2 ^ paramWidth id) : s.Sets (s.setReg id v) id v :=
  ⟨s.reg_setReg _ _ hv, fun j _ ne => s.reg_setReg_ne _ _ _ ne, (s.setReg_same _ _).sub (by decide)⟩

/-- Neither registers that are not persisted nor the parts beside the register file undo it. -/
theorem State.Sets.then {s t u : State} {id v : Nat} (h : s.Sets t id v) (reg : u.reg id = t.reg id)
    (regs : ∀ j, persistedId j = true → u.reg j = t.reg j)
    (same : t.SameBut u [.out, .regs, .freeCtr, .nv, .cmd, .port, .mir]) : s.Sets u id v :=
  ⟨reg.trans h.value, fun j hj ne => (regs j hj).trans (h.persisted j hj ne), h.same.trans same⟩

theorem State.Sets.setReg {s t : State} {id v : Nat} (h : s.Sets t id v) {k : Nat} (w : Nat) (hp : persistedId id = true)
    (hk : persistedId k = false) : s.Sets (t.setReg k w) id v :=
  h.then (t.reg_setReg_persisted w hk hp) (fun _ hj => t.reg_setReg_persisted w hk hj) ((t.setReg_same _ _).sub (by decide))

theorem State.Sets.of_same {s t u : State} {id v : Nat} (h : s.Sets t id v)
    (k : t.SameBut u [.out, .freeCtr, .nv, .cmd, .port, .mir]) : s.Sets u id v :=
  have r := fun j => State.reg_of_regs (k .regs (by decide)) j
  h.then (r id) (fun j _ => r j) (k.sub (by decide))

/-- A write of a mask word stores it, and else sends or holds the messages of the events it opens (R381). -/
theorem State.writeMask_same (s : State) (k v : Nat) : (s.setReg (Reg.EV_MASK + k) v).SameBut (s.writeMask k v) [.port, .out] :=
  .foldl _ (fun s _ => .ite (s.msix_same _) (.refl _ _)) _ _

theorem State.writeMask_sets (s : State) {k v : Nat} (hv : v < 2 ^ paramWidth (Reg.EV_MASK + k)) :
    s.Sets (s.writeMask k v) (Reg.EV_MASK + k) v :=
  (s.setReg_sets hv).of_same ((s.writeMask_same k v).sub (by decide))

/-- A record that the log has room for is written, or held, and nothing but the NV Store changes (R404, R416). -/
theorem State.nvWrite_same_of_room (s : State) (d : NvData) (h : 4 ≤ s.nv.logFree) : s.SameBut (s.nvWrite d) [.nv] := by
  have room : ¬ s.nv.refuses d = true := by simp [NvStore.refuses, Nat.not_lt.mpr h]
  unfold State.nvWrite State.nvPut
  rw [if_neg room]
  refine .ite (.refl _ _) (.ite ?_ ?_)
  · split
    · intro p; cases p <;> simp [State.agree]
    · exact s.nvHold_same _
  · intro p; cases p <;> simp [State.agree]

theorem State.writeImage_sets {s t : State} {id v : Nat} (h : s.Sets t id v) (hp : persistedId id = true)
    (room : 4 ≤ t.nv.logFree) : s.Sets t.writeImage id v := by
  have gen : persistedId Reg.CFG_GEN = false := by decide +kernel
  have deltas : persistedId Reg.CFG_DELTAS = false := by decide +kernel
  unfold State.writeImage
  dsimp only
  refine ((h.of_same (((t.onNv_same _).trans (State.nvWrite_same_of_room _ _ ?_)).sub (by decide))).setReg _ hp gen).setReg
    _ hp deltas
  rw [State.onNv_nv]
  split <;> exact room

theorem State.writeImage_cmd (s : State) (room : 4 ≤ s.nv.logFree) : s.writeImage.cmd = s.cmd := by
  unfold State.writeImage
  dsimp only
  refine (State.nvWrite_same_of_room _ _ ?_ .cmd (by decide)).trans rfl
  rw [State.onNv_nv]
  split <;> exact room

/-- An image that is due is written with the commit, where the log has room for it (R411). -/
theorem State.dueImage_sets {s t : State} {id v : Nat} (h : s.Sets t id v) (hp : persistedId id = true)
    (room : flag t Reg.CFG_STATUS 0 = true → 4 ≤ t.nv.logFree) (c : Prop) [Decidable c] :
    s.Sets (if c ∧ flag t Reg.CFG_STATUS 0 = true then
        t.writeImage.setReg Reg.CFG_STATUS (clearBits (t.reg Reg.CFG_STATUS) 1) else t) id v
      ∧ (if c ∧ flag t Reg.CFG_STATUS 0 = true then
        t.writeImage.setReg Reg.CFG_STATUS (clearBits (t.reg Reg.CFG_STATUS) 1) else t).cmd = t.cmd := by
  split
  · rename_i due
    exact ⟨(State.writeImage_sets h hp (room due.2)).setReg _ hp (by decide +kernel), State.writeImage_cmd _ (room due.2)⟩
  · exact ⟨h, rfl⟩

/-- The mask words: their IDs, width and access. -/
theorem evMask_row {k : Nat} (h : k < 6) : persistedId (Reg.EV_MASK + k) = true ∧ imageId (Reg.EV_MASK + k) = true
    ∧ paramWidth (Reg.EV_MASK + k) = 48 := by
  have all : ∀ k < 6, persistedId (Reg.EV_MASK + k) = true ∧ imageId (Reg.EV_MASK + k) = true
      ∧ paramWidth (Reg.EV_MASK + k) = 48 := by decide +kernel
  exact all k h

theorem cleanValue_evMask {k : Nat} (v : Nat) (h : k < 6) : cleanValue (Reg.EV_MASK + k) v = v &&& assignedBits k := by
  rw [cleanValue, if_pos ⟨by omega, by omega⟩, Nat.add_sub_cancel_left]

theorem writeReg_evMask (s : State) {k : Nat} (v : Nat) (h : k < 6) : s.writeReg (Reg.EV_MASK + k) v = s.writeMask k v := by
  rw [State.writeReg, if_neg (by simp only [Reg.EV_MASK, Reg.FC_STATUS]; omega), if_neg (by simp only [Reg.EV_MASK, Reg.FC_FIRST]; omega),
    if_pos ⟨by omega, by omega⟩, Nat.add_sub_cancel_left]

/-- The commit boundary for one mask word. -/
theorem State.boundary_evMask (s : State) {k v : Nat} (hk : k < 6) (hv : v < 2 ^ 48)
    (room : flag s Reg.CFG_STATUS 0 = true → 4 ≤ s.nv.logFree) :
    s.Sets (s.boundary [(Reg.EV_MASK + k, v)]).2 (Reg.EV_MASK + k) (v &&& assignedBits k)
      ∧ (s.boundary [(Reg.EV_MASK + k, v)]).2.cmd = s.cmd := by
  obtain ⟨pers, image, width⟩ := evMask_row hk
  have value : v &&& assignedBits k < 2 ^ paramWidth (Reg.EV_MASK + k) := by
    rw [width]; exact lt_of_le_of_lt Nat.and_le_left hv
  have base := s.writeMask_sets value
  have gen : persistedId Reg.PARAM_GEN = false := by decide +kernel
  have deltas : persistedId Reg.CFG_DELTAS = false := by decide +kernel
  have rate : Reg.EV_MASK + k ≠ Reg.CHANNEL_RATE := by simp only [Reg.EV_MASK, Reg.CHANNEL_RATE]; omega
  have weir : ¬ (0x0800 ≤ Reg.EV_MASK + k ∧ Reg.EV_MASK + k < 0x0B00) := by simp only [Reg.EV_MASK]; omega
  have bw : Reg.EV_MASK + k ≠ Reg.MAINT_BW_MAX ∧ Reg.EV_MASK + k ≠ Reg.RILL_RATE_MAX := by
    simp only [Reg.EV_MASK, Reg.MAINT_BW_MAX, Reg.RILL_RATE_MAX]; omega
  unfold State.boundary
  simp only [List.map_cons, List.map_nil, List.filter_cons, List.filter_nil, image, if_true, List.foldl_cons,
    List.foldl_nil, List.any_cons, List.any_nil, rate, weir, bw, cleanValue_evMask v hk, writeReg_evMask s _ hk,
    Bool.or_false, Bool.false_eq_true, if_false, decide_false, false_and, or_self]
  have counted := fun a b => (base.setReg (k := Reg.PARAM_GEN) a pers gen).setReg (k := Reg.CFG_DELTAS) b pers deltas
  have nv : (s.writeMask k (v &&& assignedBits k)).nv = s.nv := s.writeMask_same k _ .nv (by decide)
  have cmd : (s.writeMask k (v &&& assignedBits k)).cmd = s.cmd := s.writeMask_same k _ .cmd (by decide)
  have flag_ : (s.writeMask k (v &&& assignedBits k)).reg Reg.CFG_STATUS = s.reg Reg.CFG_STATUS :=
    (State.reg_of_regs (s.writeMask_same k _ .regs (by decide)) _).trans
      (s.reg_setReg_ne _ _ _ (by simp only [Reg.EV_MASK, Reg.CFG_STATUS]; omega))
  refine And.imp_right (fun e => Eq.trans e cmd) (State.dueImage_sets (counted _ _) pers (fun due => ?_) _)
  rw [flag, State.reg_setReg_ne _ _ _ _ (by decide), State.reg_setReg_ne _ _ _ _ (by decide), flag_] at due
  rw [State.setReg_nv, State.setReg_nv, nv]
  exact room due

/-! ### A BAR write of an event mask (R435) -/

theorem State.commitEntries_of_passed (s : State) (es : List (Nat × Nat)) (h : s.checkEntries es = none) :
    s.commitEntries es = { s := (s.boundary es).2, group := some (s.boundary es).1 } := by
  simp [State.commitEntries, h]

theorem State.commitEntries_later (s : State) (es : List (Nat × Nat)) : (s.commitEntries es).later = false := by
  unfold State.commitEntries
  split <;> rfl

/-- No packet counter is persisted. -/
theorem counterReg_of_persisted {j : Nat} (h : persistedId j = true) : counterReg j = false := by
  have status : ∀ n < 11, persistedId (Reg.GLOBAL_COUNTER + n) = false := by decide +kernel
  have transport : ∀ n < 64, persistedId (Reg.TRANSPORT_COUNT + n) = false := by decide +kernel
  have outside {a w : Nat} (none_ : ∀ n < w, persistedId (a + n) = false) : ¬ (a ≤ j ∧ j < a + w) := by
    rintro ⟨lo, hi⟩
    obtain ⟨n, rfl⟩ := Nat.exists_eq_add_of_le lo
    simp [none_ n (by omega)] at h
  simp only [counterReg, decide_eq_false (outside status), decide_eq_false (outside transport), Bool.or_false]

theorem State.Sets.before {s t u : State} {id v : Nat} (k : s.SameBut t [.out, .cmd]) (h : t.Sets u id v) : s.Sets u id v :=
  ⟨h.value, fun j hj ne => (h.persisted j hj ne).trans (State.reg_of_regs (k .regs (by decide)) j),
    (k.sub (by decide)).trans h.same⟩

/-- A reply undoes nothing that a commit has set. -/
theorem State.Sets.sendReply {s t : State} {id v : Nat} (h : s.Sets t id v) (hp : persistedId id = true) (o : Owed)
    (st cs d : Nat) (l : List Nat) (tr : o.origin.transport < 8) : s.Sets (t.sendReply o st cs d l) id v :=
  have r := t.sendReply_reg o st cs d l tr
  h.then (r id (counterReg_of_persisted hp)) (fun j hj => r j (counterReg_of_persisted hj))
    ((t.sendReply_same _ _ _ _ _).sub (by decide))

/-- The PARAM_SET that a BAR write of an event mask carries out, and the journal entry it leaves. -/
theorem runParamSet_evMask {ld k v : Nat} {s : State} (hk : k < 6)
    (h : Accepted specParamSet (barPkt ld (Reg.EV_MASK + k) v) s)
    (passed : s.checkEntries [(Reg.EV_MASK + k, v % 2 ^ 48)] = none)
    (room : flag s Reg.CFG_STATUS 0 = true → 4 ≤ s.nv.logFree) :
    s.Sets (runParamSet (barPkt ld (Reg.EV_MASK + k) v) s.begin) (Reg.EV_MASK + k) (v % 2 ^ 48 &&& assignedBits k)
      ∧ ∃ e, (runParamSet (barPkt ld (Reg.EV_MASK + k) v) s.begin).cmd.entry (s.cmd.cseq + 1) = some e
          ∧ e.status = St.SUCCESS ∧ e.detail = 0 := by
  obtain ⟨pers, -, -⟩ := evMask_row hk
  obtain ⟨e, d, u, hcseq, hd, written, run⟩ := State.vendor_of_group (h.begin rfl rfl) rfl rfl rfl
    (fun _ s =>
      let d := s.commitEntries (stageAdd [] (pairsOf (barPkt ld (Reg.EV_MASK + k) v).slots))
      { d with detail := d.detail % 65536 }) (fun _ s => s.commitEntries_later _)
  rw [State.begin_cmd] at hcseq
  obtain ⟨c, hc⟩ := s.begin_journalAdd e
  have passed' : (s.begin.journalAdd e).checkEntries [(Reg.EV_MASK + k, v % 2 ^ 48)] = none := by
    rw [hc, State.checkEntries_withCmdOut, passed]
  obtain ⟨sets, cmd⟩ := (s.begin.journalAdd e).boundary_evMask hk (Nat.mod_lt v (Nat.two_pow_pos 48)) (by rw [hc]; exact room)
  have one : stageAdd [] (pairsOf (barPkt ld (Reg.EV_MASK + k) v).slots) = [(Reg.EV_MASK + k, v % 2 ^ 48)] := rfl
  simp only [one, State.commitEntries_of_passed _ _ passed'] at hd
  have run' : runParamSet (barPkt ld (Reg.EV_MASK + k) v) s.begin
      = u.sendReply (pktOwed (barPkt ld (Reg.EV_MASK + k) v) specParamSet.op e.cseq) d.status e.cseq d.detail d.slots := run
  have start : s.SameBut (s.begin.journalAdd e) [.out, .cmd] :=
    (s.begin_same.sub (by decide)).trans ((State.onCmd_same _ _).sub (by decide))
  have ds : d.s = ((s.begin.journalAdd e).boundary [(Reg.EV_MASK + k, v % 2 ^ 48)]).2 := by rw [hd]
  rw [run']
  constructor
  · refine State.Sets.sendReply (.of_same (.before start sets) ?_) pers _ _ _ _ _ (by decide : (5 : Nat) < 8)
    rw [← ds]
    exact ((State.onCmd_same _ _).sub (by decide)).trans (written.sub (by decide))
  · rw [← hcseq, State.sendReply_same _ _ _ _ _ _ .cmd (by decide), written .cmd (by decide)]
    refine ⟨_, State.journalDone_entry s.begin d.s e _ _ (fun x hx => ?_) (ds ▸ cmd), ?_, ?_⟩
    · have := h.older.2 x hx
      omega
    · rw [hd]
    · rw [hd]

theorem barParamWrite_evMask {ld k v : Nat} {s : State} (hk : k < 6) (up : s.pf1Of ld = true)
    (h : Accepted specParamSet (barPkt ld (Reg.EV_MASK + k) v) s)
    (passed : s.checkEntries [(Reg.EV_MASK + k, v % 2 ^ 48)] = none)
    (room : flag s Reg.CFG_STATUS 0 = true → 4 ≤ s.nv.logFree) :
    Answers (.barParamWrite (0x80C0 + 8 * k) v ld) s fun t =>
      s.Sets t (Reg.EV_MASK + k) (v % 2 ^ 48 &&& assignedBits k) ∧ t.reg Reg.CMD_LAST_STATUS = 0x80C0 + 8 * k := by
  obtain ⟨sets, e, entry, status, detail⟩ := runParamSet_evMask hk h passed room
  have up' : s.begin.pf1Of ld = true := up
  have slot : (0x80C0 + 8 * k - 0x80C0) / 8 = k := by omega
  have bar : s.begin.barSet ld (0x80C0 + 8 * k) (Reg.EV_MASK + k) v
      = (runParamSet (barPkt ld (Reg.EV_MASK + k) v) s.begin).setReg Reg.CMD_LAST_STATUS (0x80C0 + 8 * k) := by
    have low : (0x80C0 + 8 * k) % 65536 = 0x80C0 + 8 * k := by omega
    unfold State.barSet
    simp only [State.begin_cmd, entry, status, detail, low, at', Nat.zero_mul, Nat.add_zero]
  refine ⟨s.begin.barSet ld (0x80C0 + 8 * k) (Reg.EV_MASK + k) v, ?_, ?_, ?_⟩
  · change after _ = _
    rw [if_pos ⟨up', by omega, by omega, by omega⟩, slot]
    rfl
  · rw [bar]
    exact sets.setReg _ (evMask_row hk).1 (by decide +kernel)
  · have width : paramWidth Reg.CMD_LAST_STATUS = 48 := by decide +kernel
    rw [bar, State.reg_setReg _ _ _ (by rw [width]; omega)]

/-- Settles O54: the clauses in turn are a mask's BAR write, the two doorbells, the three kinds of register write, the
unassigned opcode off and on a mailbox, and the reserved diagnostics. -/
theorem direct_registers : Obligations.Direct_registers := by
  refine ⟨fun ld k v s hk up h passed room => ?_, fun ld s h => hostDoorbellResend_answers h,
    fun s h => hostDoorbellLatch_answers h, fun id v s up h hv ok now => ?_, fun id v s up h first hv ok => ?_,
    fun id v s hp hs => registerWrite_unsettable hp hs,
    fun p s ho hr lo hi hs hm hl hc => reservedOpcode_reply ho hr lo hi hs hm hl hc,
    fun p s ho hr lo hs hc hm => reservedOpcode_mailbox ho hr lo hs hc hm,
    fun p s lo hi h => camubDiagnostic_answers lo hi h⟩
  · exact (barParamWrite_evMask hk up h passed room).imp fun t ⟨set, shown⟩ =>
      ⟨set.value, shown, set.persisted, set.same⟩
  · exact (registerWrite_stores up h hv ok now).imp fun t st => ⟨st.value, st.persisted, st.mem, st.dev⟩
  · exact (registerWrite_clears up h first hv ok).imp fun t cl =>
      ⟨cl.bits, cl.persisted, (s.begin_same.sub (by decide)).trans (cl.same.sub (by decide))⟩

end Sys2Proof.Machine
end

section
/-! PROOFS. PROTECTION_STATUS shows its code after every step (O2). -/

namespace Sys2Proof.Machine

/-! ### What the code of Table 1-2a reads (R22, R23) -/

/-- Parts and registers from which `State.protectionCode` and its comparison are read agree. -/
structure State.ShownAlike (s t : State) : Prop where
  dev : t.dev = s.dev
  cist : t.cist = s.cist
  basin : t.basin = s.basin
  ceiling : t.reg Reg.CEILING = s.reg Reg.CEILING
  floor : t.reg Reg.WEIR_FLOOR = s.reg Reg.WEIR_FLOOR
  status : t.reg Reg.PROTECTION_STATUS = s.reg Reg.PROTECTION_STATUS

theorem State.ShownAlike.shown {s t : State} (h : s.ShownAlike t) (k : s.ProtectionShown) : t.ProtectionShown := by
  unfold State.ProtectionShown State.protectionCode at *
  rw [h.dev, h.cist, h.basin, h.ceiling, h.floor, h.status]
  exact k

theorem State.ShownAlike.trans {s t u : State} (h : s.ShownAlike t) (k : t.ShownAlike u) : s.ShownAlike u :=
  ⟨k.dev.trans h.dev, k.cist.trans h.cist, k.basin.trans h.basin, k.ceiling.trans h.ceiling, k.floor.trans h.floor,
    k.status.trans h.status⟩

theorem State.ShownAlike.of_same {s t : State} {l : List Part} (h : s.SameBut t l) (dev : .dev ∉ l) (cist : .cist ∉ l)
    (basin : .basin ∉ l) (regs : .regs ∉ l) : s.ShownAlike t :=
  have r := State.reg_of_regs (h .regs regs)
  ⟨h .dev dev, h .cist cist, h .basin basin, r _, r _, r _⟩

theorem State.raise_shownAlike (s : State) (n : Nat) : s.ShownAlike (s.raise n) :=
  ⟨by simp, by simp, by simp, s.raise_reg _ _ _ _ _ _ (by decide), s.raise_reg _ _ _ _ _ _ (by decide),
    s.raise_reg _ _ _ _ _ _ (by decide)⟩

theorem State.fault_shownAlike (s : State) {n : Nat} (v : Sev) (h : n < 48) : s.ShownAlike (s.fault n v) :=
  ⟨by simp, by simp, by simp, s.fault_reg _ _ _ _ _ _ h (by decide), s.fault_reg _ _ _ _ _ _ h (by decide),
    s.fault_reg _ _ _ _ _ _ h (by decide)⟩

/-! ### What follows every command (R22, R109, R123) -/

theorem State.protectionCode_lt (s : State) : s.protectionCode < 5 := by
  unfold State.protectionCode
  repeat' split
  all_goals decide

/-- The register takes a code, and the code does not depend on it. -/
theorem State.setProtection_shown (s : State) : (s.setReg Reg.PROTECTION_STATUS s.protectionCode).ProtectionShown := by
  have width : 5 ≤ 2 ^ paramWidth Reg.PROTECTION_STATUS := by decide +kernel
  unfold State.ProtectionShown
  rw [State.reg_setReg _ _ _ (s.protectionCode_lt.trans_le width)]
  unfold State.protectionCode
  rw [State.reg_setReg_ne _ _ _ Reg.CEILING (by decide), State.reg_setReg_ne _ _ _ Reg.WEIR_FLOOR (by decide)]
  rfl

theorem State.protection_shown (s : State) : s.protection.ProtectionShown := by
  unfold State.protection
  dsimp only
  split
  case isTrue now => exact now.symm
  case isFalse =>
    have event := (State.raise_shownAlike _ Ev.PROTECTION_CHANGE).shown s.setProtection_shown
    split
    · exact ((State.fault_shownAlike _ _ (by decide)).trans (State.raise_shownAlike _ _)).shown event
    · exact event

/-- `State.fin` ends by bringing PROTECTION_STATUS up to date. -/
theorem State.fin_protectionShown (s : State) : s.fin.ProtectionShown := by
  unfold State.fin
  exact State.protection_shown _

theorem exec_protectionShown (c : Instr) (s : State) : ∃ t, exec c s = .next t ∧ t.ProtectionShown :=
  let ⟨t, h⟩ := Laws.exec_answers c s
  ⟨t.fin, h, t.fin_protectionShown⟩

/-! ### A millisecond without a command (R22, R124) -/

theorem State.countBreach_shownAlike (s : State) : s.ShownAlike s.countBreach := by
  unfold State.countBreach
  split
  · exact ⟨by simp, by simp, by simp, s.reg_addReg_ne _ _ _ (by decide), s.reg_addReg_ne _ _ _ (by decide),
      s.reg_addReg_ne _ _ _ (by decide)⟩
  · exact .of_same (.refl s []) (by decide) (by decide) (by decide) (by decide)

theorem State.countHold_shownAlike (s : State) : s.ShownAlike s.countHold := by
  unfold State.countHold
  split <;> exact ⟨rfl, rfl, rfl, rfl, rfl, rfl⟩

theorem State.noteInflow_shownAlike (s : State) : s.ShownAlike s.noteInflow := by
  unfold State.noteInflow
  split <;> exact ⟨rfl, rfl, rfl, rfl, rfl, rfl⟩

/-- The clock, what went out, the breach and hold counts, the frames and the Weir's inflow are not what the code reads. -/
theorem State.tick_shownAlike (s : State) : s.ShownAlike s.tick :=
  have clock : s.ShownAlike { s with now := s.now + 1, out := [] } := ⟨rfl, rfl, rfl, rfl, rfl, rfl⟩
  have acked (t : State) : t.ShownAlike t.framesAcked := ⟨rfl, rfl, rfl, rfl, rfl, rfl⟩
  (((clock.trans (State.countBreach_shownAlike _)).trans (State.countHold_shownAlike _)).trans (acked _)).trans
    (State.noteInflow_shownAlike _)

/-- Settles O2: a command's step ends in `State.fin`, which brings PROTECTION_STATUS up to date; a millisecond without
a command changes nothing that the code is read from. -/
theorem step_keeps_protection : Obligations.Step_keeps_protection := by
  refine ⟨fun s shown => ?_, exec_protectionShown⟩
  unfold step
  split
  case h_1 => exact ⟨s.tick, rfl, s.tick_shownAlike.shown shown⟩
  case h_2 c rest _ => exact exec_protectionShown c _

end Sys2Proof.Machine
end

section
/-! PROOFS. The host port's rules: what a report leaves of it, what addresses are read from, and memory and dirty pages
after a write. -/

namespace Sys2Proof.Machine

/-! ### Frames of several changes -/

theorem State.SameBut.widen {s t : State} {l m : List Part} (h : s.SameBut t m) (k : m ⊆ l := by decide) : s.SameBut t l := h.sub k

/-- One more change, of parts among those listed. -/
theorem State.SameBut.next {s t u : State} {l m : List Part} (h : s.SameBut t l) (k : t.SameBut u m) (sub : m ⊆ l := by decide) :
    s.SameBut u l := h.trans (k.sub sub)

/-! ### What events and records leave of the port (R64, R381) -/

/-- The port without what events write to it: PF1's held messages and the CXL event logs. -/
def HostPort.bare (h : HostPort) : HostPort := { h with pf1 := [], logs := [], logOver := [] }

@[simp] theorem State.msixTo_bare (s : State) (n ld : Nat) : (s.msixTo n ld).port.bare = s.port.bare := by
  unfold State.msixTo
  dsimp only
  split <;> rfl

theorem State.foldl_bare {α : Type} (f : State → α → State) (h : ∀ (s : State) (a : α), (f s a).port.bare = s.port.bare) :
    ∀ (as : List α) (s : State), (as.foldl f s).port.bare = s.port.bare
  | [], _ => rfl
  | a :: as, s => (foldl_bare f h as (f s a)).trans (h s a)

@[simp] theorem State.msix_bare (s : State) (n : Nat) : (s.msix n).port.bare = s.port.bare :=
  State.foldl_bare _ (fun s ld => s.msixTo_bare n ld) _ s

@[simp] theorem State.logMsix_bare (s : State) (n ld : Nat) : (s.logMsix n ld).port.bare = s.port.bare := by
  unfold State.logMsix
  dsimp only
  split <;> rfl

@[simp] theorem State.logPut_bare (s : State) (n : Nat) (x : LogRec) : (s.logPut n x).port.bare = s.port.bare := by
  unfold State.logPut
  dsimp only
  split <;> rfl

@[simp] theorem State.cxlRecord_bare (s : State) (n : Nat) (x : LogRec) : (s.cxlRecord n x).port.bare = s.port.bare :=
  (State.foldl_bare _ (fun s ld => s.logMsix_bare n ld) _ _).trans (s.logPut_bare n x)

@[simp] theorem State.cxlLog_bare (s : State) (a b c d : Nat) : (s.cxlLog a b c d).port.bare = s.port.bare :=
  State.cxlRecord_bare _ _ _

@[simp] theorem State.raise_bare (s : State) (n a b : Nat) (w : List Nat) (z : Bool) :
    (s.raise n a b w z).port.bare = s.port.bare := by
  unfold State.raise
  dsimp only
  repeat' split
  all_goals simp

@[simp] theorem State.fault_bare (s : State) (n : Nat) (v : Sev) (c : Nat) (j : Bool) (w : List Nat) :
    (s.fault n v c j w).port.bare = s.port.bare := by
  unfold State.fault
  dsimp only
  repeat' split
  all_goals simp

@[simp] theorem State.nvPut_bare (s : State) (d : NvData) (g : NvStore → NvData → NvStore) :
    (s.nvPut d g).port.bare = s.port.bare := by
  unfold State.nvPut
  repeat' split
  all_goals simp

theorem State.onPort_same (s : State) (f : HostPort → HostPort) : s.SameBut (s.onPort f) [.port] := by
  intro p; cases p <;> simp [State.agree]

theorem State.onBasin_same (s : State) (f : Basin → Basin) : s.SameBut (s.onBasin f) [.basin] := by
  intro p; cases p <;> simp [State.agree]

/-- What a report, its event and an update of the NV Store may change, the port as `HostPort.bare` shows it. -/
structure State.Noted (s t : State) : Prop where
  same : s.SameBut t [.out, .cmd, .regs, .freeCtr, .rec_, .fc, .port, .mir, .nv]
  bare : t.port.bare = s.port.bare

theorem State.Noted.refl (s : State) : s.Noted s := ⟨.refl _ _, rfl⟩

theorem State.Noted.trans {s t u : State} (h : s.Noted t) (k : t.Noted u) : s.Noted u :=
  ⟨h.same.trans k.same, k.bare.trans h.bare⟩

theorem State.Noted.of_same {s t : State} {l : List Part} (h : s.SameBut t l)
    (k : l ⊆ [.out, .cmd, .regs, .freeCtr, .rec_, .fc, .mir, .nv] := by decide) : s.Noted t :=
  ⟨h.sub fun p hp => by have := k hp; simp at this ⊢; tauto, congrArg HostPort.bare (h .port fun hp => by simpa using k hp)⟩

theorem State.Noted.ite {c : Prop} [Decidable c] {s t u : State} (h : s.Noted t) (k : s.Noted u) :
    s.Noted (if c then t else u) := by split <;> assumption

theorem State.fault_noted (s : State) (n : Nat) (v : Sev) (c : Nat) (j : Bool) (w : List Nat) : s.Noted (s.fault n v c j w) :=
  ⟨(s.fault_same _ _ _ _ _).widen, s.fault_bare ..⟩

theorem State.nvDurable_noted (s : State) (d : NvData) : s.Noted (s.nvDurable d) :=
  ⟨(s.nvDurable_same d).widen, s.nvPut_bare ..⟩

theorem State.begin_noted (s : State) : s.Noted s.begin := .of_same s.begin_same

theorem State.emit_noted (s : State) (o : Out) : s.Noted (s.emit o) := .of_same (s.emit_same o)

/-! ### What addresses are read from (R49, R52, R57, R63) -/

/-- The parts of the state that decoding, the partitions and the serving of extents are read from. -/
def State.addressing (s : State) : State :=
  { dev := s.dev, port := s.port.bare, basin := { found := s.basin.found, spare := s.basin.spare } }

theorem State.addressing_of {s t : State} (dev : t.dev = s.dev) (bare : t.port.bare = s.port.bare)
    (found : t.basin.found = s.basin.found) (spare : t.basin.spare = s.basin.spare) : t.addressing = s.addressing := by
  unfold State.addressing
  rw [dev, bare, found, spare]

theorem State.Noted.addressing {s t : State} (h : s.Noted t) : t.addressing = s.addressing := by
  have b : t.basin = s.basin := h.same .basin (by decide)
  exact State.addressing_of (h.same .dev (by decide)) h.bare (by rw [b]) (by rw [b])

theorem State.reach_addressing (s : State) : s.reach = s.addressing.reach := rfl
theorem State.persistent_addressing (s : State) : s.persistent = s.addressing.persistent := rfl
theorem State.poisonAddr_addressing (s : State) : s.poisonAddr = s.addressing.poisonAddr := rfl

theorem State.reach_of_addressing {s t : State} (h : t.addressing = s.addressing) : t.reach = s.reach := by
  rw [t.reach_addressing, s.reach_addressing, h]

theorem State.persistent_of_addressing {s t : State} (h : t.addressing = s.addressing) : t.persistent = s.persistent := by
  rw [t.persistent_addressing, s.persistent_addressing, h]

theorem State.poisonAddr_of_addressing {s t : State} (h : t.addressing = s.addressing) : t.poisonAddr = s.poisonAddr := by
  rw [t.poisonAddr_addressing, s.poisonAddr_addressing, h]

/-! ### Bytes and lines after a write (R13, R30) -/

theorem byte_mod (x : Nat) : BitVec.ofNat 8 (x % 256) = BitVec.ofNat 8 x :=
  BitVec.eq_of_toNat_eq (by simp)

/-- Byte `k` of a write of `n` bytes: the new one where it is enabled. -/
theorem readByte_writeBytes (n : Nat) : ∀ (m : List Host.Cell) (a en x k : Nat), k < n →
    readByte (writeBytes m a en x n) (a + k)
      = if en.testBit k then BitVec.ofNat 8 (x / 256 ^ k) else readByte m (a + k) := by
  induction n with
  | zero => intro m a en x k h; omega
  | succ n ih =>
    intro m a en x k h
    rw [writeBytes]
    cases k with
    | zero =>
      rw [readByte_writeBytes_out n _ _ _ _ _ (by omega)]
      by_cases c : en % 2 = 1
      · simp [c, Nat.testBit_zero, byte_mod]
      · simp [c, Nat.testBit_zero]
    | succ k =>
      have off : a + (k + 1) = a + 1 + k := by omega
      rw [off, ih _ _ _ _ _ (by omega), Nat.testBit_succ, Nat.div_div_eq_div_mul, Nat.pow_succ']
      congr 1
      split
      · exact readByte_writeByte_ne _ _ _ _ (by omega)
      · rfl

theorem lineByte_eq (x : Line) (n : Nat) : lineByte x n = BitVec.ofNat 8 (x.toNat / 256 ^ n) := by
  apply BitVec.eq_of_toNat_eq
  simp [lineByte, Nat.shiftRight_eq_div_pow, Nat.pow_mul]

/-- Byte `n` of the line after a write of its enabled bytes. -/
theorem readByte_writeLine (m : List Host.Cell) (a : Nat) (en : BitVec 64) (x : Line) {n : Nat} (h : n < 64) :
    readByte (writeLine m a en x) (a + n) = if en.getLsbD n then lineByte x n else readByte m (a + n) := by
  rw [writeLine, readByte_writeBytes 64 m a _ _ n h, lineByte_eq]
  rfl

/-- The number that `n` bytes read as, when they are the low bytes of `x`. -/
theorem readBytes_of_bytes (m : List Host.Cell) (n : Nat) : ∀ (a x : Nat),
    (∀ k, k < n → readByte m (a + k) = BitVec.ofNat 8 (x / 256 ^ k)) → readBytes m a n = x % 256 ^ n := by
  induction n with
  | zero => intro a x _; simp [readBytes, Nat.mod_one]
  | succ n ih =>
    intro a x h
    have low : readByte m a = BitVec.ofNat 8 x := by simpa using h 0 (by omega)
    have high : readBytes m (a + 1) n = x / 256 % 256 ^ n := ih (a + 1) (x / 256) fun k hk => by
      have := h (k + 1) (by omega)
      rwa [Nat.pow_succ', ← Nat.div_div_eq_div_mul, show a + (k + 1) = a + 1 + k by omega] at this
    rw [readBytes, low, high, BitVec.toNat_ofNat, Nat.pow_succ' (m := 256), Nat.mod_mul]

/-- A line written whole reads as written. -/
theorem readLine_writeLine (m : List Host.Cell) (a : Nat) (x : Line) : readLine (writeLine m a (BitVec.allOnes 64) x) a = x := by
  have bytes : readBytes (writeLine m a (BitVec.allOnes 64) x) a 64 = x.toNat % 256 ^ 64 :=
    readBytes_of_bytes _ 64 a x.toNat fun k hk => by
      rw [readByte_writeLine m a _ x hk, lineByte_eq, BitVec.getLsbD_allOnes, if_pos (decide_eq_true hk)]
  apply BitVec.eq_of_toNat_eq
  rw [readLine, bytes, BitVec.toNat_ofNat]
  have := x.isLt
  omega

/-! ### Keyed lists after a write -/

theorem find?_mput {α : Type} (k j : Nat) (v : α) (m : List (Nat × α)) :
    ((mput k v m).find? fun p => p.1 == j) = if k = j then some (k, v) else m.find? fun p => p.1 == j := by
  induction m with
  | nil => by_cases c : k = j <;> simp [mput, c]
  | cons p m ih =>
    obtain ⟨i, w⟩ := p
    simp only [mput]
    split
    · by_cases c : k = j <;> simp [c]
    · split
      · rename_i e; subst e; by_cases c : k = j <;> simp [c]
      · rename_i e
        by_cases c : i = j
        · subst c; simp [e]
        · simp [c, ih]

theorem find?_mdel {α : Type} (k j : Nat) (m : List (Nat × α)) :
    ((mdel k m).find? fun p => p.1 == j) = if k = j then none else m.find? fun p => p.1 == j := by
  induction m with
  | nil => simp [mdel]
  | cons p m ih =>
    obtain ⟨i, w⟩ := p
    simp only [mdel]
    split
    · rename_i e; subst e; rw [ih]; by_cases c : i = j <;> simp [c]
    · rename_i e
      by_cases c : i = j
      · subst c; simp [Ne.symm e]
      · simp [c, ih]

theorem mget_filter {α : Type} (d : α) (f : Nat → Bool) (m : List (Nat × α)) (k : Nat) :
    mget d (m.filter fun p => f p.1) k = if f k then mget d m k else d := by
  induction m with
  | nil => simp [mget]
  | cons p m ih =>
    obtain ⟨i, w⟩ := p
    by_cases c : i = k
    · subst c; by_cases e : f i = true <;> simp [mget, e, ih]
    · by_cases e : f i = true <;> simp [mget, e, ih, c]

/-! ### Poison of lines (R30, R61) -/

theorem State.poisoned_eq (s : State) (a : Nat) : s.poisoned a = (s.port.poison.find? fun p => p.1 == a / 64).isSome :=
  List.isSome_find?.symm

theorem State.poisoned_of_poison {s t : State} (h : t.port.poison = s.port.poison) (a : Nat) : t.poisoned a = s.poisoned a := by
  unfold State.poisoned
  rw [h]

theorem State.poisoned_of_bare {s t : State} (h : t.port.bare = s.port.bare) (a : Nat) : t.poisoned a = s.poisoned a := by
  have poison := congrArg HostPort.poison h
  exact State.poisoned_of_poison poison a

theorem State.poisonAt_poisoned (s : State) (a b : Nat) (q : PoisonSrc) :
    (s.poisonAt a q).poisoned b = if a / 64 = b / 64 then true else s.poisoned b := by
  rw [State.poisoned_eq, State.poisoned_eq]
  simp only [State.poisonAt, State.onPort_port, find?_mput]
  split <;> simp

theorem State.unpoison_poisoned (s : State) (a b : Nat) :
    (s.unpoison a).poisoned b = if a / 64 = b / 64 then false else s.poisoned b := by
  rw [State.poisoned_eq, State.poisoned_eq]
  simp only [State.unpoison, State.onPort_port, find?_mdel]
  split <;> simp

theorem State.poisonAt_same (s : State) (a : Nat) (q : PoisonSrc) : s.SameBut (s.poisonAt a q) [.port] := s.onPort_same _

theorem State.unpoison_same (s : State) (a : Nat) : s.SameBut (s.unpoison a) [.port] := s.onPort_same _

/-! ### Entries of the dirty segment table (R90 to R96) -/

theorem Basin.entry_mput (b : Basin) (k j : Nat) (e : DstEntry) :
    ({ b with dst := mput k e b.dst } : Basin).entry j = if k = j then some e else b.entry j := by
  unfold Basin.entry
  rw [find?_mput]
  split <;> rfl

theorem Basin.entry_of_find? {b : Basin} {k : Nat} {p : Nat × DstEntry} (h : (b.dst.find? fun p => p.1 == k) = some p) :
    b.entry k = some p.2 := by rw [Basin.entry, h]; rfl

/-- What is dirty: the maps of the entries, and the segments in overflow. -/
structure Basin.DirtyAlike (b c : Basin) : Prop where
  maps : ∀ k, (c.entry k).map (·.d) = (b.entry k).map (·.d)
  overflow : c.overflow = b.overflow

theorem Basin.flushSeg_dst (b : Basin) (q k : Nat) : (b.flushSeg q k).dst = b.dst ∧ (b.flushSeg q k).overflow = b.overflow
    ∧ (b.flushSeg q k).found = b.found ∧ (b.flushSeg q k).spare = b.spare := by
  unfold Basin.flushSeg Basin.heatAdd
  dsimp only
  split <;> exact ⟨rfl, rfl, rfl, rfl⟩

theorem Basin.access_dirtyAlike (b : Basin) (q k : Nat) : b.DirtyAlike (b.access q k) := by
  unfold Basin.access
  split
  case h_1 e found =>
    refine ⟨fun j => ?_, rfl⟩
    rw [Basin.entry_mput]
    split
    · rename_i same
      subst same
      rw [Basin.entry_of_find? found]
      split <;> rfl
    · rfl
  case h_2 =>
    split
    · exact ⟨fun _ => rfl, rfl⟩
    · dsimp only
      repeat' split
      · exact ⟨fun _ => rfl, rfl⟩
      · exact ⟨fun _ => rfl, rfl⟩
      · obtain ⟨dst, kept, -⟩ := b.flushSeg_dst q _
        exact ⟨fun j => by unfold Basin.entry; rw [dst], kept⟩

theorem State.pageDirty_of_dirtyAlike {s t : State} (h : s.basin.DirtyAlike t.basin) (a : Nat) :
    t.pageDirty a = s.pageDirty a := by
  have any (o : Option DstEntry) : (o.any fun e => e.d.getLsbD (pageOf a)) = (o.map (·.d)).any fun d => d.getLsbD (pageOf a) := by
    cases o <;> rfl
  unfold State.pageDirty
  rw [h.overflow, any, any, h.maps]

theorem mem_insertAsc_self (x : Nat) (l : List Nat) : x ∈ insertAsc x l := by
  induction l with
  | nil => simp [insertAsc]
  | cons y l ih => unfold insertAsc; split <;> simp [ih]

/-- After the dirty bit is set the page is dirty, in an entry or in the overflow. -/
theorem Basin.dirty_dirties (b : Basin) (q k p : Nat) (h : p < 512) :
    k ∈ (b.dirty q k p).1.overflow ∨ ∃ e, (b.dirty q k p).1.entry k = some e ∧ e.d.getLsbD p = true := by
  unfold Basin.dirty
  split
  case h_1 e _ =>
    right
    refine ⟨_, by rw [Basin.entry_mput, if_pos rfl], ?_⟩
    simp [h]
  case h_2 =>
    split
    · rename_i listed; exact .inl (by simpa using listed)
    · split
      · right
        refine ⟨_, (Basin.entry_mput (b.flushSeg q k) _ _ _).trans (if_pos rfl), ?_⟩
        simp [Basin.newEntry, h]
      · exact .inl (mem_insertAsc_self _ _)

end Sys2Proof.Machine
end

section
/-! PROOFS. CXL.mem writes (O4). -/

namespace Sys2Proof.Machine

/-! ### Setting the dirty bit of a page (R90, R91, R96) -/

theorem State.dirtyPage_same (s : State) (a : Nat) :
    s.SameBut (s.dirtyPage a) [.basin, .out, .regs, .freeCtr, .rec_, .fc, .port, .mir] := by
  unfold State.dirtyPage
  dsimp only
  split
  all_goals (intro p; cases p <;> simp [State.agree])

theorem State.dirtyPage_basin (s : State) (a : Nat) :
    (s.dirtyPage a).basin = (s.basin.dirty (s.reg Reg.HEAT_QUANTUM) (segOf a) (pageOf a)).1 := by
  unfold State.dirtyPage
  dsimp only
  split <;> simp

theorem State.dirtyPage_bare (s : State) (a : Nat) : (s.dirtyPage a).port.bare = s.port.bare := by
  unfold State.dirtyPage
  dsimp only
  split <;> simp

theorem State.dirtyPage_dirty (s : State) (a : Nat) : (s.dirtyPage a).pageDirty a = true := by
  unfold State.pageDirty
  rw [State.dirtyPage_basin]
  rcases s.basin.dirty_dirties (s.reg Reg.HEAT_QUANTUM) (segOf a) (pageOf a) (Nat.mod_lt _ (by decide)) with h | ⟨e, h, k⟩
  · simp [h]
  · simp [h, k]

theorem State.dirtyPage_reg (s : State) (a : Nat) {id : Nat} (h : reportReg id = false) (k : id ≠ Reg.DST_OVERFLOW_COUNT) :
    (s.dirtyPage a).reg id = s.reg id := by
  have ev : eventReg id = false := by simp only [reportReg, Bool.or_eq_false_iff] at h; tauto
  unfold State.dirtyPage
  dsimp only
  split
  · rw [State.raise_reg _ _ _ _ _ _ _ ev, State.fault_reg _ _ _ _ _ _ _ (by decide) h, State.reg_addReg_ne _ _ _ _ k]
    rfl
  · rfl

/-! ### A completion (R65) -/

theorem State.respond_same (s : State) (ld : Nat) (f : Nat → Out) : s.SameBut (s.respond ld f) [.out, .freeCtr] := by
  intro p; cases p <;> simp [State.agree, State.respond, State.free]

/-- The response carries a DevLoad of at least the Weir's level. -/
theorem State.respond_out (s : State) (ld : Nat) (f : Nat → Out) :
    ∃ d, f d ∈ (s.respond ld f).out ∧ s.reg Reg.DEVLOAD_LEVEL ≤ d :=
  ⟨_, by unfold State.respond; exact List.mem_append_right _ (List.mem_singleton.mpr rfl), Nat.le_max_left _ _⟩

/-! ### An error in the segment's entry leaves what the write is served by (R85, R92) -/

theorem Basin.slotFailed_modules (b : Basin) (g : Nat) : (b.slotFailed g).found = b.found ∧ (b.slotFailed g).spare = b.spare := by
  unfold Basin.slotFailed
  split <;> exact ⟨rfl, rfl⟩

/-- A repair of the table, and of what is in flight, leaves the modules the address map is built on. -/
theorem State.onBasin_modules {s u : State} (h : s.SameBut u [.rill, .spill]) (f : Basin → Basin)
    (k : ∀ b, (f b).found = b.found ∧ (f b).spare = b.spare) :
    s.SameBut (u.onBasin f) [.basin, .rill, .spill] ∧ (u.onBasin f).basin.found = s.basin.found
      ∧ (u.onBasin f).basin.spare = s.basin.spare := by
  have b : u.basin = s.basin := h .basin (by decide)
  exact ⟨h.widen.next (u.onBasin_same f), (k _).1.trans (by rw [b]), (k _).2.trans (by rw [b])⟩

/-- An error in an entry or its bitmap slot is nothing, or a repair of the table with its corrected fault. -/
theorem State.entryErr_cases (s : State) (g : Nat) (e : DstErr) :
    s.entryErr g e = s ∨ ∃ u n, s.entryErr g e = u.fault n .corrected ∧ n < 48 ∧ s.SameBut u [.basin, .rill, .spill]
      ∧ u.basin.found = s.basin.found ∧ u.basin.spare = s.basin.spare := by
  unfold State.entryErr
  split
  · exact .inl rfl
  cases e with
  | none => exact .inl rfl
  | bitmap =>
    exact .inr ⟨_, _, rfl, by decide, (s.onBasin_same _).widen, s.basin.slotFailed_modules g⟩
  | entry =>
    unfold State.rebuildEntry
    dsimp only
    split
    · exact .inl rfl
    · refine .inr ⟨_, _, rfl, by decide, State.onBasin_modules (.ite (.refl _ _) ?_) _ (fun _ => ⟨rfl, rfl⟩)⟩
      intro p; cases p <;> simp [State.agree]

theorem State.entryErr_mem (s : State) (g : Nat) (e : DstErr) : (s.entryErr g e).mem = s.mem := by
  obtain h | ⟨u, n, h, -, same, -⟩ := s.entryErr_cases g e
  · rw [h]
  · rw [h, State.fault_mem]
    exact same .mem (by decide)

theorem State.entryErr_bare (s : State) (g : Nat) (e : DstErr) : (s.entryErr g e).port.bare = s.port.bare := by
  obtain h | ⟨u, n, h, -, same, -⟩ := s.entryErr_cases g e
  · rw [h]
  · rw [h, State.fault_bare, show u.port = s.port from same .port (by decide)]

theorem State.entryErr_reg (s : State) (g : Nat) (e : DstErr) {id : Nat} (k : reportReg id = false) :
    (s.entryErr g e).reg id = s.reg id := by
  obtain h | ⟨u, n, h, lt, same, -⟩ := s.entryErr_cases g e
  · rw [h]
  · rw [h, State.fault_reg _ _ _ _ _ _ _ lt k]
    exact State.reg_of_regs (same .regs (by decide)) id

theorem State.entryErr_addressing (s : State) (g : Nat) (e : DstErr) : (s.entryErr g e).addressing = s.addressing := by
  obtain h | ⟨u, n, h, -, same, found, spare⟩ := s.entryErr_cases g e
  · rw [h]
  · rw [h, (u.fault_noted n .corrected 0 false []).addressing]
    exact State.addressing_of (same .dev (by decide)) (congrArg HostPort.bare (same .port (by decide))) found spare

/-! ### The served write (R13, R30, R91) -/

theorem Basin.DirtyAlike.refl (b : Basin) : b.DirtyAlike b := ⟨fun _ => rfl, rfl⟩

theorem Basin.DirtyAlike.trans {b c d : Basin} (h : b.DirtyAlike c) (k : c.DirtyAlike d) : b.DirtyAlike d :=
  ⟨fun j => (k.maps j).trans (h.maps j), k.overflow.trans h.overflow⟩

/-- A write to a device address has come to its page and its line: the page is dirty where it is persistent, and memory
is `m`; the Weir's level stands. -/
structure State.Wrote (s t : State) (a : Nat) (m : List Host.Cell) : Prop where
  mem : t.mem = m
  level : t.reg Reg.DEVLOAD_LEVEL = s.reg Reg.DEVLOAD_LEVEL
  dirty : s.persistent a = true → t.pageDirty a = true

theorem State.Wrote.of_same {s t u : State} {a : Nat} {m : List Host.Cell} (h : s.Wrote t a m)
    (k : t.SameBut u [.port, .basin, .out, .freeCtr]) (d : t.basin.DirtyAlike u.basin) : s.Wrote u a m :=
  ⟨(k .mem (by decide)).trans h.mem, (State.reg_of_regs (k .regs (by decide)) _).trans h.level,
    fun p => (State.pageDirty_of_dirtyAlike d a).trans (h.dirty p)⟩

theorem State.Wrote.store {s t : State} {a : Nat} {m : List Host.Cell} (h : s.Wrote t a m) (n : List Host.Cell) :
    s.Wrote { t with mem := n } a n := ⟨rfl, h.level, h.dirty⟩

theorem State.dirtyPage_wrote (s : State) (a : Nat) : s.Wrote (s.dirtyPage a) a s.mem :=
  ⟨s.dirtyPage_same a .mem (by decide), s.dirtyPage_reg a (by decide) (by decide), fun _ => s.dirtyPage_dirty a⟩

/-- The page made dirty where it is persistent. -/
@[irreducible]
def State.touched (s : State) (a : Nat) : State := if s.persistent a then s.dirtyPage a else s

/-- The enabled bytes stored. -/
def State.withLine (s : State) (a : Nat) (en : BitVec 64) (data : Line) : State := { s with mem := writeLine s.mem a en data }

theorem State.withLine_same (s : State) (a : Nat) (en : BitVec 64) (data : Line) : s.SameBut (s.withLine a en data) [.mem] := by
  intro p; cases p <;> simp [State.agree, State.withLine]

/-- The page made dirty and the enabled bytes stored. -/
@[irreducible]
def State.stored (s : State) (a : Nat) (en : BitVec 64) (data : Line) : State := (s.touched a).withLine a en data

theorem State.touched_wrote (s : State) (a : Nat) : s.Wrote (s.touched a) a s.mem := by
  unfold State.touched
  split
  · exact s.dirtyPage_wrote a
  · rename_i volatile
    exact ⟨rfl, rfl, fun persistent => absurd persistent volatile⟩

theorem State.touched_bare (s : State) (a : Nat) : (s.touched a).port.bare = s.port.bare := by
  unfold State.touched
  split
  · exact s.dirtyPage_bare a
  · rfl

theorem State.stored_wrote (s : State) (a : Nat) (en : BitVec 64) (data : Line) :
    s.Wrote (s.stored a en data) a (writeLine s.mem a en data) := by
  unfold State.stored State.withLine
  rw [(s.touched_wrote a).mem]
  exact (s.touched_wrote a).store _

theorem State.stored_bare (s : State) (a : Nat) (en : BitVec 64) (data : Line) :
    (s.stored a en data).port.bare = s.port.bare := by
  have port : ((s.touched a).withLine a en data).port = (s.touched a).port := (s.touched a).withLine_same a en data .port (by decide)
  unfold State.stored
  rw [port]
  exact s.touched_bare a

theorem State.Wrote.poisonAt {s t : State} {a : Nat} {m : List Host.Cell} (h : s.Wrote t a m) (q : PoisonSrc) :
    s.Wrote (t.poisonAt a q) a m := h.of_same (t.poisonAt_same a q).widen (.refl _)

theorem State.Wrote.unpoison {s t : State} {a : Nat} {m : List Host.Cell} (h : s.Wrote t a m) :
    s.Wrote (t.unpoison a) a m := h.of_same (t.unpoison_same a).widen (.refl _)

/-- The repair queue without the line. -/
def Basin.unqueue (b : Basin) (a : Nat) : Basin := { b with repair := b.repair.filter (· ≠ a / 64) }

theorem State.Wrote.unqueue {s t : State} {a : Nat} {m : List Host.Cell} (h : s.Wrote t a m) :
    s.Wrote (t.onBasin fun b => b.unqueue a) a m :=
  h.of_same (t.onBasin_same _).widen ⟨fun _ => rfl, rfl⟩

theorem State.heatAccess_same (s : State) (a : Nat) : s.SameBut (s.heatAccess a) [.basin] := s.onBasin_same _

theorem State.Wrote.heatAccess {s t : State} {a : Nat} {m : List Host.Cell} (h : s.Wrote t a m) (b : Nat) :
    s.Wrote (t.heatAccess b) a m :=
  h.of_same (t.heatAccess_same b).widen (t.basin.access_dirtyAlike _ _)

/-- What a completed write to a served line leaves: the stored line, the poison of the line, and a completion at the
Weir's level or above. -/
structure State.Completed (s t : State) (a tag : Nat) (m : List Host.Cell) (pois : Bool) : Prop where
  wrote : s.Wrote t a m
  poison : t.poisoned a = pois
  completion : ∃ d, .memCmp tag d ∈ t.out ∧ s.reg Reg.DEVLOAD_LEVEL ≤ d

theorem State.Wrote.complete {s t : State} {a : Nat} {m : List Host.Cell} (h : s.Wrote t a m) (ld tag : Nat) {p : Bool}
    (k : t.poisoned a = p) : s.Completed ((t.heatAccess a).respond ld (.memCmp tag)) a tag m p := by
  have accessed := h.heatAccess a
  have same := (t.heatAccess a).respond_same ld (.memCmp tag)
  refine ⟨accessed.of_same same.widen ?_, ?_, ?_⟩
  · rw [show ((t.heatAccess a).respond ld (.memCmp tag)).basin = (t.heatAccess a).basin from same .basin (by decide)]
    exact .refl _
  · rw [← k]
    refine State.poisoned_of_poison ?_ a
    rw [show ((t.heatAccess a).respond ld (.memCmp tag)).port = (t.heatAccess a).port from same .port (by decide)]
    rfl
  · rw [← accessed.level]
    exact State.respond_out _ _ _

/-- The poison that a full write leaves. -/
def State.poisonedAs (s : State) (a : Nat) (pois : Bool) : State := if pois then s.poisonAt a .external else s.unpoison a

theorem State.Wrote.poisonedAs {s t : State} {a : Nat} {m : List Host.Cell} (h : s.Wrote t a m) (pois : Bool) :
    s.Wrote (t.poisonedAs a pois) a m := by
  cases pois
  · exact h.unpoison
  · exact h.poisonAt .external

theorem State.poisonedAs_poisoned (s : State) (a : Nat) (pois : Bool) : (s.poisonedAs a pois).poisoned a = pois := by
  cases pois
  · exact (s.unpoison_poisoned a a).trans (if_pos rfl)
  · exact (s.poisonAt_poisoned a a .external).trans (if_pos rfl)

theorem State.memWrite_eq {s : State} {ld hpa a : Nat} (h : s.reach ld hpa = .served a) (tag : Nat) (data : Line) (pois : Bool) :
    s.memWrite ld hpa tag data pois
      = ((((s.stored a (BitVec.allOnes 64) data).poisonedAs a pois).onBasin fun b => b.unqueue a).heatAccess a).respond ld
          (.memCmp tag) := by
  unfold State.memWrite State.stored State.touched State.withLine State.poisonedAs Basin.unqueue
  rw [h]

theorem State.memWrite_completed {s : State} {ld hpa a : Nat} (h : s.reach ld hpa = .served a) (tag : Nat) (data : Line)
    (pois : Bool) :
    s.Completed (s.memWrite ld hpa tag data pois) a tag (writeLine s.mem a (BitVec.allOnes 64) data) pois := by
  rw [State.memWrite_eq h]
  refine (((s.stored_wrote a _ data).poisonedAs pois).unqueue).complete ld tag ?_
  have port (u : State) : (u.onBasin fun b => b.unqueue a).port = u.port := u.onBasin_same _ .port (by decide)
  exact (State.poisoned_of_poison (congrArg HostPort.poison (port _)) a).trans (State.poisonedAs_poisoned _ a pois)

/-- The poison that a partial write leaves. -/
def State.poisonedBy (s : State) (a : Nat) (pois : Bool) : State := if pois then s.poisonAt a .external else s

theorem State.Wrote.poisonedBy {s t : State} {a : Nat} {m : List Host.Cell} (h : s.Wrote t a m) (pois : Bool) :
    s.Wrote (t.poisonedBy a pois) a m := by
  cases pois
  · exact h
  · exact h.poisonAt .external

theorem State.poisonedBy_poisoned (s : State) (a : Nat) (pois : Bool) :
    (s.poisonedBy a pois).poisoned a = (pois || s.poisoned a) := by
  cases pois
  · rfl
  · exact (s.poisonAt_poisoned a a .external).trans (if_pos rfl)

theorem State.memWritePtl_eq {s : State} {ld hpa a : Nat} (h : s.reach ld hpa = .served a) (tag : Nat) (data : Line)
    (en : BitVec 64) (pois : Bool) :
    s.memWritePtl ld hpa tag data en pois
      = (((s.stored a en data).poisonedBy a pois).heatAccess a).respond ld (.memCmp tag) := by
  unfold State.memWritePtl State.stored State.touched State.withLine State.poisonedBy
  rw [h]

theorem State.memWritePtl_completed {s : State} {ld hpa a : Nat} (h : s.reach ld hpa = .served a) (tag : Nat) (data : Line)
    (en : BitVec 64) (pois : Bool) :
    s.Completed (s.memWritePtl ld hpa tag data en pois) a tag (writeLine s.mem a en data) (pois || s.poisoned a) := by
  rw [State.memWritePtl_eq h]
  refine ((s.stored_wrote a en data).poisonedBy pois).complete ld tag ?_
  rw [← State.poisoned_of_bare (s.stored_bare a en data) a]
  exact State.poisonedBy_poisoned _ a pois

theorem State.poisonedAs_same (s : State) (a : Nat) (pois : Bool) : s.SameBut (s.poisonedAs a pois) [.port] := by
  cases pois
  · exact s.unpoison_same a
  · exact s.poisonAt_same a .external

theorem State.stored_volatile {s : State} {a : Nat} (v : s.persistent a = false) (en : BitVec 64) (data : Line) :
    s.stored a en data = s.withLine a en data := by
  unfold State.stored State.touched
  rw [v]
  rw [if_neg Bool.false_ne_true]

/-- A write to the volatile partition makes no page dirty and changes nothing but what it names. -/
theorem State.memWrite_volatile {s : State} {ld hpa a : Nat} (h : s.reach ld hpa = .served a) (v : s.persistent a = false)
    (tag : Nat) (data : Line) (pois : Bool) :
    s.SameBut (s.memWrite ld hpa tag data pois) [.out, .mem, .port, .basin, .freeCtr]
      ∧ s.basin.DirtyAlike (s.memWrite ld hpa tag data pois).basin := by
  have poisoned : s.SameBut ((s.withLine a (BitVec.allOnes 64) data).poisonedAs a pois) [.mem, .port] :=
    (s.withLine_same a _ data).widen.next (State.poisonedAs_same _ a pois)
  have basin : ((s.withLine a (BitVec.allOnes 64) data).poisonedAs a pois).basin = s.basin := poisoned .basin (by decide)
  rw [State.memWrite_eq h, State.stored_volatile v]
  generalize (s.withLine a (BitVec.allOnes 64) data).poisonedAs a pois = u at poisoned basin
  have responded := ((u.onBasin fun b => b.unqueue a).heatAccess a).respond_same ld (.memCmp tag)
  refine ⟨((poisoned.widen.next (u.onBasin_same _)).next (State.heatAccess_same _ a)).next responded, ?_⟩
  rw [show State.basin _ = State.basin _ from responded .basin (by decide), ← basin]
  have unqueued : u.basin.DirtyAlike (u.basin.unqueue a) := ⟨fun _ => rfl, rfl⟩
  exact unqueued.trans (Basin.access_dirtyAlike _ _ _)

/-! ### A write not served, and one that reaches nothing (R57) -/

theorem State.offline_same (s : State) (a : Nat) : s.SameBut (s.offline a) [.out, .regs, .port, .freeCtr] := by
  unfold State.offline
  dsimp only
  have counted := (s.addReg_same Reg.OFFLINE_ACCESS_COUNT 1).sub (m := [.out, .regs, .port, .freeCtr]) (by decide)
  refine .ite counted ((counted.next (State.onPort_same _ _)).trans ((State.cxlRecord_same _ _ _).sub ?_))
  decide

theorem State.offline_count (s : State) (a : Nat) (h : s.reg Reg.OFFLINE_ACCESS_COUNT + 1 < 2 ^ 32) :
    (s.offline a).reg Reg.OFFLINE_ACCESS_COUNT = s.reg Reg.OFFLINE_ACCESS_COUNT + 1 := by
  have width : paramWidth Reg.OFFLINE_ACCESS_COUNT = 32 := by decide +kernel
  have added : (s.addReg Reg.OFFLINE_ACCESS_COUNT 1).reg Reg.OFFLINE_ACCESS_COUNT = s.reg Reg.OFFLINE_ACCESS_COUNT + 1 := by
    unfold State.addReg
    rw [width, if_pos h]
    exact State.reg_setReg _ _ _ (by rw [width]; exact h)
  rw [← added]
  refine State.reg_of_regs ?_ _
  unfold State.offline
  dsimp only
  split
  · rfl
  · exact State.cxlRecord_same _ _ _ .regs (by decide)

/-- A write not served is completed and counted. -/
theorem State.offline_respond (s : State) (a ld tag : Nat) (h : s.reg Reg.OFFLINE_ACCESS_COUNT + 1 < 2 ^ 32) :
    ((s.offline a).respond ld (.memCmp tag)).reg Reg.OFFLINE_ACCESS_COUNT = s.reg Reg.OFFLINE_ACCESS_COUNT + 1
      ∧ (∃ d, .memCmp tag d ∈ ((s.offline a).respond ld (.memCmp tag)).out)
      ∧ s.SameBut ((s.offline a).respond ld (.memCmp tag)) [.out, .regs, .port, .freeCtr] := by
  have responded := (s.offline a).respond_same ld (.memCmp tag)
  obtain ⟨d, out, -⟩ := (s.offline a).respond_out ld (.memCmp tag)
  refine ⟨?_, ⟨d, out⟩, (s.offline_same a).next responded⟩
  rw [← s.offline_count a h]
  exact State.reg_of_regs (responded .regs (by decide)) _

/-! ### The state that a write meets -/

/-- The step's beginning and an error in the segment's entry leave what the write is served by. -/
structure State.Resolved (s u : State) : Prop where
  mem : u.mem = s.mem
  bare : u.port.bare = s.port.bare
  addressing : u.addressing = s.addressing
  level : u.reg Reg.DEVLOAD_LEVEL = s.reg Reg.DEVLOAD_LEVEL

theorem State.begin_reach (s : State) : s.begin.reach = s.reach := State.reach_of_addressing s.begin_noted.addressing

theorem State.begin_dstErr_of_served {s : State} {ld hpa a : Nat} (h : s.reach ld hpa = .served a) (e : DstErr) :
    s.begin.dstErr ld hpa e = s.begin.entryErr (segOf a) e := by
  unfold State.dstErr
  rw [s.begin_reach, h]

theorem State.begin_dstErr_of_not {s : State} {ld hpa : Nat} (h : ∀ a, s.reach ld hpa ≠ .served a) (e : DstErr) :
    s.begin.dstErr ld hpa e = s.begin := by
  unfold State.dstErr
  rw [s.begin_reach]
  cases k : s.reach ld hpa with
  | served a => exact absurd k (h a)
  | unclaimed => rfl
  | notServed a => rfl

theorem State.begin_dstErr_resolved {s : State} {ld hpa a : Nat} (h : s.reach ld hpa = .served a) (e : DstErr) :
    s.Resolved (s.begin.dstErr ld hpa e) := by
  rw [State.begin_dstErr_of_served h]
  exact ⟨State.entryErr_mem _ _ _, State.entryErr_bare _ _ _,
    (State.entryErr_addressing _ _ _).trans s.begin_noted.addressing, State.entryErr_reg _ _ _ (by decide)⟩

/-- With no error in the entry nothing is resolved. -/
theorem State.begin_dstErr_none (s : State) (ld hpa : Nat) : s.begin.dstErr ld hpa .none = s.begin := by
  unfold State.dstErr
  split
  · exact ite_self _
  · rfl

theorem State.Resolved.completed {s u t : State} (h : s.Resolved u) {a tag : Nat} {f : List Host.Cell → List Host.Cell}
    {p : Bool → Bool} (k : u.Completed t a tag (f u.mem) (p (u.poisoned a))) :
    s.Completed t a tag (f s.mem) (p (s.poisoned a)) := by
  obtain ⟨⟨mem, level, dirty⟩, poison, d, out, least⟩ := k
  rw [State.poisoned_of_bare h.bare] at poison
  rw [h.mem] at mem
  rw [State.persistent_of_addressing h.addressing] at dirty
  rw [h.level] at least level
  exact ⟨⟨mem, level, dirty⟩, poison, d, out, least⟩

/-! ### The two writes -/

theorem memwr_completed {ld hpa a : Nat} {s : State} (h : s.reach ld hpa = .served a) (tag : Nat) (data : Line) (pois : Bool)
    (err : DstErr) :
    Answers (.memwr ld hpa tag data pois err) s fun t =>
      s.Completed t a tag (writeLine s.mem a (BitVec.allOnes 64) data) pois := by
  have resolved := State.begin_dstErr_resolved h err
  refine ⟨_, rfl, resolved.completed (f := fun m => writeLine m a _ data) (p := fun _ => pois) ?_⟩
  have reach := congrFun (congrFun (State.reach_of_addressing resolved.addressing) ld) hpa
  exact State.memWrite_completed (reach.trans h) tag data pois

theorem memwrptl_completed {ld hpa a : Nat} {s : State} (h : s.reach ld hpa = .served a) (tag : Nat) (data : Line)
    (en : BitVec 64) (err : DstErr) (pois : Bool) :
    Answers (.memwrptl ld hpa tag data en err pois) s fun t =>
      s.Completed t a tag (writeLine s.mem a en data) (pois || s.poisoned a) := by
  have resolved := State.begin_dstErr_resolved h err
  refine ⟨_, rfl, resolved.completed (f := fun m => writeLine m a en data) (p := fun q => pois || q) ?_⟩
  have reach := congrFun (congrFun (State.reach_of_addressing resolved.addressing) ld) hpa
  exact State.memWritePtl_completed (reach.trans h) tag data en pois

theorem memwr_volatile {ld hpa a : Nat} {s : State} (h : s.reach ld hpa = .served a) (v : s.persistent a = false) (tag : Nat)
    (data : Line) (pois : Bool) :
    Answers (.memwr ld hpa tag data pois .none) s fun t =>
      s.SameBut t [.out, .mem, .port, .basin, .freeCtr] ∧ s.basin.DirtyAlike t.basin := by
  refine ⟨_, rfl, ?_⟩
  rw [s.begin_dstErr_none]
  have persistent : s.begin.persistent a = false := by rwa [State.persistent_of_addressing s.begin_noted.addressing]
  obtain ⟨same, dirty⟩ := State.memWrite_volatile (s := s.begin) (by rwa [s.begin_reach]) persistent tag data pois
  exact ⟨(s.begin_same.widen).trans same, dirty⟩

/-- What a write not served leaves. -/
def State.Counted (s t : State) (tag : Nat) : Prop :=
  t.reg Reg.OFFLINE_ACCESS_COUNT = s.reg Reg.OFFLINE_ACCESS_COUNT + 1 ∧ (∃ d, .memCmp tag d ∈ t.out)
    ∧ s.SameBut t [.out, .regs, .port, .freeCtr]

theorem State.begin_offline_respond (s : State) (a ld tag : Nat) (h : s.reg Reg.OFFLINE_ACCESS_COUNT + 1 < 2 ^ 32) :
    s.Counted ((s.begin.offline a).respond ld (.memCmp tag)) tag := by
  obtain ⟨count, out, same⟩ := s.begin.offline_respond a ld tag h
  exact ⟨count, out, (s.begin_same.widen).trans same⟩

theorem memwr_counted {ld hpa a : Nat} {s : State} (h : s.reach ld hpa = .notServed a)
    (c : s.reg Reg.OFFLINE_ACCESS_COUNT + 1 < 2 ^ 32) (tag : Nat) (data : Line) (pois : Bool) (err : DstErr) :
    Answers (.memwr ld hpa tag data pois err) s fun t => s.Counted t tag := by
  refine ⟨_, rfl, ?_⟩
  rw [State.begin_dstErr_of_not (by simp [h])]
  unfold State.memWrite
  rw [s.begin_reach, h]
  exact s.begin_offline_respond a ld tag c

theorem memwrptl_counted {ld hpa a : Nat} {s : State} (h : s.reach ld hpa = .notServed a)
    (c : s.reg Reg.OFFLINE_ACCESS_COUNT + 1 < 2 ^ 32) (tag : Nat) (data : Line) (en : BitVec 64) (err : DstErr) (pois : Bool) :
    Answers (.memwrptl ld hpa tag data en err pois) s fun t => s.Counted t tag := by
  refine ⟨_, rfl, ?_⟩
  rw [State.begin_dstErr_of_not (by simp [h])]
  unfold State.memWritePtl
  rw [s.begin_reach, h]
  exact s.begin_offline_respond a ld tag c

theorem memwr_unclaimed {ld hpa : Nat} {s : State} (h : s.reach ld hpa = .unclaimed) (tag : Nat) (data : Line) (pois : Bool)
    (err : DstErr) : Answers (.memwr ld hpa tag data pois err) s fun t => t = s.begin := by
  refine ⟨_, rfl, ?_⟩
  rw [State.begin_dstErr_of_not (by simp [h])]
  unfold State.memWrite
  rw [s.begin_reach, h]

theorem memwrptl_unclaimed {ld hpa : Nat} {s : State} (h : s.reach ld hpa = .unclaimed) (tag : Nat) (data : Line)
    (en : BitVec 64) (err : DstErr) (pois : Bool) : Answers (.memwrptl ld hpa tag data en err pois) s fun t => t = s.begin := by
  refine ⟨_, rfl, ?_⟩
  rw [State.begin_dstErr_of_not (by simp [h])]
  unfold State.memWritePtl
  rw [s.begin_reach, h]

/-- Settles O4: the served write is followed through the dirty bit, the store, the poison and the completion; what an entry's
error repairs leaves what the write is served by. -/
theorem mem_writes : Obligations.Mem_writes := by
  unfold Obligations.Mem_writes
  refine ⟨?full, ?volatile, ?partialWrite, ?_, ?_, ?_, ?_⟩
  case full =>
    intro ld hpa tag data pois err s a h
    refine (memwr_completed h tag data pois err).imp fun t done => ?_
    obtain ⟨wrote, poison, completion⟩ := done
    rw [wrote.mem]
    exact ⟨readLine_writeLine _ _ _, fun b out => readByte_writeLine_out _ _ _ _ _ out, poison, completion, wrote.dirty⟩
  case volatile =>
    intro ld hpa tag data pois s a h v
    exact (memwr_volatile h v tag data pois).imp fun t done => ⟨done.2.maps, done.2.overflow, done.1⟩
  case partialWrite =>
    intro ld hpa tag data en pois err s a h
    refine (memwrptl_completed h tag data en err pois).imp fun t done => ?_
    obtain ⟨wrote, poison, completion⟩ := done
    rw [wrote.mem]
    exact ⟨fun n lt => readByte_writeLine _ _ _ _ lt, fun b out => readByte_writeLine_out _ _ _ _ _ out, poison, completion,
      wrote.dirty⟩
  · exact fun ld hpa tag data pois err s a h c => memwr_counted h c tag data pois err
  · exact fun ld hpa tag data en pois err s a h c => memwrptl_counted h c tag data en err pois
  · exact fun ld hpa tag data pois err s h => memwr_unclaimed h tag data pois err
  · exact fun ld hpa tag data en pois err s h => memwrptl_unclaimed h tag data en err pois

end Sys2Proof.Machine
end

section
/-! PROOFS. GPF, the link, the resets and the clearing of the volatile partition (O7). -/

namespace Sys2Proof.Machine

/-! ### The source's bit after a report (R366) -/

theorem bit_setBit (x n : Nat) : bit (setBit x n) n = true := by simp [bit, setBit]

theorem State.fcSet_status (s : State) {n : Nat} (v : Nat) (h : n < 48) : bit ((s.fcSet n v).reg Reg.FC_STATUS) n = true := by
  have width : paramWidth Reg.FC_STATUS = 48 := by decide +kernel
  have ne : Reg.FC_STATUS ≠ Reg.FC_SEV + n / 16 := by simp only [Reg.FC_STATUS, Reg.FC_SEV]; omega
  unfold State.fcSet
  dsimp only
  split
  · rw [State.reg_setReg_ne _ _ _ _ ne, State.reg_setReg_same, width, bit_mod h, bit_setBit]
  · rw [State.reg_setReg_same, width, bit_mod h, bit_setBit]

theorem State.faultCount_status (s : State) {n : Nat} (j : Bool) (h : n < 48) :
    (s.faultCount n j).reg Reg.FC_STATUS = s.reg Reg.FC_STATUS := by
  have counter : Reg.FC_STATUS ≠ Reg.FC_COUNT + n := by simp only [Reg.FC_STATUS, Reg.FC_COUNT]; omega
  unfold State.faultCount
  dsimp only
  split
  · rw [State.reg_setReg_ne _ _ _ _ (by decide)]; exact s.reg_addReg_ne _ _ _ counter
  · exact s.reg_addReg_ne _ _ _ counter

theorem State.faultRecord_status (s : State) (n v c : Nat) (j f l : Bool) :
    (s.faultRecord n v c j f l).2.reg Reg.FC_STATUS = s.reg Reg.FC_STATUS := by
  unfold State.faultRecord
  dsimp only
  repeat' split
  · exact s.record_reg _ _ _ _ (by decide)
  · rfl
  · rfl

theorem State.faultLatch_status (s : State) (w : Nat) (l r f : Bool) :
    (s.faultLatch w l r f).reg Reg.FC_STATUS = s.reg Reg.FC_STATUS := by
  unfold State.faultLatch
  dsimp only
  repeat' split
  all_goals simp [State.reg_setReg_ne _ Reg.FC_FIRST _ Reg.FC_STATUS, State.reg_setReg_ne _ Reg.FC_OVERFLOW _ Reg.FC_STATUS,
    State.reg_setReg_ne _ Reg.FC_LAST_FATAL _ Reg.FC_STATUS]

theorem State.enterFault_status (s : State) (a : Option Nat) : (s.enterFault a).reg Reg.FC_STATUS = s.reg Reg.FC_STATUS := by
  simp [State.enterFault, State.reg_setReg_ne _ Reg.FC_IN_FAULT _ Reg.FC_STATUS]

/-- With the core domain up a report sets its source's bit. -/
theorem State.fault_status (s : State) {n : Nat} (v : Sev) (c : Nat) (j : Bool) (w : List Nat) (h : n < 48)
    (up : s.seq.coreUp = true) : bit ((s.fault n v c j w).reg Reg.FC_STATUS) n = true := by
  have shown (m : Nat) : bit ((s.faultShow n m).reg Reg.FC_STATUS) n = true := by
    rw [State.faultShow, if_pos up]
    exact s.fcSet_status m h
  have event : eventReg Reg.FC_STATUS = false := by decide
  unfold State.fault
  dsimp only
  repeat' split
  all_goals simp [State.raise_reg _ _ _ _ _ _ _ event, State.enterFault_status, State.faultLatch_status, State.faultRecord_status,
    State.faultCount_status _ _ h, shown]

/-! ### The resets of the port's functions (R45, Table 2-3) -/

theorem State.flr1_same (s : State) (f : Nat → Bool) : s.SameBut (s.flr1 f) [.cmd, .regs, .port] := by
  intro p; cases p <;> simp [State.agree, State.flr1]

theorem State.flr1_port (s : State) (f : Nat → Bool) :
    (s.flr1 f).port = { s.port with pf1 := s.port.pf1.filter fun p => !f p.1 } := rfl

/-- An FLR of PF1 returns the functions it names to defaults and keeps the others. -/
theorem State.flr1_fn1 (s : State) (f : Nat → Bool) (k : Nat) :
    (s.flr1 f).port.fn1 k = if f k then {} else s.port.fn1 k := by
  unfold HostPort.fn1
  rw [s.flr1_port, mget_filter _ (fun k => !f k)]
  cases f k <;> rfl

theorem State.portReset_same (s : State) : s.SameBut s.portReset [.cmd, .regs, .port] :=
  (s.flr1_same _).next (State.onPort_same _ _)

theorem State.portReset_pf1 (s : State) : s.portReset.port.pf1 = [] := by
  refine List.filter_eq_nil_iff.mpr fun p _ => ?_
  simp

theorem State.begin_portReset_same (s : State) : s.SameBut s.begin.portReset [.out, .port, .cmd, .regs] :=
  s.begin_same.widen.next s.begin.portReset_same

/-! ### The volatile partition declared clear (R46, R47) -/

theorem State.declareClear_same (s : State) (n : Nat) : s.SameBut (s.declareClear n) [.mem, .port] := by
  intro p; cases p <;> simp [State.agree, State.declareClear]

theorem State.declareClear_readByte (s : State) (n a : Nat) :
    readByte (s.declareClear n).mem a = if n ≤ a then readByte s.mem a else 0 := by
  have cells := mget_filter unlistedByte (fun c => decide (n ≤ c)) s.mem a
  simp only [decide_eq_true_eq] at cells
  exact cells

/-! ### GPF (R24, R25) -/

theorem gpfPhase1_answers (ld : Nat) {s : State} (h : s.gpfServes = true) : Answers (.gpfPhase1 ld) s fun t =>
    t.out = [.gpfDone 1 ld] ∧ ld ∈ t.port.gpfStarted ∧ (∀ x ∈ s.port.gpfStarted, x ∈ t.port.gpfStarted)
      ∧ s.SameBut t [.out, .port] := by
  have started : s.begin.port.gpfStarted = s.port.gpfStarted := rfl
  refine ⟨_, rfl, ?_⟩
  rw [if_pos (show s.begin.gpfServes = true from h)]
  refine ⟨rfl, ?_, ?_, (s.begin_same.widen.next (State.emit_same _ _)).next (State.onPort_same _ _)⟩
  all_goals
    simp only [State.onPort_port, started]
    split
    all_goals simp_all

theorem gpfPhase2_answers (ld : Nat) (tf : Int) {s : State} (h : s.gpfServes = true) (k : s.dev ≠ .vaulting) :
    Answers (.gpfPhase2 ld tf) s fun t =>
      t.out = [.gpfDone 2 ld] ∧ t.port.gpfStarted = s.port.gpfStarted.filter (· ≠ ld) ∧ s.SameBut t [.out, .port] := by
  have serves : ¬(!s.begin.gpfServes) = true := by rw [show s.begin.gpfServes = true from h]; decide
  refine ⟨_, rfl, ?_⟩
  rw [if_neg serves]
  dsimp only
  rw [if_neg fun c => k c.2.2.1]
  exact ⟨rfl, rfl, (s.begin_same.widen.next (State.emit_same _ _)).next (State.onPort_same _ _)⟩

/-! ### The training (R41, R42) -/

/-- The port reset where the link was down. -/
def State.linkFresh (s : State) : State := if s.port.up then s else s.portReset

/-- The port as a training leaves it. -/
def State.linkTrained (s : State) (w r : Nat) (f l : Bool) : State := s.linkFresh.onPort fun h => { h with
  up := true, width := w, rate := r
  flit256 := decide (16 ≤ r) && (f || r == 64)
  lowLat := l && r == 64
  memCapable := decide (16 ≤ r) && !s.mgmt.recovery
  pf2 := if h.up then h.pf2 else { h.pf2 with diagOpen := true } }

theorem State.linkFresh_same (s : State) : s.SameBut s.linkFresh [.cmd, .regs, .port] := .ite (.refl _ _) s.portReset_same

theorem State.linkFresh_of_up {s : State} (h : s.port.up = true) : s.linkFresh = s := if_pos h

theorem State.begin_linkTrained_same (s : State) (w r : Nat) (f l : Bool) :
    s.SameBut (s.begin.linkTrained w r f l) [.out, .port, .cmd, .regs] :=
  (s.begin_same.widen.next s.begin.linkFresh_same).next (State.onPort_same _ _)

theorem linkTrained_answers (w r : Nat) (f l : Bool) {s : State} (h : s.mayTrain = true) (k : s.linkOk w r = true) :
    Answers (.linkTrained w r f l) s fun t =>
      t = if r < 16 then (s.begin.linkTrained w r f l).fault Src.HOST_LINK .degraded else s.begin.linkTrained w r f l := by
  have may : ¬((!s.begin.mayTrain) = true ∨ (!s.begin.linkOk w r) = true) := by
    rw [show s.begin.mayTrain = true from h, show s.begin.linkOk w r = true from k]
    decide
  refine ⟨_, rfl, ?_⟩
  rw [if_neg may]
  have recovery : s.begin.linkFresh.mgmt = s.begin.mgmt := s.begin.linkFresh_same .mgmt (by decide)
  unfold State.linkTrained
  rw [← recovery]
  rfl

theorem State.linkTrained_up (s : State) (w r : Nat) (f l : Bool) : (s.linkTrained w r f l).port.up = true := rfl

theorem State.linkTrained_memCapable (s : State) (w r : Nat) (f l : Bool) :
    (s.linkTrained w r f l).port.memCapable = (decide (16 ≤ r) && !s.mgmt.recovery) := rfl

theorem HostPort.up_of_bare {h k : HostPort} (e : k.bare = h.bare) : k.up = h.up := (congrArg HostPort.up e :)

theorem HostPort.memCapable_of_bare {h k : HostPort} (e : k.bare = h.bare) : k.memCapable = h.memCapable :=
  (congrArg HostPort.memCapable e :)

theorem State.mayTrain_coreUp {s : State} (h : s.mayTrain = true) : s.seq.coreUp = true := by
  simp only [State.mayTrain, Bool.and_eq_true] at h
  exact h.1.1

theorem linkTrained_served (w r : Nat) (f l : Bool) {s : State} (h : s.mayTrain = true) (k : s.linkOk w r = true) (fast : 16 ≤ r) :
    Answers (.linkTrained w r f l) s fun t =>
      t.port.up = true ∧ t.port.width = w ∧ t.port.rate = r ∧ t.port.memCapable = !s.mgmt.recovery
        ∧ (s.port.up = true → t.port.decoders = s.port.decoders) ∧ s.SameBut t [.out, .port, .cmd, .regs] := by
  refine (linkTrained_answers w r f l h k).imp fun t e => ?_
  subst e
  rw [if_neg (by omega)]
  refine ⟨rfl, rfl, rfl, ?_, fun up => ?_, s.begin_linkTrained_same w r f l⟩
  · simp [State.linkTrained, fast]
  · have kept : s.begin.linkFresh = s.begin := State.linkFresh_of_up up
    change s.begin.linkFresh.port.decoders = s.port.decoders
    rw [kept]
    rfl

theorem linkTrained_degraded (w r : Nat) (f l : Bool) {s : State} (h : s.mayTrain = true) (k : s.linkOk w r = true) (slow : r < 16) :
    Answers (.linkTrained w r f l) s fun t =>
      t.port.up = true ∧ t.port.memCapable = false ∧ bit (t.reg Reg.FC_STATUS) Src.HOST_LINK = true
        ∧ t.mem = s.mem ∧ t.dev = s.dev := by
  have trained := s.begin_linkTrained_same w r f l
  have up := s.begin.linkTrained_up w r f l
  have capable := s.begin.linkTrained_memCapable w r f l
  rw [decide_eq_false (by omega), Bool.false_and] at capable
  refine (linkTrained_answers w r f l h k).imp fun t e => ?_
  rw [if_pos slow] at e
  generalize s.begin.linkTrained w r f l = u at trained up capable e
  subst e
  have bare := u.fault_bare Src.HOST_LINK .degraded 0 false []
  have core : u.seq.coreUp = true := by rw [show u.seq = s.seq from trained .seq (by decide)]; exact State.mayTrain_coreUp h
  refine ⟨?_, ?_, State.fault_status _ _ _ _ _ (by decide) core, ?_, ?_⟩
  · exact (HostPort.up_of_bare bare).trans up
  · exact (HostPort.memCapable_of_bare bare).trans capable
  · rw [State.fault_mem]
    exact trained .mem (by decide)
  · rw [State.fault_dev]
    exact trained .dev (by decide)

/-! ### Link down and the resets -/

theorem linkDown_answers (s : State) : Answers (.linkDown true) s fun t =>
    t.port.up = false ∧ t.port.memCapable = false ∧ t.port.decoders = [] ∧ t.port.pf1 = []
      ∧ t.port.poison = s.port.poison ∧ t.port.extents = s.port.extents ∧ s.SameBut t [.out, .port, .cmd, .regs] := by
  refine ⟨_, rfl, ?_⟩
  rw [if_pos rfl]
  exact ⟨rfl, rfl, rfl, s.begin.portReset_pf1, rfl, rfl, s.begin_portReset_same.next (State.onPort_same _ _)⟩

theorem hotReset_answers {s : State} (h : s.port.up = true) : Answers .hotReset s fun t =>
    t.port.decoders = [] ∧ t.port.up = true ∧ t.port.poison = s.port.poison ∧ s.SameBut t [.out, .port, .cmd, .regs] := by
  refine ⟨_, rfl, ?_⟩
  rw [if_pos (show s.begin.port.up = true from h)]
  exact ⟨rfl, h, rfl, s.begin_portReset_same⟩

theorem flrPf0_answers {s : State} (h : s.port.up = true) : Answers .flrPf0 s fun t =>
    t.port.decoders = s.port.decoders ∧ t.port.up = true ∧ t.port.ioKeys = [] ∧ t.port.ioStreams = []
      ∧ t.port.pf1 = s.port.pf1 ∧ t.port.pf2 = s.port.pf2 ∧ s.SameBut t [.out, .port] := by
  refine ⟨_, rfl, ?_⟩
  rw [if_pos (show s.begin.port.up = true from h)]
  exact ⟨rfl, h, rfl, rfl, rfl, rfl, s.begin_same.widen.next (State.onPort_same _ _)⟩

theorem flrPf1_answers (ld : Nat) {s : State} (h : s.port.up = true) : Answers (.flrPf1 ld) s fun t =>
    t.port.fn1 ld = {} ∧ (∀ k, k ≠ ld → t.port.fn1 k = s.port.fn1 k) ∧ t.cmd.window = 0
      ∧ t.cmd.journal = s.cmd.journal ∧ t.port.decoders = s.port.decoders ∧ t.port.pf2 = s.port.pf2
      ∧ (∀ q ∈ s.cmd.owed, q.origin = { transport := 0, ld := ld } →
          { q with discard := true } ∈ t.cmd.owed) ∧ s.SameBut t [.out, .port, .cmd, .regs] := by
  refine ⟨_, rfl, ?_⟩
  rw [if_pos (show s.begin.port.up = true from h)]
  refine ⟨?_, fun k ne => ?_, rfl, rfl, rfl, rfl, fun q owed mine => ?_,
    s.begin_same.widen.next (State.flr1_same _ _)⟩
  · rw [State.flr1_fn1, if_pos (beq_self_eq_true ld)]
  · rw [State.flr1_fn1, if_neg (by simpa using ne)]
    rfl
  · exact List.mem_map.mpr ⟨q, owed, by simp [mine]⟩

theorem flrPf2_answers {s : State} (h : s.port.up = true) : Answers .flrPf2 s fun t =>
    t.port.pf2 = {} ∧ t.port.pf1 = s.port.pf1 ∧ t.port.decoders = s.port.decoders ∧ s.SameBut t [.out, .port] := by
  refine ⟨_, rfl, ?_⟩
  rw [if_pos (show s.begin.port.up = true from h)]
  exact ⟨rfl, rfl, rfl, s.begin_same.widen.next (State.onPort_same _ _)⟩

theorem cxlReset_answers {s : State} (c : Bool) (h : s.port.up = true) : Answers (.cxlReset c) s fun t =>
    t = if c then s.begin.portReset.declareClear s.volBytes else s.begin.portReset := by
  have up : ¬(!s.begin.port.up) = true := by rw [show s.begin.port.up = true from h]; decide
  refine ⟨_, rfl, ?_⟩
  rw [if_neg up]
  rfl

theorem cxlReset_keeps {s : State} (h : s.port.up = true) : Answers (.cxlReset false) s fun t =>
    t.port.decoders = [] ∧ t.mem = s.mem ∧ s.SameBut t [.out, .port, .cmd, .regs] := by
  refine (cxlReset_answers false h).imp fun t e => ?_
  rw [if_neg Bool.false_ne_true] at e
  subst e
  exact ⟨rfl, rfl, s.begin_portReset_same⟩

theorem cxlReset_clears {s : State} (h : s.port.up = true) : Answers (.cxlReset true) s fun t =>
    t.port.decoders = [] ∧ (∀ a, a < s.volBytes → readByte t.mem a = 0)
      ∧ (∀ a, s.volBytes ≤ a → readByte t.mem a = readByte s.mem a) ∧ s.SameBut t [.out, .port, .cmd, .regs, .mem] := by
  refine (cxlReset_answers true h).imp fun t e => ?_
  rw [if_pos rfl] at e
  subst e
  refine ⟨rfl, fun a below => ?_, fun a above => ?_,
    s.begin_portReset_same.widen.next (State.declareClear_same _ _)⟩
  · rw [State.declareClear_readByte, if_neg (by omega)]
  · rw [State.declareClear_readByte, if_pos above]
    rfl

theorem volatilePageCleared_answers {s : State} (h : s.port.clearAt < s.port.clearEnd) : Answers .volatilePageCleared s fun t =>
    t.port.clearAt = min s.port.clearEnd (s.port.clearAt + 4096) ∧ s.SameBut t [.out, .port] := by
  refine ⟨_, rfl, ?_⟩
  rw [if_pos (show s.begin.port.clearAt < s.begin.port.clearEnd from h)]
  exact ⟨rfl, s.begin_same.widen.next (State.onPort_same _ _)⟩

/-- Settles O7: each command's rule by the resets of the port's functions it is made of. -/
theorem link_and_resets : Obligations.Link_and_resets := by
  unfold Obligations.Link_and_resets
  exact ⟨fun ld s h => gpfPhase1_answers ld h, fun ld tf s h k => gpfPhase2_answers ld tf h k,
    fun w r f l s h k fast => linkTrained_served w r f l h k fast, fun w r f l s h k slow => linkTrained_degraded w r f l h k slow,
    linkDown_answers, fun s => ⟨_, rfl, if_neg Bool.false_ne_true⟩, fun s h => hotReset_answers h, fun s h => flrPf0_answers h,
    fun ld s h => flrPf1_answers ld h, fun s h => flrPf2_answers h, fun s h => cxlReset_keeps h, fun s h => cxlReset_clears h,
    fun s h => volatilePageCleared_answers h⟩

end Sys2Proof.Machine
end

section
/-! PROOFS. The standard CXL status commands (O9). -/

namespace Sys2Proof.Machine

/-! ### What the start of a step leaves of what these commands read -/

@[simp] theorem State.begin_stdReaches (s : State) (c : Cxl) : s.begin.stdReaches c = s.stdReaches c := rfl

theorem State.begin_poisonIn' (s : State) : s.begin.poisonIn' = s.poisonIn' := rfl

theorem State.begin_poisonFields (s : State) (ld : Nat) (l : List (Nat × PoisonSrc)) :
    s.begin.poisonFields ld l = s.poisonFields ld l := by
  unfold State.poisonFields
  rfl

/-! ### A status command (R508) -/

/-- Success with the fields given goes out, and nothing else changes but the parts listed. -/
structure State.Reports (s t : State) (op : Nat) (l : List Nat) (parts : List Part) : Prop where
  out : t.out = [.cxl op 0 l]
  same : s.SameBut t parts

theorem State.stdStatus_eq {s : State} {c : Cxl} (h : s.stdReaches c = true) (op : Nat) (fields : State → List Nat × State) :
    s.begin.stdStatus c op fields = (fields s.begin).2.cxlRet op .success (fields s.begin).1 := by
  unfold State.stdStatus
  rw [if_neg (by rw [s.begin_stdReaches, h]; decide)]

/-- A status command that reads alone changes only what goes out. -/
theorem State.stdStatus_reports {s : State} {c : Cxl} (h : s.stdReaches c = true) (op : Nat) (fields : State → List Nat) :
    s.Reports (s.begin.stdStatus c op fun s => (fields s, s)) op (fields s.begin) [.out] := by
  rw [State.stdStatus_eq h]
  exact ⟨rfl, s.begin_same.trans (State.emit_same _ _)⟩

theorem State.freeWords_one (s : State) (tag : Nat) :
    s.freeWords tag 1 = ([Config.freeValue s.freeCtr tag % 2 ^ 48], { s with freeCtr := s.freeCtr + 1 }) := by
  simp [State.freeWords, State.free]

/-- A status command of stated contents none gives a free word. -/
theorem State.stdStatus_freeWord {s : State} {c : Cxl} (h : s.stdReaches c = true) (op tag : Nat) :
    (∃ w, (s.begin.stdStatus c op fun s => s.freeWords tag 1).out = [.cxl op 0 [w]])
      ∧ s.SameBut (s.begin.stdStatus c op fun s => s.freeWords tag 1) [.out, .freeCtr] := by
  rw [State.stdStatus_eq h]
  refine ⟨⟨Config.freeValue s.freeCtr tag % 2 ^ 48, by rw [State.freeWords_one]; rfl⟩,
    ((s.begin_same.widen).trans ((s.begin.freeWords_same tag 1).sub ?_)).trans
    ((State.emit_same _ _).sub ?_)⟩
  all_goals decide

theorem State.Reports.of_fields {s t : State} {op : Nat} {l m : List Nat} {p : List Part} (h : s.Reports t op l p) (e : l = m) :
    t.out = [.cxl op 0 m] ∧ s.SameBut t p := ⟨h.out.trans (by rw [e]), h.same⟩

/-! ### The fields of each command -/

theorem getPartitionInfo_reports {c : Cxl} {s : State} (h : s.stdReaches c = true) (single : s.reg Reg.MLD_ENABLE ≠ 1)
    (own : c.ld = 0) : Answers (.getPartitionInfo c) s fun t =>
      t.out = [.cxl 0x4100 0 [(s.alloc 0).1, if s.port.whole then (s.alloc 0).2 * GiB else 0,
          s.reg Reg.VOLATILE_SIZE * 64 * GiB,
          if s.reg Reg.HOST_CAP_MODE = 1 then (s.basin.host / GiB - 64 * s.reg Reg.VOLATILE_SIZE) * GiB else 0]]
        ∧ s.SameBut t [.out] := by
  refine ⟨_, rfl, (State.stdStatus_reports h 0x4100 _).of_fields ?_⟩
  have mld : ¬s.begin.reg Reg.MLD_ENABLE = 1 := single
  simp only [if_neg mld, own, if_true]
  rfl

theorem getEventRecords_reports {c : Cxl} {log : Nat} {s : State} (h : s.stdReaches c = true) (lt : log < 5) :
    Answers (.getEventRecords c log) s fun t =>
      t.out = [.cxl 0x0100 0 ([(mget {} s.port.logOver (logKey (log + 1) c.ld)).count,
            (mget {} s.port.logOver (logKey (log + 1) c.ld)).first, (mget {} s.port.logOver (logKey (log + 1) c.ld)).last,
            (mget [] s.port.logs (logKey (log + 1) c.ld)).length]
          ++ ((mget [] s.port.logs (logKey (log + 1) c.ld)).take 31).flatMap LogRec.fields)] ∧ s.SameBut t [.out] := by
  refine ⟨_, rfl, ?_⟩
  rw [if_neg (by omega)]
  exact (State.stdStatus_reports h 0x0100 _).of_fields rfl

theorem getPoisonList_reports {c : Cxl} (a n : Nat) {s : State} (h : s.stdReaches c = true) :
    Answers (.getPoisonList c a n) s fun t =>
      t.out = [.cxl 0x4300 0 (s.poisonFields c.ld (s.poisonIn' s.port.poison c.ld a n))] ∧ s.SameBut t [.out] := by
  refine ⟨_, rfl, (State.stdStatus_reports h 0x4300 _).of_fields ?_⟩
  rw [s.begin_poisonIn', s.begin_poisonFields]
  rfl

/-- The region of the Dynamic Capacity configuration, none while the link is below 16 GT/s (R42). -/
theorem getDynamicCapacityConfiguration_reports {c : Cxl} {s : State} (h : s.stdReaches c = true) :
    Answers (.getDynamicCapacityConfiguration c) s fun t =>
      t.out = [.cxl 0x4800 0 (if s.port.whole = true ∨ s.slowLink = true then [0]
          else [1, (s.alloc c.ld).1, (s.alloc c.ld).2 * GiB, GiB, b2n s.port.caps.sharing])] ∧ s.SameBut t [.out] := by
  refine ⟨_, rfl, (State.stdStatus_reports h 0x4800 _).of_fields ?_⟩
  change (if s.port.whole = true ∨ s.slowLink = true then [0]
    else [1, (s.ranges c.ld).1, (s.ranges c.ld).2, GiB, b2n s.port.caps.sharing]) = _
  by_cases k : s.port.whole = true ∨ s.slowLink = true
  · rw [if_pos k, if_pos k]
  · have fast : s.ranges c.ld = ((s.alloc c.ld).1, (s.alloc c.ld).2 * GiB) := if_neg fun slow => k (.inr slow)
    rw [if_neg k, if_neg k, fast]

/-- The extents that the list of a logical device shows: those accepted under its keys. -/
theorem mem_accepted (ld e : Nat) (l : List (Nat × ExtState)) (h : e < 8192) :
    e ∈ (l.filter fun p => p.1 / 8192 == ld && decide (p.2 = .accepted)).map (fun p => p.1 % 8192)
      ↔ (extKey ld e, ExtState.accepted) ∈ l := by
  simp only [List.mem_map, List.mem_filter, Bool.and_eq_true, beq_iff_eq, decide_eq_true_eq, extKey]
  constructor
  · rintro ⟨⟨k, x⟩, ⟨listed, own, rfl⟩, rfl⟩
    have key : ld * 8192 + k % 8192 = k := by omega
    rwa [key]
  · exact fun listed => ⟨_, ⟨listed, by omega, rfl⟩, by omega⟩

theorem getDynamicCapacityExtentList_reports {c : Cxl} {s : State} (h : s.stdReaches c = true) :
    Answers (.getDynamicCapacityExtentList c) s fun t =>
      (∃ l : List Nat, t.out = [.cxl 0x4801 0 (l.length :: l)]
        ∧ ∀ e, e < 8192 → (e ∈ l ↔ (extKey c.ld e, ExtState.accepted) ∈ s.port.extents)) ∧ s.SameBut t [.out] := by
  refine ⟨_, rfl, ?_⟩
  obtain ⟨out, same⟩ := State.stdStatus_reports h 0x4801 fun s =>
    let l := s.port.extents.filter fun p => p.1 / 8192 == c.ld && decide (p.2 = .accepted)
    l.length :: l.map fun p => p.1 % 8192
  dsimp only at out
  exact ⟨⟨_, out.trans (by rw [List.length_map]; rfl), fun e lt => mem_accepted c.ld e _ lt⟩, same⟩

/-- Settles O9: each command is a status command of its fields. -/
theorem cxl_status_commands : Obligations.Cxl_status_commands := by
  unfold Obligations.Cxl_status_commands
  exact ⟨fun c s h => ⟨_, rfl, (State.stdStatus_reports h 0x4000 _).of_fields rfl⟩,
    fun c s h single own => getPartitionInfo_reports h single own,
    fun c s h => ⟨_, rfl, (State.stdStatus_reports h 0x4200 _).of_fields rfl⟩,
    fun c s h => ⟨_, rfl, State.stdStatus_freeWord h 0x4201 0x4201⟩,
    fun c s h => ⟨_, rfl, (State.stdStatus_reports h 0x4203 _).of_fields rfl⟩,
    fun c s h => ⟨_, rfl, (State.stdStatus_reports h 0x4500 _).of_fields rfl⟩,
    fun c log s h lt => getEventRecords_reports h lt,
    fun c s h => ⟨_, rfl, (State.stdStatus_reports h 0x0102 _).of_fields rfl⟩,
    fun c s h => ⟨_, rfl, (State.stdStatus_reports h 0x0200 _).of_fields rfl⟩,
    fun c s h => ⟨_, rfl, State.stdStatus_freeWord h 0x0400 0x0400⟩,
    fun c s h => ⟨_, rfl, State.stdStatus_freeWord h 0x0401 0x0401⟩,
    fun c s h => ⟨_, rfl, (State.stdStatus_reports h 0x0300 _).of_fields rfl⟩,
    fun c a n s h => getPoisonList_reports a n h,
    fun c s h => ⟨_, rfl, State.stdStatus_freeWord h 0x4303 0x4303⟩,
    fun c s h => getDynamicCapacityConfiguration_reports h,
    fun c s h => getDynamicCapacityExtentList_reports h⟩

end Sys2Proof.Machine
end

section
/-! PROOFS. The other standard CXL commands, security among them (O10). -/

namespace Sys2Proof.Machine

/-! ### Commands that the restricted states bar (R508) -/

theorem State.begin_restricted (s : State) : s.begin.restricted = s.restricted := rfl

theorem State.stdFull_restricted {s : State} {c : Cxl} (h : s.stdReaches c = true) (r : s.restricted = true) (op : Nat)
    (body : State → State) : s.begin.stdFull c op body = s.begin.cxlRet op .mediaDisabled := by
  unfold State.stdFull
  rw [if_neg (by rw [s.begin_stdReaches, h]; decide), if_pos (by rw [s.begin_restricted, r])]

theorem State.stdFull_open {s : State} {c : Cxl} (h : s.stdReaches c = true) (r : s.restricted = false) (op : Nat)
    (body : State → State) : s.begin.stdFull c op body = body s.begin := by
  unfold State.stdFull
  rw [if_neg (by rw [s.begin_stdReaches, h]; decide), if_neg (by rw [s.begin_restricted, r]; decide)]

theorem State.begin_cxlRet_same (s : State) (op : Nat) (r : Ret) (l : List Nat) : s.SameBut (s.begin.cxlRet op r l) [.out] :=
  s.begin_same.trans (State.emit_same _ _)

theorem State.cxlRet_mem (s : State) (op : Nat) (r : Ret) (l : List Nat) : .cxl op r.code l ∈ (s.cxlRet op r l).out :=
  List.mem_append_right _ (List.mem_singleton.mpr rfl)

/-- In the restricted states a command that they bar answers Media Disabled alone. -/
theorem State.stdFull_barred {s : State} {c : Cxl} (h : s.stdReaches c = true) (r : s.restricted = true) (op : Nat)
    (body : State → State) :
    (s.begin.stdFull c op body).out = [.cxl op 7 []] ∧ s.SameBut (s.begin.stdFull c op body) [.out] := by
  rw [State.stdFull_restricted h r]
  exact ⟨rfl, s.begin_cxlRet_same _ _ _⟩

/-- A command that is Unsupported answers that alone. -/
theorem State.stdFull_unsupported {s : State} {c : Cxl} (h : s.stdReaches c = true) (r : s.restricted = false) (op : Nat) :
    (s.begin.stdFull c op fun s => s.cxlRet op .unsupported).out = [.cxl op 3 []]
      ∧ s.SameBut (s.begin.stdFull c op fun s => s.cxlRet op .unsupported) [.out] := by
  rw [State.stdFull_open h r]
  exact ⟨rfl, s.begin_cxlRet_same _ _ _⟩

/-! ### Journalled standard commands (R430) -/

theorem State.mirror_noted (s : State) (n : Nat) : s.Noted (s.mirror n) := by
  unfold State.mirror
  split
  · exact .ite (s.nvDurable_noted _) (.refl _)
  · exact .refl _

theorem State.journalAdd_noted (s : State) (e : JEntry) : s.Noted (s.journalAdd e) := .of_same (s.onCmd_same _)

theorem State.journalDone_noted (s : State) (a b c : Nat) : s.Noted (s.journalDone a b c) := .of_same (s.onCmd_same _)

/-- The state in which a journalled command's body runs: its entry added. -/
theorem State.journalStd_noted (s : State) (op tr ld : Nat) (fm p : Bool) (d : Nat) : s.Noted (s.journalStd op tr ld fm p d).2 := by
  unfold State.journalStd
  dsimp only
  exact (s.journalAdd_noted _).trans (State.mirror_noted _ _)

theorem State.settleStd_noted (s : State) (o : Owed) (st : Nat) : s.Noted (s.settleStd o st) :=
  (s.journalDone_noted _ _ _).trans (State.mirror_noted _ _)

/-- A journalled standard command answers its body's return code; the journal's own work keeps all but what reports and
records write. -/
theorem State.stdJournal_runs (s : State) (c : Cxl) (op d : Nat) (body : State → Ret × State) :
    ∃ u, s.Noted u ∧ (body u).2.Noted (s.stdJournal c op d body)
      ∧ .cxl op (body u).1.code [] ∈ (s.stdJournal c op d body).out := by
  have before := s.journalStd_noted op c.transport c.ld c.fm false d
  unfold State.stdJournal
  generalize s.journalStd op c.transport c.ld c.fm false d = p at before
  obtain ⟨o, u⟩ := p
  exact ⟨u, before, (State.settleStd_noted _ _ _).trans (State.emit_noted _ _), State.cxlRet_mem _ _ _ _⟩

/-- A journalled standard command outside the restricted states, by what its body does to a state like the present one. -/
theorem State.stdFull_journal {s : State} {c : Cxl} (h : s.stdReaches c = true) (r : s.restricted = false) (op d : Nat)
    (body : State → Ret × State) :
    ∃ u, s.Noted u ∧ (body u).2.Noted (s.begin.stdFull c op fun s => s.stdJournal c op d body)
      ∧ .cxl op (body u).1.code [] ∈ (s.begin.stdFull c op fun s => s.stdJournal c op d body).out := by
  rw [State.stdFull_open h r]
  obtain ⟨u, before, after, out⟩ := s.begin.stdJournal_runs c op d body
  exact ⟨u, s.begin_noted.trans before, after, out⟩

theorem State.Noted.mem {s t : State} (h : s.Noted t) : t.mem = s.mem := h.same .mem (by decide)
theorem State.Noted.dev {s t : State} (h : s.Noted t) : t.dev = s.dev := h.same .dev (by decide)
theorem State.Noted.sip {s t : State} (h : s.Noted t) : t.sip = s.sip := h.same .sip (by decide)
theorem State.Noted.basin {s t : State} (h : s.Noted t) : t.basin = s.basin := h.same .basin (by decide)

theorem HostPort.sec_of_bare {h k : HostPort} (e : k.bare = h.bare) : k.sec = h.sec := (congrArg HostPort.sec e :)

theorem State.Noted.sec {s t : State} (h : s.Noted t) : t.port.sec = s.port.sec := HostPort.sec_of_bare h.bare

/-! ### Security (R74, R75, R235) -/

theorem State.saveSecurity_noted (s : State) : s.Noted s.saveSecurity := s.nvDurable_noted _

/-- The security state put, all else as it was. -/
structure State.Secured (s t : State) (x : Security) : Prop where
  same : s.SameBut t [.out, .cmd, .regs, .freeCtr, .rec_, .fc, .port, .mir, .nv]
  sec : t.port.sec = x

theorem State.onSec_secured (s : State) (f : Security → Security) :
    s.Secured (s.onPort fun h => { h with sec := f h.sec }) (f s.port.sec) := ⟨(s.onPort_same _).widen, rfl⟩

theorem State.Secured.noted {s t u : State} {x : Security} (h : s.Secured t x) (k : t.Noted u) : s.Secured u x :=
  ⟨h.same.trans k.same, k.sec.trans h.sec⟩

theorem State.Noted.secured {s t u : State} {x : Security} (h : s.Noted t) (k : t.Secured u x) : s.Secured u x :=
  ⟨h.same.trans k.same, k.sec⟩

theorem State.Secured.mem {s t : State} {x : Security} (h : s.Secured t x) : t.mem = s.mem := h.same .mem (by decide)
theorem State.Secured.dev {s t : State} {x : Security} (h : s.Secured t x) : t.dev = s.dev := h.same .dev (by decide)
theorem State.Secured.sip {s t : State} {x : Security} (h : s.Secured t x) : t.sip = s.sip := h.same .sip (by decide)

theorem Security.setPass_pass (x : Security) (m : Bool) (v : Option (BitVec 256)) :
    (x.setPass m v).pass m = v ∧ (x.setPass m v).pass (!m) = x.pass (!m) := by
  cases m <;> exact ⟨rfl, rfl⟩

/-- A journalled command whose body puts the security state and answers a code. -/
theorem State.stdFull_secures {s : State} {c : Cxl} (h : s.stdReaches c = true) (r : s.restricted = false) (op d : Nat)
    {body : State → Ret × State} {q : Ret} {x : Security}
    (runs : ∀ u : State, s.Noted u → (body u).1 = q ∧ u.Secured (body u).2 x) :
    s.Secured (s.begin.stdFull c op fun s => s.stdJournal c op d body) x
      ∧ .cxl op q.code [] ∈ (s.begin.stdFull c op fun s => s.stdJournal c op d body).out := by
  obtain ⟨u, before, after, out⟩ := State.stdFull_journal h r op d body
  obtain ⟨code, put⟩ := runs u before
  rw [code] at out
  exact ⟨(before.secured put).noted after, out⟩

theorem State.setPassphrase_success {u : State} {m : Bool} {cur : BitVec 256} (new : BitVec 256) (frozen : u.port.sec.frozen = false)
    (locked : u.port.sec.locked = false) (now : u.port.sec.pass m = none ∨ u.port.sec.pass m = some cur) :
    (u.setPassphrase m cur new).1 = .success ∧ u.Secured (u.setPassphrase m cur new).2 (u.port.sec.setPass m (some new)) := by
  have right : ¬((u.port.sec.pass m).any fun p => p != cur) = true := by
    rcases now with e | e <;> simp [e]
  unfold State.setPassphrase
  dsimp only
  rw [if_neg (by simp [frozen, locked]), if_neg right]
  exact ⟨rfl, (u.onSec_secured fun x => x.setPass m (some new)).noted (State.saveSecurity_noted _)⟩

theorem State.disablePassphrase_success {u : State} {m : Bool} {cur : BitVec 256} (frozen : u.port.sec.frozen = false)
    (locked : u.port.sec.locked = false) (now : u.port.sec.pass m = some cur) :
    (u.disablePassphrase m cur).1 = .success ∧ u.Secured (u.disablePassphrase m cur).2 (u.port.sec.setPass m none) := by
  unfold State.disablePassphrase
  dsimp only
  rw [if_neg (by simp [frozen, locked, now]), if_neg (by simp [now])]
  exact ⟨rfl, (u.onSec_secured fun x => x.setPass m none).noted (State.saveSecurity_noted _)⟩

theorem State.unlock_success {u : State} {pass : BitVec 256} (frozen : u.port.sec.frozen = false)
    (locked : u.port.sec.locked = true) (fails : u.port.sec.fails < 5) (right : u.port.sec.user = some pass)
    (free : u.sip.state ≠ .lockWait) :
    (u.unlock pass).1 = .success ∧ u.Secured (u.unlock pass).2 { u.port.sec with locked := false, fails := 0 } := by
  unfold State.unlock
  dsimp only
  rw [if_neg (by simp [frozen, locked, fails]), if_neg (by simp [right]),
    if_neg (show ¬(State.onPort u _).sip.state = .lockWait from free)]
  exact ⟨rfl, u.onSec_secured fun x => { x with locked := false, fails := 0 }⟩

theorem State.unlock_wrong {u : State} {pass : BitVec 256} (frozen : u.port.sec.frozen = false)
    (locked : u.port.sec.locked = true) (fails : u.port.sec.fails < 5) (wrong : u.port.sec.user ≠ some pass) :
    (u.unlock pass).1 = .incorrectPassphrase
      ∧ u.Secured (u.unlock pass).2 { u.port.sec with fails := u.port.sec.fails + 1 } := by
  unfold State.unlock
  dsimp only
  rw [if_neg (by simp [frozen, locked, fails]), if_pos wrong]
  exact ⟨rfl, u.onSec_secured fun x => { x with fails := x.fails + 1 }⟩

theorem State.unlock_blocked {u : State} (pass : BitVec 256) (fails : 5 ≤ u.port.sec.fails) :
    (u.unlock pass).1 = .invalidSecurityState ∧ u.Secured (u.unlock pass).2 u.port.sec := by
  unfold State.unlock
  dsimp only
  rw [if_pos (.inr (.inr fails))]
  exact ⟨rfl, .refl _ _, rfl⟩

theorem State.freeze_success (u : State) :
    u.Secured (u.onPort fun h => { h with sec := { h.sec with frozen := true } }).saveSecurity { u.port.sec with frozen := true } :=
  (u.onSec_secured fun x => { x with frozen := true }).noted (State.saveSecurity_noted _)

/-! ### Set Shutdown State (R508): its journal entry, with room in the log of the NV Store -/

theorem State.journalAdd_entry (s : State) (e : JEntry) (older : ∀ x ∈ s.cmd.journal, x.cseq < e.cseq) :
    (s.journalAdd e).cmd.entry e.cseq = some e := by
  obtain ⟨n, journal⟩ := s.journalAdd_journal e
  have rest : ((s.cmd.journal.drop n).find? fun x => x.cseq == e.cseq) = none := by
    rw [List.find?_eq_none]
    intro x hx
    have := older x (List.mem_of_mem_drop hx)
    simp
    omega
  unfold Cmd.entry
  rw [journal, List.find?_append, rest]
  simp

/-- An entry that is not mirrored leaves the NV Store. -/
theorem State.mirror_of_entry {s : State} {n : Nat} {e : JEntry} (h : s.cmd.entry n = some e) (k : e.persist = false) :
    s.mirror n = s := by
  unfold State.mirror
  rw [h]
  exact if_neg (by rw [k]; decide)

/-- The journal entry of a standard command that is not mirrored. -/
def State.stdEntry (s : State) (c : Cxl) (op d : Nat) : JEntry where
  cseq := s.cmd.cseq + 1
  transport := c.transport
  ld := c.ld
  fm := c.fm
  std := true
  state := s.dev.code
  persist := false
  opcode := op
  tag := 0
  digest := d
  status := St.IN_PROGRESS
  detail := 0
  evDone := 0
  flags := 0

theorem State.journalStd_state (s : State) (c : Cxl) (op d : Nat) :
    (s.journalStd op c.transport c.ld c.fm false d).2 = (s.journalAdd (s.stdEntry c op d)).mirror (s.cmd.cseq + 1) := by
  unfold State.journalStd State.stdEntry
  dsimp only

/-- A standard command that succeeds and is not mirrored: its entry added, the body, its entry completed, and the answer. -/
theorem State.stdJournal_success (s : State) (c : Cxl) (op d : Nat) (f : State → State)
    (older : ∀ x ∈ s.cmd.journal, x.cseq ≤ s.cmd.cseq) (keeps : ∀ u, (f u).cmd = u.cmd) :
    ∃ e : JEntry, (s.stdJournal c op d fun u => (.success, f u))
          = ((f (s.journalAdd e)).journalDone e.cseq St.SUCCESS 0).cxlRet op .success
      ∧ ∃ x ∈ ((f (s.journalAdd e)).journalDone e.cseq St.SUCCESS 0).cmd.journal,
          x.cseq = s.cmd.cseq + 1 ∧ x.std = true ∧ x.status = St.SUCCESS := by
  obtain ⟨e, he⟩ : ∃ e, e = s.stdEntry c op d := ⟨_, rfl⟩
  have cseq : e.cseq = s.cmd.cseq + 1 := by rw [he]; rfl
  have std : e.std = true := by rw [he]; rfl
  have plain : e.persist = false := by rw [he]; rfl
  have below : ∀ x ∈ s.cmd.journal, x.cseq < e.cseq := fun x hx => by
    have := older x hx
    omega
  have added : (s.journalStd op c.transport c.ld c.fm false d).2 = s.journalAdd e := by
    rw [State.journalStd_state, ← he, ← cseq]
    exact State.mirror_of_entry (s.journalAdd_entry e below) plain
  have owed : (s.journalStd op c.transport c.ld c.fm false d).1.cseq = e.cseq := cseq.symm
  have done := State.journalDone_entry s (f (s.journalAdd e)) e St.SUCCESS 0 below (keeps _)
  refine ⟨e, ?_, _, List.mem_of_find?_eq_some done, cseq, std, rfl⟩
  unfold State.stdJournal State.settleStd
  dsimp only [Ret.status]
  rw [owed, added, State.mirror_of_entry done plain]

/-- A durable record that the log has room for is written, or held, and nothing but the NV Store changes (R404, R416). -/
theorem State.nvDurable_same_of_room (s : State) (d : NvData) (h : 4 ≤ s.nv.logFree) : s.SameBut (s.nvDurable d) [.nv] := by
  have room : ¬s.nv.refuses d = true := by simp [NvStore.refuses, Nat.not_lt.mpr h]
  unfold State.nvDurable State.nvPut
  rw [if_neg room]
  refine .ite (.refl _ _) (.ite ?_ ?_)
  · split
    · exact s.onNv_same fun v => v.durable _
    · exact s.nvHold_same _
  · exact s.onNv_same fun v => v.durable d

/-- What Set Shutdown State does: the state stored, and shown. -/
def State.storeShutdown (s : State) (dirty : Bool) : State :=
  (s.nvDurable (.shutdownState dirty)).onPort fun h => { h with shutdownDirty := dirty }

theorem State.storeShutdown_cmd (s : State) (dirty : Bool) : (s.storeShutdown dirty).cmd = s.cmd :=
  (State.onPort_same _ _ .cmd (by decide)).trans (s.nvDurable_same _ .cmd (by decide))

theorem State.storeShutdown_same (s : State) (dirty : Bool) (room : 4 ≤ s.nv.logFree) :
    s.SameBut (s.storeShutdown dirty) [.port, .nv] :=
  (s.nvDurable_same_of_room _ room).widen.next (State.onPort_same _ _)

theorem State.storeShutdown_dirty (s : State) (dirty : Bool) : (s.storeShutdown dirty).port.shutdownDirty = dirty := rfl

theorem setShutdownState_answers {c : Cxl} {s : State} (dirty : Bool) (h : s.stdReaches c = true) (r : s.restricted = false)
    (older : ∀ e ∈ s.cmd.journal, e.cseq ≤ s.cmd.cseq) (room : 4 ≤ s.nv.logFree) :
    Answers (.setShutdownState c dirty) s fun t =>
      t.port.shutdownDirty = dirty ∧ t.out = [.cxl 0x4204 0 []]
        ∧ t.reg Reg.DIRTY_SHUTDOWN_COUNT = s.reg Reg.DIRTY_SHUTDOWN_COUNT
        ∧ (∃ e ∈ t.cmd.journal, e.cseq = s.cmd.cseq + 1 ∧ e.std = true ∧ e.status = St.SUCCESS)
        ∧ s.SameBut t [.out, .port, .nv, .cmd] := by
  obtain ⟨e, run, done⟩ := s.begin.stdJournal_success c 0x4204 (digestOf [b2n dirty]) (fun u => u.storeShutdown dirty) older
    fun u => u.storeShutdown_cmd dirty
  have before : s.SameBut (s.begin.journalAdd e) [.out, .cmd] :=
    s.begin_same.widen.next (State.onCmd_same _ _)
  have nv : (s.begin.journalAdd e).nv = s.nv := before .nv (by decide)
  have stored := (s.begin.journalAdd e).storeShutdown_same dirty (by rw [nv]; exact room)
  have shown := (s.begin.journalAdd e).storeShutdown_dirty dirty
  have quiet : (s.begin.journalAdd e).out = [] := rfl
  refine ⟨_, rfl, ?_⟩
  rw [State.stdFull_open h r]
  unfold State.storeShutdown at run
  rw [run]
  unfold State.storeShutdown at stored shown done
  generalize (((s.begin.journalAdd e).nvDurable (.shutdownState dirty)).onPort fun h => { h with shutdownDirty := dirty }) = u
    at stored shown done
  have stood : s.SameBut u [.out, .port, .nv, .cmd] := before.widen.next stored
  have answered : s.SameBut ((u.journalDone e.cseq St.SUCCESS 0).cxlRet 0x4204 .success []) [.out, .port, .nv, .cmd] :=
    (stood.next (u.onCmd_same _)).next (State.emit_same _ _)
  refine ⟨shown, ?_, State.reg_of_regs (answered .regs (by decide)) _, done, answered⟩
  have silent : u.out = [] := (stored .out (by decide)).trans quiet
  exact congrArg (· ++ [Out.cxl 0x4204 0 []]) silent

/-! ### The event logs and their vectors (R64, R380) -/

theorem clearEventRecords_answers {c : Cxl} {log n k : Nat} {all : Bool} {s : State} (h : s.stdReaches c = true) (lt : log < 5)
    (key : k = logKey (log + 1) c.ld) (held : all = true ∨ n ≤ (mget [] s.port.logs k).length) :
    Answers (.clearEventRecords c log n all) s fun t =>
      mget [] t.port.logs k = (if all then [] else (mget [] s.port.logs k).drop n)
        ∧ (∀ m, m ≠ k → mget [] t.port.logs m = mget [] s.port.logs m)
        ∧ t.out = [.cxl 0x0101 0 []] ∧ s.SameBut t [.out, .port] := by
  subst key
  have reached : ¬(!s.begin.stdReaches c) = true := by rw [s.begin_stdReaches, h]; decide
  have listed : ¬((!all) = true ∧ (mget [] s.begin.port.logs (logKey (log + 1) c.ld)).length < n) := by
    rintro ⟨some, short⟩
    rcases held with e | e
    · rw [e] at some; exact absurd some (by decide)
    · exact absurd short (Nat.not_lt.mpr e)
  refine ⟨_, rfl, ?_⟩
  dsimp only
  rw [if_neg reached, if_neg (by omega), if_neg listed]
  exact ⟨mget_mset_same _ _ _ _, fun m ne => mget_mset_ne _ _ _ _ _ ne, rfl,
    (s.begin_same.widen.next (State.onPort_same _ _)).next (State.emit_same _ _)⟩

/-- The vectors of a policy, by the logs' numbers. -/
theorem mget_policy (vs : List Nat) : ∀ j k : Nat,
    mget 0 ((vs.zipIdx j).map fun p => (p.2 + 1, p.1)) (j + k + 1) = vs.getD k 0 := by
  induction vs with
  | nil => intro j k; rfl
  | cons v vs ih =>
    intro j k
    cases k with
    | zero => simp [mget]
    | succ k =>
      have rest := ih (j + 1) k
      rw [show j + 1 + k + 1 = j + (k + 1) + 1 by omega] at rest
      simpa [mget] using rest

theorem State.onPf1_fn1 (s : State) (ld : Nat) (f : Pf1 → Pf1) : (s.onPf1 ld f).port.fn1 ld = f (s.port.fn1 ld) :=
  mget_mset_same _ _ _ _

theorem setEventInterruptPolicy_answers {c : Cxl} {vs : List Nat} {s : State} (h : s.stdReaches c = true)
    (r : s.restricted = false) (five : vs.length = 5) (low : ∀ v ∈ vs, v < 64) :
    Answers (.setEventInterruptPolicy c vs) s fun t =>
      (∀ k, k < 5 → mget 0 (t.port.fn1 c.ld).logVectors (k + 1) = vs.getD k 0) ∧ t.out = [.cxl 0x0103 0 []]
        ∧ s.SameBut t [.out, .port] := by
  have right : ¬(vs.length ≠ 5 ∨ (vs.any fun v => decide (64 ≤ v)) = true) := by
    rintro (ne | high)
    · exact ne five
    · obtain ⟨v, listed, above⟩ := List.any_eq_true.mp high
      exact absurd (low v listed) (by simpa using above)
  refine ⟨_, rfl, ?_⟩
  rw [State.stdFull_open h r, if_neg right]
  refine ⟨fun k _ => ?_, rfl, (s.begin_same.widen.next (State.onPf1_same _ _ _)).next (State.emit_same _ _)⟩
  have own := s.begin.onPf1_fn1 c.ld fun x => { x with logVectors := vs.zipIdx.map fun p => (p.2 + 1, p.1) }
  have policy := mget_policy vs 0 k
  rw [Nat.zero_add] at policy
  exact (congrArg (fun x => mget 0 x.logVectors (k + 1)) own).trans policy

/-! ### Media scans (R61) -/

theorem scanMedia_answers {c : Cxl} (a n : Nat) {s : State} (h : s.stdReaches c = true) (r : s.restricted = false) :
    Answers (.scanMedia c a n) s fun t =>
      mget [] t.port.scans c.ld = s.poisonIn' s.port.poison c.ld a n
        ∧ (∀ k, k ≠ c.ld → mget [] t.port.scans k = mget [] s.port.scans k) ∧ t.out = [.cxl 0x4304 1 []]
        ∧ s.SameBut t [.out, .port] := by
  refine ⟨_, rfl, ?_⟩
  rw [State.stdFull_open h r, s.begin_poisonIn']
  exact ⟨mget_mput_same _ _ _ _, fun k ne => mget_mput_ne _ _ _ _ _ ne, rfl,
    (s.begin_same.widen.next (State.onPort_same _ _)).next (State.emit_same _ _)⟩

theorem getScanMediaResults_answers {c : Cxl} {q : Nat × List (Nat × PoisonSrc)} {s : State} (h : s.stdReaches c = true)
    (r : s.restricted = false) (found : (s.port.scans.find? fun p => p.1 == c.ld) = some q) :
    Answers (.getScanMediaResults c) s fun t =>
      t.out = [.cxl 0x4305 0 ((mergeLines q.2).flatMap fun x => [x.1 * 64, x.2.1, x.2.2.code])] ∧ s.SameBut t [.out] := by
  refine ⟨_, rfl, ?_⟩
  rw [State.stdFull_open h r, show (s.begin.port.scans.find? fun p => p.1 == c.ld) = some q from found]
  exact ⟨rfl, s.begin_cxlRet_same _ _ _⟩

/-! ### The security commands -/

theorem setPassphrase_answers {c : Cxl} {master : Bool} {cur : BitVec 256} (new : BitVec 256) {s : State}
    (h : s.stdReaches c = true) (r : s.restricted = false) (frozen : s.port.sec.frozen = false)
    (locked : s.port.sec.locked = false) (now : s.port.sec.pass master = none ∨ s.port.sec.pass master = some cur) :
    Answers (.setPassphrase c master cur new) s fun t =>
      t.port.sec.pass master = some new ∧ t.port.sec.pass (!master) = s.port.sec.pass (!master)
        ∧ .cxl 0x4501 0 [] ∈ t.out ∧ t.mem = s.mem ∧ t.dev = s.dev := by
  obtain ⟨put, out⟩ := State.stdFull_secures h r 0x4501 0 (body := fun s => s.setPassphrase master cur new) (q := .success)
    (x := s.port.sec.setPass master (some new)) fun u before => by
      rw [← before.sec] at frozen locked now ⊢
      exact State.setPassphrase_success new frozen locked now
  refine ⟨_, rfl, ?_, ?_, out, put.mem, put.dev⟩
  · rw [put.sec]
    exact (Security.setPass_pass _ _ _).1
  · rw [put.sec]
    exact (Security.setPass_pass _ _ _).2

theorem disablePassphrase_answers {c : Cxl} {master : Bool} {cur : BitVec 256} {s : State} (h : s.stdReaches c = true)
    (r : s.restricted = false) (frozen : s.port.sec.frozen = false) (locked : s.port.sec.locked = false)
    (now : s.port.sec.pass master = some cur) :
    Answers (.disablePassphrase c master cur) s fun t =>
      t.port.sec.pass master = none ∧ t.port.sec.pass (!master) = s.port.sec.pass (!master)
        ∧ .cxl 0x4502 0 [] ∈ t.out ∧ t.mem = s.mem ∧ t.dev = s.dev := by
  obtain ⟨put, out⟩ := State.stdFull_secures h r 0x4502 0 (body := fun s => s.disablePassphrase master cur) (q := .success)
    (x := s.port.sec.setPass master none) fun u before => by
      rw [← before.sec] at frozen locked now ⊢
      exact State.disablePassphrase_success frozen locked now
  refine ⟨_, rfl, ?_, ?_, out, put.mem, put.dev⟩
  · rw [put.sec]
    exact (Security.setPass_pass _ _ _).1
  · rw [put.sec]
    exact (Security.setPass_pass _ _ _).2

theorem unlock_opens {c : Cxl} {pass : BitVec 256} {s : State} (h : s.stdReaches c = true) (r : s.restricted = false)
    (frozen : s.port.sec.frozen = false) (locked : s.port.sec.locked = true) (fails : s.port.sec.fails < 5)
    (right : s.port.sec.user = some pass) (free : s.sip.state ≠ .lockWait) :
    Answers (.unlock c pass) s fun t =>
      t.port.sec.locked = false ∧ t.port.sec.fails = 0 ∧ .cxl 0x4503 0 [] ∈ t.out ∧ t.mem = s.mem ∧ t.sip = s.sip := by
  obtain ⟨put, out⟩ := State.stdFull_secures h r 0x4503 0 (body := fun s => s.unlock pass) (q := .success)
    (x := { s.port.sec with locked := false, fails := 0 }) fun u before => by
      rw [← before.sec] at frozen locked fails right ⊢
      rw [← before.sip] at free
      exact State.unlock_success frozen locked fails right free
  refine ⟨_, rfl, ?_, ?_, out, put.mem, put.sip⟩ <;> rw [put.sec]

theorem unlock_fails {c : Cxl} {pass : BitVec 256} {s : State} (h : s.stdReaches c = true) (r : s.restricted = false)
    (frozen : s.port.sec.frozen = false) (locked : s.port.sec.locked = true) (fails : s.port.sec.fails < 5)
    (wrong : s.port.sec.user ≠ some pass) :
    Answers (.unlock c pass) s fun t =>
      t.port.sec.locked = true ∧ t.port.sec.fails = s.port.sec.fails + 1 ∧ .cxl 0x4503 0x14 [] ∈ t.out := by
  obtain ⟨put, out⟩ := State.stdFull_secures h r 0x4503 0 (body := fun s => s.unlock pass) (q := .incorrectPassphrase)
    (x := { s.port.sec with fails := s.port.sec.fails + 1 }) fun u before => by
      rw [← before.sec] at frozen locked fails wrong ⊢
      exact State.unlock_wrong frozen locked fails wrong
  refine ⟨_, rfl, ?_, ?_, out⟩
  · rw [put.sec]
    exact locked
  · rw [put.sec]

theorem unlock_barred {c : Cxl} (pass : BitVec 256) {s : State} (h : s.stdReaches c = true) (r : s.restricted = false)
    (fails : 5 ≤ s.port.sec.fails) :
    Answers (.unlock c pass) s fun t => t.port.sec = s.port.sec ∧ .cxl 0x4503 0x13 [] ∈ t.out := by
  obtain ⟨put, out⟩ := State.stdFull_secures h r 0x4503 0 (body := fun s => s.unlock pass) (q := .invalidSecurityState)
    (x := s.port.sec) fun u before => by
      rw [← before.sec] at fails ⊢
      exact State.unlock_blocked pass fails
  exact ⟨_, rfl, put.sec, out⟩

theorem freezeSecurityState_answers {c : Cxl} {s : State} (h : s.stdReaches c = true) (r : s.restricted = false) :
    Answers (.freezeSecurityState c) s fun t =>
      t.port.sec = { s.port.sec with frozen := true } ∧ .cxl 0x4504 0 [] ∈ t.out ∧ t.mem = s.mem := by
  obtain ⟨put, out⟩ := State.stdFull_secures h r 0x4504 (digestOf []) (q := .success)
    (body := fun s => (.success, (s.onPort fun h => { h with sec := { h.sec with frozen := true } }).saveSecurity))
    (x := { s.port.sec with frozen := true }) fun u before => by
      rw [← before.sec]
      exact ⟨rfl, u.freeze_success⟩
  exact ⟨_, rfl, put.sec, out, put.mem⟩

/-- Settles O10: the restricted states bar, the journalled commands keep what their bodies keep, the others write their own
part of the port. -/
theorem cxl_commands : Obligations.Cxl_commands := by
  unfold Obligations.Cxl_commands
  exact ⟨fun c op s h r => ⟨_, rfl, State.stdFull_barred h r op _⟩, fun c op s h r => ⟨_, rfl, State.stdFull_unsupported h r op⟩,
    fun c dirty s h r => ⟨_, rfl, State.stdFull_barred h r 0x4204 _⟩,
    fun c dirty s h r older room => setShutdownState_answers dirty h r older room,
    fun c master cur new s h r frozen locked now => setPassphrase_answers new h r frozen locked now,
    fun c master cur s h r frozen locked now => disablePassphrase_answers h r frozen locked now,
    fun c pass s h r frozen locked fails right free => unlock_opens h r frozen locked fails right free,
    fun c pass s h r frozen locked fails wrong => unlock_fails h r frozen locked fails wrong,
    fun c pass s h r fails => unlock_barred pass h r fails, fun c s h r => freezeSecurityState_answers h r,
    fun c log n all s k h lt key held => clearEventRecords_answers h lt key held,
    fun c vs s h r five low => setEventInterruptPolicy_answers h r five low,
    fun c s h r => ⟨_, rfl, State.stdFull_unsupported h r 0x0201⟩, fun c s h r => ⟨_, rfl, State.stdFull_unsupported h r 0x0202⟩,
    fun c a n s h r => scanMedia_answers a n h r, fun c q s h r found => getScanMediaResults_answers h r found⟩

end Sys2Proof.Machine
end

section
/-! PROOFS. Inject Poison and Clear Poison (O11). -/

namespace Sys2Proof.Machine

theorem State.restricted_of_online {s : State} (h : s.dev = .online) : s.restricted = false := by
  unfold State.restricted
  rw [h]

theorem HostPort.poison_of_bare {h k : HostPort} (e : k.bare = h.bare) : k.poison = h.poison := (congrArg HostPort.poison e :)

theorem State.Noted.poison {s t : State} (h : s.Noted t) : t.port.poison = s.port.poison := HostPort.poison_of_bare h.bare

theorem State.Noted.poisoned {s t : State} (h : s.Noted t) (a : Nat) : t.poisoned a = s.poisoned a :=
  State.poisoned_of_bare h.bare a

theorem State.Noted.pageDirty {s t : State} (h : s.Noted t) (a : Nat) : t.pageDirty a = s.pageDirty a :=
  State.pageDirty_of_dirtyAlike (by rw [h.basin]; exact .refl _) a

theorem State.Noted.poisonAddr {s t : State} (h : s.Noted t) : t.poisonAddr = s.poisonAddr :=
  State.poisonAddr_of_addressing h.addressing

theorem State.Noted.persistent {s t : State} (h : s.Noted t) : t.persistent = s.persistent :=
  State.persistent_of_addressing h.addressing

/-! ### Inject Poison (R63) -/

/-- What Inject Poison does. -/
def State.inject (s : State) (ld dpa : Nat) : Ret × State :=
  if s.dev ≠ .online then (.mediaDisabled, s)
  else match s.poisonAddr ld dpa with
    | none => (.invalidPhysicalAddress, s)
    | some a => (.success, (s.touched a).poisonAt a .injected)

theorem State.inject_offline {s : State} (h : s.dev ≠ .online) (ld dpa : Nat) : s.inject ld dpa = (.mediaDisabled, s) := if_pos h

theorem State.inject_none {s : State} {ld dpa : Nat} (h : s.dev = .online) (k : s.poisonAddr ld dpa = none) :
    s.inject ld dpa = (.invalidPhysicalAddress, s) := by
  unfold State.inject
  rw [if_neg (not_not_intro h), k]

theorem State.inject_some {s : State} {ld dpa a : Nat} (h : s.dev = .online) (k : s.poisonAddr ld dpa = some a) :
    s.inject ld dpa = (.success, (s.touched a).poisonAt a .injected) := by
  unfold State.inject
  rw [if_neg (not_not_intro h), k]

/-- A journalled Inject Poison, by what it does to a state like the present one. -/
theorem injectPoison_runs {c : Cxl} (dpa : Nat) {s : State} (h : s.stdReaches c = true) (r : s.restricted = false) :
    Answers (.injectPoison c dpa) s fun t =>
      ∃ u, s.Noted u ∧ (u.inject c.ld dpa).2.Noted t ∧ .cxl 0x4301 (u.inject c.ld dpa).1.code [] ∈ t.out := by
  have run := State.stdFull_journal h r 0x4301 (digestOf [dpa]) fun s => s.inject c.ld dpa
  unfold State.inject State.touched at run
  refine ⟨_, rfl, ?_⟩
  unfold State.inject State.touched
  exact run

theorem injectPoison_poisons {c : Cxl} {dpa a : Nat} {s : State} (h : s.stdReaches c = true) (online : s.dev = .online)
    (served : s.poisonAddr c.ld dpa = some a) :
    Answers (.injectPoison c dpa) s fun t =>
      t.poisoned a = true ∧ (s.persistent a = true → t.pageDirty a = true) ∧ t.mem = s.mem ∧ .cxl 0x4301 0 [] ∈ t.out
        ∧ (∀ b, b / 64 ≠ a / 64 → t.poisoned b = s.poisoned b) := by
  refine (injectPoison_runs dpa h (State.restricted_of_online online)).imp fun t run => ?_
  obtain ⟨u, before, after, out⟩ := run
  rw [← before.dev] at online
  rw [← before.poisonAddr] at served
  rw [State.inject_some online served] at after out
  have wrote := (u.touched_wrote a).poisonAt .injected
  refine ⟨?_, fun persistent => ?_, ?_, out, fun b other => ?_⟩
  · rw [after.poisoned, State.poisonAt_poisoned, if_pos rfl]
  · rw [after.pageDirty]
    exact wrote.dirty (by rwa [before.persistent])
  · rw [after.mem, wrote.mem, before.mem]
  · rw [after.poisoned, State.poisonAt_poisoned, if_neg (Ne.symm other), State.poisoned_of_bare (u.touched_bare a), before.poisoned]

theorem injectPoison_disabled {c : Cxl} (dpa : Nat) {s : State} (h : s.stdReaches c = true) (r : s.restricted = false)
    (offline : s.dev ≠ .online) :
    Answers (.injectPoison c dpa) s fun t => t.port.poison = s.port.poison ∧ .cxl 0x4301 7 [] ∈ t.out := by
  refine (injectPoison_runs dpa h r).imp fun t run => ?_
  obtain ⟨u, before, after, out⟩ := run
  rw [← before.dev] at offline
  rw [State.inject_offline offline] at after out
  exact ⟨after.poison.trans before.poison, out⟩

theorem injectPoison_invalid {c : Cxl} {dpa : Nat} {s : State} (h : s.stdReaches c = true) (online : s.dev = .online)
    (none : s.poisonAddr c.ld dpa = none) :
    Answers (.injectPoison c dpa) s fun t =>
      t.port.poison = s.port.poison ∧ t.mem = s.mem ∧ .cxl 0x4301 0xF [] ∈ t.out := by
  refine (injectPoison_runs dpa h (State.restricted_of_online online)).imp fun t run => ?_
  obtain ⟨u, before, after, out⟩ := run
  rw [← before.dev] at online
  rw [← before.poisonAddr] at none
  rw [State.inject_none online none] at after out
  exact ⟨after.poison.trans before.poison, after.mem.trans before.mem, out⟩

/-! ### Clear Poison (R63) -/

/-- What Clear Poison does. -/
def State.clearLine (s : State) (ld dpa : Nat) (data : Line) : Ret × State := match s.poisonAddr ld dpa with
  | none => (.invalidPhysicalAddress, s)
  | some a => (.success, ((s.stored a (BitVec.allOnes 64) data).unpoison a).onBasin fun b => b.unqueue a)

theorem State.clearLine_none {s : State} {ld dpa : Nat} (k : s.poisonAddr ld dpa = none) (data : Line) :
    s.clearLine ld dpa data = (.invalidPhysicalAddress, s) := by
  unfold State.clearLine
  rw [k]

theorem State.clearLine_some {s : State} {ld dpa a : Nat} (k : s.poisonAddr ld dpa = some a) (data : Line) :
    s.clearLine ld dpa data
      = (.success, ((s.stored a (BitVec.allOnes 64) data).unpoison a).onBasin fun b => b.unqueue a) := by
  unfold State.clearLine
  rw [k]

/-- A journalled Clear Poison, by what it does to a state like the present one. -/
theorem clearPoison_runs {c : Cxl} (dpa : Nat) (data : Line) {s : State} (h : s.stdReaches c = true) (r : s.restricted = false) :
    Answers (.clearPoison c dpa data) s fun t =>
      ∃ u, s.Noted u ∧ (u.clearLine c.ld dpa data).2.Noted t ∧ .cxl 0x4302 (u.clearLine c.ld dpa data).1.code [] ∈ t.out := by
  have run := State.stdFull_journal h r 0x4302 (digestOf [dpa]) fun s => s.clearLine c.ld dpa data
  unfold State.clearLine State.stored State.touched State.withLine Basin.unqueue at run
  refine ⟨_, rfl, ?_⟩
  unfold State.clearLine State.stored State.touched State.withLine Basin.unqueue
  exact run

theorem clearPoison_clears {c : Cxl} {dpa a : Nat} (data : Line) {s : State} (h : s.stdReaches c = true)
    (r : s.restricted = false) (served : s.poisonAddr c.ld dpa = some a) :
    Answers (.clearPoison c dpa data) s fun t =>
      t.poisoned a = false ∧ readLine t.mem a = data ∧ (∀ b, b < a ∨ a + 64 ≤ b → readByte t.mem b = readByte s.mem b)
        ∧ (∀ b, b / 64 ≠ a / 64 → t.poisoned b = s.poisoned b) ∧ .cxl 0x4302 0 [] ∈ t.out := by
  refine (clearPoison_runs dpa data h r).imp fun t run => ?_
  obtain ⟨u, before, after, out⟩ := run
  rw [← before.poisonAddr] at served
  rw [State.clearLine_some served] at after out
  have wrote := ((u.stored_wrote a (BitVec.allOnes 64) data).unpoison).unqueue
  have unqueued (v : State) (b : Nat) : (v.onBasin fun x => x.unqueue a).poisoned b = v.poisoned b :=
    State.poisoned_of_poison (congrArg HostPort.poison (v.onBasin_same _ .port (by decide))) b
  have memory : t.mem = writeLine s.mem a (BitVec.allOnes 64) data := by rw [after.mem, wrote.mem, before.mem]
  refine ⟨?_, ?_, fun b outside => ?_, fun b other => ?_, out⟩
  · rw [after.poisoned, unqueued, State.unpoison_poisoned, if_pos rfl]
  · rw [memory]
    exact readLine_writeLine _ _ _
  · rw [memory]
    exact readByte_writeLine_out _ _ _ _ _ outside
  · rw [after.poisoned, unqueued, State.unpoison_poisoned, if_neg (Ne.symm other), State.poisoned_of_bare (u.stored_bare a _ data),
      before.poisoned]

theorem clearPoison_invalid {c : Cxl} {dpa : Nat} (data : Line) {s : State} (h : s.stdReaches c = true)
    (r : s.restricted = false) (none : s.poisonAddr c.ld dpa = none) :
    Answers (.clearPoison c dpa data) s fun t =>
      t.port.poison = s.port.poison ∧ t.mem = s.mem ∧ .cxl 0x4302 0xF [] ∈ t.out := by
  refine (clearPoison_runs dpa data h r).imp fun t run => ?_
  obtain ⟨u, before, after, out⟩ := run
  rw [← before.poisonAddr] at none
  rw [State.clearLine_none none] at after out
  exact ⟨after.poison.trans before.poison, after.mem.trans before.mem, out⟩

/-- Settles O11: the journal's work around either command keeps poison, memory and the dirty pages, and the body's store and
mark are those of a write. -/
theorem poison_commands : Obligations.Poison_commands := by
  unfold Obligations.Poison_commands
  exact ⟨fun c dpa s a h online served => injectPoison_poisons h online served,
    fun c dpa s h r offline => injectPoison_disabled dpa h r offline,
    fun c dpa data s a h r served => clearPoison_clears data h r served,
    fun c dpa data s h r none => clearPoison_invalid data h r none,
    fun c dpa s h online none => injectPoison_invalid h online none⟩

end Sys2Proof.Machine
end

section
/-! PROOFS. What the wheels' operations leave of the state: closes, erases, the placing and rewriting of stream V (O23). -/

namespace Sys2Proof.Machine

/-! ### What the wheels' operations leave (R147, R179, R280, R296) -/

theorem State.onSpill_same (s : State) (f : Spillway → Spillway) : s.SameBut (s.onSpill f) [.spill] := by
  intro p; cases p <;> simp [State.agree]

theorem State.onVault_same (s : State) (f : Vault → Vault) : s.SameBut (s.onVault f) [.spill] := s.onSpill_same _

theorem State.onSip_same (s : State) (f : Siphon → Siphon) : s.SameBut (s.onSip f) [.sip] := by
  intro p; cases p <;> simp [State.agree]

theorem State.onWhl_same (s : State) (f : Wheels → Wheels) : s.SameBut (s.onWhl f) [.whl] := by
  intro p; cases p <;> simp [State.agree]

theorem State.onRes_same (s : State) (f : Reservoir → Reservoir) : s.SameBut (s.onRes f) [.res] := by
  intro p; cases p <;> simp [State.agree]

theorem State.onRill_same (s : State) (f : Rill → Rill) : s.SameBut (s.onRill f) [.rill] := by
  intro p; cases p <;> simp [State.agree]

/-- What the wheels' table, their reports and the journal write. -/
def wheelParts : List Part := [.whl, .res, .regs, .freeCtr, .rec_, .fc, .port, .mir, .out, .nv]

theorem State.loseWheel_same (s : State) (n : Nat) : s.SameBut (s.loseWheel n) wheelParts := by
  unfold State.loseWheel
  dsimp only
  exact ((((s.onWhl_same _).widen.next (State.nvWrite_same _ _)).next (State.count_same _ _ _)).next
    (State.fault_same _ _ _ _ _ _)).next (.foldl _ (fun s g => s.raise_same _ _ _ _ _) _ _)

theorem State.judgeWheel_same (s : State) (n : Nat) : s.SameBut (s.judgeWheel n) wheelParts := by
  have judged (f : Wheel → Wheel) : s.SameBut { s with whl := s.whl.upd n f } wheelParts :=
    (s.onWhl_same fun x => x.upd n f).widen
  unfold State.judgeWheel
  split
  · exact .refl _ _
  · dsimp only
    exact .ite (.ite (s.loseWheel_same n) (.ite ((judged _).next (State.fault_same _ _ _ _ _ _)) (judged _))) (.refl _ _)

theorem State.journalPut_same (s : State) (m : Option Nat) (a b : Bool) : s.SameBut (s.journalPut m a b) [.whl, .res] := by
  unfold State.journalPut
  dsimp only
  have issued (f : Wheels → Wheels) : s.SameBut (s.onWhl f) [.whl, .res] := (s.onWhl_same f).widen
  have programmed (f : Wheels → Wheels) (g : Reservoir → Reservoir) :
      s.SameBut (if a = true then (s.onWhl f).onRes g else s.onWhl f) [.whl, .res] :=
    .ite ((issued f).next (State.onRes_same _ _)) (issued f)
  exact .ite ((programmed _ _).next (State.onRes_same _ _)) (programmed _ _)

theorem State.journalStrip_same (s : State) (a b : Bool) : s.SameBut (s.journalStrip a b) wheelParts := by
  have put : s.SameBut (s.journalPut none a b) wheelParts := (s.journalPut_same _ _ _).widen
  unfold State.journalStrip
  dsimp only
  exact .ite (s.fault_same _ _ _ _ _).widen (.ite put (put.next (State.fault_same _ _ _ _ _ _)))

/-- What the close of a wheel may change besides: what waits for it, and the Basin that it cleans. -/
def closeParts : List Part := wheelParts ++ [.rill, .spill, .sip, .basin, .weir]

theorem State.completeCapture_same (s : State) (c : Capture) : s.SameBut (s.completeCapture c) [.rill, .basin, .weir] := by
  unfold State.completeCapture
  dsimp only
  split
  · exact (s.onRill_same _).widen
  · exact (((s.onRill_same _).widen.next (State.onRill_same _ _)).next (State.onBasin_same _ _)).next (State.onWeir_same _ _)

theorem State.wheelDone_same (s : State) (n : Nat) : s.SameBut (s.wheelDone n) closeParts := by
  unfold State.wheelDone
  dsimp only
  have off : s.SameBut (((s.onRill fun x => { x with
      captures := x.captures.map fun c => { c with waits := c.waits.filter (· ≠ n) },
      relocs := x.relocs.map fun c => { c with waits := c.waits.filter (· ≠ n) } }).onSpill fun x => { x with
      runs := x.runs.map fun c => { c with waits := c.waits.filter (· ≠ n) } }).onSip fun x => { x with
      folds := x.folds.map fun c => (c.1, c.2.1, c.2.2.filter (· ≠ n)) }) closeParts :=
    ((s.onRill_same _).widen.next (State.onSpill_same _ _)).next (State.onSip_same _ _)
  exact .ite (off.next (State.onRill_same _ _)) (off.next (.foldl _ (fun s c => s.completeCapture_same c) _ _))

theorem State.closeWheel_same (s : State) (n : Nat) : s.SameBut (s.closeWheel n) closeParts := by
  unfold State.closeWheel
  split
  · exact .refl _ _
  · dsimp only
    have judged (f : Wheels → Wheels) : s.SameBut ((s.onWhl f).judgeWheel n) closeParts :=
      .next (s.onWhl_same f).widen (State.judgeWheel_same _ n)
    have journalled (f g : Wheels → Wheels) (a b : Bool) :
        s.SameBut ((((s.onWhl f).judgeWheel n).onWhl g).journalStrip a b) closeParts :=
      ((judged f).next (State.onWhl_same _ _)).next (State.journalStrip_same _ _ _)
    exact .ite (.refl _ _) (.next (.ite (judged _) (journalled _ _ _ _)) (State.wheelDone_same _ n))

theorem State.fillWheel_same (s : State) (n : Nat) : s.SameBut (s.fillWheel n) [.whl] := s.onWhl_same _

theorem State.unopen_same (s : State) (n : Nat) : s.SameBut (s.unopen n) [.res, .whl] := by
  unfold State.unopen
  split
  · exact .refl _ _
  · dsimp only
    refine .ite ?_ ?_
    all_goals (intro p; cases p <;> simp [State.agree])


/-! ### What taking runs back and handing wheels over leaves (R179) -/

theorem State.undoRun_same (s : State) (r : SpecRun) : s.SameBut (s.undoRun r) [.rill, .basin, .weir] := by
  unfold State.undoRun
  dsimp only
  have abandoned (f : Basin → Basin) : s.SameBut (s.onBasin f) [.rill, .basin, .weir] := (s.onBasin_same f).widen
  split
  · split
    · exact ((s.onRill_same _).widen.next (State.onBasin_same _ _)).next (State.onWeir_same _ _)
    · exact abandoned _
  · exact abandoned _

theorem State.eraseDone_same (s : State) (base : Nat) : s.SameBut (s.eraseDone base) [.whl, .rill] := by
  unfold State.eraseDone
  repeat' split
  all_goals (intro p; cases p <;> simp [State.agree])

theorem State.eraseBand_same (s : State) (base : Nat) : s.SameBut (s.eraseBand base) [.res, .whl, .regs, .freeCtr, .rill] := by
  unfold State.eraseBand
  split
  · exact .refl _ _
  · refine .ite (.refl _ _) ?_
    dsimp only
    have issued (r : Reservoir) (w : Wheels) : s.SameBut { s with res := r, whl := w } [.res, .whl, .regs, .freeCtr, .rill] := by
      intro p; cases p <;> simp [State.agree]
    exact .next (.ite (issued _ _) ((issued _ _).next (State.addReg_same _ _ _))) (State.eraseDone_same _ base)

/-- What the hand-over of stream V's wheels to the Rill may change. -/
def handOverParts : List Part := wheelParts ++ [.rill]

theorem State.handOver_same (s : State) (unused : Region) : s.SameBut (s.handOver unused) handOverParts := by
  have noted (f : Wheels → Wheels) : s.SameBut (s.onWhl f) handOverParts := (s.onWhl_same f).widen
  unfold State.handOver
  dsimp only
  refine .next (.next ((SameBut.ite (noted _) ((noted _).next (State.journalStrip_same _ _ _))).next (State.onWhl_same _ _))
    (State.SameBut.foldl (l := handOverParts) _ (fun u p => ?_) _ _)) (State.onWhl_same _ _)
  refine .ite (u.eraseBand_same _).widen ?_
  intro q hq; revert hq; cases q <;> simp [State.agree, handOverParts, wheelParts]

/-! ### Placing units of stream V leaves the Spillway's state (R143, R189, R272, R274) -/

/-- What a fold of steps that may fail leaves, when none fails. -/
theorem foldl_bind_same {α : Type} {l : List Part} {f : State → α → Option State}
    (k : ∀ s a t, f s a = some t → s.SameBut t l) : ∀ (as : List α) (s t : State),
    as.foldl (fun o a => o.bind fun s => f s a) (some s) = some t → s.SameBut t l := by
  have stuck : ∀ as : List α, as.foldl (fun o a => o.bind fun s => f s a) none = none := fun as => by
    induction as with
    | nil => rfl
    | cons a as ih => exact ih
  intro as
  induction as with
  | nil => rintro s t ⟨⟩; exact .refl _ _
  | cons a as ih =>
    intro s t h
    rw [List.foldl_cons, Option.bind_some] at h
    cases e : f s a with
    | none => rw [e, stuck] at h; cases h
    | some u => rw [e] at h; exact (k s a u e).trans (ih u t h)

theorem foldl_fst_same {α β : Type} {l : List Part} {f : State × β → α → State × β}
    (k : ∀ (p : State × β) (a : α), p.1.SameBut (f p a).1 l) :
    ∀ (as : List α) (p : State × β), p.1.SameBut (as.foldl f p).1 l
  | [], _ => .refl _ _
  | a :: as, p => (k p a).trans (foldl_fst_same k as (f p a))

theorem State.setWhl_same (s : State) (w : Wheels) : s.SameBut { s with whl := w } [.whl] := s.onWhl_same fun _ => w

theorem State.layBand_same {s t : State} {st : Stream} {rg : Region} {slc : Bool} {lane n set : Nat}
    (h : s.layBand st rg slc lane n set = some t) : s.SameBut t wheelParts := by
  unfold State.layBand at h
  obtain ⟨base, -, h⟩ := Option.bind_eq_some_iff.mp h
  obtain ⟨sp, -, rfl⟩ := Option.map_eq_some_iff.mp h
  intro p hp; revert hp; cases p <;> simp [State.agree, wheelParts]

theorem State.openSet_same {s t : State} (h : s.openSet = some t) : s.SameBut t wheelParts := by
  unfold State.openSet at h
  split at h
  · cases h
  · rename_i n _ _
    exact (s.onWhl_same fun x => { x with
        sets := x.sets.map fun p => if p.1 == n then (n, true) else p, setNow := some n
        v := { x.v with lanes := [], turn := 0 } }).widen.trans
      (foldl_bind_same (fun _ _ _ laid => State.layBand_same laid) _ _ _ h)

theorem State.takeBand_same {s t : State} {lane : Nat} (h : s.takeBand .v lane = some t) : s.SameBut t wheelParts := by
  unfold State.takeBand at h
  obtain ⟨u, opened, h⟩ := Option.bind_eq_some_iff.mp h
  obtain ⟨b, -, rfl⟩ := Option.map_eq_some_iff.mp h
  have before : s.SameBut u wheelParts := by
    dsimp only at opened
    split at opened
    · exact State.openSet_same opened
    · cases opened; exact .refl _ _
  exact before.next (State.onWhl_same _ _)

theorem State.substV_same (s : State) (b : Band) : s.SameBut (s.substV b).1 wheelParts := by
  unfold State.substV
  refine foldl_fst_same (fun p c => ?_) _ (s, b)
  obtain ⟨u, b⟩ := p
  have planned (r : Reservoir) (w : Wheels) : u.SameBut { u with res := r, whl := w } wheelParts := by
    intro p hp; revert hp; cases p <;> simp [State.agree, wheelParts]
  dsimp only
  repeat' split
  · exact (planned _ _).next (State.nvWrite_same _ _)
  all_goals exact .refl _ _

/-- A band stands ready, or the stream takes its next. -/
theorem State.ready_same {c : Prop} [Decidable c] {s t : State} {lane : Nat}
    (h : (if c then some s else s.takeBand .v lane) = some t) : s.SameBut t wheelParts := by
  split at h
  · cases h; exact .refl _ _
  · exact State.takeBand_same h

theorem State.openWheel_same {s t : State} {n : Nat} (h : s.openWheel .v = some (n, t)) : s.SameBut t wheelParts := by
  unfold State.openWheel at h
  dsimp only at h
  split at h
  · cases h
  · obtain ⟨u, taken, h⟩ := Option.bind_eq_some_iff.mp h
    have before := State.ready_same taken
    split at h
    · cases h
    · rename_i b _
      have opened (r : Reservoir) (w : Wheels) (v : State) : v.SameBut { v with whl := w, res := r } wheelParts := by
        intro p hp; revert hp; cases p <;> simp [State.agree, wheelParts]
      rw [if_pos rfl] at h
      cases h
      exact (before.trans (u.substV_same b)).trans (opened _ _ _)

theorem State.placeFuel_same (f : Nat) : ∀ {s t : State} {n : Nat} {acc l : List (Nat × Nat × Nat)},
    s.placeFuel .v f n acc = some (l, t) → s.SameBut t wheelParts := by
  induction f with
  | zero =>
    intro s t n acc l h
    cases n with
    | zero => cases h; exact .refl _ _
    | succ n => cases h
  | succ f ih =>
    intro s t n acc l h
    cases n with
    | zero => cases h; exact .refl _ _
    | succ n =>
      rw [State.placeFuel] at h
      case x_3 => exact Nat.succ_ne_zero n
      split at h
      · exact (s.setWhl_same _).widen.trans (ih h)
      · split at h
        · rename_i opened
          exact (State.openWheel_same opened).trans (ih h)
        · cases h

theorem State.place_same {s t : State} {n : Nat} {l : List (Nat × Nat × Nat)} (h : s.place .v n = some (l, t)) :
    s.SameBut t wheelParts := by
  unfold State.place at h
  obtain ⟨⟨k, u⟩, placed, e⟩ := Option.map_eq_some_iff.mp h
  have same := State.placeFuel_same _ placed
  dsimp only at e
  rw [if_neg (by simp)] at e
  cases e
  exact same

/-! ### Slow targets, and wheels written again (R189, R190) -/

theorem State.queueTrue_same (s : State) (hit : Spoke → Bool) (slow : Bool) (r : Nat) :
    s.SameBut (s.queueTrue hit slow r) [.whl, .cmd] := by
  unfold State.queueTrue
  dsimp only
  exact .ite (.refl _ _) (.next (s.onWhl_same _).widen (State.onCmd_same _ _))

theorem State.judgeWheels_same (s : State) : s.SameBut s.judgeWheels wheelParts :=
  .foldl _ (fun s n => s.judgeWheel_same n) _ _

theorem State.setSlow_spill (s : State) (p : Nat) : (s.setSlow p true).spill = s.spill := by
  have slow (w : Wheels) (hit : Spoke → Bool) (n : Nat) :
      s.SameBut (((({ s with whl := w } : State).queueTrue hit true 1).judgeWheels).raise n) (.cmd :: wheelParts) :=
    .next (.next (.next (s.setWhl_same w).widen (State.queueTrue_same _ _ _ _)) (State.judgeWheels_same _))
      (State.raise_same _ _ _ _ _ _)
  unfold State.setSlow
  rw [if_pos rfl]
  split
  · rfl
  · exact slow _ _ _ .spill (by decide)

/-- What a fold over a counter and a state leaves of the list of dropped targets. -/
theorem foldl_snd_dropped {α β : Type} {f : β × State → α → β × State}
    (k : ∀ (q : β × State) (a : α), (f q a).2.spill.dropped = q.2.spill.dropped) :
    ∀ (as : List α) (q : β × State), (as.foldl f q).2.spill.dropped = q.2.spill.dropped
  | [], _ => rfl
  | a :: as, q => (foldl_snd_dropped k as (f q a)).trans (k q a)

/-- A wheel written again drops no target and takes none back: its units' new places are the wheels' alone. -/
theorem State.rewriteWheel_dropped (s : State) (n : Nat) : (s.rewriteWheel n).spill.dropped = s.spill.dropped := by
  unfold State.rewriteWheel
  rw [State.fault_spill]
  refine foldl_snd_dropped (fun q u => ?_) s.rill.runs (0, s)
  obtain ⟨i, t⟩ := q
  dsimp only
  split
  · split
    · rename_i new v placed
      have spill : v.spill = t.spill := by
        split at placed
        · cases placed
        · exact State.place_same placed .spill (by decide)
      exact (congrArg Spillway.dropped spill :)
    · rfl
  · rfl

theorem State.rewriteDue_dropped (s : State) : s.rewriteDue.spill.dropped = s.spill.dropped := by
  have all : ∀ (l : List Nat) (u : State), (l.foldl (fun s n => s.rewriteWheel n) u).spill.dropped = u.spill.dropped := by
    intro l
    induction l with
    | nil => exact fun _ => rfl
    | cons n l ih =>
      intro u
      rw [List.foldl_cons, ih, State.rewriteWheel_dropped]
  unfold State.rewriteDue
  exact all _ s

theorem State.vErasure_dropped (s : State) (n c : Nat) : (s.vErasure n c).spill.dropped = s.spill.dropped :=
  State.rewriteDue_dropped _

end Sys2Proof.Machine
end

section
/-! PROOFS. Speculation, undo, seal and drain (O23). -/

namespace Sys2Proof.Machine

/-! ### Speculative captures (R176) -/

theorem State.readErrs_none (s : State) (g : Nat) (c : BitVec 512) : s.readErrs g c [] = s := rfl

theorem speculativeCapture_answers {s s2 : State} {seg : Nat} {e : DstEntry} {slots : List (Nat × Nat × Nat)} {b : Basin} {u : Run}
    (h : s.speculates = true) (room : s.spill.bytes < s.reg Reg.PRESPILL_MAX * MiB) (next : s.begin.specNext = some (seg, e, slots))
    (captured : s.basin.capture seg e.d true = some b)
    (run : State.vRun { s.begin with basin := b } seg e.d = some (u, s2)) :
    Answers (.speculativeCapture []) s fun t =>
      t.spill.bytes = s2.spill.bytes + 4096 * pages e.d
        ∧ t.spill.runs = s2.spill.runs ++ [{ seg := seg, seq := u.seq, pages := e.d, waits := spanWheels u.spans,
                                             slots := slots, kind := u.kind }]
        ∧ s2.SameBut t [.spill] := by
  have speculates : s.begin.speculates = true := h
  have ready : ¬((!s.begin.speculates) = true ∨ s.begin.reg Reg.PRESPILL_MAX * MiB ≤ s.begin.spill.bytes) := by
    rw [speculates]
    rintro (c | c)
    · exact absurd c (by decide)
    · exact absurd room (Nat.not_lt.mpr c)
  have capture : s.begin.basin.capture seg e.d true = some b := captured
  refine ⟨_, rfl, ?_⟩
  unfold State.speculate
  rw [if_neg ready, next]
  dsimp only
  rw [capture]
  dsimp only
  rw [State.readErrs_none, run]
  exact ⟨rfl, rfl, s2.onSpill_same _⟩

/-! ### The undo (R179) -/

/-- The pre-spill's runs taken back: none is left, and its wheels are the Rill's. -/
def State.takeBack (s : State) : State :=
  (s.spill.runs.foldl (fun s r => s.undoRun r) (s.onSpill fun x => { x with runs := [] })).handOver

theorem State.takeBack_spill (s : State) : s.takeBack.spill = { s.spill with runs := [] } := by
  have undone : ∀ u : State, (s.spill.runs.foldl (fun s r => s.undoRun r) u).spill = u.spill := fun u =>
    State.SameBut.foldl _ (fun s r => s.undoRun_same r) _ u .spill (by decide)
  exact (State.handOver_same _ _ .spill (by decide)).trans (undone _)

theorem State.takeBack_same (s : State) : s.SameBut s.takeBack closeParts :=
  .next (.next (s.onSpill_same _).widen (.foldl _ (fun s r => s.undoRun_same r) _ _)) (State.handOver_same _ _)

/-- Stream V's wheels filled and closed, those never written in damped operation first taken out. -/
def State.closeOpen (s : State) : State :=
  let empty := (s.whl.openWheels .v).filter fun n => (s.whl.wheel n).any fun w => w.filled == 0
  let s := if s.reg Reg.DAMPED = 1 then empty.foldl (fun s n => s.unopen n) s else s
  (s.whl.openWheels .v).foldl (fun s n => (s.fillWheel n).closeWheel n) s

theorem State.closeOpen_same (s : State) : s.SameBut s.closeOpen closeParts := by
  have closed (u : State) (n : Nat) : u.SameBut ((u.fillWheel n).closeWheel n) closeParts :=
    .next (u.fillWheel_same n).widen (State.closeWheel_same _ n)
  have unopened (l : List Nat) : s.SameBut (l.foldl (fun s n => s.unopen n) s) closeParts :=
    .foldl _ (fun s n => (s.unopen_same n).widen) _ _
  unfold State.closeOpen
  dsimp only
  exact .next (.ite (unopened _) (.refl _ _)) (.foldl _ closed _ _)

theorem State.undo_eq {s : State} (h : s.spill.state = .undoing) :
    s.undo = s.closeOpen.takeBack.onSpill fun x => { x with state := .armed, rewrote := false } := by
  unfold State.undo State.closeOpen State.takeBack
  rw [if_neg (not_not_intro h)]

theorem undoComplete_answers {s : State} (h : s.spill.state = .undoing) : Answers .undoComplete s fun t =>
    t.spill.state = .armed ∧ t.spill.runs = [] ∧ t.mem = s.mem ∧ t.dev = s.dev := by
  have same : s.begin.SameBut (s.begin.closeOpen.takeBack.onSpill fun x => { x with state := .armed, rewrote := false })
      closeParts := .next (s.begin.closeOpen_same.trans (State.takeBack_same _)) (State.onSpill_same _ _)
  refine ⟨_, rfl, ?_⟩
  rw [State.undo_eq (s := s.begin) h]
  refine ⟨rfl, ?_, same .mem (by decide), same .dev (by decide)⟩
  rw [State.onSpill_spill, State.takeBack_spill]

/-! ### The seal (R185, R211, R212) -/

theorem State.chooseHold_same (s : State) (m : Manifest) : s.SameBut (s.chooseHold m) [.freeCtr, .basin, .sip, .spill] := by
  intro p; cases p <;> simp [State.agree, State.chooseHold]

/-- What the choice of a hold leaves of the vault's manifest. -/
theorem State.chooseHold_spill (s : State) (m : Manifest) :
    (s.chooseHold m).spill.state = s.spill.state
      ∧ (s.chooseHold m).spill.vault.map (·.man.dirtyAtSeal) = s.spill.vault.map (·.man.dirtyAtSeal) := by
  refine ⟨rfl, ?_⟩
  change (s.spill.vault.map _).map _ = _
  rw [Option.map_map]
  rfl

theorem State.chooseHold_port (s : State) (m : Manifest) : (s.chooseHold m).port = s.port := s.chooseHold_same m .port (by decide)

theorem State.chooseHold_basin (s : State) (m : Manifest) : (s.chooseHold m).basin.frozen = s.basin.frozen
    ∧ (s.chooseHold m).basin.state = s.basin.state ∧ (s.chooseHold m).basin.dst = s.basin.dst := ⟨rfl, rfl, rfl⟩

/-- The port, the DST and the drain's begin as the seal leaves them. -/
structure State.Sealed (s t : State) (dirty : Nat) : Prop where
  state : t.spill.state = .draining
  port : t.port.sealed = true
  window : t.port.windowOpen = false
  frozen : t.basin.frozen = true
  basin : t.basin.state = .frozen
  dst : t.basin.dst = s.basin.dst
  dirtyAtSeal : t.spill.vault.map (·.man.dirtyAtSeal) = some dirty
  same : s.SameBut t [.out, .spill, .port, .basin, .sip, .freeCtr]

theorem State.Sealed.chooseHold {s t : State} {n : Nat} (h : s.Sealed t n) (m : Manifest) : s.Sealed (t.chooseHold m) n := by
  have port := t.chooseHold_port m
  obtain ⟨frozen, state, dst⟩ := t.chooseHold_basin m
  obtain ⟨stays, dirty⟩ := t.chooseHold_spill m
  exact ⟨stays.trans h.state, by rw [port, h.port], by rw [port, h.window], frozen.trans h.frozen, state.trans h.basin,
    dst.trans h.dst, dirty.trans h.dirtyAtSeal, h.same.next (t.chooseHold_same m)⟩

/-- The Basin frozen. -/
def Basin.freeze (b : Basin) : Basin := { b with frozen := true }

/-- The seal of the port, the freeze and the drain's begin, with `g` the vault's own figures. -/
def State.sealing (s : State) (g : Vault → Vault) : State :=
  ((((s.onPort fun x => { x with windowOpen := false, sealed := true }).onBasin Basin.freeze).onSpill
    fun x => { x with state := .draining }).onVault g).onBasin fun b => { b with state := .frozen }

theorem State.sealing_sealed {s u : State} {v : Vault} {n : Nat} (media : s.SameBut u [.out, .port]) (h : s.spill.vault = some v)
    (g : Vault → Vault) (dirty : (g v).man.dirtyAtSeal = n) : s.Sealed (u.sealing g) n := by
  have basin : u.basin = s.basin := media .basin (by decide)
  have spill : u.spill = s.spill := media .spill (by decide)
  refine ⟨rfl, rfl, rfl, rfl, rfl, (show (u.sealing g).basin.dst = u.basin.dst from rfl).trans (by rw [basin]), ?_, ?_⟩
  · change (u.spill.vault.map g).map _ = _
    rw [spill, h]
    exact congrArg some dirty
  · exact ((((media.widen.next (State.onPort_same _ _)).next (State.onBasin_same _ _)).next (State.onSpill_same _ _)).next
      (State.onVault_same _ _)).next (State.onBasin_same _ _)

theorem State.seal_sealed {s : State} {v : Vault} (h : s.spill.vault = some v) (w : s.spill.state = .window)
    (p : v.man.powerReturned = false) (tf : Int) : s.Sealed (s.seal tf) (ceilDiv s.basin.dirtyBytes MiB) := by
  have media := (s.setMedia_same { s.port with media := .notReady, memActive := true }).sub (m := [.out, .port]) (by decide)
  have counted (b : Basin) (dst : b.dst = s.basin.dst) (overflow : b.overflow = s.basin.overflow) :
      ceilDiv b.dirtyBytes MiB = ceilDiv s.basin.dirtyBytes MiB := by
    unfold Basin.dirtyBytes
    rw [dst, overflow]
  unfold State.seal
  rw [h]
  dsimp only
  rw [if_neg (not_not_intro w), p]
  generalize s.setMedia { s.port with media := .notReady, memActive := true } = u at media ⊢
  have basin : u.basin = s.basin := media .basin (by decide)
  have dirty := counted (u.basin.freeze) (by rw [← basin]; rfl) (by rw [← basin]; rfl)
  split
  · exact (State.sealing_sealed media h _ dirty).chooseHold _
  · exact State.sealing_sealed media h _ dirty

theorem State.Sealed.of_begin {s t : State} {n : Nat} (h : s.begin.Sealed t n) : s.Sealed t n :=
  ⟨h.state, h.port, h.window, h.frozen, h.basin, h.dst, h.dirtyAtSeal, (s.begin_same.widen).trans h.same⟩

theorem gpfWindowEnd_answers {s : State} {v : Vault} (tf : Int) (h : s.spill.vault = some v) (w : s.spill.state = .window)
    (p : v.man.powerReturned = false) : Answers (.gpfWindowEnd tf) s fun t =>
      t.spill.state = .draining ∧ t.port.sealed = true ∧ t.port.windowOpen = false ∧ t.basin.frozen = true
        ∧ t.basin.state = .frozen ∧ t.basin.dst = s.basin.dst
        ∧ t.spill.vault.map (·.man.dirtyAtSeal) = some (ceilDiv s.basin.dirtyBytes MiB)
        ∧ s.SameBut t [.out, .spill, .port, .basin, .sip, .freeCtr] := by
  have done : s.Sealed (s.begin.seal tf) (ceilDiv s.basin.dirtyBytes MiB) := (State.seal_sealed (s := s.begin) h w p tf).of_begin
  exact ⟨_, rfl, done.state, done.port, done.window, done.frozen, done.basin, done.dst, done.dirtyAtSeal, done.same⟩

/-! ### The drain's end (R193, R196) -/

theorem State.portsMoved_same (s : State) : s.SameBut s.portsMoved [.spill] := s.onVault_same _

theorem State.drainEnd_same (s : State) : s.SameBut s.drainEnd [.spill] :=
  (s.portsMoved_same.trans (State.onSpill_same _ _)).trans (State.onVault_same _ _)

theorem State.drainEnd_state (s : State) : s.drainEnd.spill.state = .closing := rfl

theorem State.drainEnd_step (s : State) : s.drainEnd.spill.vault.map (·.step) = s.spill.vault.map fun _ => .metadata := by
  unfold State.drainEnd State.portsMoved State.onVault
  cases h : s.spill.vault <;> simp [h]

theorem State.drainEnd_closeout (s : State) :
    s.drainEnd.spill.vault.map (·.man.closeout) = s.spill.vault.map (·.man.closeout) := by
  unfold State.drainEnd State.portsMoved State.onVault
  cases h : s.spill.vault with
  | none => simp [h]
  | some v =>
    simp only [State.onSpill_spill, h, Option.map_some]
    split <;> rfl

/-! ### A set switched off, and the hold made void (R99, R194, R213) -/

theorem State.onSeq_same (s : State) (f : Seq → Seq) : s.SameBut (s.onSeq f) [.seq] := by
  intro p; cases p <;> simp [State.agree]

theorem State.setMem_same (s : State) (m : List Host.Cell) : s.SameBut { s with mem := m } [.mem] := by
  intro p; cases p <;> simp [State.agree]

theorem State.stopSlots_same (s : State) (l : List Nat) : s.SameBut (s.stopSlots l) [.seq, .port] := by
  unfold State.stopSlots
  dsimp only
  exact .ite ((s.onSeq_same _).widen.next (State.onPort_same _ _)) (s.onSeq_same _).widen

theorem State.dropEn_same (s : State) (l : List Nat) : s.SameBut (s.dropEn l) [.seq, .port] :=
  (s.stopSlots_same l).next (State.onSeq_same _ _)

/-- The state in which the rails of a slot set have fallen, its memory still listed. -/
def State.railsOff (s : State) (k : Nat) : State :=
  (s.dropEn (slotSet k)).onBasin fun b => if k = 0 then { b with slot0 := .leave } else { b with slot1 := .leave }

theorem State.railsOff_same (s : State) (k : Nat) : s.SameBut (s.railsOff k) [.seq, .port, .basin] :=
  (s.dropEn_same _).widen.next (State.onBasin_same _ _)

/-- Memory without what a slot set holds. -/
def State.forget (s : State) (k : Nat) : State := { s with mem := s.mem.filter fun c => s.basin.setOf (segOf c.1) != k }

theorem State.forget_same (s : State) (k : Nat) : s.SameBut (s.forget k) [.mem] := s.setMem_same _

theorem State.setOff_eq (s : State) (k : Nat) : s.setOff k = (s.railsOff k).forget k := by
  unfold State.setOff State.railsOff State.forget
  rfl

theorem State.setOff_same (s : State) (k : Nat) : s.SameBut (s.setOff k) [.seq, .port, .basin, .mem] := by
  have rails : s.SameBut (s.railsOff k) [.seq, .port, .basin, .mem] := (s.railsOff_same k).widen
  have gone : (s.railsOff k).SameBut ((s.railsOff k).forget k) [.seq, .port, .basin, .mem] :=
    ((s.railsOff k).forget_same k).widen
  exact (s.setOff_eq k).symm ▸ rails.trans gone

theorem Basin.setOf_eq (b : Basin) : b.setOf = fun g => (b.map (g * 2 ^ 21)).2.1 := rfl

/-- The slot set of a segment is read from the modules that the address map is built on. -/
theorem Basin.setOf_of_modules {b c : Basin} (found : c.found = b.found) (spare : c.spare = b.spare) :
    c.setOf = b.setOf := by
  have inSlot : c.inSlot = b.inSlot := by funext i; unfold Basin.inSlot; rw [found]
  have channels : c.channels = b.channels := by unfold Basin.channels; rw [inSlot]
  have top : c.topSet = b.topSet := by unfold Basin.topSet; rw [inSlot]
  have bytes : c.moduleBytes = b.moduleBytes := by funext i; unfold Basin.moduleBytes; rw [inSlot, spare, top]
  have reserve : c.reserve = b.reserve := by unfold Basin.reserve Basin.installed; rw [channels, bytes]
  have whole : c.wholeBlocks = b.wholeBlocks := by funext i; unfold Basin.wholeBlocks; rw [bytes, top, reserve, channels]
  have block : c.block = b.block := by funext n; unfold Basin.block; rw [whole, top]
  have map : c.map = b.map := by funext a; unfold Basin.map; rw [channels, block]
  rw [Basin.setOf_eq, Basin.setOf_eq, map]

theorem State.railsOff_setOf (s : State) (k : Nat) : (s.railsOff k).basin.setOf = s.basin.setOf := by
  have basin : (s.dropEn (slotSet k)).basin = s.basin := s.dropEn_same _ .basin (by decide)
  unfold State.railsOff
  rw [← basin]
  refine Basin.setOf_of_modules ?_ ?_ <;> (rw [State.onBasin_basin]; split <;> rfl)

/-- What a set held is gone from memory when it is switched off. -/
theorem State.setOff_mem (s : State) (k : Nat) :
    (s.setOff k).mem = s.mem.filter fun c => s.basin.setOf (segOf c.1) != k := by
  have kept : (s.railsOff k).mem = s.mem := s.railsOff_same k .mem (by decide)
  have sets := s.railsOff_setOf k
  rw [s.setOff_eq]
  unfold State.forget
  simp only [kept, sets]

/-- A hold made void keeps the Spillway's state, and its vault but for the manifest's figures of the hold. -/
theorem State.voidHold_spill (s : State) : s.voidHold.spill.state = s.spill.state
    ∧ s.voidHold.spill.vault.isSome = s.spill.vault.isSome := by
  have off (u : State) (k : Nat) : (u.setOff k).spill = u.spill := u.setOff_same k .spill (by decide)
  unfold State.voidHold
  dsimp only
  split
  · exact ⟨rfl, rfl⟩
  · repeat' split
    all_goals simp [off]

theorem State.voidHold_fc (s : State) : s.voidHold.fc = s.fc := by
  have off (u : State) (k : Nat) : (u.setOff k).fc = u.fc := u.setOff_same k .fc (by decide)
  unfold State.voidHold
  dsimp only
  repeat' split
  all_goals simp [off]

/-! ### Close-out (R193) -/

/-- The drain cut short, before its end. -/
def State.cutDrain (s : State) : State :=
  (s.voidHold.onVault fun v => { v with man := { v.man with closeout := true } }).fault Src.SPILLWAY .degraded

theorem State.closeOut_eq {s : State} (h : s.spill.state = .draining) : s.closeOut = s.cutDrain.drainEnd :=
  if_neg (not_not_intro h)

theorem State.closeOut_state {s : State} (h : s.spill.state = .draining) : s.closeOut.spill.state = .closing := by
  rw [State.closeOut_eq h]
  exact State.drainEnd_state _

/-- Close-out leaves the vault in its metadata step, marked as cut short. -/
theorem State.closeOut_vault {s : State} {v : Vault} (h : s.spill.state = .draining) (k : s.spill.vault = some v) :
    s.closeOut.spill.vault.map (·.step) = some .metadata ∧ s.closeOut.spill.vault.map (·.man.closeout) = some true := by
  obtain ⟨w, held⟩ : ∃ w, s.voidHold.spill.vault = some w := by
    rw [← Option.isSome_iff_exists, s.voidHold_spill.2, k]
    rfl
  have cut : s.cutDrain.spill.vault = some { w with man := { w.man with closeout := true } } := by
    unfold State.cutDrain State.onVault
    rw [State.fault_spill, State.onSpill_spill, held]
    rfl
  rw [State.closeOut_eq h, State.drainEnd_step, State.drainEnd_closeout, cut]
  exact ⟨rfl, rfl⟩

/-! ### The runs of the drain (R186, R192) -/

theorem State.entryErr_none (s : State) (g : Nat) : s.entryErr g .none = s := ite_self _

/-- What a segment still has to drain is not empty. -/
theorem State.toDrain_ne_zero {s : State} {v : Vault} {k h seg : Nat} {need : BitVec 512} {ovf : Bool}
    (listed : (k, h, seg, need, ovf) ∈ s.toDrain v) : need ≠ 0 := by
  have kept := (List.mem_filter.mp listed).2
  exact of_decide_eq_true kept

/-- The state after a run of the drain: the entry spilling, the manifest's figures with the run. -/
def State.drained (s : State) (seg : Nat) (u : Run) (pgs : BitVec 512) (ovf : Bool) : State :=
  (s.onBasin fun b => match b.entry seg with
    | some e => { b with dst := mput seg { e with state := .spilling } b.dst }
    | none => b).onVault fun v => { v with man := { v.man with
      unitsDrained := v.man.unitsDrained + pages pgs
      index := v.man.index ++ [{ seg := seg, seq := u.seq, mask := pgs, whole := decide (u.kind = .vault),
                                 spec := false, overflow := ovf, poison := !u.poison.isEmpty }] } }

theorem State.drainRun_run {s s2 : State} {v : Vault} {x : Nat × Nat × Nat × BitVec 512 × Bool}
    {rest : List (Nat × Nat × Nat × BitVec 512 × Bool)} {k h seg : Nat} {need : BitVec 512} {ovf : Bool} {u : Run}
    (vault : s.spill.vault = some v) (state : s.spill.state = .draining) (early : s.closeoutDue = false)
    (order : sortBy drainBefore (s.toDrain v) = x :: rest)
    (found : (s.toDrain v).find? (fun y => y.2.2.1 == x.2.2.1) = some (k, h, seg, need, ovf))
    (run : s.vRun seg need = some (u, s2)) : s.drainRun none .none [] = s2.drained seg u need ovf := by
  have mine : seg = x.2.2.1 := by simpa using List.find?_some found
  have left : need ≠ 0 := State.toDrain_ne_zero (List.mem_of_find?_eq_some found)
  subst mine
  unfold State.drainRun
  rw [vault]
  dsimp only
  rw [if_neg (not_not_intro state), early, order]
  dsimp only [List.head?_cons]
  rw [if_neg (by decide), State.entryErr_none, early, found]
  dsimp only
  rw [if_neg Bool.false_ne_true, State.readErrs_none, if_neg left, run]
  rfl

theorem State.drained_same (s : State) (seg : Nat) (u : Run) (pgs : BitVec 512) (ovf : Bool) :
    s.SameBut (s.drained seg u pgs ovf) [.basin, .spill] :=
  (s.onBasin_same _).widen.next (State.onVault_same _ _)

theorem State.drained_vault {s : State} {v : Vault} (h : s.spill.vault = some v) (seg : Nat) (u : Run) (pgs : BitVec 512)
    (ovf : Bool) : (s.drained seg u pgs ovf).spill.vault.map (·.man.unitsDrained) = some (v.man.unitsDrained + pages pgs)
      ∧ (s.drained seg u pgs ovf).spill.vault.map (·.man.index.map (·.seg)) = some (v.man.index.map (·.seg) ++ [seg]) := by
  unfold State.drained State.onVault
  rw [State.onSpill_spill, State.onBasin_spill, h]
  exact ⟨rfl, congrArg some List.map_append⟩

theorem drainRun_answers {s s2 : State} {v : Vault} {x : Nat × Nat × Nat × BitVec 512 × Bool}
    {rest : List (Nat × Nat × Nat × BitVec 512 × Bool)} {k h seg : Nat} {need : BitVec 512} {ovf : Bool} {u : Run}
    (vault : s.spill.vault = some v) (state : s.spill.state = .draining) (early : s.closeoutDue = false)
    (order : sortBy drainBefore (s.begin.toDrain v) = x :: rest)
    (found : (s.begin.toDrain v).find? (fun y => y.2.2.1 == x.2.2.1) = some (k, h, seg, need, ovf))
    (run : s.begin.vRun seg need = some (u, s2)) (kept : s2.spill.vault = some v) :
    Answers (.drainRun none .none []) s fun t =>
      t.spill.state = s2.spill.state
        ∧ t.spill.vault.map (·.man.unitsDrained) = some (v.man.unitsDrained + pages need)
        ∧ t.spill.vault.map (·.man.index.map (·.seg)) = some (v.man.index.map (·.seg) ++ [seg])
        ∧ s2.SameBut t [.basin, .spill] := by
  obtain ⟨units, index⟩ := State.drained_vault kept seg u need ovf
  refine ⟨_, rfl, ?_⟩
  rw [State.drainRun_run (s := s.begin) vault state early order found run]
  exact ⟨rfl, units, index, s2.drained_same _ _ _ _⟩

/-- With nothing left to drain the drain ends. -/
theorem State.drainRun_end {s : State} {v : Vault} {c : Option Nat} {e : DstErr} {ue : List Nat} (vault : s.spill.vault = some v)
    (state : s.spill.state = .draining) (early : s.closeoutDue = false) (nothing : s.toDrain v = []) :
    s.drainRun c e ue = s.drainEnd := by
  unfold State.drainRun
  rw [vault]
  dsimp only
  rw [if_neg (not_not_intro state), early, nothing]
  rfl

/-- Once close-out is due no further run is written. -/
theorem State.drainRun_closeOut {s : State} {v : Vault} {e : DstErr} {ue : List Nat} (vault : s.spill.vault = some v)
    (state : s.spill.state = .draining) (due : s.closeoutDue = true) : s.drainRun none e ue = s.closeOut := by
  unfold State.drainRun
  rw [vault]
  dsimp only
  rw [if_neg (not_not_intro state), due]
  rfl

theorem drainRun_ends {s : State} {v : Vault} (c : Option Nat) (e : DstErr) (ue : List Nat) (vault : s.spill.vault = some v)
    (state : s.spill.state = .draining) (early : s.closeoutDue = false) (nothing : s.begin.toDrain v = []) :
    Answers (.drainRun c e ue) s fun t =>
      t.spill.state = .closing ∧ t.spill.vault.map (·.step) = some .metadata ∧ s.SameBut t [.out, .spill] := by
  have held : s.begin.spill.vault = some v := vault
  have step := s.begin.drainEnd_step
  rw [held] at step
  refine ⟨_, rfl, ?_⟩
  rw [State.drainRun_end held state early nothing]
  exact ⟨rfl, step, s.begin_same.widen.next s.begin.drainEnd_same⟩

theorem drainRun_closes {s : State} {v : Vault} (e : DstErr) (ue : List Nat) (vault : s.spill.vault = some v)
    (state : s.spill.state = .draining) (due : s.closeoutDue = true) :
    Answers (.drainRun none e ue) s fun t => t.spill.state = .closing ∧ t.spill.vault.map (·.step) = some .metadata
      ∧ t.spill.vault.map (·.man.closeout) = some true := by
  refine ⟨_, rfl, ?_⟩
  rw [State.drainRun_closeOut (s := s.begin) vault state due]
  exact ⟨State.closeOut_state (s := s.begin) state, State.closeOut_vault (s := s.begin) state vault⟩

/-! ### A drained set (R187) -/

/-- The entries of a reported set are saved, and the set refreshes itself. -/
def Basin.saveSet (b : Basin) (k : Nat) (unsaved : List Nat) : Basin :=
  let saved := fun (p : Nat × DstEntry) =>
    if b.setOf p.1 == k && !unsaved.contains p.1 then (p.1, { p.2 with state := .saved }) else p
  let b : Basin := { b with dst := b.dst.map saved }
  if k = 0 then { b with slot0 := .selfRefresh } else { b with slot1 := .selfRefresh }

theorem Basin.saveSet_setOf (b : Basin) (k : Nat) (l : List Nat) : (b.saveSet k l).setOf = b.setOf := by
  refine Basin.setOf_of_modules ?_ ?_ <;> (unfold Basin.saveSet; dsimp only; split <;> rfl)

/-- The report of a drained set before it is switched off. -/
def State.report (s : State) (v : Vault) (k : Nat) : State :=
  (s.onVault fun v => { v with reported := v.reported ++ [k] }).onBasin fun b =>
    b.saveSet k ((s.toDrain v).map fun x => x.2.2.1)

theorem State.report_same (s : State) (v : Vault) (k : Nat) : s.SameBut (s.report v k) [.spill, .basin] :=
  (s.onVault_same _).widen.next (State.onBasin_same _ _)

theorem State.reportSet_off {s : State} {v : Vault} {k : Nat} (vault : s.spill.vault = some v) (new : k ∉ v.reported)
    (hold : s.sip.hold.state ≠ .armed) : s.reportSet k = (s.report v k).setOff k := by
  have fresh : ¬v.reported.contains k = true := by simpa using new
  have unarmed : ¬(s.report v k).sip.hold.state = .armed := by
    rw [show (s.report v k).sip = s.sip from s.report_same v k .sip (by decide)]
    exact hold
  unfold State.report Basin.saveSet at unarmed ⊢
  unfold State.reportSet
  rw [vault]
  dsimp only at unarmed ⊢
  rw [if_neg fresh, if_neg unarmed]

theorem slotSetDrained_answers {s : State} {v : Vault} {k : Nat} (vault : s.spill.vault = some v) (low : k < s.basin.topSet)
    (closed : s.begin.setClosed k = true) (state : s.spill.state = .draining)
    (empty : (s.begin.toDrain v).all (fun x => x.1 != k) = true) (new : k ∉ v.reported) (hold : s.sip.hold.state ≠ .armed) :
    Answers (.slotSetDrained k) s fun t =>
      t.spill.vault.map (·.reported) = some (v.reported ++ [k])
        ∧ (∀ c ∈ t.mem, s.basin.setOf (segOf c.1) ≠ k)
        ∧ ∀ a, s.basin.setOf (segOf a) ≠ k → readByte t.mem a = readByte s.mem a := by
  have held : s.begin.spill.vault = some v := vault
  have left : ((s.begin.toDrain v).any fun x => x.1 == k) = false := by
    rw [List.any_eq_false]
    intro x listed same
    have other := List.all_eq_true.mp empty x listed
    rw [eq_of_beq same] at other
    simp at other
  have mem : (s.begin.report v k).mem = s.mem := s.begin.report_same v k .mem (by decide)
  have sets : (s.begin.report v k).basin.setOf = s.basin.setOf := Basin.saveSet_setOf _ _ _
  refine ⟨_, rfl, ?_⟩
  rw [held]
  dsimp only
  rw [if_pos ⟨low, closed, .inl ⟨state, by rw [left]; rfl⟩⟩, State.reportSet_off held new hold]
  have spill := (s.begin.report v k).setOff_same k .spill (by decide)
  refine ⟨?_, ?_, ?_⟩
  · rw [show ((s.begin.report v k).setOff k).spill = _ from spill]
    change ((s.spill.vault.map _).map _) = _
    rw [vault]
    rfl
  · intro c listed
    rw [State.setOff_mem, sets] at listed
    simpa using (List.mem_filter.mp listed).2
  · intro a other
    rw [State.setOff_mem, mem, sets]
    refine (mget_filter unlistedByte (fun c => s.basin.setOf (segOf c) != k) s.mem a).trans (if_pos ?_)
    simpa using other

/-! ### The pending reaction of a FATAL report (R372) -/

@[simp] theorem State.alert_fatalPend (s : State) (a b : Nat) : (s.alert a b).fc.fatalPend = s.fc.fatalPend := by
  unfold State.alert
  dsimp only
  split <;> rfl

@[simp] theorem State.raise_fatalPend (s : State) (n a b : Nat) (w : List Nat) (z : Bool) :
    (s.raise n a b w z).fc.fatalPend = s.fc.fatalPend := by
  unfold State.raise
  dsimp only
  repeat' split
  all_goals simp

@[simp] theorem State.faultShow_fatalPend (s : State) (n v : Nat) : (s.faultShow n v).fc.fatalPend = s.fc.fatalPend := by
  unfold State.faultShow
  split
  · simp
  · split <;> rfl

@[simp] theorem State.faultCount_fatalPend (s : State) (n : Nat) (j : Bool) : (s.faultCount n j).fc.fatalPend = s.fc.fatalPend := by
  unfold State.faultCount
  dsimp only
  split <;> simp

@[simp] theorem State.faultRecord_fatalPend (s : State) (n v c : Nat) (j f l : Bool) :
    (s.faultRecord n v c j f l).2.fc.fatalPend = s.fc.fatalPend := by
  unfold State.faultRecord
  dsimp only
  repeat' split
  all_goals simp

@[simp] theorem State.faultLatch_fatalPend (s : State) (w : Nat) (l r f : Bool) :
    (s.faultLatch w l r f).fc.fatalPend = (f || s.fc.fatalPend) := by
  unfold State.faultLatch
  dsimp only
  cases f
  all_goals simp only [Bool.false_eq_true, if_true, if_false, Bool.true_or, Bool.false_or]
  repeat' split
  all_goals simp

@[simp] theorem State.enterFault_fatalPend (s : State) (a : Option Nat) : (s.enterFault a).fc.fatalPend = s.fc.fatalPend := rfl

/-- A report makes the reaction pending where it is taken as FATAL, and takes none away. -/
theorem State.fault_fatalPend (s : State) (n : Nat) (v : Sev) (c : Nat) (j : Bool) (w : List Nat) :
    (s.fault n v c j w).fc.fatalPend = (decide (s.sevOf v j = .fatal) || s.fc.fatalPend) := by
  unfold State.fault
  dsimp only
  repeat' split
  all_goals simp

theorem State.drainEnd_fc (s : State) : s.drainEnd.fc = s.fc := s.drainEnd_same .fc (by decide)

/-- Close-out keeps a pending reaction. -/
theorem State.closeOut_fatalPend {s : State} (h : s.spill.state = .draining) (k : s.fc.fatalPend = true) :
    s.closeOut.fc.fatalPend = true := by
  have marked : (s.voidHold.onVault fun v => { v with man := { v.man with closeout := true } }).fc = s.fc :=
    (State.onVault_same _ _ .fc (by decide)).trans s.voidHold_fc
  rw [State.closeOut_eq h, State.drainEnd_fc]
  unfold State.cutDrain
  rw [State.fault_fatalPend, marked, k, Bool.or_true]

theorem drainStallTimeout_answers {s : State} (h : s.spill.state = .draining) :
    Answers .drainStallTimeout s fun t => t.fc.fatalPend = true ∧ t.spill.state = .closing := by
  have draining : (s.begin.fault Src.SPILLWAY .fatal).spill.state = .draining := by
    rw [State.fault_spill]
    exact h
  have pending : (s.begin.fault Src.SPILLWAY .fatal).fc.fatalPend = true := by
    rw [State.fault_fatalPend]
    rfl
  refine ⟨_, rfl, ?_⟩
  rw [if_pos (show s.begin.spill.state = .draining from h)]
  exact ⟨State.closeOut_fatalPend draining pending, State.closeOut_state draining⟩

/-! ### The target of a slow spoke (R189, R190) -/

/-- The target listed among those dropped. -/
def State.dropTarget (s : State) (p : Nat) : State :=
  if s.spill.dropped.contains p then s
  else (s.onSpill fun x => { x with dropped := x.dropped ++ [p] }).addReg Reg.VAULT_SLOW_DROPS 1

theorem State.mem_dropTarget (s : State) (p : Nat) : p ∈ (s.dropTarget p).spill.dropped := by
  unfold State.dropTarget
  split
  · rename_i listed; simpa using listed
  · rw [State.addReg_spill, State.onSpill_spill]
    exact List.mem_append_right _ (List.mem_singleton.mpr rfl)

theorem slowSpokeTimeout_answers {s : State} {n c : Nat} {w : Wheel} {b : Band × Nat} {sp : Spoke} (wheel : s.whl.wheel n = some w)
    (band : s.whl.bandOf n = some b) (spoke : b.1.spoke b.2 c = some sp) (dev : s.dev = .preSpill ∨ s.dev = .vaulting)
    (stream : w.stream = .v) (opened : w.state = .open_) :
    Answers (.slowSpokeTimeout n c) s fun t => sp.port ∈ t.spill.dropped := by
  have column : ((s.begin.whl.bandOf n).bind fun b => b.1.spoke b.2 c) = some sp := by
    rw [show s.begin.whl.bandOf n = some b from band]
    exact spoke
  have listed := s.begin.mem_dropTarget sp.port
  unfold State.dropTarget at listed
  refine ⟨_, rfl, ?_⟩
  rw [show s.begin.whl.wheel n = some w from wheel, column]
  dsimp only [Option.map_some]
  rw [if_pos ⟨dev, stream, opened⟩]
  rw [State.fault_spill, State.vErasure_dropped, State.setSlow_spill]
  exact listed

/-- Settles O23: the seal and the ends of the drain by what they write, the undo by what its wheels' operations leave. -/
theorem vault_drain : Obligations.Vault_drain := by
  unfold Obligations.Vault_drain
  exact ⟨fun s seg e slots b u s2 h room next captured run => speculativeCapture_answers h room next captured run,
    fun s h => undoComplete_answers h, fun tf v s h w p => gpfWindowEnd_answers tf h w p,
    fun s v x rest k h seg need ovf u s2 vault state early order found run kept =>
      drainRun_answers vault state early order found run kept,
    fun c e ue s v vault state early nothing => drainRun_ends c e ue vault state early nothing,
    fun e ue s v vault state due => drainRun_closes e ue vault state due,
    fun s v k vault low closed state empty new hold => slotSetDrained_answers vault low closed state empty new hold,
    fun s n c w b sp wheel band spoke dev stream opened => slowSpokeTimeout_answers wheel band spoke dev stream opened,
    fun s h => drainStallTimeout_answers h⟩

end Sys2Proof.Machine
end

section
/-! PROOFS. What a report keeps: what has gone out before it, and the registers below the collector's. -/

namespace Sys2Proof.Machine

/-! ### What has gone out stays (R366, R381 to R383, R459) -/

theorem State.foldl_out {α : Type} (f : State → α → State) (h : ∀ (s : State) (a : α), s.out ⊆ (f s a).out) :
    ∀ (as : List α) (s : State), s.out ⊆ (as.foldl f s).out
  | [], _ => List.Subset.refl _
  | a :: as, s => List.Subset.trans (h s a) (foldl_out f h as (f s a))

theorem State.emit_keeps_out (s : State) (o : Out) : s.out ⊆ (s.emit o).out := List.subset_append_left _ _

theorem State.msix_out (s : State) (n : Nat) : s.out ⊆ (s.msix n).out := by
  refine State.foldl_out _ (fun s ld => ?_) _ s
  unfold State.msixTo
  dsimp only
  split
  · exact s.emit_keeps_out _
  · rw [State.onPf1_out]
    exact List.Subset.refl _

theorem State.logPut_out (s : State) (n : Nat) (x : LogRec) : (s.logPut n x).out = s.out := by
  unfold State.logPut
  dsimp only
  split <;> rfl

theorem State.cxlRecord_out (s : State) (n : Nat) (x : LogRec) : s.out ⊆ (s.cxlRecord n x).out := by
  have told := State.foldl_out (fun s ld => s.logMsix n ld) (fun s ld => by
    unfold State.logMsix
    dsimp only
    split
    · exact s.emit_keeps_out _
    · exact List.Subset.refl _) s.lds (s.logPut n x)
  rwa [State.logPut_out] at told

theorem State.sendFrame_out (s : State) (a b : Nat) (h : MHdr) (l : List Nat) : s.out ⊆ (s.sendFrame a b h l).out :=
  s.emit_keeps_out _

theorem State.sendTo_out (s : State) (a b : Nat) (l : List Nat) (r : Bool) : s.out ⊆ (s.sendTo a b l r).out := by
  unfold State.sendTo
  dsimp only
  generalize hu : (if r = true then _ else _ : State) = u
  have e : u.out = s.out := by
    rw [← hu]
    split <;> simp
  rw [← e]
  split
  · exact u.sendFrame_out _ _ _ _
  · split
    · exact u.sendFrame_out _ _ _ _
    · exact List.Subset.refl _

theorem State.forwardEvent_out (s : State) (a b c : Nat) : s.out ⊆ (s.forwardEvent a b c).out := by
  unfold State.forwardEvent
  dsimp only
  split
  · split
    · generalize hu : ({ s with mir := _ } : State) = u
      have e : u.out = s.out := by rw [← hu]
      rw [← e]
      exact u.sendTo_out _ _ _ _
    · exact List.Subset.refl _
  · exact List.Subset.refl _

theorem State.alert_out (s : State) (a b : Nat) : s.out ⊆ (s.alert a b).out := by
  unfold State.alert
  dsimp only
  split
  · exact s.emit_keeps_out _
  · exact List.Subset.refl _

theorem State.ite_out {c : Prop} [Decidable c] {s t u : State} (h : s.out ⊆ t.out) (k : s.out ⊆ u.out) :
    s.out ⊆ (if c then t else u).out := by split <;> assumption

/-- An event takes back nothing that has gone out. -/
theorem State.raise_out (s : State) (n a b : Nat) (w : List Nat) (z : Bool) : s.out ⊆ (s.raise n a b w z).out := by
  unfold State.raise
  dsimp only
  split
  · exact List.Subset.refl _
  split
  · exact State.ite_out (s.alert_out _ _) (List.Subset.refl _)
  generalize hp : (if bit (s.reg (Reg.EV_ROUTE + n)) 11 = true then _ else _ : Nat × State) = p
  have recorded : p.2.out = s.out := by
    rw [← hp]
    split <;> simp
  rw [State.snapshots_out, ← recorded]
  have kept (u : State) : u.out ⊆ u.out := List.Subset.refl _
  refine List.Subset.trans ?_ (State.forwardEvent_out _ _ _ _)
  refine List.Subset.trans ?_ (State.ite_out (State.alert_out _ _ _) (kept _))
  refine List.Subset.trans ?_ (State.ite_out (State.cxlRecord_out _ _ _) (kept _))
  exact State.ite_out (State.msix_out _ _) (kept _)

/-- A report takes back nothing that has gone out. -/
theorem State.fault_out (s : State) (n : Nat) (v : Sev) (c : Nat) (j : Bool) (w : List Nat) :
    s.out ⊆ (s.fault n v c j w).out := by
  unfold State.fault
  dsimp only
  repeat' split
  all_goals try refine List.Subset.trans ?_ (State.raise_out _ _ _ _ _ _)
  all_goals simp

/-! ### Registers below the collector's (R366 to R374) -/

theorem eventReg_below {id : Nat} (h : id < Reg.FC_STATUS) : eventReg id = false := by
  simp only [eventReg, Bool.or_eq_false_iff, beq_eq_false_iff_ne, decide_eq_false_iff_not]
  simp only [Reg.FC_STATUS, Reg.REC_SEQ, Reg.REC_LOST, Reg.EV_STATUS, Reg.SNAP_TRIGGER] at h ⊢
  omega

theorem State.fcSet_reg_below (s : State) (a b : Nat) {id : Nat} (h : id < Reg.FC_STATUS) : (s.fcSet a b).reg id = s.reg id := by
  have severity : id ≠ Reg.FC_SEV + a / 16 := by simp only [Reg.FC_STATUS, Reg.FC_SEV] at h ⊢; omega
  unfold State.fcSet
  dsimp only
  split
  · rw [State.reg_setReg_ne _ _ _ _ severity, State.reg_setReg_ne _ _ _ _ h.ne]
  · exact State.reg_setReg_ne _ _ _ _ h.ne

theorem State.faultCount_reg_below (s : State) (a : Nat) (j : Bool) {id : Nat} (h : id < Reg.FC_STATUS) :
    (s.faultCount a j).reg id = s.reg id := by
  have counter : id ≠ Reg.FC_COUNT + a := by simp only [Reg.FC_STATUS, Reg.FC_COUNT] at h ⊢; omega
  have left : id ≠ Reg.FI_REMAINING := by simp only [Reg.FC_STATUS, Reg.FI_REMAINING] at h ⊢; omega
  unfold State.faultCount
  dsimp only
  split
  · rw [State.reg_setReg_ne _ _ _ _ left]
    exact s.reg_addReg_ne _ _ _ counter
  · exact s.reg_addReg_ne _ _ _ counter

theorem State.faultRecord_reg_below (s : State) (a b c : Nat) (x y z : Bool) {id : Nat} (h : id < Reg.FC_STATUS) :
    (s.faultRecord a b c x y z).2.reg id = s.reg id := by
  unfold State.faultRecord
  dsimp only
  repeat' split
  · exact s.record_reg _ _ _ _ (eventReg_below h)
  · rfl
  · rfl

theorem State.faultLatch_reg_below (s : State) (w : Nat) (x y z : Bool) {id : Nat} (h : id < Reg.FC_STATUS) :
    (s.faultLatch w x y z).reg id = s.reg id := by
  have first : id ≠ Reg.FC_FIRST := by simp only [Reg.FC_STATUS, Reg.FC_FIRST] at h ⊢; omega
  have full : id ≠ Reg.FC_OVERFLOW := by simp only [Reg.FC_STATUS, Reg.FC_OVERFLOW] at h ⊢; omega
  have fatal : id ≠ Reg.FC_LAST_FATAL := by simp only [Reg.FC_STATUS, Reg.FC_LAST_FATAL] at h ⊢; omega
  unfold State.faultLatch
  dsimp only
  repeat' split
  all_goals simp [State.reg_setReg_ne _ _ _ _ first, State.reg_setReg_ne _ _ _ _ full, State.reg_setReg_ne _ _ _ _ fatal]

/-- A report, of whatever number, changes no register below the collector's. -/
theorem State.fault_reg_below (s : State) (n : Nat) (v : Sev) (c : Nat) (j : Bool) (w : List Nat) {id : Nat}
    (h : id < Reg.FC_STATUS) : (s.fault n v c j w).reg id = s.reg id := by
  have stopped : id ≠ Reg.FC_IN_FAULT := by simp only [Reg.FC_STATUS, Reg.FC_IN_FAULT] at h ⊢; omega
  have show_ (a : Nat) : (s.faultShow n a).reg id = s.reg id := by
    unfold State.faultShow
    split
    · exact s.fcSet_reg_below _ _ h
    · split <;> rfl
  unfold State.fault
  dsimp only
  repeat' split
  all_goals simp [State.raise_reg _ _ _ _ _ _ _ (eventReg_below h), State.enterFault, State.reg_setReg_ne _ _ _ _ stopped,
    State.faultLatch_reg_below _ _ _ _ _ h, State.faultRecord_reg_below _ _ _ _ _ _ _ h, State.faultCount_reg_below _ _ _ h, show_]

end Sys2Proof.Machine
end

section
/-! PROOFS. CXL.mem reads (O5). -/

namespace Sys2Proof.Machine

/-! ### What a read keeps (R57, R67, R88, R103) -/

/-- What a read, and what its line's error leads to, may change; the Weir's level stands. -/
structure State.ReadOver (s t : State) : Prop where
  same : s.SameBut t [.out, .regs, .freeCtr, .rec_, .fc, .port, .mir, .basin, .cmd]
  level : t.reg Reg.DEVLOAD_LEVEL = s.reg Reg.DEVLOAD_LEVEL

theorem State.ReadOver.refl (s : State) : s.ReadOver s := ⟨.refl _ _, rfl⟩

theorem State.ReadOver.trans {s t u : State} (h : s.ReadOver t) (k : t.ReadOver u) : s.ReadOver u :=
  ⟨h.same.trans k.same, k.level.trans h.level⟩

theorem State.ReadOver.ite {c : Prop} [Decidable c] {s t u : State} (h : s.ReadOver t) (k : s.ReadOver u) :
    s.ReadOver (if c then t else u) := by split <;> assumption

theorem State.ReadOver.of_same {s t : State} {l : List Part} (h : s.SameBut t l)
    (k : l ⊆ [.out, .freeCtr, .rec_, .fc, .port, .mir, .basin, .cmd] := by decide) : s.ReadOver t :=
  ⟨h.sub fun p hp => by have := k hp; simp at this ⊢; tauto,
    State.reg_of_regs (h .regs fun hp => by simpa using k hp) _⟩

theorem State.fault_readOver (s : State) (n : Nat) (v : Sev) (c : Nat) (j : Bool) (w : List Nat) :
    s.ReadOver (s.fault n v c j w) := ⟨(s.fault_same _ _ _ _ _).widen, s.fault_reg_below _ _ _ _ _ (by decide)⟩

theorem State.raise_readOver (s : State) (n a b : Nat) (w : List Nat) (z : Bool) : s.ReadOver (s.raise n a b w z) :=
  ⟨(s.raise_same _ _ _ _ _).widen, s.raise_reg _ _ _ _ _ _ (by decide)⟩

/-! ### What an answer shows of its line: poison, or a repair that it waits for (R61, R103) -/

/-- The line at a device address is answered as poisoned. -/
def State.lineBad (s : State) (a : Nat) : Bool := s.poisoned a || s.basin.repair.contains (a / 64)

/-- A step of a read that leaves poison and the lines that wait for repair. -/
structure State.Unmarked (s t : State) : Prop extends s.ReadOver t where
  bare : t.port.bare = s.port.bare
  repair : t.basin.repair = s.basin.repair

theorem State.Unmarked.refl (s : State) : s.Unmarked s := ⟨.refl s, rfl, rfl⟩

theorem State.Unmarked.trans {s t u : State} (h : s.Unmarked t) (k : t.Unmarked u) : s.Unmarked u :=
  ⟨h.toReadOver.trans k.toReadOver, k.bare.trans h.bare, k.repair.trans h.repair⟩

theorem State.Unmarked.ite {c : Prop} [Decidable c] {s t u : State} (h : s.Unmarked t) (k : s.Unmarked u) :
    s.Unmarked (if c then t else u) := by split <;> assumption

theorem State.Unmarked.lineBad {s t : State} (h : s.Unmarked t) (a : Nat) : t.lineBad a = s.lineBad a := by
  unfold State.lineBad
  rw [State.poisoned_of_bare h.bare, h.repair]

theorem State.fault_unmarked (s : State) (n : Nat) (v : Sev) (c : Nat) (j : Bool) (w : List Nat) :
    s.Unmarked (s.fault n v c j w) := ⟨s.fault_readOver .., s.fault_bare .., congrArg Basin.repair (s.fault_basin ..)⟩

theorem State.raise_unmarked (s : State) (n a b : Nat) (w : List Nat) (z : Bool) : s.Unmarked (s.raise n a b w z) :=
  ⟨s.raise_readOver .., s.raise_bare .., congrArg Basin.repair (s.raise_basin ..)⟩

theorem State.onBasin_unmarked (s : State) {f : Basin → Basin} (h : ∀ b, (f b).repair = b.repair) :
    s.Unmarked (s.onBasin f) := ⟨.of_same (s.onBasin_same f), rfl, h _⟩

theorem State.notePeak_unmarked (s : State) (lat : Nat) : s.Unmarked (s.notePeak lat) := by
  have level : (s.putReg Reg.LAT_RD_PEAK lat).reg Reg.DEVLOAD_LEVEL = s.reg Reg.DEVLOAD_LEVEL := by
    unfold State.putReg
    split
    · exact s.reg_setReg_ne _ _ _ (by decide)
    · exact s.reg_setReg_ne _ _ _ (by decide)
  refine .ite ⟨⟨(s.putReg_same _ _).widen, level⟩, ?_, ?_⟩ (.refl s)
  · rw [State.putReg_port]
  · rw [State.putReg_basin]

/-! ### A correctable error (R88) -/

theorem State.askSpare_unmarked (s : State) (rank : Nat) : s.Unmarked (s.askSpare rank) := by
  have marked (f : Basin → Basin) (h : ∀ b, (f b).repair = b.repair) (g : Cmd → Cmd) :
      s.Unmarked ((s.onBasin f).onCmd g) := (s.onBasin_unmarked h).trans ⟨.of_same (State.onCmd_same _ _), rfl, rfl⟩
  unfold State.askSpare
  dsimp only
  refine .ite (.refl s) (.ite (s.onBasin_unmarked ?_) (marked _ ?_ _))
  all_goals exact fun _ => rfl

/-- A correctable error leads to no poison and to no repair of its line. -/
theorem State.dramCe_unmarked (s : State) (ch slot rank row : Nat) : s.Unmarked (s.dramCe ch slot rank row) := by
  have kept (t : State) : t.Unmarked t := .refl t
  unfold State.dramCe
  dsimp only
  refine .trans ?_ (.ite (State.askSpare_unmarked _ _) (kept _))
  refine .trans ?_ (.ite (State.onBasin_unmarked _ fun _ => rfl) (kept _))
  exact (s.fault_unmarked _ _ _ _ _).trans (State.onBasin_unmarked _ fun _ => rfl)

/-! ### An uncorrectable error (R103) -/

/-- A step of a read that takes no mark from the line. -/
structure State.KeepsBad (s t : State) (a : Nat) : Prop extends s.ReadOver t where
  bad : s.lineBad a = true → t.lineBad a = true

theorem State.Unmarked.keepsBad {s t : State} (h : s.Unmarked t) (a : Nat) : s.KeepsBad t a :=
  ⟨h.toReadOver, fun bad => (h.lineBad a).trans bad⟩

theorem State.KeepsBad.trans {s t u : State} {a : Nat} (h : s.KeepsBad t a) (k : t.KeepsBad u a) : s.KeepsBad u a :=
  ⟨h.toReadOver.trans k.toReadOver, fun bad => k.bad (h.bad bad)⟩

theorem State.KeepsBad.foldl {α : Type} {a : Nat} (f : State → α → State) (h : ∀ (s : State) (x : α), s.KeepsBad (f s x) a) :
    ∀ (l : List α) (s : State), s.KeepsBad (l.foldl f s) a
  | [], s => (Unmarked.refl s).keepsBad a
  | x :: l, s => (h s x).trans (foldl f h l (f s x))

theorem State.poisonAt_keepsBad (s : State) (b : Nat) (q : PoisonSrc) (a : Nat) : s.KeepsBad (s.poisonAt b q) a := by
  refine ⟨.of_same (s.poisonAt_same b q), fun bad => ?_⟩
  unfold State.lineBad at bad ⊢
  rw [State.poisonAt_poisoned, show (s.poisonAt b q).basin = s.basin from s.poisonAt_same b q .basin (by decide)]
  split
  · exact Bool.true_or _
  · exact bad

theorem State.loseModule_keepsBad (s : State) (ch slot a : Nat) : s.KeepsBad (s.loseModule ch slot) a := by
  refine .foldl _ (fun s b => .foldl _ (fun s i => ?_) _ s) _ s
  dsimp only
  split
  · exact s.poisonAt_keepsBad _ _ a
  · exact (Unmarked.refl s).keepsBad a

theorem State.noteUe_keepsBad (s : State) (b a : Nat) : s.KeepsBad (s.noteUe b) a := by
  have noted (f : Basin → Basin) (h : ∀ b, (f b).repair = b.repair) : s.KeepsBad (s.onBasin f) a :=
    (s.onBasin_unmarked h).keepsBad a
  unfold State.noteUe
  dsimp only
  split
  · refine .trans (.trans (noted _ ?_) (State.loseModule_keepsBad _ _ _ a)) ((State.fault_unmarked _ _ _ _ _ _).keepsBad a)
    exact fun _ => rfl
  · refine noted _ ?_
    exact fun _ => rfl

/-- An uncorrectable line is answered as poisoned: it is poison, or waits for its repair. -/
theorem State.dramUe_marks (s : State) (a : Nat) : s.ReadOver (s.dramUe a) ∧ (s.dramUe a).lineBad a = true := by
  obtain ⟨u, hu, read, bad⟩ : ∃ u, s.dramUe a = (u.raise (Ev.DIMM_CH_0 + (s.basin.map a).1)).noteUe a ∧ s.ReadOver u
      ∧ u.lineBad a = true := by
    refine ⟨_, rfl, ?_⟩
    split
    · have recorded (t : State) (x : LogRec) : t.Unmarked (t.cxlRecord 2 x) :=
        ⟨.of_same (t.cxlRecord_same 2 x), t.cxlRecord_bare 2 x, congrArg Basin.repair (t.cxlRecord_basin 2 x)⟩
      refine ⟨(State.ReadOver.of_same (s.onBasin_same _)).trans (recorded _ _).toReadOver, ?_⟩
      rw [(recorded _ _).lineBad]
      simp [State.lineBad, mem_insertAsc_self]
    · refine ⟨(State.ReadOver.of_same (s.poisonAt_same a .internal)).trans (State.fault_readOver _ _ _ _ _ _), ?_⟩
      rw [(State.fault_unmarked _ _ _ _ _ _).lineBad, State.lineBad, State.poisonAt_poisoned, if_pos rfl, Bool.true_or]
  have rest := ((u.raise_unmarked (Ev.DIMM_CH_0 + (s.basin.map a).1) 0 0 [] false).keepsBad a).trans (State.noteUe_keepsBad _ a a)
  rw [hu]
  exact ⟨read.trans rest.toReadOver, rest.bad bad⟩

/-- What a read found in its line marks it exactly when it is uncorrectable. -/
theorem State.readErr_marks (s : State) (a : Nat) (e : ReadErr) :
    s.ReadOver (s.readErr a e) ∧ (s.readErr a e).lineBad a = (s.lineBad a || decide (e = .uncorrected)) := by
  cases e with
  | none => exact ⟨.refl s, (Bool.or_false _).symm⟩
  | corrected rank row =>
    have unmarked := s.dramCe_unmarked (s.basin.map a).1 (s.basin.map a).2.1 rank row
    exact ⟨unmarked.toReadOver, (unmarked.lineBad a).trans (Bool.or_false _).symm⟩
  | uncorrected =>
    obtain ⟨read, bad⟩ := s.dramUe_marks a
    exact ⟨read, bad.trans (Bool.or_true _).symm⟩

/-! ### The answer -/

theorem Basin.access_repair (b : Basin) (q k : Nat) : (b.access q k).repair = b.repair := by
  have flushed (j : Nat) : (b.flushSeg q j).repair = b.repair := by
    unfold Basin.flushSeg Basin.heatAdd
    dsimp only
    split <;> rfl
  unfold Basin.access
  split
  · rfl
  · split
    · rfl
    · dsimp only
      repeat' split
      · rfl
      · rfl
      · exact flushed _

/-- What a served read leaves: its line's data, marked or not, at the Weir's level or above. -/
theorem State.memRead_served {s : State} {ld hpa a : Nat} (h : s.reach ld hpa = .served a) (tag lat : Nat) (err : ReadErr) :
    s.ReadOver (s.memRead ld hpa tag lat err)
      ∧ ∃ d, .memData tag (readLine s.mem a) (s.lineBad a || decide (err = .uncorrected)) d ∈ (s.memRead ld hpa tag lat err).out
          ∧ s.reg Reg.DEVLOAD_LEVEL ≤ d := by
  have peak := s.notePeak_unmarked lat
  obtain ⟨found, bad⟩ := (s.notePeak lat).readErr_marks a err
  rw [peak.lineBad a] at bad
  have read := peak.toReadOver.trans found
  unfold State.memRead
  rw [h]
  dsimp only
  generalize (s.notePeak lat).readErr a err = u at read bad
  have mem : u.mem = s.mem := read.same .mem (by decide)
  have heat : u.ReadOver (u.heatAccess a) := .of_same (u.heatAccess_same a)
  have answered := (u.heatAccess a).respond_same ld (.memData tag (readLine u.mem a) (u.poisoned a || u.basin.repair.contains (a / 64)))
  refine ⟨(read.trans heat).trans (.of_same answered), ?_⟩
  rw [← bad, ← mem, ← read.level, ← heat.level]
  exact State.respond_out _ _ _

/-! ### The highest latency (R67) -/

theorem State.notePeak_same (s : State) (lat : Nat) : s.SameBut (s.notePeak lat) [.regs, .freeCtr] :=
  .ite (s.putReg_same _ _) (.refl _ _)

theorem State.notePeak_reg_ne (s : State) (lat : Nat) {id : Nat} (h : id ≠ Reg.LAT_RD_PEAK) :
    (s.notePeak lat).reg id = s.reg id := by
  unfold State.notePeak State.putReg
  repeat' split
  · exact s.reg_setReg_ne _ _ _ h
  · exact s.reg_setReg_ne _ _ _ h
  · rfl

/-- A latency that the register's 16 bits hold is taken where it is the higher one. -/
theorem State.notePeak_peak (s : State) {lat : Nat} (h : lat < 65536) :
    (s.notePeak lat).reg Reg.LAT_RD_PEAK = max (s.reg Reg.LAT_RD_PEAK) lat := by
  have width : paramWidth Reg.LAT_RD_PEAK = 16 := by decide +kernel
  have fits : lat < 2 ^ paramWidth Reg.LAT_RD_PEAK := by rw [width]; exact h
  unfold State.notePeak State.putReg
  rw [if_pos fits]
  split
  · rename_i higher
    rw [State.reg_setReg _ _ _ fits, max_eq_right higher.le]
  · rename_i lower
    rw [max_eq_left (Nat.not_lt.mp lower)]

theorem State.memRead_clean {s : State} {ld hpa a lat : Nat} (h : s.reach ld hpa = .served a) (low : lat < 65536) (tag : Nat) :
    (s.memRead ld hpa tag lat .none).reg Reg.LAT_RD_PEAK = max (s.reg Reg.LAT_RD_PEAK) lat
      ∧ (s.memRead ld hpa tag lat .none).basin.repair = s.basin.repair
      ∧ s.SameBut (s.memRead ld hpa tag lat .none) [.out, .regs, .basin, .freeCtr] := by
  have peak := s.notePeak_same lat
  have highest := s.notePeak_peak low
  unfold State.memRead
  rw [h]
  dsimp only [State.readErr]
  generalize s.notePeak lat = u at peak highest
  have answered := (u.heatAccess a).respond_same ld (.memData tag (readLine u.mem a) (u.poisoned a || u.basin.repair.contains (a / 64)))
  refine ⟨?_, ?_, (peak.widen.next (u.heatAccess_same a)).next answered⟩
  · rw [← highest]
    exact State.reg_of_regs (answered .regs (by decide)) _
  · rw [show State.basin _ = (u.heatAccess a).basin from answered .basin (by decide),
      ← show u.basin = s.basin from peak .basin (by decide)]
    exact Basin.access_repair _ _ _

/-! ### A read not served (R57) -/

theorem State.memRead_notServed {s : State} {ld hpa a : Nat} (h : s.reach ld hpa = .notServed a)
    (c : s.reg Reg.OFFLINE_ACCESS_COUNT + 1 < 2 ^ 32) (tag lat : Nat) (err : ReadErr) :
    (∃ d, .memData tag 0 true d ∈ (s.memRead ld hpa tag lat err).out)
      ∧ (s.memRead ld hpa tag lat err).reg Reg.OFFLINE_ACCESS_COUNT = s.reg Reg.OFFLINE_ACCESS_COUNT + 1
      ∧ s.SameBut (s.memRead ld hpa tag lat err) [.out, .regs, .port, .freeCtr] := by
  have peak := s.notePeak_same lat
  have count : (s.notePeak lat).reg Reg.OFFLINE_ACCESS_COUNT = s.reg Reg.OFFLINE_ACCESS_COUNT := s.notePeak_reg_ne lat (by decide)
  unfold State.memRead
  rw [h]
  dsimp only
  generalize s.notePeak lat = u at peak count
  have answered := (u.offline a).respond_same ld (.memData tag 0 true)
  obtain ⟨d, out, -⟩ := (u.offline a).respond_out ld (.memData tag 0 true)
  refine ⟨⟨d, out⟩, ?_, (peak.widen.trans (u.offline_same a)).next answered⟩
  rw [← count, ← u.offline_count a (by rw [count]; exact c)]
  exact State.reg_of_regs (answered .regs (by decide)) _

/-! ### The commands -/

theorem memrd_served {ld hpa a : Nat} {s : State} (h : s.reach ld hpa = .served a) (tag lat : Nat) (err : ReadErr) :
    Answers (.memrd ld hpa tag lat err) s fun t =>
      (∃ d, .memData tag (readLine s.mem a) (s.lineBad a || decide (err = .uncorrected)) d ∈ t.out
          ∧ s.reg Reg.DEVLOAD_LEVEL ≤ d) ∧ t.mem = s.mem ∧ t.dev = s.dev := by
  obtain ⟨read, answer⟩ := State.memRead_served (s := s.begin) (by rwa [s.begin_reach]) tag lat err
  exact ⟨_, rfl, answer, read.same .mem (by decide), read.same .dev (by decide)⟩

theorem memrd_clean {ld hpa a lat : Nat} {s : State} (h : s.reach ld hpa = .served a) (low : lat < 65536) (tag : Nat) :
    Answers (.memrd ld hpa tag lat .none) s fun t =>
      t.reg Reg.LAT_RD_PEAK = max (s.reg Reg.LAT_RD_PEAK) lat ∧ t.basin.repair = s.basin.repair
        ∧ s.SameBut t [.out, .regs, .basin, .freeCtr] := by
  obtain ⟨peak, repair, same⟩ := State.memRead_clean (s := s.begin) (by rwa [s.begin_reach]) low tag
  exact ⟨_, rfl, peak, repair, s.begin_same.widen.trans same⟩

theorem memrd_notServed {ld hpa a : Nat} {s : State} (h : s.reach ld hpa = .notServed a)
    (c : s.reg Reg.OFFLINE_ACCESS_COUNT + 1 < 2 ^ 32) (tag lat : Nat) (err : ReadErr) :
    Answers (.memrd ld hpa tag lat err) s fun t =>
      (∃ d, .memData tag 0 true d ∈ t.out) ∧ t.reg Reg.OFFLINE_ACCESS_COUNT = s.reg Reg.OFFLINE_ACCESS_COUNT + 1
        ∧ s.SameBut t [.out, .regs, .port, .freeCtr] := by
  obtain ⟨answer, count, same⟩ := State.memRead_notServed (s := s.begin) (by rwa [s.begin_reach]) c tag lat err
  exact ⟨_, rfl, answer, count, s.begin_same.widen.trans same⟩

theorem memrd_unclaimed {ld hpa : Nat} {s : State} (h : s.reach ld hpa = .unclaimed) (tag lat : Nat) (err : ReadErr) :
    Answers (.memrd ld hpa tag lat err) s fun t => t = s.begin := by
  refine ⟨_, rfl, ?_⟩
  unfold State.memRead
  rw [s.begin_reach, h]

/-- MemRdData is a read (R60). -/
theorem exec_memrddata (ld hpa tag lat : Nat) (err : ReadErr) (s : State) :
    exec (.memrddata ld hpa tag lat err) s = exec (.memrd ld hpa tag lat err) s := rfl

theorem unsupportedMemRequest_answers (tag : Nat) {s : State} (h : s.memServes = true) (up : s.seq.coreUp = true) :
    Answers (.unsupportedMemRequest tag) s fun t =>
      .memUnsupported tag ∈ t.out ∧ bit (t.reg Reg.FC_STATUS) Src.CXL_MEM = true
        ∧ s.SameBut t [.out, .regs, .freeCtr, .rec_, .fc, .port, .mir] ∧ s.RegsBut t reportReg := by
  have sent : .memUnsupported tag ∈ (s.begin.emit (.memUnsupported tag)).out := List.mem_singleton.mpr rfl
  have before : s.SameBut (s.begin.emit (.memUnsupported tag)) [.out] := s.begin_same.trans (State.emit_same _ _)
  refine ⟨_, rfl, ?_⟩
  rw [if_pos (show s.begin.memServes = true from h)]
  refine ⟨State.fault_out _ _ _ _ _ _ sent, State.fault_status _ _ _ _ _ (by decide) up,
    before.widen.next (State.fault_same _ _ _ _ _ _), fun id other => ?_⟩
  exact State.fault_reg _ _ _ _ _ _ _ (by decide) other

/-- Settles O5: what is found in the line marks it exactly when it is uncorrectable, and an answer shows the line and its
mark. -/
theorem mem_reads : Obligations.Mem_reads := by
  unfold Obligations.Mem_reads
  refine ⟨fun ld hpa tag lat err s a h => memrd_served h tag lat err, fun ld hpa tag lat s a h low => memrd_clean h low tag,
    fun ld hpa tag lat err s a h => ?_, fun ld hpa tag lat err s a h c => memrd_notServed h c tag lat err,
    fun ld hpa tag lat err s h => memrd_unclaimed h tag lat err, fun s => ⟨_, rfl, rfl⟩,
    fun tag s h up => unsupportedMemRequest_answers tag h up⟩
  unfold Answers
  rw [exec_memrddata]
  exact (memrd_served h tag lat err).imp fun t served => ⟨served.1.imp fun d answer => answer.1, served.2⟩

end Sys2Proof.Machine
end

section
/-! PROOFS. Where a host address leads (O6). -/

namespace Sys2Proof.Machine

theorem State.memServes_iff (s : State) : s.memServes = true ↔ s.port.up = true ∧ s.port.memCapable = true
    ∧ s.port.ideFailed = false ∧ s.port.sealed = false ∧ (s.dev = .restoring ∨ s.dev = .online ∨ s.dev = .preSpill
      ∨ (s.dev = .vaulting ∧ s.port.windowOpen = true)) := by
  simp only [State.memServes, Bool.and_eq_true, Bool.or_eq_true, Bool.not_eq_true', decide_eq_true_eq]
  tauto

theorem State.reach_of_not_serves {s : State} (h : s.memServes = false) (ld hpa : Nat) : s.reach ld hpa = .unclaimed := by
  unfold State.reach
  rw [h]
  rfl

/-! ### Decoding (R52) -/

theorem HostPort.decode_none {h : HostPort} {ld hpa : Nat} (k : ∀ d ∈ h.decs ld, hpa < d.base ∨ d.base + d.size ≤ hpa) :
    h.decode ld hpa = none := by
  unfold HostPort.decode
  rw [Option.map_eq_none_iff, List.find?_eq_none]
  intro d listed
  have := k d listed
  simp only [Bool.and_eq_true, decide_eq_true_eq]
  omega

/-- One decoder without interleave decodes to its offset. -/
theorem HostPort.decode_single {h : HostPort} {ld hpa : Nat} {d : Decoder} (one : h.decs ld = [d]) (ways : d.ways = 1)
    (above : d.base ≤ hpa) (below : hpa < d.base + d.size) : h.decode ld hpa = some (d.dpaBase + (hpa - d.base)) := by
  have covers : (decide (d.base ≤ hpa) && decide (hpa < d.base + d.size)) = true := by simp [above, below]
  have offset := Nat.div_add_mod' (hpa - d.base) d.granularity
  unfold HostPort.decode
  rw [one, List.find?_cons, covers, Option.map_some, ways, Nat.one_mul, Nat.add_assoc, offset]

/-! ### The partitions of a device that is not multi-logical (R49) -/

theorem State.toDpa_volatile {s : State} (single : s.port.mld = false) {a : Nat} (h : a < s.volBytes) : s.toDpa 0 a = some a := by
  unfold State.toDpa State.alloc State.allocBase
  simp [single, h]

theorem State.toDpa_persistent {s : State} (single : s.port.mld = false) {a : Nat} (above : s.volBytes ≤ a)
    (below : a < s.volBytes + s.extents * GiB) : s.toDpa 0 a = some a := by
  have inside : a - s.volBytes < s.extents * GiB := by omega
  unfold State.toDpa State.alloc State.allocBase
  simp only [single, Bool.false_eq_true, if_false, if_true, List.range_zero, List.foldl_nil]
  rw [if_neg (by omega), if_pos inside]
  congr 1
  omega

/-- The line of an address lies in the same partition. -/
theorem State.persistent_line (s : State) (a : Nat) :
    s.persistent (a / 64 * 64) = (decide (s.volBytes ≤ a) && decide (a < s.volBytes + s.extents * GiB)) := by
  unfold State.persistent State.volBytes GiB
  congr 1 <;> rw [decide_eq_decide] <;> omega

/-- With one decoder without interleave an address leads to the line of its offset. -/
theorem State.reach_single {s : State} {hpa a : Nat} {d : Decoder} (serves : s.memServes = true) (one : s.port.decs 0 = [d])
    (ways : d.ways = 1) (above : d.base ≤ hpa) (below : hpa < d.base + d.size) (e : a = d.dpaBase + (hpa - d.base))
    (dpa : s.toDpa 0 a = some a) :
    s.reach 0 hpa = if s.persistent (a / 64 * 64) && !s.extServed 0 (s.extentOf (a / 64 * 64)) then .notServed (a / 64 * 64)
      else .served (a / 64 * 64) := by
  unfold State.reach
  rw [serves, HostPort.decode_single one ways above below, ← e, Option.bind_some, dpa, if_neg (by decide)]

theorem State.reach_volatile {s : State} {hpa : Nat} {d : Decoder} (serves : s.memServes = true) (single : s.port.mld = false)
    (one : s.port.decs 0 = [d]) (ways : d.ways = 1) (above : d.base ≤ hpa) (below : hpa < d.base + d.size)
    (low : d.dpaBase + (hpa - d.base) < s.volBytes) :
    s.reach 0 hpa = .served ((d.dpaBase + (hpa - d.base)) / 64 * 64) := by
  rw [State.reach_single serves one ways above below rfl (State.toDpa_volatile single low), State.persistent_line,
    decide_eq_false (Nat.not_le.mpr low), Bool.false_and, Bool.false_and]
  rfl

theorem State.reach_persistent {s : State} {hpa a : Nat} {d : Decoder} (serves : s.memServes = true) (single : s.port.mld = false)
    (one : s.port.decs 0 = [d]) (ways : d.ways = 1) (above : d.base ≤ hpa) (below : hpa < d.base + d.size)
    (e : a = d.dpaBase + (hpa - d.base)) (low : s.volBytes ≤ a) (high : a < s.volBytes + s.extents * GiB) :
    s.reach 0 hpa =
      if s.extServed 0 (s.extentOf (a / 64 * 64)) then .served (a / 64 * 64) else .notServed (a / 64 * 64) := by
  rw [State.reach_single serves one ways above below e (State.toDpa_persistent single low high), State.persistent_line,
    decide_eq_true low, decide_eq_true high]
  cases s.extServed 0 (s.extentOf (a / 64 * 64)) <;> rfl

theorem State.reach_unclaimed {s : State} {ld hpa : Nat}
    (h : s.memServes = false ∨ ∀ d ∈ s.port.decs ld, hpa < d.base ∨ d.base + d.size ≤ hpa) : s.reach ld hpa = .unclaimed := by
  cases serves : s.memServes with
  | false => exact State.reach_of_not_serves serves ld hpa
  | true =>
    have uncovered := h.resolve_left (by rw [serves]; decide)
    unfold State.reach
    rw [serves, HostPort.decode_none uncovered]
    rfl

/-- Settles O6: an address that one decoder covers leads to the line of its offset, whose partition the offset names. -/
theorem address_rules : Obligations.Address_rules := by
  unfold Obligations.Address_rules
  exact ⟨State.memServes_iff, fun s ld hpa h => State.reach_unclaimed h,
    fun s hpa d serves single one ways _ above below low => State.reach_volatile serves single one ways above below low,
    fun s hpa d a serves single one ways _ above below e low high =>
      State.reach_persistent serves single one ways above below e low high⟩

end Sys2Proof.Machine
end

section
/-! PROOFS. IDE keys, integrity failure and the SPDM requests (O8). -/

namespace Sys2Proof.Machine

/-! ### An integrity failure (R72) -/

theorem HostPort.ideFields_of_bare {h k : HostPort} (e : k.bare = h.bare) :
    k.ideSecure = h.ideSecure ∧ k.ideFailed = h.ideFailed ∧ k.ideKeys = h.ideKeys :=
  ⟨(congrArg HostPort.ideSecure e :), (congrArg HostPort.ideFailed e :), (congrArg HostPort.ideKeys e :)⟩

theorem State.memServes_of_ideFailed {s : State} (h : s.port.ideFailed = true) : s.memServes = false := by
  rw [Bool.eq_false_iff]
  intro serves
  obtain ⟨-, -, sound, -⟩ := s.memServes_iff.mp serves
  rw [h] at sound
  cases sound

theorem ideIntegrityFailure_answers {s : State} (h : s.port.ideSecure = true) (up : s.seq.coreUp = true) :
    Answers .ideIntegrityFailure s fun t =>
      t.port.ideSecure = false ∧ t.port.ideFailed = true ∧ t.port.ideKeys = 0
        ∧ bit (t.reg Reg.FC_STATUS) Src.CXL_MEM = true ∧ t.memServes = false
        ∧ s.SameBut t [.out, .regs, .freeCtr, .rec_, .fc, .port, .mir] := by
  refine ⟨_, rfl, ?_⟩
  rw [if_pos (show s.begin.port.ideSecure = true from h)]
  generalize hu : (s.begin.onPort fun h => { h with ideSecure := false, ideFailed := true, ideKeys := 0 }) = u
  have before : s.SameBut u [.out, .port] := hu ▸ s.begin_same.widen.next (State.onPort_same _ _)
  have dropped : u.port.ideSecure = false ∧ u.port.ideFailed = true ∧ u.port.ideKeys = 0 := hu ▸ ⟨rfl, rfl, rfl⟩
  have core : u.seq.coreUp = true := by rw [show u.seq = s.seq from before .seq (by decide)]; exact up
  obtain ⟨secure, failed, keys⟩ := HostPort.ideFields_of_bare (u.fault_bare Src.CXL_MEM .contained 0 false [])
  rw [← failed] at dropped
  exact ⟨secure.trans dropped.1, dropped.2.1, keys.trans dropped.2.2, State.fault_status _ _ _ _ _ (by decide) core,
    State.memServes_of_ideFailed dropped.2.1, before.widen.next (State.fault_same _ _ _ _ _ _)⟩

/-! ### What a request meets and what its answer changes (R73) -/

theorem State.spdm_up {via : SpdmVia} {s : State} (h : s.spdmUp via = true) : ¬(!s.begin.spdmUp via) = true := by
  rw [show s.begin.spdmUp via = true from h]
  decide

/-- A stage of the connection that has been reached. -/
theorem not_of_reached {b : Bool} (h : b = true) : ¬(!b) = true := by rw [h]; decide

theorem State.begin_spdmRsp_same (s : State) (code : Nat) (l : List Nat) : s.SameBut (s.begin.spdmRsp code l) [.out] :=
  s.begin_same.trans (State.emit_same _ _)

/-- An answer alone. -/
theorem State.begin_spdmRsp (s : State) (code : Nat) (l : List Nat) :
    (s.begin.spdmRsp code l).out = [.spdm code l] ∧ s.SameBut (s.begin.spdmRsp code l) [.out] :=
  ⟨rfl, s.begin_spdmRsp_same code l⟩

theorem State.begin_onPort_spdmRsp_same (s : State) (f : HostPort → HostPort) (code : Nat) (l : List Nat) :
    s.SameBut ((s.begin.onPort f).spdmRsp code l) [.out, .port] :=
  (s.begin_same.widen.next (State.onPort_same _ _)).next (State.emit_same _ _)

/-! ### CXL_IDE_KM (R70) -/

theorem cxlIdeKm_keyProg {n : Nat} {s : State} (up : s.spdmUp .doe = true) (live : s.port.spdm.live .doe n = true) :
    Answers (.cxlIdeKm n (.keyProg true 0) .doe) s fun t =>
      t.port.ideKeys = s.port.ideKeys + 1 ∧ t.out = [.spdm 0x7E [n, 0]] ∧ s.SameBut t [.out, .port] := by
  have secured : ¬(SpdmVia.doe ≠ .doe ∨ (!s.begin.port.spdm.live .doe n) = true) := by
    rw [show s.begin.port.spdm.live .doe n = true from live]
    decide
  refine ⟨_, rfl, ?_⟩
  rw [if_neg (State.spdm_up up), if_neg secured]
  exact ⟨rfl, rfl, s.begin_onPort_spdmRsp_same _ _ _⟩

theorem cxlIdeKm_setGo {n : Nat} (k : Bool) {s : State} (up : s.spdmUp .doe = true) (live : s.port.spdm.live .doe n = true)
    (keys : s.port.ideKeys ≠ 0) :
    Answers (.cxlIdeKm n (.setGo true 0 k) .doe) s fun t =>
      t.port.ideSecure = true ∧ t.port.ideFailed = false ∧ t.port.ideSkid = k ∧ s.SameBut t [.out, .port] := by
  have secured : ¬(SpdmVia.doe ≠ .doe ∨ (!s.begin.port.spdm.live .doe n) = true) := by
    rw [show s.begin.port.spdm.live .doe n = true from live]
    decide
  refine ⟨_, rfl, ?_⟩
  rw [if_neg (State.spdm_up up), if_neg secured]
  dsimp only
  rw [if_neg (by simpa using keys)]
  exact ⟨rfl, rfl, rfl, s.begin_onPort_spdmRsp_same _ _ _⟩

theorem cxlIdeKm_unsecured {via : SpdmVia} {n : Nat} (m : IdeMsg) {s : State} (up : s.spdmUp via = true)
    (outside : via ≠ .doe ∨ s.port.spdm.live via n = false) :
    Answers (.cxlIdeKm n m via) s fun t => t.out = [.spdm 0x7F [2]] ∧ s.SameBut t [.out] := by
  have bars : via ≠ .doe ∨ (!s.begin.port.spdm.live via n) = true := outside.imp_right fun dead => by
    rw [show s.begin.port.spdm.live via n = false from dead]
    rfl
  refine ⟨_, rfl, ?_⟩
  rw [if_neg (State.spdm_up up), if_pos bars]
  exact s.begin_spdmRsp _ _

/-! ### The connection (R73) -/

theorem Spdm.conn_setConn (x : Spdm) (via v : SpdmVia) (c : SpdmConn) :
    (x.setConn via c).conn v = if v = via then c else x.conn v := by
  cases via <;> cases v <;> rfl

theorem Spdm.conn_setConn_same (x : Spdm) (via : SpdmVia) (c : SpdmConn) : (x.setConn via c).conn via = c :=
  (x.conn_setConn via via c).trans (if_pos rfl)

theorem Spdm.conn_setConn_ne (x : Spdm) (c : SpdmConn) {via v : SpdmVia} (h : v ≠ via) : (x.setConn via c).conn v = x.conn v :=
  (x.conn_setConn via v c).trans (if_neg h)

theorem getVersion_answers {via : SpdmVia} {s : State} (up : s.spdmUp via = true) :
    Answers (.getVersion via) s fun t =>
      (t.port.spdm.conn via).version = true ∧ (t.port.spdm.conn via).algorithms = false
        ∧ (∀ q ∈ t.port.spdm.sessions, q.via ≠ via) ∧ s.SameBut t [.out, .port] := by
  have fresh : (({ s.port.spdm.setConn via { version := true } with
      sessions := s.port.spdm.sessions.filter fun q => decide (q.via ≠ via) } : Spdm).conn via) = { version := true } := by
    cases via <;> rfl
  refine ⟨_, rfl, ?_⟩
  rw [if_pos (show s.begin.spdmUp via = true from up)]
  refine ⟨congrArg SpdmConn.version fresh, congrArg SpdmConn.algorithms fresh, fun q listed => ?_,
    s.begin_onPort_spdmRsp_same _ _ _⟩
  exact of_decide_eq_true (List.mem_filter.mp listed).2

theorem getCapabilities_answers {via : SpdmVia} {s : State} (up : s.spdmUp via = true)
    (version : (s.port.spdm.conn via).version = true) :
    Answers (.getCapabilities via) s fun t =>
      t.port.spdm.conn via = { s.port.spdm.conn via with capabilities := true }
        ∧ (∀ v, v ≠ via → t.port.spdm.conn v = s.port.spdm.conn v) ∧ s.SameBut t [.out, .port] := by
  refine ⟨_, rfl, ?_⟩
  rw [if_neg (State.spdm_up up), if_neg (not_of_reached (b := (s.begin.port.spdm.conn via).version) version)]
  exact ⟨Spdm.conn_setConn_same _ _ _, fun v other => Spdm.conn_setConn_ne _ _ other, s.begin_onPort_spdmRsp_same _ _ _⟩

theorem negotiateAlgorithms_answers {via : SpdmVia} {s : State} (up : s.spdmUp via = true)
    (capabilities : (s.port.spdm.conn via).capabilities = true) :
    Answers (.negotiateAlgorithms true via) s fun t =>
      t.port.spdm.conn via = { s.port.spdm.conn via with algorithms := true }
        ∧ (∀ v, v ≠ via → t.port.spdm.conn v = s.port.spdm.conn v) ∧ s.SameBut t [.out, .port] := by
  refine ⟨_, rfl, ?_⟩
  rw [if_neg (State.spdm_up up), if_neg (not_of_reached (b := (s.begin.port.spdm.conn via).capabilities) capabilities),
    if_neg (by decide)]
  exact ⟨Spdm.conn_setConn_same _ _ _, fun v other => Spdm.conn_setConn_ne _ _ other, s.begin_onPort_spdmRsp_same _ _ _⟩

/-! ### Digests, certificates, challenges and measurements (R73) -/

theorem State.spdm_negotiated {via : SpdmVia} {s : State} (h : (s.port.spdm.conn via).algorithms = true) :
    ¬(!(s.begin.port.spdm.conn via).algorithms) = true := not_of_reached h

theorem State.begin_certSlots (s : State) : s.begin.certSlots = s.certSlots := rfl

theorem getDigests_answers {via : SpdmVia} {s : State} (up : s.spdmUp via = true)
    (algorithms : (s.port.spdm.conn via).algorithms = true) :
    Answers (.getDigests via) s fun t =>
      t.out = [.spdm 1 (maskOf s.certSlots :: s.certSlots.map Config.certDigest)] ∧ s.SameBut t [.out] := by
  refine ⟨_, rfl, ?_⟩
  rw [if_neg (State.spdm_up up), if_neg (State.spdm_negotiated algorithms), s.begin_certSlots]
  exact s.begin_spdmRsp _ _

theorem getDigests_unexpected {via : SpdmVia} {s : State} (up : s.spdmUp via = true)
    (algorithms : (s.port.spdm.conn via).algorithms = false) :
    Answers (.getDigests via) s fun t => t.out = [.spdm 0x7F [4]] ∧ s.SameBut t [.out] := by
  refine ⟨_, rfl, ?_⟩
  rw [if_neg (State.spdm_up up), if_pos (by rw [show (s.begin.port.spdm.conn via).algorithms = false from algorithms]; rfl)]
  exact s.begin_spdmRsp _ _

theorem State.begin_holdsChain {s : State} {k : Nat} (h : k ∈ s.certSlots) : s.begin.certSlots.contains k = true := by
  rw [s.begin_certSlots]
  exact List.contains_iff_mem.mpr h

theorem getCertificate_answers {via : SpdmVia} {k : Nat} {s : State} (up : s.spdmUp via = true)
    (algorithms : (s.port.spdm.conn via).algorithms = true) (chain : k ∈ s.certSlots) :
    Answers (.getCertificate k via) s fun t => t.out = [.spdm 2 [k, Config.certDigest k]] ∧ s.SameBut t [.out] := by
  refine ⟨_, rfl, ?_⟩
  rw [if_neg (State.spdm_up up), if_neg (State.spdm_negotiated algorithms), if_pos (State.begin_holdsChain chain)]
  exact s.begin_spdmRsp _ _

theorem challenge_answers {via : SpdmVia} {k : Nat} {s : State} (up : s.spdmUp via = true)
    (algorithms : (s.port.spdm.conn via).algorithms = true) (chain : k ∈ s.certSlots) :
    Answers (.challenge k via) s fun t =>
      (∃ sig, t.out = [.spdm 3 [k, Config.certDigest k, sig]]) ∧ s.SameBut t [.out, .freeCtr] := by
  refine ⟨_, rfl, ?_⟩
  rw [if_neg (State.spdm_up up), if_neg (State.spdm_negotiated algorithms), if_pos (State.begin_holdsChain chain)]
  exact ⟨⟨_, rfl⟩, (s.begin_same.widen.next (s.begin.free_same 0x83)).next (State.emit_same _ _)⟩

theorem getMeasurements_answers {via : SpdmVia} {n : Nat} {s : State} (up : s.spdmUp via = true)
    (algorithms : (s.port.spdm.conn via).algorithms = true) (low : 1 ≤ n) (high : n ≤ 5) :
    Answers (.getMeasurements n via) s fun t =>
      (∃ m, t.out = [.spdm 0x60 [1, n, m]]) ∧ s.SameBut t [.out, .freeCtr] := by
  refine ⟨_, rfl, ?_⟩
  rw [if_neg (State.spdm_up up), if_neg (State.spdm_negotiated algorithms), if_neg (by omega), if_pos (.inl high),
    if_neg (by omega)]
  dsimp only [List.length_singleton]
  rw [State.freeWords_one]
  refine ⟨⟨_, rfl⟩, (s.begin_same.widen.next (s.begin.free_same 0xE0)).next (State.emit_same _ _)⟩

/-! ### Sessions (R73) -/

theorem keyExchange_answers {via : SpdmVia} {k : Nat} {s : State} (up : s.spdmUp via = true)
    (algorithms : (s.port.spdm.conn via).algorithms = true) (chain : k ∈ s.certSlots) (room : s.port.spdm.sessions.length < 4) :
    Answers (.keyExchange k via) s fun t =>
      t.port.spdm.sessions = s.port.spdm.sessions ++ [{ id := s.port.spdm.nextId, via := via }]
        ∧ t.out = [.spdm 0x64 [s.port.spdm.nextId]] ∧ s.SameBut t [.out, .port] := by
  refine ⟨_, rfl, ?_⟩
  rw [if_neg (State.spdm_up up), if_neg (State.spdm_negotiated algorithms),
    if_neg (not_of_reached (State.begin_holdsChain chain)),
    if_neg (show ¬4 ≤ s.begin.port.spdm.sessions.length from Nat.not_le.mpr room)]
  exact ⟨rfl, rfl, s.begin_onPort_spdmRsp_same _ _ _⟩

theorem Spdm.live_iff (x : Spdm) (via : SpdmVia) (n : Nat) :
    x.live via n = true ↔ ∃ q ∈ x.sessions, q.id = n ∧ q.via = via ∧ q.established = true := by
  simp [Spdm.live, and_assoc]

theorem finish_answers {via : SpdmVia} {n : Nat} {s : State} (up : s.spdmUp via = true)
    (opened : ∃ q ∈ s.port.spdm.sessions, q.id = n ∧ q.via = via ∧ q.established = false) :
    Answers (.finish n via) s fun t =>
      t.port.spdm.live via n = true ∧ t.out = [.spdm 0x65 [n]] ∧ s.SameBut t [.out, .port] := by
  obtain ⟨q, listed, id, mine, waiting⟩ := opened
  have found : (s.begin.port.spdm.sessions.any fun q => q.id == n && decide (q.via = via) && !q.established) = true :=
    List.any_eq_true.mpr ⟨q, listed, by simp [id, mine, waiting]⟩
  refine ⟨_, rfl, ?_⟩
  rw [if_neg (State.spdm_up up), if_neg (not_of_reached found)]
  refine ⟨(Spdm.live_iff _ _ _).mpr ⟨{ q with established := true }, ?_, id, mine, rfl⟩, rfl, s.begin_onPort_spdmRsp_same _ _ _⟩
  exact List.mem_map.mpr ⟨q, listed, if_pos id⟩

theorem heartbeat_answers {via : SpdmVia} {n : Nat} {s : State} (up : s.spdmUp via = true)
    (live : s.port.spdm.live via n = true) :
    Answers (.heartbeat n via) s fun t => t.out = [.spdm 0x68 [n]] ∧ s.SameBut t [.out] := by
  refine ⟨_, rfl, ?_⟩
  rw [if_neg (State.spdm_up up), if_pos (show s.begin.port.spdm.live via n = true from live)]
  exact s.begin_spdmRsp _ _

theorem keyUpdate_answers {via : SpdmVia} {n : Nat} {s : State} (up : s.spdmUp via = true)
    (live : s.port.spdm.live via n = true) :
    Answers (.keyUpdate n via) s fun t =>
      t.port.spdm.sessions = (s.port.spdm.sessions.map fun q => if q.id = n then { q with keyGen := q.keyGen + 1 } else q)
        ∧ s.SameBut t [.out, .port] := by
  refine ⟨_, rfl, ?_⟩
  rw [if_neg (State.spdm_up up), if_neg (not_of_reached (b := s.begin.port.spdm.live via n) live)]
  exact ⟨rfl, s.begin_onPort_spdmRsp_same _ _ _⟩

/-- Without the sessions of a number that number's are dead and the others as they were. -/
theorem Spdm.live_filter (x : Spdm) (v : SpdmVia) (n m : Nat) :
    ({ x with sessions := x.sessions.filter fun q => q.id != n } : Spdm).live v m = (decide (m ≠ n) && x.live v m) := by
  rw [Bool.eq_iff_iff, Bool.and_eq_true, decide_eq_true_eq, Spdm.live_iff, Spdm.live_iff]
  simp only [List.mem_filter, bne_iff_ne]
  constructor
  · rintro ⟨q, ⟨listed, other⟩, rfl, mine, done⟩
    exact ⟨other, q, listed, rfl, mine, done⟩
  · rintro ⟨other, q, listed, rfl, mine, done⟩
    exact ⟨q, ⟨listed, other⟩, rfl, mine, done⟩

theorem endSession_answers {via : SpdmVia} {n : Nat} {s : State} (up : s.spdmUp via = true)
    (live : s.port.spdm.live via n = true) :
    Answers (.endSession n via) s fun t =>
      t.port.spdm.live via n = false ∧ (∀ v m, m ≠ n → t.port.spdm.live v m = s.port.spdm.live v m)
        ∧ s.SameBut t [.out, .port] := by
  refine ⟨_, rfl, ?_⟩
  rw [if_neg (State.spdm_up up), if_neg (not_of_reached (b := s.begin.port.spdm.live via n) live)]
  refine ⟨?_, fun v m other => ?_, s.begin_onPort_spdmRsp_same _ _ _⟩
  · exact (Spdm.live_filter s.port.spdm via n n).trans (by simp)
  · exact (Spdm.live_filter s.port.spdm v n m).trans (by simp [other])

/-- Settles O8: each request's rule by the stage of its connection or session that it needs and the part of the responder that
it writes. -/
theorem ide_and_spdm : Obligations.Ide_and_spdm := by
  unfold Obligations.Ide_and_spdm
  exact ⟨fun s h up => ideIntegrityFailure_answers h up, fun n s up live => cxlIdeKm_keyProg up live,
    fun n k s up live keys => cxlIdeKm_setGo k up live keys, fun via n m s up outside => cxlIdeKm_unsecured m up outside,
    fun via s up => getVersion_answers up, fun via s up version => getCapabilities_answers up version,
    fun via s up capabilities => negotiateAlgorithms_answers up capabilities,
    fun via s up algorithms => getDigests_answers up algorithms,
    fun via k s up algorithms chain => getCertificate_answers up algorithms chain,
    fun via k s up algorithms chain => challenge_answers up algorithms chain,
    fun via n s up algorithms low high => getMeasurements_answers up algorithms low high,
    fun via s up algorithms => getDigests_unexpected up algorithms,
    fun via k s up algorithms chain room => keyExchange_answers up algorithms chain room,
    fun via n s up opened => finish_answers up opened, fun via n s up live => heartbeat_answers up live,
    fun via n s up live => keyUpdate_answers up live, fun via n s up live => endSession_answers up live⟩

end Sys2Proof.Machine
end

section
/-! PROOFS. Dynamic Capacity: extents offered, accepted, declined and released (O12). -/

namespace Sys2Proof.Machine

/-! ### Standings under their keys (R54) -/

theorem extKey_inj {ld e k n : Nat} (he : e < 8192) (hn : n < 8192) (h : extKey k n = extKey ld e) : k = ld ∧ n = e := by
  unfold extKey at h
  omega

theorem extKey_div {ld e : Nat} (h : e < 8192) : extKey ld e / 8192 = ld := by unfold extKey; omega

theorem extKey_mod {ld e : Nat} (h : e < 8192) : extKey ld e % 8192 = e := by unfold extKey; omega

/-- A change of the standings that keeps their keys changes the one found. -/
theorem find?_map_keyed {α : Type} (g : Nat × α → Nat × α) (h : ∀ p, (g p).1 = p.1) (l : List (Nat × α)) (k : Nat) :
    ((l.map g).find? fun p => p.1 == k) = (l.find? fun p => p.1 == k).map g := by
  have keys : ((fun p : Nat × α => p.1 == k) ∘ g) = fun p => p.1 == k := funext fun p => congrArg (· == k) (h p)
  rw [List.find?_map, keys]

/-- The entry that an extent's standing is read from. -/
theorem State.extState_entry {s : State} {ld e : Nat} {x : ExtState} (h : s.extState ld e = some x) :
    (s.port.extents.find? fun p => p.1 == extKey ld e) = some (extKey ld e, x) := by
  obtain ⟨p, found, rfl⟩ := Option.map_eq_some_iff.mp h
  have key : p.1 = extKey ld e := by simpa using List.find?_some found
  rw [found, ← key]

theorem State.extState_map {s t : State} {ld e : Nat} {x : ExtState} {g : Nat × ExtState → Nat × ExtState}
    (h : s.extState ld e = some x) (k : t.port.extents = s.port.extents.map g) (keys : ∀ p, (g p).1 = p.1) :
    t.extState ld e = some (g (extKey ld e, x)).2 := by
  unfold State.extState
  rw [k, find?_map_keyed g keys, State.extState_entry h]
  rfl

/-! ### The offers (R54) -/

/-- One extent offered, with its record in the Dynamic Capacity log. -/
def State.offerOne (s : State) (ld e : Nat) (more : Bool) : State :=
  (s.onPort fun h => { h with extents := mput (extKey ld e) .offered h.extents, dcTag := h.dcTag + 1 }).dcRecord ld
    { event := 0, seq := 0, state := s.dev.code, sev := 0, kind := 4, addr := e, more := more, handle := s.port.dcTag + 1 }

theorem State.offerGroup_eq (s : State) (ld : Nat) (es : List Nat) :
    s.offerGroup ld es = es.zipIdx.foldl (fun s p => s.offerOne ld p.1 (decide (p.2 + 1 < es.length))) s := rfl

theorem State.offerOne_same (s : State) (ld e : Nat) (more : Bool) : s.SameBut (s.offerOne ld e more) [.out, .port] :=
  (s.onPort_same _).widen.next (State.dcRecord_same _ _ _)

theorem State.offerOne_bare (s : State) (ld e : Nat) (more : Bool) :
    (s.offerOne ld e more).port.bare
      = { s.port with extents := mput (extKey ld e) .offered s.port.extents, dcTag := s.port.dcTag + 1 }.bare := by
  unfold State.offerOne State.dcRecord
  rw [State.logMsix_bare, State.logPut_bare]
  rfl

theorem State.offerGroup_same (s : State) (ld : Nat) (es : List Nat) : s.SameBut (s.offerGroup ld es) [.out, .port] := by
  rw [State.offerGroup_eq]
  exact .foldl (fun (s : State) (p : Nat × Nat) => s.offerOne ld p.1 (decide (p.2 + 1 < es.length)))
    (fun s p => s.offerOne_same ld p.1 _) _ s

theorem State.offerLd_same (ld : Nat) : ∀ (f : Nat) (s : State), s.SameBut (s.offerLd ld f) [.out, .port]
  | 0, s => .refl s _
  | f + 1, s => by
    have group (t : State) (l : List Nat) : t.SameBut ((t.offerGroup ld l).offerLd ld f) [.out, .port] :=
      (t.offerGroup_same ld l).trans (offerLd_same ld f _)
    have kept : s.SameBut s [.out, .port] := .refl s _
    unfold State.offerLd
    dsimp only
    refine .ite kept (.ite (.ite (group s _) kept) ?_)
    split
    · split
      · exact kept
      · exact (s.onPort_same _).widen.trans (group _ _)
    · exact kept

theorem State.offer_same (s : State) : s.SameBut s.offer [.out, .port] :=
  .ite (.refl s _) (.foldl _ (fun s ld => s.offerLd_same ld _) _ s)

/-! ### An extent's standing through the offers -/

/-- An extent's standing that no offer changes: no extent to be offered has its key, either because it does not wait to be
offered again, or because extents declined are not offered while some extent is not online. -/
structure State.Stands (s : State) (ld e : Nat) (x : ExtState) : Prop where
  standing : s.extState ld e = some x
  order : ∀ n ∈ s.sip.order, n < 8192
  reoffer : ∀ k, ∀ n ∈ mget [] s.port.reoffer k, n < 8192
  barred : s.port.online.length ≠ s.extents ∨ e ∉ mget [] s.port.reoffer ld

theorem State.offerOne_stands {s : State} {ld e : Nat} {x : ExtState} (h : s.Stands ld e x) (he : e < 8192) {k n : Nat}
    (hn : n < 8192) (other : ¬(k = ld ∧ n = e)) (more : Bool) : (s.offerOne k n more).Stands ld e x := by
  have same := s.offerOne_same k n more
  have bare := s.offerOne_bare k n more
  have extents : (s.offerOne k n more).port.extents = mput (extKey k n) .offered s.port.extents :=
    (congrArg HostPort.extents bare :)
  have reoffer : (s.offerOne k n more).port.reoffer = s.port.reoffer := (congrArg HostPort.reoffer bare :)
  have online : (s.offerOne k n more).port.online = s.port.online := (congrArg HostPort.online bare :)
  have volume : (s.offerOne k n more).port.volGiB = s.port.volGiB := (congrArg HostPort.volGiB bare :)
  have basin : (s.offerOne k n more).basin = s.basin := same .basin (by decide)
  have sip : (s.offerOne k n more).sip = s.sip := same .sip (by decide)
  have number : (s.offerOne k n more).extents = s.extents := by
    unfold State.extents State.volBytes
    rw [basin, volume]
  refine ⟨?_, by rw [sip]; exact h.order, by rw [reoffer]; exact h.reoffer, by rw [online, number, reoffer]; exact h.barred⟩
  unfold State.extState
  rw [extents, find?_mput, if_neg fun key => other (extKey_inj he hn key)]
  exact h.standing

theorem State.offerGroup_stands {s : State} {ld e : Nat} {x : ExtState} (h : s.Stands ld e x) (he : e < 8192) {k : Nat}
    {es : List Nat} (hes : ∀ n ∈ es, n < 8192 ∧ ¬(k = ld ∧ n = e)) : (s.offerGroup k es).Stands ld e x := by
  rw [State.offerGroup_eq]
  refine List.foldlRecOn (motive := fun t : State => t.Stands ld e x) _ _ h fun t ht p listed => ?_
  obtain ⟨low, other⟩ := hes p.1 (List.fst_mem_of_mem_zipIdx listed)
  exact State.offerOne_stands ht he low other _

/-- An extent that stands is not among those to be offered first. -/
theorem State.Stands.unoffered {s : State} {ld e : Nat} {x : ExtState} (h : s.Stands ld e x) (k : Nat) :
    ∀ n ∈ s.unoffered k, n < 8192 ∧ ¬(k = ld ∧ n = e) := by
  intro n listed
  obtain ⟨ordered, new⟩ := List.mem_filter.mp listed
  refine ⟨h.order n ordered, ?_⟩
  rintro ⟨rfl, rfl⟩
  simp [h.standing] at new

/-- The extents of a logical device that wait to be offered again, but for the first ones. -/
def State.dropReoffer (s : State) (ld n : Nat) : State :=
  s.onPort fun h => { h with reoffer := mput ld ((mget [] h.reoffer ld).drop n) h.reoffer }

theorem State.dropReoffer_stands {s : State} {ld e : Nat} {x : ExtState} (h : s.Stands ld e x) (k n : Nat) :
    (s.dropReoffer k n).Stands ld e x := by
  have fewer (j : Nat) : mget [] (s.dropReoffer k n).port.reoffer j ⊆ mget [] s.port.reoffer j := by
    unfold State.dropReoffer
    rw [State.onPort_port]
    by_cases own : j = k
    · subst own
      rw [mget_mput_same]
      exact List.drop_subset _ _
    · rw [mget_mput_ne _ _ _ _ _ own]
      exact List.Subset.refl _
  exact ⟨h.standing, h.order, fun j m listed => h.reoffer j m (fewer j listed),
    h.barred.imp_right fun absent listed => absent (fewer ld listed)⟩

theorem State.offerLd_stands {ld e : Nat} {x : ExtState} (he : e < 8192) (k : Nat) :
    ∀ (f : Nat) (s : State), s.Stands ld e x → (s.offerLd k f).Stands ld e x
  | 0, _, h => h
  | f + 1, s, h => by
    have first (n : Nat) : ((s.offerGroup k ((s.unoffered k).take n)).offerLd k f).Stands ld e x :=
      offerLd_stands he k f _ (State.offerGroup_stands h he fun m listed => h.unoffered k m (List.mem_of_mem_take listed))
    unfold State.offerLd
    dsimp only
    split
    · exact h
    split
    · split
      · exact first _
      · exact h
    split
    · rename_i all
      generalize taken : List.take _ _ = es
      have waits (m : Nat) (listed : m ∈ es) : m ∈ mget [] s.port.reoffer k := List.mem_of_mem_take (taken ▸ listed)
      have next : (((s.dropReoffer k es.length).offerGroup k es).offerLd k f).Stands ld e x := by
        refine offerLd_stands he k f _ (State.offerGroup_stands (State.dropReoffer_stands h k es.length) he fun m listed =>
          ⟨h.reoffer k m (waits m listed), ?_⟩)
        rintro ⟨rfl, rfl⟩
        exact h.barred.elim (fun some => some (of_decide_eq_true all)) fun absent => absent (waits _ listed)
      cases es with
      | nil => exact h
      | cons m es => exact next
    · exact h

theorem State.offer_stands {s : State} {ld e : Nat} {x : ExtState} (h : s.Stands ld e x) (he : e < 8192) :
    s.offer.extState ld e = some x := by
  unfold State.offer
  split
  · exact h.standing
  · exact (List.foldlRecOn (motive := fun t : State => t.Stands ld e x) s.lds _ h fun t ht k _ =>
      State.offerLd_stands he k _ t ht).standing

end Sys2Proof.Machine
end

section
/-! PROOFS. Dynamic Capacity, logical devices, decoders and DOE: the commands (O12). -/

namespace Sys2Proof.Machine

/-! ### The host's answers (R54, R55, Table 2-5) -/

/-- The standing of an extent after its host's answer. -/
def answerOf (ld : Nat) (acc dec : List Nat) (p : Nat × ExtState) : Nat × ExtState :=
  if p.1 / 8192 ≠ ld then p
  else if acc.contains (p.1 % 8192) then (p.1, .accepted)
  else if dec.contains (p.1 % 8192) then (p.1, .declined) else p

theorem answerOf_key (ld : Nat) (acc dec : List Nat) (p : Nat × ExtState) : (answerOf ld acc dec p).1 = p.1 := by
  unfold answerOf
  repeat' split
  all_goals rfl

theorem answerOf_accepted {ld e : Nat} {acc : List Nat} (he : e < 8192) (listed : e ∈ acc) (dec : List Nat) (x : ExtState) :
    (answerOf ld acc dec (extKey ld e, x)).2 = .accepted := by
  simp [answerOf, extKey_div he, extKey_mod he, listed]

theorem answerOf_declined {ld e : Nat} {acc dec : List Nat} (he : e < 8192) (other : e ∉ acc) (listed : e ∈ dec) (x : ExtState) :
    (answerOf ld acc dec (extKey ld e, x)).2 = .declined := by
  simp [answerOf, extKey_div he, extKey_mod he, other, listed]

/-- The extents after their host's answer, those declined waiting to be offered again. -/
def State.answerExtents (s : State) (ld : Nat) (acc dec : List Nat) : State := s.onPort fun h => { h with
  extents := h.extents.map (answerOf ld acc dec)
  reoffer := if dec = [] then h.reoffer else mput ld (mget [] h.reoffer ld ++ dec) h.reoffer }

theorem State.answerExtents_reoffer (s : State) (ld : Nat) (acc dec : List Nat) (k : Nat) :
    mget [] (s.answerExtents ld acc dec).port.reoffer k
      = if k = ld then mget [] s.port.reoffer ld ++ dec else mget [] s.port.reoffer k := by
  unfold State.answerExtents
  rw [State.onPort_port]
  dsimp only
  by_cases none : dec = []
  · rw [if_pos none]
    split <;> simp_all
  · rw [if_neg none]
    split
    · rename_i own
      rw [own, mget_mput_same]
    · rename_i other
      exact mget_mput_ne _ _ _ _ _ other

theorem State.dcAnswer_success {s : State} {ld : Nat} {acc dec : List Nat} (mode : s.port.whole = false)
    (offered : ∀ e ∈ acc ++ dec, s.extState ld e = some .offered) :
    s.dcAnswer ld acc dec = (.success, (s.answerExtents ld acc dec).offer) := by
  have known : ¬((acc ++ dec).any fun e => s.extState ld e != some .offered) = true := by
    rw [Bool.not_eq_true, List.any_eq_false]
    intro e listed
    simp [offered e listed]
  unfold State.dcAnswer
  rw [if_neg (by rw [mode]; decide), if_neg known]
  rfl

theorem State.dcAnswer_invalid {s : State} {ld : Nat} {acc dec : List Nat} (mode : s.port.whole = false)
    (unknown : ∃ e ∈ acc ++ dec, s.extState ld e ≠ some .offered) : s.dcAnswer ld acc dec = (.invalidExtentList, s) := by
  obtain ⟨e, listed, other⟩ := unknown
  have some : ((acc ++ dec).any fun e => s.extState ld e != some .offered) = true :=
    List.any_eq_true.mpr ⟨e, listed, by simpa using other⟩
  unfold State.dcAnswer
  rw [if_neg (by rw [mode]; decide), if_pos some]

theorem addDynamicCapacityResponse_invalid {c : Cxl} {acc dec : List Nat} {s : State} (h : s.stdReaches c = true)
    (r : s.restricted = false) (mode : s.port.whole = false) (unknown : ∃ e ∈ acc ++ dec, s.extState c.ld e ≠ some .offered) :
    Answers (.addDynamicCapacityResponse c acc dec) s fun t => t.out = [.cxl 0x4802 0x1E []] ∧ s.SameBut t [.out] := by
  refine ⟨_, rfl, ?_⟩
  rw [State.stdFull_open h r, State.dcAnswer_invalid (s := s.begin) mode unknown]
  exact ⟨rfl, s.begin_cxlRet_same _ _ _⟩

/-- Where the host's answer leaves an extent's standing, the offers that follow keep it. -/
theorem State.answerExtents_stands {s : State} {ld e : Nat} {acc dec : List Nat} {x y : ExtState}
    (standing : s.extState ld e = some x) (answer : (answerOf ld acc dec (extKey ld e, x)).2 = y)
    (low : ∀ n ∈ dec, n < 8192) (order : ∀ n ∈ s.sip.order, n < 8192) (reoffer : ∀ k, ∀ n ∈ mget [] s.port.reoffer k, n < 8192)
    (barred : s.port.online.length ≠ s.extents ∨ (e ∉ mget [] s.port.reoffer ld ∧ e ∉ dec)) :
    (s.answerExtents ld acc dec).Stands ld e y := by
  refine ⟨?_, order, fun k n listed => ?_, ?_⟩
  · rw [← answer]
    exact State.extState_map standing rfl (answerOf_key ld acc dec)
  · rw [State.answerExtents_reoffer] at listed
    split at listed
    · exact (List.mem_append.mp listed).elim (reoffer ld n) (low n)
    · exact reoffer k n listed
  · rw [State.answerExtents_reoffer, if_pos rfl, List.mem_append, not_or]
    exact barred

theorem addDynamicCapacityResponse_answers {c : Cxl} {acc dec : List Nat} {s : State} (h : s.stdReaches c = true)
    (r : s.restricted = false) (mode : s.port.whole = false)
    (offered : ∀ e ∈ acc ++ dec, e < 8192 ∧ s.extState c.ld e = some .offered) (disjoint : ∀ e ∈ acc, e ∉ dec)
    (order : ∀ e ∈ s.sip.order, e < 8192)
    (reoffer : ∀ k, ∀ e ∈ mget [] s.port.reoffer k, e < 8192 ∧ (k = c.ld → e ∉ acc)) :
    Answers (.addDynamicCapacityResponse c acc dec) s fun t =>
      (∀ e ∈ acc, t.extState c.ld e = some .accepted)
        ∧ (s.port.online.length ≠ s.extents → ∀ e ∈ dec, t.extState c.ld e = some .declined)
        ∧ .cxl 0x4802 0 [] ∈ t.out ∧ s.SameBut t [.out, .port] := by
  have low : ∀ n ∈ dec, n < 8192 := fun n listed => (offered n (List.mem_append_right _ listed)).1
  refine ⟨_, rfl, ?_⟩
  rw [State.stdFull_open h r, State.dcAnswer_success (s := s.begin) mode fun e listed => (offered e listed).2]
  refine ⟨fun e listed => ?_, fun some e listed => ?_, State.cxlRet_mem _ _ _ _, ?_⟩
  · obtain ⟨small, standing⟩ := offered e (List.mem_append_left _ listed)
    exact State.offer_stands (State.answerExtents_stands (s := s.begin) standing (answerOf_accepted small listed dec _) low order
      (fun k n wait => (reoffer k n wait).1) (.inr ⟨fun wait => (reoffer c.ld e wait).2 rfl listed, disjoint e listed⟩)) small
  · obtain ⟨small, standing⟩ := offered e (List.mem_append_right _ listed)
    exact State.offer_stands (State.answerExtents_stands (s := s.begin) standing
      (answerOf_declined small (fun both => disjoint e both listed) listed _) low order
      (fun k n wait => (reoffer k n wait).1) (.inl some)) small
  · exact ((s.begin_same.widen.next (State.onPort_same _ _)).trans (State.offer_same _)).next (State.emit_same _ _)

/-- The standing of an extent after its release. -/
def releaseOf (ld : Nat) (es : List Nat) (p : Nat × ExtState) : Nat × ExtState :=
  if p.1 / 8192 = ld ∧ es.contains (p.1 % 8192) then (p.1, .released) else p

theorem releaseOf_key (ld : Nat) (es : List Nat) (p : Nat × ExtState) : (releaseOf ld es p).1 = p.1 := by
  unfold releaseOf
  split <;> rfl

theorem State.dcRelease_success {s : State} {ld : Nat} {es : List Nat} (mode : s.port.whole = false)
    (accepted : ∀ e ∈ es, s.extState ld e = some .accepted) :
    s.dcRelease ld es = (.success, s.onPort fun h => { h with extents := s.port.extents.map (releaseOf ld es) }) := by
  have known : ¬(es.any fun e => s.extState ld e != some .accepted) = true := by
    rw [Bool.not_eq_true, List.any_eq_false]
    intro e listed
    simp [accepted e listed]
  unfold State.dcRelease
  rw [if_neg (by rw [mode]; decide), if_neg known]
  rfl

theorem State.extServed_of_released {s : State} {ld e : Nat} (mode : s.port.whole = false)
    (h : s.extState ld e = some .released) : s.extServed ld e = false := by
  simp [State.extServed, mode, h]

theorem releaseDynamicCapacity_answers {c : Cxl} {es : List Nat} {s : State} (h : s.stdReaches c = true)
    (r : s.restricted = false) (mode : s.port.whole = false)
    (accepted : ∀ e ∈ es, e < 8192 ∧ s.extState c.ld e = some .accepted) :
    Answers (.releaseDynamicCapacity c es) s fun t =>
      (∀ e ∈ es, t.extState c.ld e = some .released ∧ t.extServed c.ld e = false) ∧ t.out = [.cxl 0x4803 0 []]
        ∧ s.SameBut t [.out, .port] := by
  refine ⟨_, rfl, ?_⟩
  rw [State.stdFull_open h r, State.dcRelease_success (s := s.begin) mode fun e listed => (accepted e listed).2]
  refine ⟨fun e listed => ?_, rfl, (s.begin_same.widen.next (State.onPort_same _ _)).next (State.emit_same _ _)⟩
  obtain ⟨small, standing⟩ := accepted e listed
  have released := State.extState_map (s := s.begin)
    (t := s.begin.onPort fun h => { h with extents := s.begin.port.extents.map (releaseOf c.ld es) }) standing rfl
    (releaseOf_key c.ld es)
  rw [releaseOf, if_pos ⟨extKey_div small, by rw [extKey_mod small]; exact List.contains_iff_mem.mpr listed⟩] at released
  exact ⟨released, State.extServed_of_released mode released⟩

/-! ### Allocations and fractions of logical devices (R51, R58, R59) -/

/-- The journal's start of a standard command that is not mirrored: its entry added. -/
theorem State.journalStd_plain {s : State} (older : ∀ e ∈ s.cmd.journal, e.cseq ≤ s.cmd.cseq) (c : Cxl) (op d : Nat) :
    (s.journalStd op c.transport c.ld c.fm false d).2 = s.journalAdd (s.stdEntry c op d) := by
  have below : ∀ e ∈ s.cmd.journal, e.cseq < (s.stdEntry c op d).cseq := fun e listed => Nat.lt_succ_of_le (older e listed)
  rw [State.journalStd_state]
  exact State.mirror_of_entry (s.journalAdd_entry _ below) rfl

/-- A journalled command is its body in the state that its entry leaves. -/
theorem State.stdJournal_congr {s : State} {c : Cxl} {op d : Nat} {f g : State → Ret × State}
    (h : f (s.journalStd op c.transport c.ld c.fm false d).2 = g (s.journalStd op c.transport c.ld c.fm false d).2) :
    s.stdJournal c op d f = s.stdJournal c op d g := by
  unfold State.stdJournal
  dsimp only
  rw [h]

/-- The allocations of logical devices put. -/
def State.putAllocs (s : State) (l : List (Nat × (Nat × Nat))) : State := s.onPort fun h => { h with allocs := l }

/-- What Set LD Allocations does (R51, R58). -/
def State.setAllocs (s : State) (start : Nat) (l : List (Nat × Nat)) : Ret × State :=
  if s.reg Reg.SHUTDOWN_RECORD ≠ Shut.none.code then (.mediaDisabled, s)
  else
    let new := (l.zipIdx).foldl (fun m p => mset (0, 0) m (start + p.2) p.1) s.port.allocs
    let vol := s.reg Reg.VOLATILE_SIZE
    let ext := s.basin.host / GiB - 64 * vol
    if s.reg Reg.LD_COUNT < start + l.length ∨ vol < sumOf (new.map fun p => p.2.1) ∨ ext < sumOf (new.map fun p => p.2.2) then
      (.invalidInput, s)
    else (.success, s.putAllocs new)

/-- The store of one device's allocation alone. -/
theorem sums_single (v p : Nat) : sumOf ((mset (0, 0) [] 0 (v, p)).map fun q => q.2.1) ≤ v
    ∧ sumOf ((mset (0, 0) [] 0 (v, p)).map fun q => q.2.2) ≤ p := by
  unfold mset
  split <;> simp [mdel, mput, sumOf]

/-- Logical device 0 may be given `v` volatile and `p` persistent units, and none has been given any (R51, R58). -/
structure State.AllocFits (s : State) (v p : Nat) : Prop where
  single : 1 ≤ s.reg Reg.LD_COUNT
  none : s.port.allocs = []
  clear : s.reg Reg.SHUTDOWN_RECORD = Shut.none.code
  volatile : v ≤ s.reg Reg.VOLATILE_SIZE
  persistent : p ≤ s.basin.host / GiB - 64 * s.reg Reg.VOLATILE_SIZE

theorem State.AllocFits.congr {s t : State} {v p : Nat} (h : s.AllocFits v p) (same : s.SameBut t [.out, .cmd]) :
    t.AllocFits v p := by
  have reg (k : Nat) : t.reg k = s.reg k := State.reg_of_regs (same .regs (by decide)) k
  have port : t.port = s.port := same .port (by decide)
  have basin : t.basin = s.basin := same .basin (by decide)
  obtain ⟨single, none, clear, volatile, persistent⟩ := h
  exact ⟨by rwa [reg], by rwa [port], by rwa [reg], by rwa [reg], by rwa [reg, basin]⟩

theorem State.setAllocs_success {s : State} {v p : Nat} (fits : s.AllocFits v p) :
    s.setAllocs 0 [(v, p)] = (.success, s.putAllocs (mset (0, 0) [] 0 (v, p))) := by
  obtain ⟨single, none, clear, volatile, persistent⟩ := fits
  obtain ⟨vsum, psum⟩ := sums_single v p
  have new : ([(v, p)].zipIdx).foldl (fun m q => mset (0, 0) m (0 + q.2) q.1) s.port.allocs = mset (0, 0) [] 0 (v, p) := by
    rw [none]
    rfl
  unfold State.setAllocs
  dsimp only
  rw [if_neg (not_not_intro clear), new, if_neg]
  simp only [List.length_singleton]
  omega

/-- Set LD Allocations over MCTP is its body, journalled as the fabric manager's. -/
theorem setLdAllocations_runs {c : Cxl} {s : State} (h : s.stdReaches c = true) (r : s.restricted = false)
    (mctp : 2 ≤ c.transport) (start : Nat) (l : List (Nat × Nat)) :
    Answers (.setLdAllocations c start l) s fun t =>
      t = s.begin.stdJournal { c with fm := true } 0x5402 (digestOf (l.flatMap fun p => [p.1, p.2])) fun u => u.setAllocs start l := by
  refine ⟨_, rfl, ?_⟩
  rw [State.stdFull_open h r]
  exact if_neg (Nat.not_lt.mpr mctp)

theorem State.stdJournal_setAllocs {s : State} {v p : Nat} (fits : s.AllocFits v p)
    (older : ∀ e ∈ s.cmd.journal, e.cseq ≤ s.cmd.cseq)
    (c : Cxl) (d : Nat) :
    ∃ e : JEntry, s.stdJournal c 0x5402 d (fun u => u.setAllocs 0 [(v, p)])
      = (((s.journalAdd e).putAllocs (mset (0, 0) [] 0 (v, p))).journalDone e.cseq St.SUCCESS 0).cxlRet 0x5402 .success := by
  have added : (s.journalAdd (s.stdEntry c 0x5402 d)).AllocFits v p := fits.congr (State.onCmd_same s _).widen
  have body : s.stdJournal c 0x5402 d (fun u => u.setAllocs 0 [(v, p)])
      = s.stdJournal c 0x5402 d fun u => (.success, u.putAllocs (mset (0, 0) [] 0 (v, p))) :=
    State.stdJournal_congr (by
      rw [State.journalStd_plain older]
      exact State.setAllocs_success added)
  obtain ⟨e, run, -⟩ := s.stdJournal_success c 0x5402 d (fun u => u.putAllocs (mset (0, 0) [] 0 (v, p))) older fun _ => rfl
  exact ⟨e, body.trans run⟩

theorem setLdAllocations_answers {c : Cxl} {v p : Nat} {s : State} (h : s.stdReaches c = true) (r : s.restricted = false)
    (mctp : 2 ≤ c.transport) (fits : s.AllocFits v p) (older : ∀ e ∈ s.cmd.journal, e.cseq ≤ s.cmd.cseq) :
    Answers (.setLdAllocations c 0 [(v, p)]) s fun t =>
      mget (0, 0) t.port.allocs 0 = (v, p) ∧ t.port.allocsInForce = s.port.allocsInForce ∧ .cxl 0x5402 0 [] ∈ t.out
        ∧ s.SameBut t [.out, .port, .cmd] := by
  refine (setLdAllocations_runs h r mctp 0 [(v, p)]).imp fun t run => ?_
  obtain ⟨e, done⟩ := State.stdJournal_setAllocs (s := s.begin) (fits.congr s.begin_same.widen) older { c with fm := true }
    (digestOf ([(v, p)].flatMap fun p => [p.1, p.2]))
  have same : s.SameBut (s.begin.journalAdd e) [.out, .cmd] := s.begin_same.widen.next (State.onCmd_same _ _)
  rw [run, done]
  generalize s.begin.journalAdd e = u at same
  have port : u.port = s.port := same .port (by decide)
  exact ⟨mget_mset_same _ _ _ _, show u.port.allocsInForce = _ by rw [port], State.cxlRet_mem _ _ _ _,
    ((same.widen.next (State.onPort_same u _)).next (State.onCmd_same _ _)).next (State.emit_same _ _)⟩

theorem State.begin_fractions {s : State} {ld : Nat} (up : s.firmwareUp = true) (low : ld < 8) :
    ¬((!s.begin.firmwareUp) = true ∨ 8 ≤ ld) := by
  rw [show s.begin.firmwareUp = true from up]
  simp [low]

theorem qosFractionSet_limit {ld v : Nat} {s : State} (up : s.firmwareUp = true) (low : ld < 8) (byte : v < 256) :
    Answers (.qosFractionSet ld true v) s fun t =>
      mget 0 t.port.qosLimit ld = v ∧ t.port.qosAlloc = s.port.qosAlloc
        ∧ (∀ k, k ≠ ld → mget 0 t.port.qosLimit k = mget 0 s.port.qosLimit k) ∧ s.SameBut t [.out, .port] := by
  refine ⟨_, rfl, ?_⟩
  rw [if_neg (State.begin_fractions up low)]
  exact ⟨(mget_mset_same _ _ _ _).trans (Nat.mod_eq_of_lt byte), rfl, fun k other => mget_mset_ne _ _ _ _ _ other,
    s.begin_same.widen.next (State.onPort_same _ _)⟩

theorem qosFractionSet_alloc {ld v : Nat} {s : State} (up : s.firmwareUp = true) (low : ld < 8) (byte : v < 256) :
    Answers (.qosFractionSet ld false v) s fun t =>
      mget 0 t.port.qosAlloc ld = v ∧ t.port.qosLimit = s.port.qosLimit
        ∧ (∀ k, k ≠ ld → mget 0 t.port.qosAlloc k = mget 0 s.port.qosAlloc k) ∧ s.SameBut t [.out, .port] := by
  refine ⟨_, rfl, ?_⟩
  rw [if_neg (State.begin_fractions up low)]
  exact ⟨(mget_mset_same _ _ _ _).trans (Nat.mod_eq_of_lt byte), rfl, fun k other => mget_mset_ne _ _ _ _ _ other,
    s.begin_same.widen.next (State.onPort_same _ _)⟩

/-! ### Decoders (R52, Table 2-4) -/

theorem State.begin_decoders {s : State} {ld : Nat} (up : s.port.up = true) (presented : ld ∈ s.lds) :
    ¬((!s.begin.port.up) = true ∨ (!s.begin.lds.contains ld) = true) := by
  rw [show s.begin.port.up = true from up, show s.begin.lds = s.lds from rfl, List.contains_iff_mem.mpr presented]
  decide

/-- Where the last committed decoder ends, as an address and as a DPA. -/
def lastEnds (l : List Decoder) : Nat × Nat := match l.getLast? with
  | some d => (d.base + d.size, d.dpaBase + d.size / d.ways)
  | none => (0, 0)

theorem lastEnds_concat (l : List Decoder) (d : Decoder) :
    lastEnds (l ++ [d]) = (d.base + d.size, d.dpaBase + d.size / d.ways) := by
  unfold lastEnds
  rw [List.getLast?_concat]

/-- The decoder committed behind those of its logical device. -/
def State.pushDecoder (s : State) (ld base size skip ways gran : Nat) (lock : Bool) : State :=
  s.onPort fun h => { h with decoders := mput ld (s.port.decs ld ++ [{
    base := base, size := size, dpaBase := (lastEnds (s.port.decs ld)).2 + skip,
    ways := ways, granularity := gran, lock := lock }]) h.decoders }

theorem State.commitDecoder_eq (s : State) (ld base size skip ways gran : Nat) (lock hdmH : Bool) :
    s.commitDecoder ld base size skip ways gran lock hdmH
      = if 8 ≤ (s.port.decs ld).length ∨ !decoderOk base size skip ways gran hdmH ∨ base < (lastEnds (s.port.decs ld)).1
          ∨ (s.alloc ld).1 + (s.alloc ld).2 * GiB < (lastEnds (s.port.decs ld)).2 + skip + size / ways then s
        else s.pushDecoder ld base size skip ways gran lock := rfl

/-- A decoder that meets the table and fits behind those committed is the next one. -/
theorem State.commitDecoder_commits {s : State} {ld base size skip ways gran : Nat}
    (ok : decoderOk base size skip ways gran true = true) (room : (s.port.decs ld).length < 8)
    (above : (lastEnds (s.port.decs ld)).1 ≤ base)
    (fits : (lastEnds (s.port.decs ld)).2 + skip + size / ways ≤ (s.alloc ld).1 + (s.alloc ld).2 * GiB) (lock : Bool) :
    s.commitDecoder ld base size skip ways gran lock true = s.pushDecoder ld base size skip ways gran lock := by
  rw [State.commitDecoder_eq, if_neg]
  rw [ok]
  simp only [Bool.not_true, Bool.false_eq_true, false_or]
  omega

theorem HostPort.decs_mput (h : HostPort) (ld k : Nat) (l : List Decoder) :
    ({ h with decoders := mput ld l h.decoders } : HostPort).decs k = if k = ld then l else h.decs k := by
  unfold HostPort.decs
  split
  · rename_i own
    rw [own]
    exact mget_mput_same _ _ _ _
  · rename_i other
    exact mget_mput_ne _ _ _ _ _ other

theorem hdmDecoderCommit_commits {ld base size skip ways gran : Nat} {s : State} (up : s.port.up = true)
    (presented : ld ∈ s.lds) (ok : decoderOk base size skip ways gran true = true) (room : (s.port.decs ld).length < 8)
    (above : (lastEnds (s.port.decs ld)).1 ≤ base)
    (fits : (lastEnds (s.port.decs ld)).2 + skip + size / ways ≤ (s.alloc ld).1 + (s.alloc ld).2 * GiB) (lock : Bool) :
    Answers (.hdmDecoderCommit ld true base size skip ways gran lock true) s fun t =>
      t.port.decs ld = s.port.decs ld ++ [{ base := base, size := size, dpaBase := (lastEnds (s.port.decs ld)).2 + skip,
                                            ways := ways, granularity := gran, lock := lock }]
        ∧ (∀ k, k ≠ ld → t.port.decs k = s.port.decs k) ∧ s.SameBut t [.out, .port] := by
  refine ⟨_, rfl, ?_⟩
  rw [if_neg (State.begin_decoders up presented), if_pos rfl, State.commitDecoder_commits (s := s.begin) ok room above fits lock]
  exact ⟨(HostPort.decs_mput _ _ _ _).trans (if_pos rfl), fun k other => (HostPort.decs_mput _ _ _ _).trans (if_neg other),
    s.begin_same.widen.next (State.onPort_same _ _)⟩

theorem hdmDecoderCommit_first {ld base size skip ways gran : Nat} (lock : Bool) {s : State} (up : s.port.up = true)
    (presented : ld ∈ s.lds) (none : s.port.decs ld = []) (ok : decoderOk base size skip ways gran true = true)
    (fits : skip + size / ways ≤ (s.alloc ld).1 + (s.alloc ld).2 * GiB) :
    Answers (.hdmDecoderCommit ld true base size skip ways gran lock true) s fun t =>
      t.port.decs ld = [{ base := base, size := size, dpaBase := skip, ways := ways, granularity := gran, lock := lock }]
        ∧ (∀ k, k ≠ ld → t.port.decs k = s.port.decs k) ∧ s.SameBut t [.out, .port] := by
  have ends : lastEnds (s.port.decs ld) = (0, 0) := by rw [none]; rfl
  have commits := hdmDecoderCommit_commits up presented ok (by rw [none]; decide) (by rw [ends]; exact Nat.zero_le _)
    (by rw [ends, Nat.zero_add]; exact fits) lock
  rw [ends, none, Nat.zero_add] at commits
  exact commits

theorem hdmDecoderCommit_next {ld base size skip ways gran : Nat} (lock : Bool) {s : State} {l : List Decoder} {d : Decoder}
    (up : s.port.up = true) (presented : ld ∈ s.lds) (now : s.port.decs ld = l ++ [d]) (room : l.length < 7)
    (ok : decoderOk base size skip ways gran true = true) (above : d.base + d.size ≤ base)
    (fits : d.dpaBase + d.size / d.ways + skip + size / ways ≤ (s.alloc ld).1 + (s.alloc ld).2 * GiB) :
    Answers (.hdmDecoderCommit ld true base size skip ways gran lock true) s fun t =>
      t.port.decs ld = l ++ [d, { base := base, size := size, dpaBase := d.dpaBase + d.size / d.ways + skip, ways := ways,
                                  granularity := gran, lock := lock }]
        ∧ (∀ k, k ≠ ld → t.port.decs k = s.port.decs k) ∧ s.SameBut t [.out, .port] := by
  have ends : lastEnds (s.port.decs ld) = (d.base + d.size, d.dpaBase + d.size / d.ways) := by rw [now, lastEnds_concat]
  have few : (s.port.decs ld).length < 8 := by rw [now, List.length_append, List.length_singleton]; omega
  have commits := hdmDecoderCommit_commits up presented ok few (by rw [ends]; exact above) (by rw [ends]; exact fits) lock
  rw [ends, now, List.append_assoc] at commits
  exact commits

theorem hdmDecoderCommit_otherTarget (ld base size skip ways gran : Nat) (lock : Bool) {s : State} (up : s.port.up = true)
    (presented : ld ∈ s.lds) :
    Answers (.hdmDecoderCommit ld true base size skip ways gran lock false) s fun t => t = s.begin := by
  refine ⟨_, rfl, ?_⟩
  rw [if_neg (State.begin_decoders up presented), if_pos rfl]
  unfold State.commitDecoder
  exact if_pos (.inr (.inl rfl))

theorem hdmDecoderCommit_uncommits (ld base size skip ways gran : Nat) (lock h : Bool) {s : State} {d : Decoder} {l : List Decoder}
    (up : s.port.up = true) (presented : ld ∈ s.lds) (now : s.port.decs ld = l ++ [d]) :
    Answers (.hdmDecoderCommit ld false base size skip ways gran lock h) s fun t =>
      t.port.decs ld = (if d.lock then s.port.decs ld else l) ∧ s.SameBut t [.out, .port] := by
  have last : (s.begin.port.decs ld).getLast? = some d := by
    rw [show s.begin.port.decs ld = l ++ [d] from now, List.getLast?_concat]
  have rest : (mget [] s.port.decoders ld).dropLast = l := by
    rw [show mget [] s.port.decoders ld = l ++ [d] from now, List.dropLast_concat]
  refine ⟨_, rfl, ?_⟩
  rw [if_neg (State.begin_decoders up presented), if_neg Bool.false_ne_true]
  unfold State.uncommitDecoder
  rw [last]
  dsimp only
  split
  · exact ⟨rfl, s.begin_same.widen⟩
  · exact ⟨(mget_mset_same _ _ _ _).trans rest, s.begin_same.widen.next (State.onPort_same _ _)⟩

/-! ### DOE (R44, R67) -/

theorem State.presents_pf0 {s : State} {ld : Nat} (up : s.port.up = true) (presented : ld ∈ s.lds) :
    s.begin.presents ld 0 = true := by
  have listed : s.begin.lds.contains ld = true := List.contains_iff_mem.mpr presented
  unfold State.presents
  rw [show s.begin.port.up = true from up, listed]
  rfl

theorem cdatTableAccess_answers {ld : Nat} {s : State} (up : s.port.up = true) (presented : ld ∈ s.lds) :
    Answers (.cdatTableAccess ld) s fun t =>
      t.out = [.doe 2 (if s.port.rate < 16 then [0, 0, 400, 350] else [(s.alloc ld).1, (s.alloc ld).2 * GiB, 400, 350])]
        ∧ s.SameBut t [.out] := by
  have slow : s.slowLink = decide (s.port.rate < 16) := by rw [State.slowLink, up, Bool.true_and]
  refine ⟨_, rfl, ?_⟩
  rw [if_pos (State.presents_pf0 up presented)]
  refine ⟨?_, s.begin_same.trans (State.emit_same _ _)⟩
  change [Out.doe 2 [(s.ranges ld).1, (s.ranges ld).2, 400, 350]] = _
  unfold State.ranges
  rw [slow]
  by_cases low : s.port.rate < 16
  · rw [if_pos (decide_eq_true low), if_pos low]
  · rw [if_neg (by rw [decide_eq_false low]; decide), if_neg low]

theorem doeDiscovery_pf0 {ld : Nat} {s : State} (up : s.port.up = true) (presented : ld ∈ s.lds) :
    Answers (.doeDiscovery ld 0) s fun t => t.out = [.doe 0 [0, 1, 2, 0x1E98]] ∧ s.SameBut t [.out] := by
  refine ⟨_, rfl, ?_⟩
  rw [if_neg (not_of_reached (State.presents_pf0 up presented)), if_pos rfl]
  exact ⟨rfl, s.begin_same.trans (State.emit_same _ _)⟩

theorem doeDiscovery_other {ld fn : Nat} {s : State} (presented : s.presents ld fn = true) (other : fn ≠ 0) :
    Answers (.doeDiscovery ld fn) s fun t => t.out = [.doe 0 [0]] ∧ s.SameBut t [.out] := by
  refine ⟨_, rfl, ?_⟩
  rw [if_neg (not_of_reached (b := s.begin.presents ld fn) presented), if_neg other]
  exact ⟨rfl, s.begin_same.trans (State.emit_same _ _)⟩

/-- Settles O12: an answer's standings are kept by the offers that follow it, and each other command writes its own store. -/
theorem capacity_commands : Obligations.Capacity_commands := by
  unfold Obligations.Capacity_commands
  exact ⟨fun c acc dec s h r mode unknown => addDynamicCapacityResponse_invalid h r mode unknown,
    fun c acc dec s h r mode offered disjoint order reoffer =>
      addDynamicCapacityResponse_answers h r mode offered disjoint order reoffer,
    fun c es s h r mode accepted => releaseDynamicCapacity_answers h r mode accepted,
    fun c v p s h r mctp single none clear volatile persistent older =>
      setLdAllocations_answers h r mctp ⟨single, none, clear, volatile, persistent⟩ older,
    fun ld v s up low byte => qosFractionSet_limit up low byte, fun ld v s up low byte => qosFractionSet_alloc up low byte,
    fun ld base size skip ways gran lock s up presented none ok fits => hdmDecoderCommit_first lock up presented none ok fits,
    fun ld base size skip ways gran lock s l d up presented now room ok above fits =>
      hdmDecoderCommit_next lock up presented now room ok above fits,
    fun ld base size skip ways gran lock s up presented => hdmDecoderCommit_otherTarget ld base size skip ways gran lock up presented,
    fun ld base size skip ways gran lock h s d l up presented now =>
      hdmDecoderCommit_uncommits ld base size skip ways gran lock h up presented now,
    fun ld s up presented => cdatTableAccess_answers up presented, fun ld s up presented => doeDiscovery_pf0 up presented,
    fun ld fn s presented other => doeDiscovery_other presented other⟩

end Sys2Proof.Machine
end

section
/-! PROOFS. Sanitize and the erases of the whole device: their start (R74, R76; O13). -/

namespace Sys2Proof.Machine

/-! ### Activities -/

/-- The activities, in the order of their numbers. -/
def Cmd.activities (c : Cmd) : List Activity :=
  [c.learn, c.true_, c.reshape, c.scrubDeep, c.rehearse, c.fwActivate, c.dimmSpare, c.bist]

theorem Cmd.act_of_activities {c d : Cmd} (h : d.activities = c.activities) (n : Nat) : d.act n = c.act n := by
  simp only [Cmd.activities, List.cons.injEq, and_true] at h
  obtain ⟨learn, true_, reshape, scrubDeep, rehearse, fwActivate, dimmSpare, bist⟩ := h
  unfold Cmd.act
  rw [learn, true_, reshape, scrubDeep, rehearse, fwActivate, dimmSpare, bist]

theorem Cmd.act_setAct_same (c : Cmd) (n : Nat) (f : Activity → Activity) : (c.setAct n f).act n = f (c.act n) := by
  unfold Cmd.setAct
  repeat' split
  all_goals simp_all [Cmd.act]

theorem eq_or_eq_ite {α : Type} {p : Prop} [Decidable p] {f : α → α} {a b x y : α} (h : x = a ∨ x = f a) (k : y = b ∨ y = f b) :
    (if p then x else y) = (if p then a else b) ∨ (if p then x else y) = f (if p then a else b) := by
  split <;> assumption

theorem Cmd.act_setAct (c : Cmd) (n m : Nat) (f : Activity → Activity) :
    (c.setAct n f).act m = c.act m ∨ (c.setAct n f).act m = f (c.act m) := by
  unfold Cmd.setAct
  repeat' split
  all_goals
    unfold Cmd.act
    repeat' apply eq_or_eq_ite
    all_goals simp only [true_or, or_true]

theorem Cmd.setAct_cseq (c : Cmd) (n : Nat) (f : Activity → Activity) : (c.setAct n f).cseq = c.cseq := by
  unfold Cmd.setAct
  repeat' split
  all_goals rfl

/-- `t` has the last CSEQ and the bytes of memory of `s`, and every activity idle in `s` is idle in it. -/
structure State.Quieter (s t : State) : Prop where
  cseq : t.cmd.cseq = s.cmd.cseq
  mem : t.mem = s.mem
  idle : ∀ n, (s.cmd.act n).state = .idle → (t.cmd.act n).state = .idle

theorem State.Quieter.refl (s : State) : s.Quieter s := ⟨rfl, rfl, fun _ h => h⟩

theorem State.Quieter.trans {s t u : State} (h : s.Quieter t) (k : t.Quieter u) : s.Quieter u :=
  ⟨k.cseq.trans h.cseq, k.mem.trans h.mem, fun n q => k.idle n (h.idle n q)⟩

theorem State.Quieter.ite {c : Prop} [Decidable c] {s t u : State} (h : s.Quieter t) (k : s.Quieter u) :
    s.Quieter (if c then t else u) := by split <;> assumption

theorem State.Quieter.of_same {s t : State} {l : List Part} (h : s.SameBut t l) (k : Part.cmd ∉ l ∧ Part.mem ∉ l := by decide) :
    s.Quieter t := by
  have cmd : t.cmd = s.cmd := h .cmd k.1
  exact ⟨congrArg Cmd.cseq cmd, h .mem k.2, fun n q => by rwa [cmd]⟩

theorem State.Quieter.foldl {α : Type} (f : State → α → State) (h : ∀ (s : State) (a : α), s.Quieter (f s a)) :
    ∀ (as : List α) (s : State), s.Quieter (as.foldl f s)
  | [], s => .refl s
  | a :: as, s => (h s a).trans (foldl f h as (f s a))

/-- A change of the command state that leaves the last CSEQ and the activities. -/
theorem State.onCmd_quieter (s : State) {f : Cmd → Cmd} (cseq : ∀ x, (f x).cseq = x.cseq)
    (same : ∀ x, (f x).activities = x.activities) : s.Quieter (s.onCmd f) :=
  ⟨cseq s.cmd, rfl, fun n q => (congrArg Activity.state (Cmd.act_of_activities (same s.cmd) n)).trans q⟩

theorem State.setAct_quieter (s : State) (n : Nat) {f : Activity → Activity} (h : ∀ a, a.state = .idle → (f a).state = .idle) :
    s.Quieter (s.setAct n f) := by
  refine ⟨s.cmd.setAct_cseq n f, rfl, fun m q => ?_⟩
  change ((s.cmd.setAct n f).act m).state = .idle
  rcases s.cmd.act_setAct n m f with keep | put
  · rw [keep, q]
  · rw [put, h _ q]

theorem State.mirror_quieter (s : State) (n : Nat) : s.Quieter (s.mirror n) := by
  unfold State.mirror
  split
  · exact .ite (.of_same (s.nvDurable_same _)) (.refl s)
  · exact .refl s

theorem State.journalDone_quieter (s : State) (a b c : Nat) : s.Quieter (s.journalDone a b c) :=
  s.onCmd_quieter (fun _ => rfl) fun _ => rfl

theorem State.settle_quieter (s : State) (o : Owed) (st d : Nat) (l : List Nat) : s.Quieter (s.settle o st d l) := by
  have paid (k : Nat) : s.Quieter (s.onCmd fun x => { x with owed := x.owed.filter fun q => q.cseq != k }) :=
    s.onCmd_quieter (fun _ => rfl) fun _ => rfl
  unfold State.settle
  dsimp only
  exact (((paid _).trans (State.journalDone_quieter _ _ _ _)).trans (State.mirror_quieter _ _)).trans
    (.of_same (State.sendReply_same _ _ _ _ _ _))

theorem State.replica_same (s : State) : s.SameBut s.replica [.mir, .out] := .ite (s.sendTo_same _ _ _ _) (.refl _ _)

theorem State.dropGrant_same (s : State) (n m : Nat) : s.SameBut (s.dropGrant n m) [.mir, .out] :=
  (s.onMir_same _).widen.trans (State.replica_same _)

theorem State.releaseGrant_quieter (s : State) (n : Nat) : s.Quieter (s.releaseGrant n) := by
  have put : s.Quieter (s.setAct n fun a => { a with grant := none }) := s.setAct_quieter n fun _ q => q
  exact .ite (.refl s) (.ite (put.trans (.of_same (State.dropGrant_same _ _ _)))
    (.ite put (put.trans (.of_same (State.sendTo_same _ _ _ _ _)))))

theorem State.idleAct_quieter (s : State) (n : Nat) : s.Quieter (s.idleAct n) := s.setAct_quieter n fun _ _ => rfl

theorem State.idleAct_idle (s : State) (n : Nat) : ((s.idleAct n).cmd.act n).state = .idle :=
  congrArg Activity.state (s.cmd.act_setAct_same n fun a => { refusal := a.refusal })

theorem State.actEnd_quieter (s : State) (n : Nat) : s.Quieter (s.actEnd n) :=
  .ite (.refl s) ((s.releaseGrant_quieter n).trans (State.idleAct_quieter _ n))

theorem State.actEnd_idle (s : State) (n : Nat) : ((s.actEnd n).cmd.act n).state = .idle := by
  unfold State.actEnd
  split
  · assumption
  · exact State.idleAct_idle _ n

theorem State.settleAct_quieter (s : State) (n : Nat) (o : Owed) (st : Nat) (l : List Nat) : s.Quieter (s.settleAct n o st l) :=
  .ite (.refl s) (s.settle_quieter _ _ _ _)

/-- An activity that fails ends, and its reply settles. -/
theorem State.actFail_ends (s : State) (n st : Nat) (l : List Nat) : (s.actEnd n).Quieter (s.actFail n st l) := by
  unfold State.actFail
  dsimp only
  split
  · exact State.settleAct_quieter _ _ _ _ _
  · exact .refl _

theorem State.actFail_quieter (s : State) (n st : Nat) (l : List Nat) : s.Quieter (s.actFail n st l) :=
  (s.actEnd_quieter n).trans (s.actFail_ends n st l)

/-- Activities that fail one after another are all idle at the end. -/
theorem State.actFails_idle (st : Nat) {i : Nat} {l : List Nat} (s : State) (listed : i ∈ l) :
    ((l.foldl (fun s i => s.actFail (i + 1) st []) s).cmd.act (i + 1)).state = .idle := by
  induction l generalizing s with
  | nil => exact absurd listed List.not_mem_nil
  | cons j l ih =>
    rcases List.mem_cons.mp listed with rfl | later
    · exact (State.Quieter.foldl _ (fun s j => s.actFail_quieter (j + 1) st []) l _).idle _
        ((s.actFail_ends (i + 1) st []).idle _ (s.actEnd_idle _))
    · exact ih _ later

theorem Cmd.act_beyond (c : Cmd) {n : Nat} (h : ¬(1 ≤ n ∧ n ≤ 7)) : c.act n = c.act (7 + 1) := by
  have e (k : Nat) (low : 1 ≤ k ∧ k ≤ 7) : n ≠ k := by rintro rfl; exact h low
  unfold Cmd.act
  rw [if_neg (e 1 (by decide)), if_neg (e 2 (by decide)), if_neg (e 3 (by decide)), if_neg (e 4 (by decide)),
    if_neg (e 5 (by decide)), if_neg (e 6 (by decide)), if_neg (e 7 (by decide))]
  rfl

theorem State.actEndAll_quieter (s : State) : s.Quieter s.actEndAll :=
  .foldl _ (fun s i => s.actFail_quieter (i + 1) St.INVALID_STATE []) _ s

theorem State.actEndAll_idle (s : State) (n : Nat) : (s.actEndAll.cmd.act n).state = .idle := by
  have ended {i : Nat} (low : i < 8) : (s.actEndAll.cmd.act (i + 1)).state = .idle :=
    State.actFails_idle St.INVALID_STATE s (List.mem_range.mpr low)
  by_cases low : 1 ≤ n ∧ n ≤ 7
  · have own := ended (i := n - 1) (by omega)
    rwa [Nat.sub_add_cancel low.1] at own
  · rw [Cmd.act_beyond _ low]
    exact ended (by decide)

/-! ### The device enters MAINTENANCE -/

theorem State.onCPort_same (s : State) (i : PortId) (f : CPort → CPort) : s.SameBut (s.onCPort i f) [.cist] := by
  intro p; cases p <;> simp [State.agree, State.onCPort]

theorem State.cutLearn_quieter (s : State) (i : PortId) (r : Nat) : s.Quieter (s.cutLearn i r) := by
  unfold State.cutLearn
  dsimp only
  refine .ite (.refl s) ?_
  have cut (f : CPort → CPort) : s.Quieter (s.onCPort i f) := .of_same (s.onCPort_same i f)
  have told (f : CPort → CPort) (id : Nat) : s.Quieter (((s.onCPort i f).setReg id r).fault (cistSrc i) .log) :=
    ((cut f).trans (.of_same (State.setReg_same _ _ _))).trans (.of_same (State.fault_same _ _ _ _ _ _))
  exact ((Quieter.ite (cut _) (told _ _)).trans (State.actEnd_quieter _ _)).trans
    (State.onCmd_quieter _ (fun _ => rfl) fun _ => rfl)

theorem State.rehearseOut_same (s : State) : s.SameBut s.rehearseOut [.res, .whl, .regs, .freeCtr, .rill, .spill] := by
  unfold State.rehearseOut
  split
  · exact .refl _ _
  · exact ((s.onWhl_same _).widen.trans
      (.foldl State.eraseBand (fun s b => (s.eraseBand_same b).widen) _ _)).next (State.onSpill_same _ _)

theorem State.setDev_dev (s : State) (d : Dev) (c : Nat) (other : d ≠ .fault) : (s.setDev d c).dev = d := by
  unfold State.setDev
  split
  · assumption
  · dsimp only
    rw [State.raise_dev, State.setMedia_dev]

theorem State.enterMaintenance_quieter (s : State) : s.actEndAll.Quieter s.enterMaintenance := by
  unfold State.enterMaintenance
  exact ((((State.cutLearn_quieter _ _ _).trans (State.cutLearn_quieter _ _ _)).trans
    (.of_same ((State.rehearseOut_same _).next (State.onSpill_same _ _)))).trans (.of_same (State.onSip_same _ _))).trans
    (.of_same (State.setDev_same _ _ _))

theorem State.enterMaintenance_dev (s : State) : s.enterMaintenance.dev = .maintenance := State.setDev_dev _ _ _ (by decide)

/-! ### The start of an erase (R74, R76) -/

/-- A whole-device erase has started in `s`: what Sanitize and the erases do alike. -/
structure State.EraseStarted (s t : State) (op : Nat) (user : Bool) : Prop where
  dev : t.dev = .maintenance
  erasing : t.port.erasing = some (s.cmd.cseq + 1)
  user : t.port.eraseUser = user
  cseq : t.cmd.cseq = s.cmd.cseq + 1
  out : .cxl op 1 [] ∈ t.out
  mem : t.mem = s.mem
  idle : ∀ n, (t.cmd.act n).state = .idle

theorem State.EraseStarted.facts {s t : State} {op : Nat} {user : Bool} (h : s.begin.EraseStarted t op user) :
    t.dev = .maintenance ∧ t.port.erasing = some (s.cmd.cseq + 1) ∧ t.port.eraseUser = user ∧ t.cmd.cseq = s.cmd.cseq + 1
      ∧ .cxl op 1 [] ∈ t.out ∧ t.mem = s.mem ∧ ∀ n, (t.cmd.act n).state = .idle :=
  ⟨h.dev, h.erasing, h.user, h.cseq, h.out, h.mem, h.idle⟩

theorem State.journalStd_takes (s : State) (op tr ld : Nat) (fm p : Bool) (d : Nat) :
    (s.journalStd op tr ld fm p d).1.cseq = s.cmd.cseq + 1 ∧ (s.journalStd op tr ld fm p d).2.cmd.cseq = s.cmd.cseq + 1 := by
  unfold State.journalStd
  dsimp only
  refine ⟨rfl, (State.mirror_quieter _ _).cseq.trans ?_⟩
  unfold State.journalAdd
  rw [State.onCmd_cmd]

theorem State.startErase_starts {s : State} {c : Cxl} (op d : Nat) (user : Bool) (h : s.stdReaches c = true) (online : s.dev = .online)
    (free : s.port.committed = false) (idle : s.port.erasing = none) (flush : s.seq.flush = none)
    (reformat : s.rill.reformat = none) : s.EraseStarted (s.startErase c op d user) op user := by
  have busy : ¬(s.port.erasing.isSome = true ∨ s.seq.flush.isSome = true ∨ s.rill.reformat.isSome = true ∨ s.dev = .preSpill
      ∨ (s.dev = .maintenance ∧ s.mgmt.bistOff = true)) := by
    simp [idle, flush, reformat, online]
  obtain ⟨owed, cseq⟩ := s.journalStd_takes op c.transport c.ld c.fm true d
  have noted := s.journalStd_noted op c.transport c.ld c.fm true d
  unfold State.startErase
  rw [if_neg (not_of_reached h), if_neg (by simp [State.restricted_of_online online]), if_neg (by simp [free]), if_neg busy]
  generalize s.journalStd op c.transport c.ld c.fm true d = p at owed cseq noted
  obtain ⟨o, u⟩ := p
  have there : u.dev = .online := noted.dev.trans online
  have leaves : ¬(u.restricted = true ∨ u.dev = .maintenance) := by simp [State.restricted_of_online there, there]
  have dev := u.enterMaintenance_dev
  have entered := u.enterMaintenance_quieter
  have quiet := u.actEndAll_quieter.trans entered
  dsimp only
  rw [if_neg leaves]
  generalize u.enterMaintenance = v at dev entered quiet ⊢
  exact {
    dev := dev
    erasing := congrArg some owed
    user := rfl
    cseq := quiet.cseq.trans cseq
    out := State.cxlRet_mem _ _ .backgroundStarted _
    mem := quiet.mem.trans noted.mem
    idle := fun n => entered.idle n (u.actEndAll_idle n) }

theorem State.startErase_committed {s : State} {c : Cxl} (op d : Nat) (user : Bool) (h : s.stdReaches c = true)
    (r : s.restricted = false) (committed : s.port.committed = true) : s.startErase c op d user = s.cxlRet op .unsupported := by
  unfold State.startErase
  rw [if_neg (not_of_reached h), if_neg (by simp [r]), if_pos committed]

theorem State.passphrase_opens {s : State} {c : Cxl} (h : s.stdReaches c = true) (online : s.dev = .online)
    (free : s.port.committed = false) :
    ¬((!s.begin.stdReaches c) = true ∨ s.begin.restricted = true ∨ s.begin.port.committed = true) := by
  rw [s.begin_stdReaches, h, s.begin_restricted, State.restricted_of_online online, show s.begin.port.committed = false from free]
  decide

theorem passphraseSecureErase_starts {c : Cxl} {master : Bool} {pass : BitVec 256} {s : State} (h : s.stdReaches c = true)
    (online : s.dev = .online) (free : s.port.committed = false) (idle : s.port.erasing = none) (flush : s.seq.flush = none)
    (reformat : s.rill.reformat = none) (thawed : s.port.sec.frozen = false) (right : s.port.sec.pass master = some pass) :
    Answers (.passphraseSecureErase c master pass) s fun t => s.begin.EraseStarted t 0x4505 true := by
  refine ⟨_, rfl, ?_⟩
  have opens : ¬((s.begin.port.sec.pass master).any fun p => p != pass) = true := by
    rw [show s.begin.port.sec.pass master = some pass from right]
    simp
  rw [if_neg (State.passphrase_opens h online free),
    if_neg (by rw [show s.begin.port.sec.frozen = false from thawed]; decide), if_neg opens]
  exact State.startErase_starts _ _ _ h online free idle flush reformat

theorem passphraseSecureErase_wrong {c : Cxl} {master : Bool} {pass p : BitVec 256} {s : State} (h : s.stdReaches c = true)
    (online : s.dev = .online) (free : s.port.committed = false) (thawed : s.port.sec.frozen = false)
    (set : s.port.sec.pass master = some p) (wrong : p ≠ pass) :
    Answers (.passphraseSecureErase c master pass) s fun t => t.out = [.cxl 0x4505 0x14 []] ∧ s.SameBut t [.out] := by
  refine ⟨_, rfl, ?_⟩
  have differs : ((s.begin.port.sec.pass master).any fun p => p != pass) = true := by
    rw [show s.begin.port.sec.pass master = some p from set]
    simpa using wrong
  rw [if_neg (State.passphrase_opens h online free),
    if_neg (by rw [show s.begin.port.sec.frozen = false from thawed]; decide), if_pos differs]
  exact ⟨rfl, s.begin_cxlRet_same _ _ _⟩

/-- With a decoder committed an erase is answered Unsupported, and nothing else changes. -/
theorem State.startErase_unsupported {s : State} {c : Cxl} (op d : Nat) (user : Bool) (h : s.stdReaches c = true)
    (r : s.restricted = false) (committed : s.port.committed = true) :
    (s.begin.startErase c op d user).out = [.cxl op 3 []] ∧ s.SameBut (s.begin.startErase c op d user) [.out] := by
  rw [State.startErase_committed (s := s.begin) op d user h r committed]
  exact ⟨rfl, s.begin_cxlRet_same _ _ _⟩

theorem passphraseSecureErase_unsupported {c : Cxl} (master : Bool) (pass : BitVec 256) {s : State} (h : s.stdReaches c = true)
    (r : s.restricted = false) (committed : s.port.committed = true) :
    Answers (.passphraseSecureErase c master pass) s fun t => t.out = [.cxl 0x4505 3 []] ∧ s.SameBut t [.out] := by
  refine ⟨_, rfl, ?_⟩
  rw [if_pos (.inr (.inr committed))]
  exact State.startErase_unsupported _ _ _ h r committed

end Sys2Proof.Machine
end

section
/-! PROOFS. The end of Sanitize and the erases (R506; O13). -/

namespace Sys2Proof.Machine

theorem State.Noted.rill {s t : State} (h : s.Noted t) : t.rill = s.rill := h.same .rill (by decide)
theorem State.Noted.whl {s t : State} (h : s.Noted t) : t.whl = s.whl := h.same .whl (by decide)
theorem State.Noted.spill {s t : State} (h : s.Noted t) : t.spill = s.spill := h.same .spill (by decide)
theorem State.Noted.res {s t : State} (h : s.Noted t) : t.res = s.res := h.same .res (by decide)

theorem HostPort.erasing_of_bare {h k : HostPort} (e : k.bare = h.bare) : k.erasing = h.erasing := (congrArg HostPort.erasing e :)

theorem HostPort.eraseUser_of_bare {h k : HostPort} (e : k.bare = h.bare) : k.eraseUser = h.eraseUser :=
  (congrArg HostPort.eraseUser e :)

theorem State.Noted.erasing {s t : State} (h : s.Noted t) : t.port.erasing = s.port.erasing := HostPort.erasing_of_bare h.bare

theorem State.Noted.foldl {α : Type} (f : State → α → State) (h : ∀ (s : State) (a : α), s.Noted (f s a)) :
    ∀ (as : List α) (s : State), s.Noted (as.foldl f s)
  | [], s => .refl s
  | a :: as, s => (h s a).trans (foldl f h as (f s a))

theorem State.raise_noted (s : State) (n a b : Nat) (w : List Nat) (z : Bool) : s.Noted (s.raise n a b w z) :=
  ⟨(s.raise_same _ _ _ _ _).widen, s.raise_bare ..⟩

theorem State.setReg_noted (s : State) (id v : Nat) : s.Noted (s.setReg id v) := .of_same (s.setReg_same id v)

/-! ### What an erase leaves -/

/-- No data and nothing that leads to any: neither bytes, nor dirty bits, nor maps, wheels, bands, manifests or poison. -/
structure State.Blank (s : State) : Prop where
  mem : s.mem = []
  dst : s.basin.dst = []
  overflow : s.basin.overflow = []
  runs : s.rill.runs = []
  large : s.rill.large = []
  fine : s.rill.fine = []
  table : s.whl.table = []
  bands : s.whl.bands = []
  manifests : s.spill.manifests = []
  poison : s.port.poison = []

theorem State.Blank.noted {s t : State} (h : s.Blank) (k : s.Noted t) : t.Blank := by
  obtain ⟨mem, dst, overflow, runs, large, fine, table, bands, manifests, poison⟩ := h
  exact ⟨by rw [k.mem, mem], by rw [k.basin, dst], by rw [k.basin, overflow], by rw [k.rill, runs], by rw [k.rill, large],
    by rw [k.rill, fine], by rw [k.whl, table], by rw [k.whl, bands], by rw [k.spill, manifests], by rw [k.poison, poison]⟩

theorem State.Blank.onPort {s : State} (h : s.Blank) {f : HostPort → HostPort} (keeps : ∀ x, (f x).poison = x.poison) :
    (s.onPort f).Blank :=
  ⟨h.mem, h.dst, h.overflow, h.runs, h.large, h.fine, h.table, h.bands, h.manifests, (keeps s.port).trans h.poison⟩

/-- What an erase leaves of the states that a hold or the path of a start is judged by. -/
structure State.Stays (s t : State) : Prop where
  dev : t.dev = s.dev
  basin : t.basin.state = s.basin.state
  res : t.res.state = s.res.state
  path : t.sip.path = s.sip.path

theorem State.Stays.noted {s t u : State} (h : s.Stays t) (k : t.Noted u) : s.Stays u := by
  obtain ⟨dev, basin, res, path⟩ := h
  exact ⟨by rw [k.dev, dev], by rw [k.basin, basin], by rw [k.res, res], by rw [k.sip, path]⟩

theorem State.Stays.onPort {s t : State} (h : s.Stays t) (f : HostPort → HostPort) : s.Stays (t.onPort f) :=
  ⟨h.dev, h.basin, h.res, h.path⟩

/-- The stores erased, with the checkpoint that the map starts from: the part of `State.eraseAll` before its records. -/
def State.eraseStores (s : State) (c : Ckpt) : State :=
  let s := (s.onRes fun r => r.wipe (s.reg Reg.DAY_OF_SERVICE)).onWhl Wheels.wipe
  let s := (s.setReg Reg.CKPT_SEQ c.seq).setReg Reg.WRITE_SEQ 0
  let s := s.onRill fun x => { x with
    runs := [], large := [], fine := [], captures := [], relocs := [], ckpts := [c], mapped := 0, heldClosed := []
    reloading := false }
  let s := s.onBasin fun b => { b with dst := [], shadow := [], overflow := [], heat := [], cache := [], repair := [], token := {} }
  let s : State := { s with mem := [] }
  let s := s.onPort fun h => { h with poison := [] }
  let s := s.onSpill fun x => { x with manifests := [], runs := [], sanitizeIncomplete := false, released := [] }
  s.onSip fun x => { x with chain := [], heat := [] }

/-- The registers that an erase clears. -/
def erasedRegs : List Nat :=
  [Reg.POISON_FLOOR, Reg.E_BYTE_MEAS, Reg.E_FIXED_MEAS, Reg.T_MEAS, Reg.T_MEAS_FLASH, Reg.L_MEAS]

/-- SHUTDOWN_RECORD at NONE, and the registers that an erase sets: the part of `State.eraseAll` behind its records. -/
def State.eraseRegs (s : State) (m : Nat) : State :=
  erasedRegs.foldl (fun s id => s.setReg id 0) (((s.setShutdown .none m).setReg Reg.RETIRED_SEQ m).setReg Reg.ACTIVE_SEQ 0)

theorem State.eraseAll_eq {s : State} (lost : s.whl.lost = []) :
    ∃ (c : Ckpt) (l : List NvData) (m : Nat), c.seq = s.reg Reg.CKPT_SEQ + 1
      ∧ s.eraseAll = ((s.eraseStores c).nvGroup l).eraseRegs m := by
  refine ⟨{ seq := s.reg Reg.CKPT_SEQ + 1, full := true, base := s.reg Reg.CKPT_SEQ + 1, writeSeq := 0,
            epoch := s.reg Reg.FORMAT_EPOCH, cursors := [0, 0, 0, 0], large := [], fine := [], heat := [] },
    ?records, ?seq, rfl, ?erased⟩
  case erased =>
    unfold State.eraseAll State.eraseStores
    rw [lost]
    dsimp only
    rfl

theorem State.eraseStores_blank (s : State) (c : Ckpt) : (s.eraseStores c).Blank := by
  unfold State.eraseStores
  exact ⟨rfl, rfl, rfl, rfl, rfl, rfl, rfl, rfl, rfl, rfl⟩

theorem State.eraseStores_stays (s : State) (c : Ckpt) : s.Stays (s.eraseStores c) := by
  refine ⟨?_, ?_, ?_, ?_⟩
  all_goals simp [State.eraseStores, Reservoir.wipe]

theorem State.eraseStores_regs (s : State) (c : Ckpt) :
    ∃ u : State, (s.eraseStores c).regs = ((u.setReg Reg.CKPT_SEQ c.seq).setReg Reg.WRITE_SEQ 0).regs :=
  ⟨(s.onRes fun r => r.wipe (s.reg Reg.DAY_OF_SERVICE)).onWhl Wheels.wipe, by simp [State.eraseStores]⟩

theorem State.setShutdown_noted (s : State) (v : Shut) (m : Nat) : s.Noted (s.setShutdown v m) := by
  unfold State.setShutdown
  dsimp only
  have noted (e : Nat) (l : List Nat) : s.Noted ((s.record .shutdown e l).2.setReg Reg.SHUTDOWN_RECORD v.code) :=
    (State.Noted.of_same (s.record_same _ _ _)).trans (State.setReg_noted _ _ _)
  exact .ite (noted _ _) ((noted _ _).trans (State.raise_noted _ _ _ _ _ _))

theorem State.eraseRegs_noted (s : State) (m : Nat) : s.Noted (s.eraseRegs m) :=
  (((s.setShutdown_noted _ m).trans (State.setReg_noted _ _ _)).trans (State.setReg_noted _ _ _)).trans
    (.foldl _ (fun s id => s.setReg_noted id 0) _ _)

/-- What an erase leaves of a state: its stores are blank, and what reports and records write follows. -/
theorem State.eraseAll_noted {s : State} (lost : s.whl.lost = []) : ∃ c : Ckpt, (s.eraseStores c).Noted s.eraseAll := by
  obtain ⟨c, l, m, -, all⟩ := State.eraseAll_eq lost
  rw [all]
  exact ⟨c, (State.Noted.of_same (State.nvGroup_same _ l)).trans (State.eraseRegs_noted _ m)⟩

/-! ### The registers that an erase sets -/

theorem State.foldl_setReg_reg {l : List Nat} {id : Nat} (other : id ∉ l) (s : State) :
    (l.foldl (fun s k => s.setReg k 0) s).reg id = s.reg id := by
  induction l generalizing s with
  | nil => rfl
  | cons k l ih =>
    obtain ⟨ne, rest⟩ := not_or.mp fun h => other (List.mem_cons.mpr h)
    exact (ih rest _).trans (State.reg_setReg_ne _ _ _ _ ne)

theorem State.setShutdown_reg_ne (s : State) (v : Shut) (m : Nat) {id : Nat} (quiet : eventReg id = false)
    (other : id ≠ Reg.SHUTDOWN_RECORD) : (s.setShutdown v m).reg id = s.reg id := by
  have put (e : Nat) (l : List Nat) : ((s.record .shutdown e l).2.setReg Reg.SHUTDOWN_RECORD v.code).reg id = s.reg id :=
    (State.reg_setReg_ne _ _ _ _ other).trans (s.record_reg _ _ _ id quiet)
  unfold State.setShutdown
  dsimp only
  split
  · exact put _ _
  · exact (State.raise_reg _ _ _ _ _ _ id quiet).trans (put _ _)

theorem State.setShutdown_none (s : State) (m : Nat) : (s.setShutdown .none m).reg Reg.SHUTDOWN_RECORD = 0 := by
  have put (t : State) : (t.setReg Reg.SHUTDOWN_RECORD Shut.none.code).reg Reg.SHUTDOWN_RECORD = 0 :=
    (State.reg_setReg_same _ _ _).trans (Nat.zero_mod _)
  unfold State.setShutdown
  dsimp only
  split
  · exact put _
  · exact (State.raise_reg _ _ _ _ _ _ _ (by decide)).trans (put _)

theorem State.eraseRegs_reg (s : State) (m : Nat) {id : Nat} (kept : id ∉ Reg.RETIRED_SEQ :: Reg.ACTIVE_SEQ :: erasedRegs) :
    (s.eraseRegs m).reg id = (s.setShutdown .none m).reg id := by
  simp only [List.mem_cons, not_or] at kept
  obtain ⟨retired, active, rest⟩ := kept
  exact (State.foldl_setReg_reg rest _).trans ((State.reg_setReg_ne _ _ _ _ active).trans (State.reg_setReg_ne _ _ _ _ retired))

theorem State.eraseAll_shutdown {s : State} (lost : s.whl.lost = []) : s.eraseAll.reg Reg.SHUTDOWN_RECORD = 0 := by
  obtain ⟨c, l, m, -, all⟩ := State.eraseAll_eq lost
  rw [all, State.eraseRegs_reg _ _ (by decide)]
  exact State.setShutdown_none _ _

theorem State.eraseAll_ckptSeq {s : State} (lost : s.whl.lost = []) (fits : s.reg Reg.CKPT_SEQ + 1 < 2 ^ 32) :
    s.eraseAll.reg Reg.CKPT_SEQ = s.reg Reg.CKPT_SEQ + 1 := by
  obtain ⟨c, l, m, next, all⟩ := State.eraseAll_eq lost
  obtain ⟨u, regs⟩ := s.eraseStores_regs c
  have width : 2 ^ 32 ≤ 2 ^ paramWidth Reg.CKPT_SEQ := by decide +kernel
  have stored (u : State) : ((u.setReg Reg.CKPT_SEQ c.seq).setReg Reg.WRITE_SEQ 0).reg Reg.CKPT_SEQ = s.reg Reg.CKPT_SEQ + 1 := by
    rw [State.reg_setReg_ne _ _ _ _ (by decide), next]
    exact State.reg_setReg _ _ _ (Nat.lt_of_lt_of_le fits width)
  rw [all, State.eraseRegs_reg _ _ (by decide), State.setShutdown_reg_ne _ _ _ (by decide) (by decide),
    State.reg_of_regs (State.nvGroup_regs _ l), State.reg_of_regs regs]
  exact stored u

/-! ### The erase is settled -/

/-- The user passphrase dropped, where the erase asks for it. -/
def State.eraseDropsUser (s : State) : State :=
  if s.port.eraseUser then (s.onPort fun h => { h with sec := h.sec.setPass false none }).saveSecurity else s

/-- No erase is under way. -/
def State.eraseOver (s : State) : State := s.onPort fun h => { h with erasing := none, eraseUser := false }

theorem State.eraseSettled_eq (s : State) (cseq : Nat) :
    s.eraseSettled cseq
      = if cseq = 0 then s.eraseDropsUser.eraseOver
        else (s.eraseDropsUser.eraseOver.journalDone cseq St.SUCCESS 0).mirror cseq := rfl

theorem State.Blank.eraseDropsUser {s : State} (h : s.Blank) : s.eraseDropsUser.Blank := by
  unfold State.eraseDropsUser
  split
  · exact State.Blank.noted (h.onPort (f := fun p => { p with sec := p.sec.setPass false none }) fun _ => rfl)
      (State.saveSecurity_noted _)
  · exact h

theorem State.Stays.eraseDropsUser {s t : State} (h : s.Stays t) : s.Stays t.eraseDropsUser := by
  unfold State.eraseDropsUser
  split
  · exact State.Stays.noted (h.onPort _) (State.saveSecurity_noted _)
  · exact h

theorem State.Blank.eraseOver {s : State} (h : s.Blank) : s.eraseOver.Blank :=
  h.onPort (f := fun p => { p with erasing := none, eraseUser := false }) fun _ => rfl

theorem State.Stays.eraseOver {s t : State} (h : s.Stays t) : s.Stays t.eraseOver := h.onPort _

theorem State.eraseOver_erasing (s : State) : s.eraseOver.port.erasing = none := rfl

theorem State.eraseSettled_kept {s u : State} (blank : u.Blank) (stays : s.Stays u) (cseq : Nat) :
    (u.eraseSettled cseq).Blank ∧ s.Stays (u.eraseSettled cseq) ∧ (u.eraseSettled cseq).port.erasing = none := by
  rw [State.eraseSettled_eq]
  have blank := blank.eraseDropsUser.eraseOver
  have stays := stays.eraseDropsUser.eraseOver
  have done := u.eraseDropsUser.eraseOver_erasing
  generalize u.eraseDropsUser.eraseOver = v at blank stays done
  split
  · exact ⟨blank, stays, done⟩
  · have noted := (v.journalDone_noted cseq St.SUCCESS 0).trans (State.mirror_noted _ cseq)
    exact ⟨blank.noted noted, stays.noted noted, noted.erasing.trans done⟩

theorem State.layStore_running {s : State} (running : s.nv.state = .running) : s.layStore = s := by
  unfold State.layStore
  exact if_pos (by rw [running]; decide)

/-! ### The core domain restarts (Table 2-8) -/

theorem State.setMedia_bare (s : State) (h : HostPort) :
    (s.setMedia h).port.bare = ({ s.port with media := h.media, memActive := h.memActive } : HostPort).bare := by
  unfold State.setMedia
  dsimp only
  split
  · rfl
  · exact State.cxlRecord_bare _ _ _

theorem State.setDev_bare (s : State) (d : Dev) (c : Nat) (other : d ≠ .fault) :
    ∃ h : HostPort, (s.setDev d c).port.bare = h.bare ∧ h.poison = s.port.poison ∧ h.erasing = s.port.erasing := by
  unfold State.setDev
  split
  · exact ⟨s.port, rfl, rfl, rfl⟩
  · dsimp only
    rw [State.raise_bare, State.setMedia_bare]
    have port (l : List Nat) : (s.record .state 0x1FF l).2.port = s.port := s.record_port _ _ _
    exact ⟨_, rfl, (congrArg HostPort.poison (port _) :), (congrArg HostPort.erasing (port _) :)⟩

theorem State.Blank.setDev {s : State} (h : s.Blank) (d : Dev) (c : Nat) (other : d ≠ .fault) : (s.setDev d c).Blank := by
  obtain ⟨p, bare, poison, -⟩ := s.setDev_bare d c other
  have same := s.setDev_same d c
  have mem : (s.setDev d c).mem = s.mem := same .mem (by decide)
  have basin : (s.setDev d c).basin = s.basin := same .basin (by decide)
  have rill : (s.setDev d c).rill = s.rill := same .rill (by decide)
  have whl : (s.setDev d c).whl = s.whl := same .whl (by decide)
  have spill : (s.setDev d c).spill = s.spill := same .spill (by decide)
  exact ⟨by rw [mem, h.mem], by rw [basin, h.dst], by rw [basin, h.overflow], by rw [rill, h.runs], by rw [rill, h.large],
    by rw [rill, h.fine], by rw [whl, h.table], by rw [whl, h.bands], by rw [spill, h.manifests],
    by rw [HostPort.poison_of_bare bare, poison, h.poison]⟩

theorem State.mergeAon_noted (s : State) : s.Noted s.mergeAon := by
  unfold State.mergeAon
  dsimp only
  refine (State.Noted.of_same (s.onFc_same _)).trans (.foldl _ (fun u n => ?_) _ _)
  have shown (v : Nat) : u.Noted (u.fcSet n v) := .of_same (u.fcSet_same n v)
  exact .ite ((shown _).trans (State.raise_noted _ _ _ _ _ _)) (shown _)

theorem State.Blank.coreOff {s : State} (h : s.Blank) : (s.coreOff false).Blank :=
  ⟨rfl, rfl, rfl, h.runs, rfl, rfl, h.table, h.bands, h.manifests, rfl⟩

theorem State.Blank.coreStart {s : State} (h : s.Blank) : s.coreStart.Blank := by
  unfold State.coreStart
  dsimp only
  refine State.Blank.noted ?_ (State.mergeAon_noted _)
  exact ⟨h.mem, h.dst, h.overflow, h.runs, h.large, h.fine, h.table, h.bands, h.manifests, h.poison⟩

theorem State.coreStart_kept (s : State) : s.coreStart.dev = s.dev ∧ s.coreStart.port.erasing = s.port.erasing := by
  unfold State.coreStart
  dsimp only
  exact ⟨(State.mergeAon_noted _).dev, (State.mergeAon_noted _).erasing⟩

/-- A restart of the core domain from a blank state is a start, blank, with no erase under way. -/
theorem State.coreRestart_blank {s : State} (h : s.Blank) :
    s.coreRestart.Blank ∧ s.coreRestart.dev = .bringup ∧ s.coreRestart.port.erasing = none := by
  have off : (s.flushRecords.coreOff false).Blank := (h.noted (.of_same (s.onRec_same _))).coreOff
  have idle : (s.flushRecords.coreOff false).port.erasing = none := rfl
  unfold State.coreRestart
  dsimp only
  generalize s.flushRecords.coreOff false = u at off idle
  have blank := (off.setDev .bringup 0 (by decide)).coreStart
  obtain ⟨dev, erasing⟩ := (u.setDev .bringup).coreStart_kept
  obtain ⟨p, bare, -, same⟩ := u.setDev_bare .bringup 0 (by decide)
  rw [State.setDev_dev _ _ _ (by decide)] at dev
  rw [HostPort.erasing_of_bare bare, same, idle] at erasing
  generalize (u.setDev .bringup).coreStart = v at blank dev erasing
  exact ⟨blank.onPort fun _ => rfl, dev, erasing⟩

/-! ### The end of an erase (R506) -/

/-- What the end of an erase leaves before it judges the device's state. -/
def State.erased (s : State) (cseq : Nat) : State := s.layStore.eraseAll.eraseSettled cseq

theorem State.erased_kept {s : State} (running : s.nv.state = .running) (lost : s.whl.lost = []) (cseq : Nat) :
    (s.erased cseq).Blank ∧ s.Stays (s.erased cseq) ∧ (s.erased cseq).port.erasing = none := by
  obtain ⟨c, noted⟩ := State.eraseAll_noted lost
  unfold State.erased
  rw [State.layStore_running running]
  exact State.eraseSettled_kept ((s.eraseStores_blank c).noted noted) ((s.eraseStores_stays c).noted noted) cseq

theorem State.eraseAll_eraseUser {s : State} (lost : s.whl.lost = []) : s.eraseAll.port.eraseUser = s.port.eraseUser := by
  obtain ⟨c, noted⟩ := State.eraseAll_noted lost
  rw [HostPort.eraseUser_of_bare noted.bare]
  simp [State.eraseStores]

/-- An erase that no command of this start asked for changes no register in its settling. -/
theorem State.erased_regs {s : State} (running : s.nv.state = .running) (lost : s.whl.lost = [])
    (kept : s.port.eraseUser = false) : (s.erased 0).regs = s.eraseAll.regs := by
  have stays : s.eraseAll.eraseDropsUser = s.eraseAll :=
    if_neg (by rw [State.eraseAll_eraseUser lost, kept]; decide)
  unfold State.erased
  rw [State.layStore_running running, State.eraseSettled_eq, if_pos rfl, stays]
  rfl

theorem State.holdsEnd_free {s : State} (population : s.basin.state ≠ .populationHold) (flash : s.res.state ≠ .hold) (bw : Nat) :
    s.holdsEnd bw = s := by
  unfold State.holdsEnd
  dsimp only
  rw [if_neg population, if_neg flash]

/-- A start on path 0x1 goes on on path 0x2. -/
def State.takePath2 (s : State) : State := (s.setReg Reg.RESTORE_PATH 2).onSip fun x => { x with path := 2 }

theorem State.Blank.takePath2 {s : State} (h : s.Blank) : s.takePath2.Blank :=
  ⟨h.mem, h.dst, h.overflow, h.runs, h.large, h.fine, h.table, h.bands, h.manifests, h.poison⟩

theorem State.takePath2_reg (s : State) {id : Nat} (other : id ≠ Reg.RESTORE_PATH) : s.takePath2.reg id = s.reg id :=
  State.reg_setReg_ne s Reg.RESTORE_PATH 2 id other

theorem State.takePath2_path (s : State) : s.takePath2.reg Reg.RESTORE_PATH = 2 :=
  State.reg_setReg s Reg.RESTORE_PATH 2 (by decide +kernel)

/-- How an erase ends by the device's state: a restart from MAINTENANCE, otherwise the start or the hold goes on. -/
def State.eraseEnds (s : State) (bw : Nat) : State :=
  if s.dev = .maintenance then s.coreRestart
  else if (s.holdsEnd bw).sip.path = 1 then (s.holdsEnd bw).takePath2 else s.holdsEnd bw

theorem sanitizeComplete_runs (bw : Nat) {cseq : Nat} {s : State} (erasing : s.port.erasing = some cseq) :
    Answers (.sanitizeComplete bw) s fun t => t = (s.begin.erased cseq).eraseEnds bw := by
  refine ⟨_, rfl, ?_⟩
  rw [show s.begin.port.erasing = some cseq from erasing]
  rfl

theorem sanitizeComplete_restarts (bw : Nat) {cseq : Nat} {s : State} (erasing : s.port.erasing = some cseq)
    (maintenance : s.dev = .maintenance) (running : s.nv.state = .running) (lost : s.whl.lost = []) :
    Answers (.sanitizeComplete bw) s fun t => t.Blank ∧ t.dev = .bringup ∧ t.port.erasing = none := by
  obtain ⟨blank, stays, -⟩ := State.erased_kept (s := s.begin) running lost cseq
  refine (sanitizeComplete_runs bw erasing).imp fun t run => ?_
  rw [run, State.eraseEnds, if_pos (stays.dev.trans maintenance)]
  exact State.coreRestart_blank blank

theorem sanitizeComplete_resumed (bw : Nat) {s : State} (erasing : s.port.erasing = some 0)
    (start : s.dev = .bringup) (path : s.sip.path = 1) (running : s.nv.state = .running) (lost : s.whl.lost = [])
    (population : s.basin.state ≠ .populationHold) (flash : s.res.state ≠ .hold) :
    Answers (.sanitizeComplete bw) s fun t => t = (s.begin.erased 0).takePath2 := by
  obtain ⟨-, stays, -⟩ := State.erased_kept (s := s.begin) running lost 0
  have free : (s.begin.erased 0).holdsEnd bw = s.begin.erased 0 :=
    State.holdsEnd_free (by rw [stays.basin]; exact population) (by rw [stays.res]; exact flash) bw
  refine (sanitizeComplete_runs bw erasing).imp fun t run => ?_
  rw [run, State.eraseEnds, if_neg (by rw [stays.dev, show s.begin.dev = .bringup from start]; decide), free,
    if_pos (stays.path.trans path)]

/-- Settles O13: an erase's start ends every activity and enters MAINTENANCE, its end leaves the stores blank, and the device
restarts or its start takes path 0x2. -/
theorem whole_device_erases : Obligations.Whole_device_erases := by
  unfold Obligations.Whole_device_erases
  refine ⟨fun c s h online free idle flush reformat => ⟨_, rfl, ?_⟩, fun c s h online free idle flush reformat => ⟨_, rfl, ?_⟩,
    fun c master pass s h online free idle flush reformat thawed right => ?_,
    fun c master pass p s h online free thawed set wrong => passphraseSecureErase_wrong h online free thawed set wrong,
    fun c s h r committed => ⟨_, rfl, State.startErase_unsupported _ _ _ h r committed⟩,
    fun c s h r committed => ⟨_, rfl, State.startErase_unsupported _ _ _ h r committed⟩,
    fun c master pass s h r committed => passphraseSecureErase_unsupported master pass h r committed,
    fun bw cseq s erasing maintenance running lost => ?_, fun bw s erasing kept start path running lost population flash => ?_⟩
  · exact (State.startErase_starts (s := s.begin) 0x4400 _ false h online free idle flush reformat).facts
  · exact (State.startErase_starts (s := s.begin) 0x4401 _ false h online free idle flush reformat).facts
  · exact (passphraseSecureErase_starts h online free idle flush reformat thawed right).imp fun t started => started.facts
  · refine (sanitizeComplete_restarts bw erasing maintenance running lost).imp fun t ends => ?_
    obtain ⟨blank, dev, idle⟩ := ends
    exact ⟨dev, blank.mem, blank.dst, blank.large, blank.fine, blank.bands, blank.manifests, blank.poison, idle⟩
  · refine (sanitizeComplete_resumed bw erasing start path running lost population flash).imp fun t ends => ?_
    obtain ⟨blank, -, done⟩ := State.erased_kept (s := s.begin) running lost 0
    have regs := State.erased_regs (s := s.begin) running lost kept
    have stored {id : Nat} (other : id ≠ Reg.RESTORE_PATH) : t.reg id = s.begin.eraseAll.reg id := by
      rw [ends, State.takePath2_reg _ other, State.reg_of_regs regs]
    have blank : t.Blank := ends ▸ blank.takePath2
    exact ⟨blank.mem, blank.dst, blank.overflow, blank.runs, blank.large, blank.fine, blank.table, blank.bands, blank.manifests,
      blank.poison, by rw [ends]; exact done, (stored (by decide)).trans (State.eraseAll_shutdown lost),
      by rw [ends]; exact State.takePath2_path _, by rw [ends]; rfl,
      fun fits => (stored (by decide)).trans (State.eraseAll_ckptSeq lost fits)⟩

end Sys2Proof.Machine
end

section
/-! PROOFS. Heat, age, the DST's diagnostic words and training (O15). -/

namespace Sys2Proof.Machine

/-! ### Heat decays (R95) -/

theorem Basin.flushAll_table (b : Basin) (q : Nat) : (b.flushAll q).dst = b.dst ∧ (b.flushAll q).overflow = b.overflow := by
  have added : ∀ (l : List (Nat × Nat)) (b : Basin), (l.foldl (fun b p => b.heatAdd q p.1 p.2) b).dst = b.dst
      ∧ (l.foldl (fun b p => b.heatAdd q p.1 p.2) b).overflow = b.overflow := by
    intro l
    induction l with
    | nil => exact fun _ => ⟨rfl, rfl⟩
    | cons p l ih => exact fun b => ih (b.heatAdd q p.1 p.2)
  exact added b.cache b

theorem heatDecayPeriodExpiry_answers {s : State} (serves : s.basin.state = .serving) : Answers .heatDecayPeriodExpiry s fun t =>
    t.basin.dst = s.basin.dst.map (fun p => (p.1, { p.2 with heat := p.2.heat - p.2.heat / 8 }))
      ∧ t.basin.overflow = s.basin.overflow ∧ s.SameBut t [.out, .basin] := by
  obtain ⟨dst, overflow⟩ := s.basin.flushAll_table (s.reg Reg.HEAT_QUANTUM)
  refine ⟨_, rfl, ?_⟩
  rw [if_pos (show s.begin.basin.state = .serving from serves)]
  exact ⟨congrArg (List.map _) dst, overflow, s.begin_same.widen.next (State.onBasin_same _ _)⟩

theorem ageTickExpiry_answers {s : State} (serves : s.basin.state = .serving) : Answers .ageTickExpiry s fun t =>
    t.basin = { s.basin with dst := s.basin.dst.map fun p => (p.1, { p.2 with age := min 511 (p.2.age + 1) }) }
      ∧ s.SameBut t [.out, .basin] := by
  refine ⟨_, rfl, ?_⟩
  rw [if_pos (show s.begin.basin.state = .serving from serves)]
  exact ⟨rfl, s.begin_same.widen.next (State.onBasin_same _ _)⟩

/-! ### The diagnostic words (R104, Table 3-12) -/

/-- The index and the two words that a write of DST_DIAG_INDEX leaves. -/
def State.latchDst (s : State) (v a b : Nat) : State :=
  ((s.setReg Reg.DST_DIAG_INDEX v).setReg Reg.DST_DIAG_WORD0 a).setReg Reg.DST_DIAG_WORD1 b

theorem State.latchDst_same (s : State) (v a b : Nat) : s.SameBut (s.latchDst v a b) [.regs] :=
  ((s.setReg_same _ _).trans (State.setReg_same _ _ _)).trans (State.setReg_same _ _ _)

theorem State.latchDst_regs (s : State) {v : Nat} (a b : Nat) (fits : v < 2 ^ 18) :
    (s.latchDst v a b).reg Reg.DST_DIAG_INDEX = v ∧ (s.latchDst v a b).reg Reg.DST_DIAG_WORD0 = a % 2 ^ 48
      ∧ (s.latchDst v a b).reg Reg.DST_DIAG_WORD1 = b % 2 ^ 48 := by
  have index : paramWidth Reg.DST_DIAG_INDEX = 18 := by decide +kernel
  have word0 : paramWidth Reg.DST_DIAG_WORD0 = 48 := by decide +kernel
  have word1 : paramWidth Reg.DST_DIAG_WORD1 = 48 := by decide +kernel
  unfold State.latchDst
  refine ⟨?_, ?_, ?_⟩
  · rw [State.reg_setReg_ne _ _ _ _ (by decide), State.reg_setReg_ne _ _ _ _ (by decide),
      State.reg_setReg _ _ _ (by rwa [index])]
  · rw [State.reg_setReg_ne _ _ _ _ (by decide), State.reg_setReg_same, word0]
  · rw [State.reg_setReg_same, word1]

theorem State.writeReg_dstDiag (s : State) (v : Nat) : s.writeReg Reg.DST_DIAG_INDEX v = s.dstDiag v := rfl

theorem State.dstDiag_found {s : State} {v seg : Nat} {e : DstEntry} (h : (s.basin.dst.find? fun p => p.2.ptr == v) = some (seg, e)) :
    s.dstDiag v = s.latchDst v (e.word0 seg) (e.word1 (s.basin.setOf seg)) := by
  unfold State.dstDiag
  dsimp only [State.setReg_basin]
  rw [h]
  rfl

theorem State.dstDiag_free {s : State} {v : Nat} (h : (s.basin.dst.find? fun p => p.2.ptr == v) = none) :
    s.dstDiag v = s.latchDst v 0 0 := by
  unfold State.dstDiag
  dsimp only [State.setReg_basin]
  rw [h]
  rfl

/-- A write of DST_DIAG_INDEX, by the words that are latched. -/
theorem dstDiagIndexWrite_latches {v a b : Nat} {s : State} (fits : v < 2 ^ 18) (up : s.seq.coreUp = true)
    (latched : s.begin.dstDiag v = s.begin.latchDst v a b) : Answers (.dstDiagIndexWrite v) s fun t =>
      t.reg Reg.DST_DIAG_INDEX = v ∧ t.reg Reg.DST_DIAG_WORD0 = a % 2 ^ 48 ∧ t.reg Reg.DST_DIAG_WORD1 = b % 2 ^ 48
        ∧ s.SameBut t [.out, .regs] := by
  obtain ⟨index, word0, word1⟩ := s.begin.latchDst_regs a b fits
  refine ⟨_, rfl, ?_⟩
  rw [if_pos fits, State.softWrite, if_pos (show s.begin.seq.coreUp = true from up), State.writeReg_dstDiag, latched]
  exact ⟨index, word0, word1, s.begin_same.widen.next (State.latchDst_same _ _ _ _)⟩

theorem dstDiagIndexWrite_found {v seg : Nat} {e : DstEntry} {l m : List (Nat × DstEntry)} {s : State} (fits : v < 2 ^ 18)
    (up : s.seq.coreUp = true) (dst : s.basin.dst = l ++ (seg, e) :: m) (ptr : e.ptr = v) (first : ∀ p ∈ l, p.2.ptr ≠ v) :
    Answers (.dstDiagIndexWrite v) s fun t =>
      t.reg Reg.DST_DIAG_INDEX = v ∧ t.reg Reg.DST_DIAG_WORD0 = e.word0 seg % 2 ^ 48
        ∧ t.reg Reg.DST_DIAG_WORD1 = e.word1 (s.basin.setOf seg) % 2 ^ 48 ∧ s.SameBut t [.out, .regs] := by
  have found : (s.basin.dst.find? fun p => p.2.ptr == v) = some (seg, e) := by
    rw [dst, List.find?_append, List.find?_eq_none.mpr fun p hp => by simpa using first p hp, Option.none_or]
    exact List.find?_cons_of_pos (by simpa using ptr)
  exact dstDiagIndexWrite_latches fits up (State.dstDiag_found (s := s.begin) found)

theorem dstDiagIndexWrite_free {v : Nat} {s : State} (fits : v < 2 ^ 18) (up : s.seq.coreUp = true)
    (free : ∀ p ∈ s.basin.dst, p.2.ptr ≠ v) : Answers (.dstDiagIndexWrite v) s fun t =>
      t.reg Reg.DST_DIAG_INDEX = v ∧ t.reg Reg.DST_DIAG_WORD0 = 0 ∧ t.reg Reg.DST_DIAG_WORD1 = 0 ∧ s.SameBut t [.out, .regs] :=
  dstDiagIndexWrite_latches fits up <| State.dstDiag_free (s := s.begin) <|
    List.find?_eq_none.mpr fun p hp => by simpa using free p hp

/-! ### What the NV Store's updates write (R397) -/

/-- An update of the NV Store changes no register below the collector's. -/
theorem State.nvPut_reg_below (s : State) (d : NvData) (g : NvStore → NvData → NvStore) {id : Nat} (h : id < Reg.FC_STATUS) :
    (s.nvPut d g).reg id = s.reg id := by
  have held (e : NvData) : (s.nvHold e).reg id = s.reg id := State.reg_of_regs (s.nvHold_regs e) id
  unfold State.nvPut
  split
  · rfl
  split
  · split
    · rfl
    · exact held _
  · split
    · exact (State.fault_reg_below _ _ _ _ _ _ h).trans (held _)
    · rfl

/-! ### A population accepted (R80, R102, R509) -/

/-- The part of the Basin that an accepted population and its empty table make up. -/
def Basin.accepted (b : Basin) : Basin :=
  { state := b.state, found := b.found, row := b.row, dst := b.dst, overflow := b.overflow }

/-- A step after a population is accepted: population, table and rate stand. -/
structure State.KeepsPop (s t : State) : Prop where
  same : s.SameBut t [.out, .regs, .freeCtr, .rec_, .fc, .port, .mir, .nv, .basin]
  basin : t.basin.accepted = s.basin.accepted
  rate : t.reg Reg.DRAM_RATE = s.reg Reg.DRAM_RATE

theorem State.KeepsPop.refl (s : State) : s.KeepsPop s := ⟨.refl _ _, rfl, rfl⟩

theorem State.KeepsPop.trans {s t u : State} (h : s.KeepsPop t) (k : t.KeepsPop u) : s.KeepsPop u :=
  ⟨h.same.trans k.same, k.basin.trans h.basin, k.rate.trans h.rate⟩

theorem State.KeepsPop.ite {c : Prop} [Decidable c] {s t u : State} (h : s.KeepsPop t) (k : s.KeepsPop u) :
    s.KeepsPop (if c then t else u) := by split <;> assumption

theorem State.KeepsPop.foldl {α : Type} (f : State → α → State) (h : ∀ (s : State) (a : α), s.KeepsPop (f s a)) :
    ∀ (l : List α) (s : State), s.KeepsPop (l.foldl f s)
  | [], s => .refl s
  | a :: l, s => (h s a).trans (foldl f h l (f s a))

theorem State.nvPut_keepsPop (s : State) (d : NvData) (g : NvStore → NvData → NvStore) : s.KeepsPop (s.nvPut d g) :=
  ⟨(s.nvPut_same d g).widen, congrArg Basin.accepted (s.nvPut_same d g .basin (by decide)), s.nvPut_reg_below d g (by decide)⟩

theorem State.setReg_keepsPop (s : State) (id v : Nat) (other : Reg.DRAM_RATE ≠ id) : s.KeepsPop (s.setReg id v) :=
  ⟨(s.setReg_same id v).widen, rfl, s.reg_setReg_ne _ _ _ other⟩

theorem State.onPort_keepsPop (s : State) (f : HostPort → HostPort) : s.KeepsPop (s.onPort f) :=
  ⟨(s.onPort_same f).widen, rfl, rfl⟩

theorem State.onBasin_keepsPop (s : State) {f : Basin → Basin} (h : ∀ b, (f b).accepted = b.accepted) : s.KeepsPop (s.onBasin f) :=
  ⟨(s.onBasin_same f).widen, h _, rfl⟩

theorem State.delta_keepsPop (s : State) (id v : Nat) : s.KeepsPop (s.delta id v) :=
  (s.nvPut_keepsPop _ _).trans (State.setReg_keepsPop _ _ _ (by decide))

theorem State.dropAllocs_keepsPop (s : State) : s.KeepsPop s.dropAllocs :=
  (s.onPort_keepsPop _).trans <| .foldl _ (fun u _ =>
    .trans (.ite (.refl u) (u.delta_keepsPop _ _)) (.ite (.refl _) (State.delta_keepsPop _ _ _))) _ _

theorem State.fitPartitions_keepsPop (s : State) : s.KeepsPop s.fitPartitions := by
  have raised (u : State) : u.KeepsPop (u.raise Ev.CAPACITY_ADJUSTED) :=
    ⟨(u.raise_same _ _ _ _ _).widen, congrArg Basin.accepted (u.raise_basin ..), u.raise_reg _ _ _ _ _ _ (by decide)⟩
  have fitted (v : Nat) : s.KeepsPop ((s.setReg Reg.VOLATILE_SIZE v).delta Reg.VOLATILE_SIZE v) :=
    (s.setReg_keepsPop _ _ (by decide)).trans (State.delta_keepsPop _ _ _)
  unfold State.fitPartitions
  exact .trans (.trans (.ite (.refl s) (fitted _)) (.ite (State.dropAllocs_keepsPop _) (.refl _))) (.ite (.refl _) (raised _))

/-- Hard repair leaves the layout in force and the partitions configured (R88). -/
theorem State.hardRepair_keeps (s : State) : s.KeepsPop s.hardRepair ∧ s.hardRepair.port.bare = s.port.bare
    ∧ s.hardRepair.reg Reg.VOLATILE_SIZE = s.reg Reg.VOLATILE_SIZE := by
  have repaired (l : List Nat) (u : State) : u.KeepsPop (l.foldl (fun s m => s.nvWrite (.ppr m [])) u)
      ∧ (l.foldl (fun s m => s.nvWrite (.ppr m [])) u).port.bare = u.port.bare
      ∧ (l.foldl (fun s m => s.nvWrite (.ppr m [])) u).reg Reg.VOLATILE_SIZE = u.reg Reg.VOLATILE_SIZE :=
    ⟨.foldl _ (fun u m => u.nvPut_keepsPop _ _) l u, State.foldl_bare _ (fun u m => u.nvPut_bare _ _) l u,
      State.foldl_reg _ _ (fun u m => u.nvPut_reg_below _ _ (by decide)) l u⟩
  unfold State.hardRepair
  split
  · exact ⟨.refl s, rfl, rfl⟩
  · obtain ⟨kept, bare, size⟩ := repaired (s.basin.pprRows.map fun r => r / 2 ^ 18 / 16).eraseDups (s.onBasin fun b => { b with pprRows := [] })
    have cleared : s.KeepsPop (s.onBasin fun b => { b with pprRows := [] }) := s.onBasin_keepsPop fun _ => rfl
    exact ⟨cleared.trans kept, bare, size⟩

theorem State.takeLayout_volGiB (s : State) : s.takeLayout.port.volGiB = 64 * s.takeLayout.reg Reg.VOLATILE_SIZE := rfl

/-- The Basin with a population taken, its table empty, and the rate set. -/
def State.takePop (s : State) (l : List Dimm) (row : Nat) : State :=
  (s.onBasin fun b => { b with
    state := .serving, found := l, row := row, dst := [], shadow := [], overflow := []
    spare := s.reg Reg.RANK_SPARE_ENABLE == 1 }).setReg Reg.DRAM_RATE ((commonRate l).getD 0)

theorem State.acceptPop_keepsPop (s : State) (l : List Dimm) (row : Nat) : (s.takePop l row).KeepsPop (s.acceptPop l row)
    ∧ (s.acceptPop l row).port.volGiB = 64 * (s.acceptPop l row).reg Reg.VOLATILE_SIZE := by
  have recorded (u : State) : u.KeepsPop ((u.nvDurable (.dramPop l)).onBasin fun b => { b with spareCopy := none, spareQ := [] }) :=
    (u.nvPut_keepsPop _ _).trans (State.onBasin_keepsPop _ fun _ => rfl)
  obtain ⟨u, kept, ends⟩ : ∃ u, (s.takePop l row).KeepsPop u ∧ s.acceptPop l row = u.takeLayout.hardRepair :=
    ⟨_, .trans (.ite (.refl _) (recorded _)) (.ite (State.fitPartitions_keepsPop _) (.refl _)), rfl⟩
  obtain ⟨repaired, bare, size⟩ := u.takeLayout.hardRepair_keeps
  rw [ends]
  refine ⟨(kept.trans (u.onPort_keepsPop _)).trans repaired, ?_⟩
  rw [size, show u.takeLayout.hardRepair.port.volGiB = u.takeLayout.port.volGiB from (congrArg HostPort.volGiB bare :)]
  rfl

theorem commonRate_lt {l : List Dimm} {r : Nat} (h : commonRate l = some r) : r < 2 ^ paramWidth Reg.DRAM_RATE := by
  have steps : ∀ two, ∀ r ∈ rateSteps two, r < 2 ^ paramWidth Reg.DRAM_RATE := by decide +kernel
  exact steps _ r (List.mem_of_find?_eq_some h)

theorem State.begin_popRow (s : State) : s.begin.popRow = s.popRow := rfl

theorem dramTrainingComplete_trained {dimms : List Dimm} {failed : List (Nat × Nat)} {s : State}
    (training : s.basin.state = .training) (early : s.nv.early = true) :
    Answers (.dramTrainingComplete dimms failed) s fun t => t = s.begin.trained dimms failed :=
  ⟨_, rfl, if_pos ⟨training, early⟩⟩

theorem dramTrainingComplete_accepts {dimms : List Dimm} {failed : List (Nat × Nat)} {r : Nat} {s : State}
    (training : s.basin.state = .training) (early : s.nv.early = true) (taken : s.popRow dimms failed ≤ 3)
    (rate : commonRate dimms = some r) : Answers (.dramTrainingComplete dimms failed) s fun t =>
      t.basin.state = .serving ∧ t.basin.found = dimms ∧ t.basin.row = s.popRow dimms failed ∧ t.basin.dst = []
        ∧ t.basin.overflow = [] ∧ t.reg Reg.DRAM_RATE = r ∧ t.mem = s.mem ∧ t.dev = s.dev
        ∧ t.port.volGiB = 64 * t.reg Reg.VOLATILE_SIZE := by
  refine (dramTrainingComplete_trained training early).imp fun t ends => ?_
  obtain ⟨kept, layout⟩ := s.begin.acceptPop_keepsPop dimms (s.popRow dimms failed)
  rw [State.trained, s.begin_popRow, if_pos taken] at ends
  rw [← ends] at kept layout
  have basin := kept.basin
  refine ⟨(congrArg Basin.state basin :), (congrArg Basin.found basin :), (congrArg Basin.row basin :),
    (congrArg Basin.dst basin :), (congrArg Basin.overflow basin :), ?_, kept.same .mem (by decide), kept.same .dev (by decide), layout⟩
  rw [kept.rate, State.takePop, rate]
  exact State.reg_setReg _ _ _ (commonRate_lt rate)

/-! ### An event's status bit (R379) -/

/-- A record changes the recorder's registers alone. -/
theorem State.record_reg_ne (s : State) (t : RecType) (e : Nat) (l : List Nat) {id : Nat} (seq : id ≠ Reg.REC_SEQ)
    (lost : id ≠ Reg.REC_LOST) : (s.record t e l).2.reg id = s.reg id := by
  unfold State.record
  dsimp only
  split
  · exact s.reg_addReg_ne _ _ _ lost
  · split
    · exact (State.reg_addReg_ne _ _ _ _ lost).trans (s.reg_setReg_ne _ _ _ seq)
    · exact s.reg_setReg_ne _ _ _ seq

/-- Snapshots change the recorder's registers and their triggers. -/
theorem State.snapshots_reg_ne (s : State) (n : Nat) (r : State → Nat → Nat) {id : Nat} (below : id < Reg.REC_SEQ) :
    (s.snapshots n r).reg id = s.reg id := by
  have lost : id ≠ Reg.REC_LOST := by simp only [Reg.REC_SEQ, Reg.REC_LOST] at below ⊢; omega
  refine State.foldl_reg _ id (fun s k => ?_) _ s
  have trigger : id ≠ Reg.SNAP_TRIGGER + k := by simp only [Reg.REC_SEQ, Reg.SNAP_TRIGGER] at below ⊢; omega
  dsimp only
  split
  · split
    · exact (State.reg_setReg_ne _ _ _ _ trigger).trans (s.record_reg_ne _ _ _ below.ne lost)
    · exact s.record_reg_ne _ _ _ below.ne lost
  · rfl

theorem evStatus_width {n : Nat} (h : n < 288) : paramWidth (Reg.EV_STATUS + n / 48) = 48 := by
  have all : ∀ k < 6, paramWidth (Reg.EV_STATUS + k) = 48 := by decide +kernel
  exact all _ (by omega)

/-- With the core domain up an assigned event sets its status bit. -/
theorem State.raise_status (s : State) {n : Nat} (a b : Nat) (w : List Nat) (z : Bool) (assigned : eventAssigned n = true)
    (up : s.seq.coreUp = true) : evBit (s.raise n a b w z) Reg.EV_STATUS n = true := by
  have small := eventAssigned_lt assigned
  have below : Reg.EV_STATUS + n / 48 < Reg.REC_SEQ := by simp only [Reg.EV_STATUS, Reg.REC_SEQ]; omega
  have lost : Reg.EV_STATUS + n / 48 ≠ Reg.REC_LOST := by simp only [Reg.EV_STATUS, Reg.REC_LOST]; omega
  have status : (s.raise n a b w z).reg (Reg.EV_STATUS + n / 48)
      = (s.setReg (Reg.EV_STATUS + n / 48) (setBit (s.reg (Reg.EV_STATUS + n / 48)) (n % 48))).reg (Reg.EV_STATUS + n / 48) := by
    unfold State.raise
    simp only [assigned, up, Bool.not_true, Bool.false_eq_true, if_false]
    rw [State.snapshots_reg_ne _ _ _ below]
    repeat' split
    all_goals simp [State.record_reg_ne _ _ _ _ below.ne lost]
  rw [evBit, status, State.reg_setReg_same, evStatus_width small, bit_mod (Nat.mod_lt _ (by decide)), bit_setBit]

/-! ### A population not to be taken (R101, Table 3-9) -/

/-- The report and the event of a channel that differs. -/
def State.holdChannel (s : State) (ch : Nat) : State := (s.fault (Src.BASIN_CH0 + ch) .degraded).raise Ev.POPULATION_MISMATCH

theorem State.holdChannel_same (s : State) (ch : Nat) : s.SameBut (s.holdChannel ch) [.out, .regs, .freeCtr, .rec_, .fc, .port, .mir] :=
  (s.fault_same _ _ _ _ _).widen.next (State.raise_same _ _ _ _ _ _)

/-- The hold's reports, the last of them with its event, on the Basin in POPULATION_HOLD. -/
theorem State.holdPop_ends (s : State) (l : List Dimm) (row : Nat) (failed : List (Nat × Nat)) : ∃ (u : State) (ch : Nat),
    (s.onBasin fun b => { b with state := .populationHold, found := l, row := row }).SameBut u
        [.out, .regs, .freeCtr, .rec_, .fc, .port, .mir] ∧ s.holdPop l row failed = u.holdChannel ch := by
  have last : ∀ (as : List Nat) (v : State), as ≠ [] → ∃ (u : State) (ch : Nat),
      v.SameBut u [.out, .regs, .freeCtr, .rec_, .fc, .port, .mir] ∧ as.foldl State.holdChannel v = u.holdChannel ch := by
    intro as v some
    refine ⟨as.dropLast.foldl State.holdChannel v, as.getLast some, .foldl _ State.holdChannel_same _ _, ?_⟩
    conv_lhs => rw [← List.dropLast_append_getLast some, List.foldl_append]
    rfl
  have some (d : List Nat) : (if d = [] then [0] else d) ≠ [] := by
    split
    · exact List.cons_ne_nil _ _
    · assumption
  exact last _ _ (some _)

theorem dramTrainingComplete_holds {dimms : List Dimm} {failed : List (Nat × Nat)} {s : State}
    (training : s.basin.state = .training) (early : s.nv.early = true) (refused : 4 ≤ s.popRow dimms failed)
    (up : s.seq.coreUp = true) : Answers (.dramTrainingComplete dimms failed) s fun t =>
      t.basin.state = .populationHold ∧ t.basin.found = dimms ∧ evBit t Reg.EV_STATUS Ev.POPULATION_MISMATCH = true
        ∧ s.SameBut t [.out, .regs, .freeCtr, .rec_, .fc, .port, .mir, .basin] := by
  refine (dramTrainingComplete_trained training early).imp fun t ends => ?_
  obtain ⟨u, ch, before, held⟩ := s.begin.holdPop_ends dimms (s.popRow dimms failed) failed
  rw [State.trained, s.begin_popRow, if_neg (by omega), held] at ends
  have after := before.trans (u.holdChannel_same ch)
  rw [← ends] at after
  have basin := after .basin (by decide)
  have core : (u.fault (Src.BASIN_CH0 + ch) .degraded).seq.coreUp = true := by
    rw [State.fault_seq, show u.seq = s.seq from before .seq (by decide)]
    exact up
  refine ⟨(congrArg Basin.state basin :), (congrArg Basin.found basin :), ?_,
    (s.begin_same.widen.next (State.onBasin_same _ _)).next after⟩
  rw [ends]
  exact State.raise_status _ _ _ _ _ (by decide) core

/-- Settles O15: decay and age map the table alone, an index latches the entry found, an accepted population stands through
what is written after it, and the last report of a hold raises the event. -/
theorem basin_ticks : Obligations.Basin_ticks := by
  unfold Obligations.Basin_ticks
  exact ⟨fun s serves => heatDecayPeriodExpiry_answers serves, fun s serves => ageTickExpiry_answers serves,
    fun v s seg e l m fits up dst ptr first => dstDiagIndexWrite_found fits up dst ptr first,
    fun v s fits up free => dstDiagIndexWrite_free fits up free,
    fun dimms failed s r training early taken rate => dramTrainingComplete_accepts training early taken rate,
    fun dimms failed s training early refused up => dramTrainingComplete_holds training early refused up⟩

end Sys2Proof.Machine
end

section
/-! PROOFS. Steps that keep a fault shown (O14). -/

namespace Sys2Proof.Machine

/-! ### The fault collector's status word once it is not 0 (R366) -/

/-- A step that keeps the device state, and the status word other than 0. -/
structure State.Shows (s t : State) : Prop where
  dev : t.dev = s.dev
  status : s.reg Reg.FC_STATUS ≠ 0 → t.reg Reg.FC_STATUS ≠ 0

theorem State.Shows.refl (s : State) : s.Shows s := ⟨rfl, id⟩

theorem State.Shows.trans {s t u : State} (h : s.Shows t) (k : t.Shows u) : s.Shows u :=
  ⟨k.dev.trans h.dev, fun shown => k.status (h.status shown)⟩

theorem State.Shows.ite {c : Prop} [Decidable c] {s t u : State} (h : s.Shows t) (k : s.Shows u) : s.Shows (if c then t else u) := by
  split <;> assumption

theorem State.Shows.foldl {α : Type} (f : State → α → State) (h : ∀ (s : State) (a : α), s.Shows (f s a)) :
    ∀ (as : List α) (s : State), s.Shows (as.foldl f s)
  | [], s => .refl s
  | a :: as, s => (h s a).trans (foldl f h as (f s a))

/-- A step that changes neither. -/
theorem State.Shows.of_same {s t : State} {l : List Part} (h : s.SameBut t l) (k : Part.dev ∉ l ∧ Part.regs ∉ l) :
    s.Shows t := ⟨h .dev k.1, fun shown => by rwa [State.reg_of_regs (h .regs k.2)]⟩

theorem State.Shows.of_reg {s t : State} {l : List Part} (h : s.SameBut t l) (reg : t.reg Reg.FC_STATUS = s.reg Reg.FC_STATUS)
    (k : Part.dev ∉ l) : s.Shows t := ⟨h .dev k, fun shown => by rwa [reg]⟩

theorem State.setReg_shows (s : State) {id : Nat} (v : Nat) (other : Reg.FC_STATUS ≠ id) : s.Shows (s.setReg id v) :=
  .of_reg (s.setReg_same id v) (s.reg_setReg_ne _ _ _ other) (by decide)

theorem State.addReg_shows (s : State) {id : Nat} (n : Nat) (other : Reg.FC_STATUS ≠ id) : s.Shows (s.addReg id n) :=
  .of_reg (s.addReg_same id n) (s.reg_addReg_ne _ _ _ other) (by decide)

theorem State.raise_shows (s : State) (n a b : Nat) (w : List Nat) (z : Bool) : s.Shows (s.raise n a b w z) :=
  .of_reg (s.raise_same n a b w z) (s.raise_reg _ _ _ _ _ _ (by decide)) (by decide)

theorem ne_zero_of_bit {x n : Nat} (h : bit x n = true) : x ≠ 0 := by
  rintro rfl
  simp [bit] at h

/-- A report of an assigned source sets its bit, or with the core domain off leaves the word. -/
theorem State.fault_shows (s : State) {n : Nat} (v : Sev) (c : Nat) (j : Bool) (w : List Nat) (h : n < 48) :
    s.Shows (s.fault n v c j w) := by
  refine ⟨State.fault_dev .., fun shown => ?_⟩
  by_cases up : s.seq.coreUp = true
  · exact ne_zero_of_bit (s.fault_status v c j w h up)
  · have unshown (m : Nat) : (s.faultShow n m).reg Reg.FC_STATUS = s.reg Reg.FC_STATUS := by
      unfold State.faultShow
      rw [if_neg up]
      split <;> rfl
    have event : eventReg Reg.FC_STATUS = false := by decide
    unfold State.fault
    dsimp only
    repeat' split
    all_goals simpa [State.raise_reg _ _ _ _ _ _ _ event, State.enterFault_status, State.faultLatch_status, State.faultRecord_status,
      State.faultCount_status _ _ h, unshown] using shown

theorem State.nvPut_shows (s : State) (d : NvData) (g : NvStore → NvData → NvStore) : s.Shows (s.nvPut d g) := by
  have held (e : NvData) : s.Shows (s.nvHold e) := .of_same (s.nvHold_same e) (by decide)
  unfold State.nvPut
  split
  · exact .refl s
  split
  · split
    · exact ⟨rfl, id⟩
    · exact held _
  · split
    · exact (held _).trans (State.fault_shows _ _ _ _ _ (by decide))
    · exact ⟨rfl, id⟩

theorem State.count_shows (s : State) {id : Nat} (n : Nat) (other : Reg.FC_STATUS ≠ id) : s.Shows (s.count id n) := by
  have added := s.addReg_shows (id := id) 1 other
  unfold State.count State.bumpCounter
  dsimp only
  split
  · exact added.trans (State.nvPut_shows _ _ _)
  · split
    · exact added.trans (.ite (.refl _) (.ite (.of_same (State.nvHold_same _ _) (by decide)) ⟨rfl, fun shown => shown⟩))
    · exact added.trans (State.nvPut_shows _ _ _)

end Sys2Proof.Machine
end

section
/-! PROOFS. Captures, and the closing of wheels (O19). -/

namespace Sys2Proof.Machine

/-! ### Placing units (R143, R144, R272, R274) -/

/-- A step of the placing: it writes what wheels and their reports write, keeps WRITE_SEQ, and hides no fault shown. -/
structure State.Laid (s t : State) : Prop where
  same : s.SameBut t wheelParts
  seq : t.reg Reg.WRITE_SEQ = s.reg Reg.WRITE_SEQ
  status : s.reg Reg.FC_STATUS ≠ 0 → t.reg Reg.FC_STATUS ≠ 0

theorem State.Laid.refl (s : State) : s.Laid s := ⟨.refl _ _, rfl, id⟩

theorem State.Laid.trans {s t u : State} (h : s.Laid t) (k : t.Laid u) : s.Laid u :=
  ⟨h.same.trans k.same, k.seq.trans h.seq, fun shown => k.status (h.status shown)⟩

theorem State.Laid.shows {s t : State} (h : s.Laid t) : s.Shows t := ⟨h.same .dev (by decide), h.status⟩

theorem State.nvWrite_laid (s : State) (d : NvData) : s.Laid (s.nvWrite d) :=
  ⟨(s.nvWrite_same d).widen, s.nvPut_reg_below _ _ (by decide), (s.nvPut_shows _ _).status⟩

/-- An update of the wheels' table and the blocks. -/
theorem State.setWheels_laid (s : State) (w : Wheels) (r : Reservoir) : s.Laid { s with whl := w, res := r } := by
  refine ⟨?_, rfl, id⟩
  intro p hp; revert hp; cases p <;> simp [State.agree, wheelParts]

theorem State.layBand_laid {s t : State} {st : Stream} {rg : Region} {slc : Bool} {lane n set : Nat}
    (h : s.layBand st rg slc lane n set = some t) : s.Laid t := by
  unfold State.layBand at h
  obtain ⟨base, -, h⟩ := Option.bind_eq_some_iff.mp h
  obtain ⟨sp, -, rfl⟩ := Option.map_eq_some_iff.mp h
  exact s.setWheels_laid _ _

theorem State.ensurePlan_laid (st : Stream) (n : Nat) : ∀ s : State, s.Laid (s.ensurePlan st n) := by
  induction n with
  | zero => exact .refl
  | succ n ih =>
    intro s
    unfold State.ensurePlan
    dsimp only
    split
    · exact .refl s
    · split
      · exact .refl s
      · rename_i u laid
        have planned := u.setWheels_laid (u.whl.setPos st { s.whl.pos st with planSeq := (s.whl.pos st).planSeq + 1 }) u.res
        refine (State.layBand_laid laid).trans (planned.trans (.trans ?_ (ih _)))
        split
        · exact State.nvWrite_laid _ _
        · exact .refl _

/-- What a fold of steps that may fail leaves, when none fails. -/
theorem foldl_bind_laid {α : Type} {f : State → α → Option State} (k : ∀ s a t, f s a = some t → s.Laid t) :
    ∀ (as : List α) (o : Option State) (t : State), as.foldl (fun o a => o.bind fun s => f s a) o = some t →
      ∃ s, o = some s ∧ s.Laid t
  | [], _, t, h => ⟨t, h, .refl t⟩
  | a :: as, o, t, h => by
    obtain ⟨u, step, laid⟩ := foldl_bind_laid k as (o.bind fun s => f s a) t h
    obtain ⟨s, start, taken⟩ := Option.bind_eq_some_iff.mp step
    exact ⟨s, start, (k s a u taken).trans laid⟩

theorem State.openSet_laid {s t : State} (h : s.openSet = some t) : s.Laid t := by
  unfold State.openSet at h
  split at h
  · cases h
  · obtain ⟨u, start, laid⟩ := foldl_bind_laid (fun _ _ _ laid => State.layBand_laid laid) _ _ _ h
    cases start
    exact (s.setWheels_laid _ s.res).trans laid

theorem State.takeBand_laid {s t : State} {st : Stream} {lane : Nat} (h : s.takeBand st lane = some t) : s.Laid t := by
  unfold State.takeBand at h
  obtain ⟨u, planned, h⟩ := Option.bind_eq_some_iff.mp h
  obtain ⟨b, -, rfl⟩ := Option.map_eq_some_iff.mp h
  have before : s.Laid u := by
    split at planned
    · split at planned
      · exact State.openSet_laid planned
      · cases planned; exact .refl s
    · cases planned; exact s.ensurePlan_laid st 32
  exact before.trans (u.setWheels_laid _ u.res)

theorem State.ready_laid {c : Prop} [Decidable c] {s t : State} {st : Stream} {lane : Nat}
    (h : (if c then some s else s.takeBand st lane) = some t) : s.Laid t := by
  split at h
  · cases h; exact .refl s
  · exact State.takeBand_laid h

theorem State.substV_laid (s : State) (b : Band) : s.Laid (s.substV b).1 := by
  have folded (f : State × Band → Nat → State × Band) (step : ∀ (p : State × Band) (c : Nat), p.1.Laid (f p c).1) :
      ∀ (l : List Nat) (p : State × Band), p.1.Laid (l.foldl f p).1 := fun l => by
    induction l with
    | nil => exact fun p => .refl p.1
    | cons c l ih => exact fun p => (step p c).trans (ih _)
  unfold State.substV
  refine folded _ (fun p c => ?_) _ (s, b)
  obtain ⟨u, b⟩ := p
  dsimp only
  repeat' split
  · exact (u.setWheels_laid _ _).trans (State.nvWrite_laid _ _)
  all_goals exact .refl _

theorem State.openWheel_laid {s t : State} {st : Stream} {n : Nat} (h : s.openWheel st = some (n, t)) : s.Laid t := by
  unfold State.openWheel at h
  dsimp only at h
  split at h
  · cases h
  · obtain ⟨u, ready, h⟩ := Option.bind_eq_some_iff.mp h
    have before := State.ready_laid ready
    split at h
    · cases h
    · rename_i b _
      have substituted : u.Laid (if st = .v then u.substV b else (u, b)).1 := by
        split
        · exact u.substV_laid b
        · exact .refl u
      cases h
      exact (before.trans substituted).trans (State.setWheels_laid _ _ _)

theorem State.placeFuel_laid {st : Stream} (f : Nat) : ∀ {s t : State} {n : Nat} {acc l : List (Nat × Nat × Nat)},
    s.placeFuel st f n acc = some (l, t) → s.Laid t := by
  induction f with
  | zero =>
    intro s t n acc l h
    cases n with
    | zero => cases h; exact .refl s
    | succ n => cases h
  | succ f ih =>
    intro s t n acc l h
    cases n with
    | zero => cases h; exact .refl s
    | succ n =>
      rw [State.placeFuel] at h
      case x_3 => exact Nat.succ_ne_zero n
      split at h
      · exact (s.setWheels_laid _ s.res).trans (ih h)
      · split at h
        · rename_i opened
          exact (State.openWheel_laid opened).trans (ih h)
        · cases h

theorem State.place_laid {s t : State} {st : Stream} {n : Nat} {l : List (Nat × Nat × Nat)} (h : s.place st n = some (l, t)) :
    s.Laid t := by
  have told (u : State) : u.Laid ((u.fault Src.RILL .log).raise Ev.LANDING_FULL) :=
    ⟨(u.fault_same _ _ _ _ _).widen.next (State.raise_same _ _ _ _ _ _),
      (State.raise_reg _ _ _ _ _ _ _ (by decide)).trans (u.fault_reg_below _ _ _ _ _ (by decide)),
      ((u.fault_shows _ _ _ _ (by decide)).trans (State.raise_shows _ _ _ _ _ _)).status⟩
  unfold State.place at h
  obtain ⟨⟨k, u⟩, placed, e⟩ := Option.map_eq_some_iff.mp h
  have laid := State.placeFuel_laid _ placed
  dsimp only at e
  split at e
  · cases e; exact laid.trans (told u)
  · cases e; exact laid

/-! ### A capture (R94, R136) -/

theorem pages_allOnes : pages (BitVec.allOnes 512) = 512 := by decide +kernel

/-- The capture of pages `c` of a segment, placed in `spans`. -/
def State.captureOf (s : State) (seg : Nat) (large : Bool) (c : BitVec 512) (spans slots : List (Nat × Nat × Nat)) : Capture :=
  { seg := seg, seq := s.reg Reg.WRITE_SEQ + 1, kind := if large then .large else .fine, pages := c, waits := spanWheels spans
    slots := slots }

/-- What a capture leaves: its unit in flight, its entry WRITING with nothing written since. -/
structure State.Captured (s : State) (e : DstEntry) (cap : Capture) (t : State) : Prop where
  seq : t.reg Reg.WRITE_SEQ = s.reg Reg.WRITE_SEQ + 1
  listed : t.rill.captures = s.rill.captures ++ [cap]
  entry : t.basin.entry cap.seg = some { e with w := 0, c := cap.pages, state := .writing }
  others : ∀ g, g ≠ cap.seg → t.basin.entry g = s.basin.entry g
  maps : t.rill.large = s.rill.large ∧ t.rill.fine = s.rill.fine
  same : s.SameBut t [.out, .regs, .freeCtr, .rec_, .fc, .port, .mir, .nv, .basin, .rill, .whl, .res]

theorem Basin.capture_dirty {b : Basin} {seg : Nat} {e : DstEntry} (entry : b.entry seg = some e) (dirty : e.state = .dirty)
    (c : BitVec 512) : b.capture seg c false = some { b with dst := mput seg { e with w := 0, c := c, state := .writing } b.dst } := by
  simp [Basin.capture, entry, dirty]

/-- Below its first threshold WRITE_SEQ is counted up and nothing is reported (R141, Table 5-3a). -/
theorem State.takeSeq_quiet {s : State} (h : s.reg Reg.WRITE_SEQ + 1 < 0xFFFF00000000) :
    s.takeSeq = (s.reg Reg.WRITE_SEQ + 1, s.setReg Reg.WRITE_SEQ (s.reg Reg.WRITE_SEQ + 1)) := by
  unfold State.takeSeq
  dsimp only
  rw [if_neg (by omega)]

theorem State.capture_takes {s r : State} {seg : Nat} {e : DstEntry} {c : BitVec 512} {large : Bool}
    {slots spans : List (Nat × Nat × Nat)} (entry : s.basin.entry seg = some e) (dirty : e.state = .dirty)
    (kind : s.kindOf seg e.d = (c, large, slots)) (chosen : large = true → s.reg Reg.RILL_LARGE_MIN ≤ pages e.d)
    (below : s.reg Reg.WRITE_SEQ + 1 < 0xFFFF00000000) (leaves : s.rateLeaves (pages c) = true)
    (placed : s.place (if large then .l else .f) (pages c) = some (spans, r)) :
    ∃ t, s.capture seg = some t ∧ s.Captured e (s.captureOf seg large c spans slots) t := by
  have laid : s.Laid r := State.place_laid placed
  have missed : (large && decide (pages e.d < s.reg Reg.RILL_LARGE_MIN)) = false := by
    cases large
    · rfl
    · simpa using chosen rfl
  have seq := laid.seq
  have fits : r.reg Reg.WRITE_SEQ + 1 < 0xFFFF00000000 := by rwa [seq]
  have counted {n : Nat} (v : State) (h : n < 0xFFFF00000000) : (v.setReg Reg.WRITE_SEQ n).reg Reg.WRITE_SEQ = n := by
    have width : paramWidth Reg.WRITE_SEQ = 48 := by decide +kernel
    exact v.reg_setReg _ _ (by rw [width]; omega)
  have rill : r.rill = s.rill := laid.same .rill (by decide)
  unfold State.capture
  rw [entry]
  dsimp only
  rw [kind]
  dsimp only
  rw [if_neg (by simp [dirty, leaves]; omega), Basin.capture_dirty entry dirty, Option.bind_some, placed, missed]
  refine ⟨_, rfl, ?_⟩
  dsimp only
  rw [State.takeSeq_quiet (by exact fits), Bool.false_and, if_neg Bool.false_ne_true]
  refine ⟨?_, ?_, ?_, fun g other => ?_, ⟨(congrArg Rill.large rill :), (congrArg Rill.fine rill :)⟩, ?_⟩
  · exact (counted _ fits).trans (congrArg (· + 1) seq)
  · show r.rill.captures ++ _ = _
    rw [rill, State.captureOf, ← seq]
    rfl
  · exact (s.basin.entry_mput _ _ _).trans (if_pos rfl)
  · exact (s.basin.entry_mput _ _ _).trans (if_neg other.symm)
  · have taken (v : State) (b : Basin) (n : Nat) (f : Rill → Rill) (g : Wheels → Wheels) :
        v.SameBut (((({ v with basin := b } : State).setReg Reg.WRITE_SEQ n).onRill f).onWhl g) [.regs, .basin, .rill, .whl] :=
      .next (.next (.next (v.onBasin_same fun _ => b).widen (State.setReg_same _ _ _)) (State.onRill_same _ _)) (State.onWhl_same _ _)
    exact laid.same.widen.next (taken r _ _ _ _)


theorem State.kindOf_large {s : State} {seg : Nat} {d : BitVec 512} (h : s.reg Reg.RILL_LARGE_MIN ≤ pages d) :
    s.kindOf seg d = (BitVec.allOnes 512, true, []) := by
  unfold State.kindOf
  exact if_pos h

theorem State.kindOf_fine {s : State} {seg : Nat} {d : BitVec 512} {slots : List (Nat × Nat × Nat)}
    (few : pages d < s.reg Reg.RILL_LARGE_MIN)
    (room : s.rill.fineCount seg + (s.rill.newPages seg d).length ≤ s.reg Reg.RILL_FOLD_FINE)
    (reserved : s.reserveSlots seg (s.rill.newPages seg d) = some slots) : s.kindOf seg d = (d, false, slots) := by
  unfold State.kindOf
  dsimp only
  rw [if_neg (by omega), if_neg (by omega), reserved]

theorem rillCapture_takes {s : State} {seg : Nat} {e : DstEntry} {cap : Capture} {t : State}
    (runs : s.rill.state = .running ∨ s.rill.state = .flushing) (thawed : s.basin.frozen = false) (kept : s.rill.reformat = none)
    (due : s.captureDue = true) (next : s.nextCandidate = some seg) (taken : s.begin.capture seg = some t)
    (captured : s.begin.Captured e cap t) : Answers (.rillCapture .none []) s (s.Captured e cap) := by
  have called : (s.begin.rill.state = .running ∨ s.begin.rill.state = .flushing) ∧ !s.begin.basin.frozen
      ∧ s.begin.rill.reformat = none ∧ s.begin.captureDue := ⟨runs, by simp [thawed], kept, due⟩
  have chosen : s.begin.nextCandidate = some seg := next
  refine ⟨_, rfl, ?_⟩
  rw [if_pos called, chosen]
  dsimp only
  rw [State.entryErr_none, State.readErrs_none, taken]
  exact ⟨captured.seq, captured.listed, captured.entry, captured.others, captured.maps, s.begin_same.widen.next captured.same⟩

theorem rillCapture_takesLarge {s r : State} {seg : Nat} {e : DstEntry} {spans : List (Nat × Nat × Nat)}
    (runs : s.rill.state = .running ∨ s.rill.state = .flushing) (thawed : s.basin.frozen = false) (kept : s.rill.reformat = none)
    (next : s.nextCandidate = some seg) (entry : s.basin.entry seg = some e) (dirty : e.state = .dirty)
    (many : s.reg Reg.RILL_LARGE_MIN ≤ pages e.d) (due : s.captureDue = true) (leaves : s.rateLeaves 512 = true)
    (below : s.reg Reg.WRITE_SEQ + 1 < 0xFFFF00000000) (placed : s.begin.place .l 512 = some (spans, r)) :
    Answers (.rillCapture .none []) s (s.Captured e (s.captureOf seg true (BitVec.allOnes 512) spans [])) := by
  obtain ⟨t, taken, captured⟩ := State.capture_takes (s := s.begin) entry dirty (State.kindOf_large many) (fun _ => many) below
    (by rw [pages_allOnes]; exact leaves) (by rw [pages_allOnes]; exact placed)
  exact rillCapture_takes runs thawed kept due next taken captured

theorem rillCapture_takesFine {s r : State} {seg : Nat} {e : DstEntry} {slots spans : List (Nat × Nat × Nat)}
    (runs : s.rill.state = .running ∨ s.rill.state = .flushing) (thawed : s.basin.frozen = false) (kept : s.rill.reformat = none)
    (next : s.nextCandidate = some seg) (entry : s.basin.entry seg = some e) (dirty : e.state = .dirty)
    (kind : s.kindOf seg e.d = (e.d, false, slots)) (below : s.reg Reg.WRITE_SEQ + 1 < 0xFFFF00000000) (due : s.captureDue = true)
    (leaves : s.rateLeaves (pages e.d) = true) (placed : s.begin.place .f (pages e.d) = some (spans, r)) :
    Answers (.rillCapture .none []) s (s.Captured e (s.captureOf seg false e.d spans slots)) := by
  obtain ⟨t, taken, captured⟩ := State.capture_takes (s := s.begin) (large := false) entry dirty kind nofun below leaves placed
  exact rillCapture_takes runs thawed kept due next taken captured

theorem rillCapture_rests {e : DstErr} {ue : List Nat} {s : State} (none : s.nextCandidate = none ∨ s.captureDue = false) :
    Answers (.rillCapture e ue) s fun t => s.SameBut t [.out] := by
  refine ⟨_, rfl, ?_⟩
  obtain candidate | calm := none
  · rw [show s.begin.nextCandidate = Option.none from candidate]
    exact .ite s.begin_same s.begin_same
  · rw [if_neg fun h => by simp [show s.begin.captureDue = false from calm] at h]
    exact s.begin_same

/-! ### A wheel judged (Table 9-3) -/

/-- A wheel no longer open, with the parity and the units of another. -/
structure Wheel.ShutAs (w x : Wheel) : Prop where
  state : x.state ≠ .open_
  parity : x.parity = w.parity
  filled : x.filled = w.filled
  units : x.units = w.units

theorem Wheels.upd_wheel {x : Wheels} {n : Nat} {w : Wheel} (f : Wheel → Wheel) (h : x.wheel n = some w) :
    (x.upd n f).wheel n = some (f w) := by
  unfold Wheels.upd
  rw [h]
  unfold Wheels.wheel
  dsimp only
  rw [find?_mput, if_pos rfl, Option.map_some]

theorem Wheels.upd_jseq (x : Wheels) (n : Nat) (f : Wheel → Wheel) : (x.upd n f).jseq = x.jseq := by
  unfold Wheels.upd
  split <;> rfl

theorem State.loseWheel_whl (s : State) (n : Nat) : ∃ (p : List Desc) (l : List (Nat × List Nat)),
    (s.loseWheel n).whl = { s.whl.upd n (fun w => { w with state := .lost }) with pending := p, lost := l } := by
  have told (u : State) (d : NvData) (segs : List Nat) : u.SameBut
      (segs.foldl (fun s g => s.raise Ev.LOST_WHEEL 0 0 [g]) (((u.nvWrite d).count Reg.WHEELS_LOST 4).fault Src.WHEEL_PARITY .degraded))
      [.nv, .regs, .freeCtr, .rec_, .fc, .port, .mir, .out] :=
    .next (.next (.next (u.nvWrite_same d).widen (State.count_same _ _ _)) (State.fault_same _ _ _ _ _ _))
      (.foldl _ (fun s g => s.raise_same _ _ _ _ _) _ _)
  exact ⟨_, _, told _ _ _ .whl (by decide)⟩

theorem State.judgeWheel_keeps {s : State} {n : Nat} {w : Wheel} (h : s.whl.wheel n = some w) (shut : w.state ≠ .open_) :
    (∃ x, (s.judgeWheel n).whl.wheel n = some x ∧ w.ShutAs x) ∧ (s.judgeWheel n).whl.jseq = s.whl.jseq := by
  have judged (f : Wheel → Wheel) (as : w.ShutAs (f w)) :
      (∃ x, (s.whl.upd n f).wheel n = some x ∧ w.ShutAs x) ∧ (s.whl.upd n f).jseq = s.whl.jseq :=
    ⟨⟨_, Wheels.upd_wheel f h, as⟩, s.whl.upd_jseq n f⟩
  unfold State.judgeWheel
  rw [h]
  dsimp only
  split
  · split
    · obtain ⟨p, l, lost⟩ := s.loseWheel_whl n
      rw [lost]
      exact judged (fun w => { w with state := .lost }) ⟨nofun, rfl, rfl, rfl⟩
    · have told (u : State) : (u.fault Src.WHEEL_PARITY .degraded).whl = u.whl := (u.fault_same _ _ _ _ _) .whl (by decide)
      split
      · rw [told]
        exact judged _ ⟨by dsimp only; split <;> nofun, rfl, rfl, rfl⟩
      · exact judged _ ⟨by dsimp only; split <;> nofun, rfl, rfl, rfl⟩
  · exact ⟨⟨w, h, shut, rfl, rfl, rfl⟩, rfl⟩

/-! ### The journal's next strip (R281, R285) -/

/-- A strip of which both copies are programmed takes every pending descriptor. -/
theorem State.journalStrip_whl (s : State) : ∃ j : JStrip, j.copyA = true ∧ j.descs = s.whl.pending
    ∧ (s.journalStrip true true).whl.journal = s.whl.journal ++ [j] ∧ (s.journalStrip true true).whl.pending = []
    ∧ (s.journalStrip true true).whl.jseq = s.whl.jseq + 1 ∧ (s.journalStrip true true).whl.table = s.whl.table :=
  ⟨_, rfl, rfl, rfl, rfl, rfl, rfl⟩

/-- The last descriptor of the newest strip governs its wheel. -/
theorem Wheels.governing_last {x : Wheels} {l : List JStrip} {j : JStrip} {q : List Desc} {d : Desc}
    (journal : x.journal = l ++ [j]) (copy : j.copyA = true) (descs : j.descs = q ++ [d]) : x.governing d.wheel = some d := by
  simp [Wheels.governing, journal, copy, descs]

/-- A descriptor added to those pending, then journalled with them. -/
def State.stripDesc (s : State) (d : Desc) : State := (s.onWhl fun x => { x with pending := x.pending ++ [d] }).journalStrip true true

theorem State.stripDesc_whl (s : State) (d : Desc) : (s.stripDesc d).whl.governing d.wheel = some d
    ∧ (s.stripDesc d).whl.pending = [] ∧ (s.stripDesc d).whl.jseq = s.whl.jseq + 1 ∧ (s.stripDesc d).whl.table = s.whl.table := by
  obtain ⟨j, copy, descs, journal, pending, jseq, table⟩ :=
    (s.onWhl fun x => { x with pending := x.pending ++ [d] }).journalStrip_whl
  exact ⟨Wheels.governing_last journal copy descs, pending, jseq, table⟩

theorem State.stripDesc_rill (s : State) (d : Desc) : (s.stripDesc d).rill = s.rill := (State.journalStrip_same _ _ _) .rill (by decide)

/-! ### What waits for a closed wheel (R137, R147, R153) -/

/-- A closed wheel taken off every list that waits for it. -/
def State.unwait (s : State) (n : Nat) : State :=
  ((s.onRill fun x => { x with
    captures := x.captures.map fun c => { c with waits := c.waits.filter (· ≠ n) },
    relocs := x.relocs.map fun c => { c with waits := c.waits.filter (· ≠ n) } }).onSpill fun x => { x with
    runs := x.runs.map fun c => { c with waits := c.waits.filter (· ≠ n) } }).onSip fun x => { x with
    folds := x.folds.map fun c => (c.1, c.2.1, c.2.2.filter (· ≠ n)) }

/-- The captures that wait for nothing, complete. -/
def State.completeFree (s : State) : State := (s.rill.captures.filter fun c => c.waits.isEmpty).foldl (fun s c => s.completeCapture c) s

theorem State.wheelDone_eq (s : State) (n : Nat) : s.wheelDone n = if s.rill.reloading = true
    then (s.unwait n).onRill fun x => { x with heldClosed := x.heldClosed ++ [n] } else (s.unwait n).completeFree := rfl

theorem Rill.mapRun_captures (x : Rill) (u : Run) (large : Bool) (slots : List (Nat × Nat × Nat)) (only : BitVec 512) :
    (x.mapRun u large slots only).captures = x.captures := by
  unfold Rill.mapRun
  split
  · split <;> rfl
  · rfl

theorem State.completeCapture_captures (s : State) (c : Capture) :
    (s.completeCapture c).rill.captures = s.rill.captures.filter fun d => d.seq != c.seq := by
  unfold State.completeCapture
  dsimp only
  split
  · rfl
  · exact Rill.mapRun_captures _ _ _ _ _

/-- A capture left by completions is none of those completed. -/
theorem completions_captures {c : Capture} : ∀ (l : List Capture) (s : State),
    c ∈ (l.foldl (fun s c => s.completeCapture c) s).rill.captures → c ∈ s.rill.captures ∧ c ∉ l
  | [], _, h => ⟨h, List.not_mem_nil⟩
  | d :: l, s, h => by
    obtain ⟨left, other⟩ := completions_captures l _ h
    rw [State.completeCapture_captures, List.mem_filter, bne_iff_ne] at left
    obtain ⟨mem, ne⟩ := left
    exact ⟨mem, fun h => (List.mem_cons.mp h).elim (fun h => ne (congrArg Capture.seq h)) other⟩

theorem State.unwait_captures {s : State} {n : Nat} {c : Capture} (h : c ∈ (s.unwait n).rill.captures) : n ∉ c.waits := by
  obtain ⟨d, -, rfl⟩ := List.mem_map.mp h
  simp

theorem State.wheelDone_captures {s : State} {n : Nat} {c : Capture} (h : c ∈ (s.wheelDone n).rill.captures) :
    n ∉ c.waits ∧ (s.rill.reloading = false → c.waits ≠ []) := by
  rw [State.wheelDone_eq] at h
  split at h
  · rename_i reloading
    exact ⟨State.unwait_captures h, fun h => by simp [h] at reloading⟩
  · obtain ⟨mem, pending⟩ := completions_captures _ _ h
    exact ⟨State.unwait_captures mem, fun _ free => pending (List.mem_filter.mpr ⟨mem, by rw [free]; rfl⟩)⟩

theorem State.wheelDone_whl (s : State) (n : Nat) : (s.wheelDone n).whl = s.whl := by
  rw [State.wheelDone_eq]
  split
  · rfl
  · exact State.SameBut.foldl (l := [.rill, .basin, .weir]) _ (fun s c => s.completeCapture_same c) _ (s.unwait n) .whl (by decide)

/-! ### A wheel closes (R147, R280, R284) -/

/-- A wheel of the Rill's after its close: its descriptor governs, and no capture waits for it. -/
structure State.Closes (s : State) (n : Nat) (w : Wheel) (t : State) : Prop where
  shut : ∃ x, t.whl.wheel n = some x ∧ w.ShutAs x
  governs : ∃ d, t.whl.governing n = some d ∧ d.type = .close
  pending : t.whl.pending = []
  jseq : t.whl.jseq = s.whl.jseq + 1
  waits : ∀ c ∈ t.rill.captures, n ∉ c.waits ∧ (s.rill.reloading = false → c.waits ≠ [])
  same : s.SameBut t closeParts

theorem State.closeWheel_closes {s : State} {n : Nat} {w : Wheel} (h : s.whl.wheel n = some w) (opened : w.state = .open_)
    (rill : w.stream ≠ .v) : s.Closes n { w with parity := true } (s.closeWheel n) := by
  have same := s.closeWheel_same n
  obtain ⟨f, d, shut, ⟨number, type⟩, closes⟩ : ∃ (f : Wheel → Wheel) (d : Desc), ({ w with parity := true } : Wheel).ShutAs (f w)
      ∧ (d.wheel = n ∧ d.type = .close)
      ∧ s.closeWheel n = (((s.onWhl fun x => x.upd n f).judgeWheel n).stripDesc d).wheelDone n := by
    unfold State.closeWheel
    rw [h]
    dsimp only
    rw [if_neg (not_not.mpr opened), if_neg rill]
    refine ⟨_, _, ?_, ⟨rfl, rfl⟩, rfl⟩
    exact ⟨nofun, rfl, rfl, rfl⟩
  obtain ⟨⟨x, judged, kept⟩, jseq⟩ := State.judgeWheel_keeps (s := s.onWhl fun x => x.upd n f) (Wheels.upd_wheel f h) shut.state
  have unwritten : ((s.onWhl fun x => x.upd n f).judgeWheel n).rill = s.rill := (State.judgeWheel_same _ n) .rill (by decide)
  generalize (s.onWhl fun x => x.upd n f).judgeWheel n = u at closes judged jseq unwritten
  obtain ⟨governs, pending, next, table⟩ := u.stripDesc_whl d
  rw [closes] at same ⊢
  refine ⟨⟨x, ?_, kept.state, kept.parity.trans shut.parity, kept.filled.trans shut.filled, kept.units.trans shut.units⟩,
    ⟨d, ?_, type⟩, ?_, ?_, fun c mem => ?_, same⟩
  · rw [State.wheelDone_whl, Wheels.wheel, table]
    exact judged
  · rw [State.wheelDone_whl, ← number]
    exact governs
  · rw [State.wheelDone_whl, pending]
  · rw [State.wheelDone_whl, next, jseq]
    exact congrArg (· + 1) (s.whl.upd_jseq n f)
  · obtain ⟨idle, live⟩ := State.wheelDone_captures mem
    exact ⟨idle, fun h => live (by rw [u.stripDesc_rill, unwritten, h])⟩

theorem wheelClosed_closes {s : State} {n : Nat} {w : Wheel} (up : s.seq.coreUp = true) (h : s.whl.wheel n = some w)
    (issued : w.issued = true) (opened : w.state = .open_) (rill : w.stream ≠ .v) :
    Answers (.wheelClosed n) s (s.Closes n { w with parity := true }) := by
  refine ⟨_, rfl, ?_⟩
  rw [if_pos ⟨up, by rw [show s.begin.whl.wheel n = some w from h]; exact issued⟩]
  obtain ⟨shut, governs, pending, jseq, waits, same⟩ := State.closeWheel_closes (s := s.begin) h opened rill
  exact ⟨shut, governs, pending, jseq, waits, s.begin_same.widen.trans same⟩

/-- A wheel filled up with fill units. -/
def Wheel.filledUp (w : Wheel) : Wheel := { w with filled := 16 * w.strips, issued := true }

theorem wheelIdleTimeout_closes {s : State} {n : Nat} {w : Wheel}
    (runs : s.rill.state = .running ∨ s.rill.state = .flushing ∨ s.rill.state = .held) (h : s.whl.wheel n = some w)
    (unissued : w.issued = false) (opened : w.state = .open_) (rill : w.stream ≠ .v) :
    Answers (.wheelIdleTimeout n) s (s.Closes n { w.filledUp with parity := true }) := by
  refine ⟨_, rfl, ?_⟩
  rw [if_pos ⟨runs, by rw [show s.begin.whl.wheel n = some w from h]; simp [rill, unissued]⟩]
  have filled : (s.begin.fillWheel n).whl.wheel n = some w.filledUp :=
    (Wheels.upd_wheel _ h).trans (congrArg some (if_pos opened))
  obtain ⟨shut, governs, pending, jseq, waits, same⟩ := State.closeWheel_closes filled opened rill
  exact ⟨shut, governs, pending, jseq.trans (congrArg (· + 1) (s.whl.upd_jseq n _)), waits,
    (s.begin_same.widen.next (State.fillWheel_same _ _)).trans same⟩

/-- Settles O19: placing keeps what a capture has taken, the CLOSE descriptor is the last of the newest strip, and the captures
that a completion leaves still wait. -/
theorem rill_captures : Obligations.Rill_captures := by
  unfold Obligations.Rill_captures
  refine ⟨fun s seg e spans r runs thawed kept next entry dirty many due leaves below placed =>
      (rillCapture_takesLarge runs thawed kept next entry dirty many due leaves below placed).imp
        fun t ⟨seq, listed, entry, others, ⟨large, fine⟩, same⟩ => ⟨seq, listed, entry, others, large, fine, same⟩,
    fun s seg e slots spans r runs thawed kept next entry dirty few room reserved below due leaves placed =>
      (rillCapture_takesFine runs thawed kept next entry dirty (State.kindOf_fine few room reserved) below due leaves placed).imp
        fun t ⟨seq, listed, entry, others, ⟨large, fine⟩, same⟩ => ⟨seq, listed, entry, others, large, fine, same⟩,
    fun e ue s none => rillCapture_rests none,
    fun n w s up h issued opened rill => (wheelClosed_closes up h issued opened rill).imp
      fun t ⟨⟨x, found, shut⟩, governs, pending, jseq, waits, same⟩ =>
        ⟨⟨x, found, shut.state, shut.parity, shut.filled⟩, governs, pending, jseq, fun c mem => (waits c mem).1,
          fun live c mem => (waits c mem).2 live, same.widen⟩,
    fun n w s runs h unissued opened rill => (wheelIdleTimeout_closes runs h unissued opened rill).imp
      fun t ⟨⟨x, found, shut⟩, governs, pending, jseq, waits, same⟩ =>
        ⟨⟨x, found, shut.state, shut.parity, shut.filled, shut.units⟩, governs, pending, jseq, fun c mem => (waits c mem).1,
          fun live c mem => (waits c mem).2 live, same.widen⟩⟩

end Sys2Proof.Machine
end

section
/-! PROOFS. What leaves the figures of the Weir's re-plans (O16). -/

namespace Sys2Proof.Machine

/-! ### Steps that leave a re-plan's figures (Table 4-8) -/

/-- The figures of a re-plan: its ceilings, its factors and its costs. -/
def planRegs : List Nat :=
  [Reg.CEILING, Reg.CEILING_RAW, Reg.CEILING_LIMITER, Reg.K_PROG, Reg.K_TEMP, Reg.K_POP, Reg.E_BYTE, Reg.E_FIXED]

theorem planRegs_lt {id : Nat} (h : id ∈ planRegs) : id < 0x850 := by
  have all : ∀ i ∈ planRegs, i < 0x850 := by decide
  exact all id h

theorem planRegs_ge {id : Nat} (h : id ∈ planRegs) : 0x800 ≤ id := by
  have all : ∀ i ∈ planRegs, 0x800 ≤ i := by decide
  exact all id h

theorem planRegs_event {id : Nat} (h : id ∈ planRegs) : eventReg id = false := by
  have all : ∀ i ∈ planRegs, eventReg i = false := by decide
  exact all id h

/-- A step that changes the parts listed and no figure of a re-plan. -/
structure State.Tells (s t : State) (l : List Part) : Prop where
  same : s.SameBut t l
  figures : ∀ id ∈ planRegs, t.reg id = s.reg id

theorem State.Tells.refl (s : State) (l : List Part) : s.Tells s l := ⟨.refl _ _, fun _ _ => rfl⟩

theorem State.Tells.trans {s t u : State} {l : List Part} (h : s.Tells t l) (k : t.Tells u l) : s.Tells u l :=
  ⟨h.same.trans k.same, fun id listed => (k.figures id listed).trans (h.figures id listed)⟩

theorem State.Tells.widen {s t : State} {l m : List Part} (h : s.Tells t m) (k : m ⊆ l := by decide) : s.Tells t l :=
  ⟨h.same.sub k, h.figures⟩

theorem State.Tells.next {s t u : State} {l m : List Part} (h : s.Tells t l) (k : t.Tells u m) (sub : m ⊆ l := by decide) :
    s.Tells u l := h.trans (k.widen sub)

theorem State.Tells.ite {c : Prop} [Decidable c] {s t u : State} {l : List Part} (h : s.Tells t l) (k : s.Tells u l) :
    s.Tells (if c then t else u) l := by split <;> assumption

/-- A step that writes no register. -/
theorem State.Tells.of_same {s t : State} {l : List Part} (h : s.SameBut t l) (k : Part.regs ∉ l := by decide) : s.Tells t l :=
  ⟨h, fun id _ => State.reg_of_regs (h .regs k) id⟩

theorem State.setReg_tells (s : State) {id : Nat} (v : Nat) (other : id ∉ planRegs) : s.Tells (s.setReg id v) [.regs] :=
  ⟨s.setReg_same id v, fun j listed => s.reg_setReg_ne id v j fun h => other (h ▸ listed)⟩

theorem State.addReg_tells (s : State) {id : Nat} (n : Nat) (other : id ∉ planRegs) : s.Tells (s.addReg id n) [.regs, .freeCtr] :=
  ⟨s.addReg_same id n, fun j listed => s.reg_addReg_ne id n j fun h => other (h ▸ listed)⟩

theorem State.reg_putReg_ne (s : State) (id v j : Nat) (h : j ≠ id) : (s.putReg id v).reg j = s.reg j := by
  unfold State.putReg
  split
  · exact s.reg_setReg_ne _ _ _ h
  · exact s.reg_setReg_ne _ _ _ h

theorem State.reg_putReg (s : State) (id v : Nat) (h : v < 2 ^ paramWidth id) : (s.putReg id v).reg id = v := by
  rw [State.putReg, if_pos h, s.reg_setReg _ _ h]

theorem State.putReg_tells (s : State) {id : Nat} (v : Nat) (other : id ∉ planRegs) : s.Tells (s.putReg id v) [.regs, .freeCtr] :=
  ⟨s.putReg_same id v, fun j listed => s.reg_putReg_ne id v j fun h => other (h ▸ listed)⟩

/-- What reports and events write. -/
def reportParts : List Part := [.out, .regs, .freeCtr, .rec_, .fc, .port, .mir]

theorem State.fault_tells (s : State) (n : Nat) (v : Sev) : s.Tells (s.fault n v) reportParts :=
  ⟨(s.fault_same _ _ _ _ _).widen, fun _ listed => s.fault_reg_below _ _ _ _ _ ((planRegs_lt listed).trans (by decide))⟩

theorem State.raise_tells (s : State) (n : Nat) : s.Tells (s.raise n) reportParts :=
  ⟨(s.raise_same _ _ _ _ _).widen, fun _ listed => s.raise_reg _ _ _ _ _ _ (planRegs_event listed)⟩

/-! ### What follows the ceiling in a re-plan (R112, R117, R480) -/

theorem State.publish_tells (s : State) (a b c : Nat) : s.Tells (s.publish a b c) [.regs, .freeCtr] :=
  (((s.putReg_tells _ (by decide)).trans (State.putReg_tells _ _ (by decide))).trans (State.putReg_tells _ _ (by decide))).trans
    (State.putReg_tells _ _ (by decide))

theorem State.rideThrough_tells (s : State) : s.Tells s.rideThrough reportParts := by
  have set (v w : Nat) : s.Tells ((s.setReg Reg.K_RT v).setReg Reg.RIDE_THROUGH w) reportParts :=
    (s.setReg_tells v (by decide)).widen.next (State.setReg_tells _ w (by decide))
  unfold State.rideThrough
  exact .ite ((set _ _).next (State.fault_tells _ _ _)) (set _ _)

theorem State.replanLog_tells (s : State) : s.Tells s.replanLog [.regs] := by
  have ring (i : Nat) : Reg.REPLAN_HISTORY + i ∉ planRegs := fun h => by
    have below := planRegs_lt h
    simp only [Reg.REPLAN_HISTORY] at below
    omega
  exact (s.setReg_tells _ (ring _)).trans (State.setReg_tells _ _ (by decide))

/-! ### The arbiter at a re-plan (R436 to R439) -/

/-- What the arbiter writes: requests, grants and replies. -/
def arbiterParts : List Part := [.cmd, .nv, .regs, .freeCtr, .rec_, .fc, .port, .mir, .out]

theorem State.setAct_tells (s : State) (n : Nat) (f : Activity → Activity) : s.Tells (s.setAct n f) [.cmd] := .of_same (s.onCmd_same _)

theorem State.countStatus_tells (s : State) (tr st : Nat) : s.Tells (s.countStatus tr st) [.regs, .freeCtr] := by
  have counted (i : Nat) (low : i ≤ 10) : Reg.GLOBAL_COUNTER + i ∉ planRegs := fun h => by
    have above := planRegs_ge h
    simp only [Reg.GLOBAL_COUNTER] at above
    omega
  have carried (i : Nat) : Reg.TRANSPORT_COUNT + i ∉ planRegs := fun h => by
    have below := planRegs_lt h
    simp only [Reg.TRANSPORT_COUNT] at below
    omega
  unfold State.countStatus
  split
  · exact (s.addReg_tells _ (counted 0 (by decide))).trans (State.addReg_tells _ _ (carried _))
  · split
    · rename_i refused
      rw [Nat.add_sub_assoc (by omega), add_assoc]
      exact (s.addReg_tells _ (counted _ (by omega))).trans (State.addReg_tells _ _ (carried _))
    · exact .refl _ _

theorem State.sendReply_tells (s : State) (o : Owed) (st cs d : Nat) (l : List Nat) : s.Tells (s.sendReply o st cs d l) arbiterParts := by
  have counted : s.Tells (s.countStatus o.origin.transport st) arbiterParts := (s.countStatus_tells _ _).widen
  have emitted (x : Out) : s.Tells ((s.countStatus o.origin.transport st).emit x) arbiterParts :=
    counted.next (.of_same (State.emit_same _ _))
  unfold State.sendReply
  dsimp only
  exact .ite counted (.ite ((emitted _).next (.of_same (State.sendReplyMsg_same _ _ _ _ _))) (emitted _))

theorem State.mirror_tells (s : State) (n : Nat) : s.Tells (s.mirror n) arbiterParts := by
  unfold State.mirror
  split
  · exact .ite ⟨(s.nvDurable_same _).widen, fun _ listed => s.nvPut_reg_below _ _ ((planRegs_lt listed).trans (by decide))⟩ (.refl _ _)
  · exact .refl _ _

theorem State.settleAct_tells (s : State) (n : Nat) (o : Owed) (st : Nat) (l : List Nat) :
    s.Tells (s.settleAct n o st l) arbiterParts := by
  have changed (u : State) (f : Cmd → Cmd) : u.Tells (u.onCmd f) arbiterParts := (State.Tells.of_same (u.onCmd_same f)).widen
  exact .ite (.refl _ _) ((((changed _ _).trans (changed _ _)).trans (State.mirror_tells _ _)).trans (State.sendReply_tells _ _ _ _ _ _))

theorem State.releaseGrant_tells (s : State) (n : Nat) : s.Tells (s.releaseGrant n) arbiterParts := by
  have dropped : s.Tells (s.setAct n fun a => { a with grant := none }) arbiterParts := (s.setAct_tells n _).widen
  exact .ite (.refl _ _) (.ite (dropped.next (.of_same (State.dropGrant_same _ _ _)))
    (.ite dropped (dropped.next (.of_same (State.sendTo_same _ _ _ _ _)))))

theorem State.actFail_tells (s : State) (n st : Nat) (l : List Nat) : s.Tells (s.actFail n st l) arbiterParts := by
  have ended : s.Tells (s.actEnd n) arbiterParts := .ite (.refl _ _) ((s.releaseGrant_tells n).next (State.setAct_tells _ n _))
  unfold State.actFail
  dsimp only
  split
  · exact ended.trans (State.settleAct_tells _ _ _ _ _)
  · exact ended

theorem State.actRun_tells (s : State) (n : Nat) : s.Tells (s.actRun n) arbiterParts := by
  have begun : s.Tells (s.actBegin n) arbiterParts := (s.setAct_tells n _).widen
  unfold State.actRun
  dsimp only
  split
  · exact begun.trans (State.settleAct_tells _ _ _ _ _)
  · exact begun

theorem State.askGrant_tells (s : State) (n : Nat) : s.Tells (s.askGrant n).2 arbiterParts := by
  have added : s.Tells (s.addGrant n (s.reg Reg.MEMBER_NO)) arbiterParts :=
    (State.Tells.of_same (s.onMir_same _)).widen.next (.of_same (State.replica_same _))
  have asked (u : State) (f : Mirsen → Mirsen) (g : Activity → Activity) : u.Tells ((u.onMir f).setAct n g) arbiterParts :=
    (State.Tells.of_same (u.onMir_same f)).widen.next (State.setAct_tells _ n g)
  unfold State.askGrant
  dsimp only
  split
  · exact .refl _ _
  · split
    · split
      · exact added.next (State.setAct_tells _ n _)
      · exact .refl _ _
    · split
      · exact .refl _ _
      · exact (State.Tells.of_same (s.sendTo_same _ _ _ _)).widen.trans (asked _ _ _)

theorem State.suspendHolders_tells (c : Nat) (held : Activity → Nat) : ∀ (k : Nat) (s : State), s.Tells (s.suspendHolders c held k) [.cmd]
  | 0, s => .refl s _
  | k + 1, s => by
    unfold State.suspendHolders
    dsimp only
    refine .ite (.refl _ _) ?_
    split
    · exact .refl _ _
    · exact (s.setAct_tells _ _).trans (suspendHolders_tells c held k _)

/-- One waiting activity at a re-plan: it fails, runs, or asks on. -/
theorem State.actReplanned_tells (s : State) : s.Tells s.actReplanned arbiterParts := by
  have refused (u : State) (n m : Nat) (l r : List Nat) : u.Tells (((u.actFail n St.MARGIN_CONFLICT l).addReg Reg.MARGIN_CONFLICTS 1).setAct m
      fun a => { a with refusal := r }) arbiterParts :=
    ((u.actFail_tells n _ l).next (State.addReg_tells _ _ (by decide))).next (State.setAct_tells _ _ _)
  have folded (f : State → Nat → State) (step : ∀ (u : State) (n : Nat), u.Tells (f u n) arbiterParts) : ∀ (l : List Nat) (u : State),
      u.Tells (l.foldl f u) arbiterParts := fun l => by
    induction l with
    | nil => exact fun u => .refl u _
    | cons n l ih => exact fun u => (step u n).trans (ih _)
  refine folded _ (fun u n => ?_) _ _
  dsimp only
  refine .ite (.refl _ _) (.ite (refused _ _ _ _ _) ?_)
  have asked := u.askGrant_tells n
  split
  · rename_i granted
    rw [granted] at asked
    exact asked.trans (State.actRun_tells _ _)
  · rename_i denied
    rw [denied] at asked
    exact asked.trans (State.actFail_tells _ _ _ _)
  · rename_i sent
    rwa [sent] at asked

theorem State.arbiterReplan_tells (s : State) : s.Tells s.arbiterReplan arbiterParts :=
  .ite (.refl _ _) (s.actReplanned_tells.next (State.suspendHolders_tells _ _ _ _))

/-! ### The raw ceiling (R106 to R108) -/

theorem minOf_le {d x : Nat} : ∀ {l : List Nat}, x ∈ l → minOf d l ≤ x := by
  have least : ∀ (l : List Nat) (a : Nat), l.foldl Nat.min a ≤ a ∧ ∀ x ∈ l, l.foldl Nat.min a ≤ x := by
    intro l
    induction l with
    | nil => exact fun a => ⟨le_refl a, nofun⟩
    | cons b l ih =>
      intro a
      obtain ⟨first, rest⟩ := ih (Nat.min a b)
      refine ⟨first.trans (Nat.min_le_left a b), fun x mem => ?_⟩
      rcases List.mem_cons.mp mem with rfl | later
      · exact first.trans (Nat.min_le_right a x)
      · exact rest x later
  intro l mem
  cases l with
  | nil => cases mem
  | cons a l =>
    obtain ⟨first, rest⟩ := least l a
    rcases List.mem_cons.mp mem with rfl | later
    · exact first
    · exact rest x later

/-- The architecture's term bounds every raw ceiling (R106). -/
theorem State.rawCeiling_le (s : State) (ePol eFix eb : Nat) : (s.rawCeiling ePol eFix eb).1 ≤ 524288 := by
  have den : 0 < (100 + s.reg Reg.WEIR_MARGIN) * Nat.max 1 eb := Nat.mul_pos (by omega) (by simp)
  have bound (d : Nat) (l : List Nat) (mem : 524288 * ((100 + s.reg Reg.WEIR_MARGIN) * Nat.max 1 eb) ∈ l) :
      minOf d l / ((100 + s.reg Reg.WEIR_MARGIN) * Nat.max 1 eb) ≤ 524288 :=
    Nat.div_le_of_le_mul ((minOf_le mem).trans_eq (Nat.mul_comm _ _))
  exact (Nat.div_mul_le_self _ 2).trans (bound _ _ (by simp))

end Sys2Proof.Machine
end

section
/-! PROOFS. What the Weir's re-plans read and compute (O16). -/

namespace Sys2Proof.Machine

/-! ### The factors, the costs and the energy of a re-plan (R112 to R115) -/

theorem factor_le (a b : Nat) : factor a b ≤ 4095 := by
  unfold factor
  split
  · exact le_refl _
  · exact Nat.min_le_left _ _

theorem State.factors_le (s : State) (t : Nat) (temp : Int) :
    (s.factors t temp).1 ≤ 4095 ∧ (s.factors t temp).2.1 ≤ 4095 ∧ (s.factors t temp).2.2 ≤ 4095 := by
  unfold State.factors
  refine ⟨factor_le _ _, factor_le _ _, ?_⟩
  dsimp only
  split
  · exact le_refl _
  · exact factor_le _ _

/-- cost_per_gib of a re-plan at a flash temperature. -/
def State.planByte (s : State) (temp : Int) : Nat := s.costPerGib (s.factors s.tNow temp)

/-- fixed_cost of a re-plan at a flash temperature. -/
def State.planFixed (s : State) (temp : Int) : Nat := s.fixedCost (s.factors s.tNow temp).2.1

/-- The energy that the policy gives a re-plan, with single mode and whether it is new. -/
def State.planEnergy (s : State) (temp : Int) (first : Bool) : Nat × Bool × Bool :=
  s.policy first fun e => (s.rawCeiling (e - s.tokensOff) (s.planFixed temp) (s.planByte temp)).1

/-- The raw ceiling of an energy, tokens taken off, and its limiter. -/
def State.planCeiling (s : State) (temp : Int) (e : Nat) : Nat × Nat :=
  s.rawCeiling (e - s.tokensOff) (s.planFixed temp) (s.planByte temp)

/-- The factors and the costs, published. -/
def State.costed (s : State) (temp : Int) : State :=
  ((((s.setReg Reg.K_PROG (s.factors s.tNow temp).1).setReg Reg.K_TEMP (s.factors s.tNow temp).2.1).setReg Reg.K_POP
    (s.factors s.tNow temp).2.2).putReg Reg.E_BYTE (s.costPerGib (s.factors s.tNow temp))).putReg Reg.E_FIXED
    (s.fixedCost (s.factors s.tNow temp).2.1)

theorem State.costed_eq (s : State) (temp : Int) : s.costed temp =
    ((((s.setReg Reg.K_PROG (s.factors s.tNow temp).1).setReg Reg.K_TEMP (s.factors s.tNow temp).2.1).setReg Reg.K_POP
      (s.factors s.tNow temp).2.2).putReg Reg.E_BYTE (s.costPerGib (s.factors s.tNow temp))).putReg Reg.E_FIXED
      (s.fixedCost (s.factors s.tNow temp).2.1) := rfl

/-- The registers that a re-plan reads (R106 to R119). -/
def planReads : List Nat :=
  [Reg.T_MEAS, Reg.T_MEAS_FLASH, Reg.L_MEAS, Reg.RESERVE_DATA_SPOKES, Reg.REHEARSE_T_MED, Reg.E_BYTE_MEAS, Reg.E_BYTE_BASE,
    Reg.E_BYTE_FLOOR, Reg.P_RUN_CARD, Reg.RIDE_THROUGH, Reg.GPF_WINDOW, Reg.E_FIXED_BASE, Reg.E_FIXED_MEAS, Reg.WEIR_MARGIN,
    Reg.RESERVE_META, Reg.DAMPING_CAP, Reg.WEIR_ENERGY_POLICY, Reg.WEIR_FILL, Reg.CEILING, Reg.WEIR_RISE_HYST,
    Reg.WEIR_RISE_HOLD, Reg.WEIR_RISE_STEP]

theorem planReads_lt {id : Nat} (h : id ∈ planReads) : id < Reg.FC_STATUS := by
  have all : ∀ i ∈ planReads, i < Reg.FC_STATUS := by decide
  exact all id h

/-- `t` has all that a re-plan of `s` reads. -/
structure State.PlansAs (s t : State) : Prop where
  same : s.SameBut t reportParts
  regs : ∀ id ∈ planReads, t.reg id = s.reg id

theorem State.PlansAs.refl (s : State) : s.PlansAs s := ⟨.refl _ _, fun _ _ => rfl⟩

theorem State.PlansAs.trans {s t u : State} (h : s.PlansAs t) (k : t.PlansAs u) : s.PlansAs u :=
  ⟨h.same.trans k.same, fun id read => (k.regs id read).trans (h.regs id read)⟩

theorem State.costed_plansAs (s : State) (temp : Int) : s.PlansAs (s.costed temp) := by
  have apart : ∀ id ∈ planReads, id ∉ [Reg.K_PROG, Reg.K_TEMP, Reg.K_POP, Reg.E_BYTE, Reg.E_FIXED] := by decide
  refine ⟨((((s.setReg_same _ _).widen.next (State.setReg_same _ _ _)).next (State.setReg_same _ _ _)).next
    (State.putReg_same _ _ _)).next (State.putReg_same _ _ _), fun id read => ?_⟩
  have other := apart id read
  simp only [List.mem_cons, List.not_mem_nil, or_false, not_or] at other
  obtain ⟨prog, heat, pop, byte, fixed⟩ := other
  rw [State.costed, State.reg_putReg_ne _ _ _ _ fixed, State.reg_putReg_ne _ _ _ _ byte, State.reg_setReg_ne _ _ _ _ pop,
    State.reg_setReg_ne _ _ _ _ heat, State.reg_setReg_ne _ _ _ _ prog]

/-- The factors and the costs stand in their registers, a cost where its register holds it. -/
structure State.Costed (s : State) (temp : Int) (t : State) : Prop where
  prog : t.reg Reg.K_PROG = (s.factors s.tNow temp).1
  heat : t.reg Reg.K_TEMP = (s.factors s.tNow temp).2.1
  pop : t.reg Reg.K_POP = (s.factors s.tNow temp).2.2
  byte : s.planByte temp < 2 ^ paramWidth Reg.E_BYTE → t.reg Reg.E_BYTE = s.planByte temp
  fixed : s.planFixed temp < 2 ^ paramWidth Reg.E_FIXED → t.reg Reg.E_FIXED = s.planFixed temp

theorem State.costed_costed (s : State) (temp : Int) : s.Costed temp (s.costed temp) := by
  obtain ⟨prog, hot, pop⟩ := s.factors_le s.tNow temp
  have prog' : paramWidth Reg.K_PROG = 12 := by decide +kernel
  have hot' : paramWidth Reg.K_TEMP = 12 := by decide +kernel
  have pop' : paramWidth Reg.K_POP = 12 := by decide +kernel
  unfold State.costed
  refine ⟨?_, ?_, ?_, fun fits => ?_, fun fits => State.reg_putReg _ _ _ fits⟩
  · rw [State.reg_putReg_ne _ _ _ _ (by decide), State.reg_putReg_ne _ _ _ _ (by decide), State.reg_setReg_ne _ _ _ _ (by decide),
      State.reg_setReg_ne _ _ _ _ (by decide), State.reg_setReg _ _ _ (by rw [prog']; omega)]
  · rw [State.reg_putReg_ne _ _ _ _ (by decide), State.reg_putReg_ne _ _ _ _ (by decide), State.reg_setReg_ne _ _ _ _ (by decide),
      State.reg_setReg _ _ _ (by rw [hot']; omega)]
  · rw [State.reg_putReg_ne _ _ _ _ (by decide), State.reg_putReg_ne _ _ _ _ (by decide),
      State.reg_setReg _ _ _ (by rw [pop']; omega)]
  · rw [State.reg_putReg_ne _ _ _ _ (by decide)]
    exact State.reg_putReg _ _ _ fits

/-! ### What a re-plan computes (R106, R112 to R115, R119) -/

section
variable {s t : State} (h : s.PlansAs t)
include h

theorem State.PlansAs.reserveErased : t.reserveErased = s.reserveErased := by
  have dev : t.dev = s.dev := h.same .dev (by decide)
  have spill : t.spill = s.spill := h.same .spill (by decide)
  have whl : t.whl = s.whl := h.same .whl (by decide)
  have res : t.res = s.res := h.same .res (by decide)
  have spokes : t.reg Reg.RESERVE_DATA_SPOKES = s.reg Reg.RESERVE_DATA_SPOKES := h.regs _ (by decide)
  unfold State.reserveErased
  rw [dev, spill, whl, res, spokes]

theorem State.PlansAs.rawCeiling (e f b : Nat) : t.rawCeiling e f b = s.rawCeiling e f b := by
  have margin : t.reg Reg.WEIR_MARGIN = s.reg Reg.WEIR_MARGIN := h.regs _ (by decide)
  have metadata : t.reg Reg.RESERVE_META = s.reg Reg.RESERVE_META := h.regs _ (by decide)
  have damping : t.reg Reg.DAMPING_CAP = s.reg Reg.DAMPING_CAP := h.regs _ (by decide)
  unfold State.rawCeiling
  rw [h.reserveErased, margin, metadata, damping]

theorem State.PlansAs.policy (first : Bool) (ceil : Nat → Nat) : t.policy first ceil = s.policy first ceil := by
  have dev : t.dev = s.dev := h.same .dev (by decide)
  have cist : t.cist = s.cist := h.same .cist (by decide)
  have weir : t.weir = s.weir := h.same .weir (by decide)
  have policy : t.reg Reg.WEIR_ENERGY_POLICY = s.reg Reg.WEIR_ENERGY_POLICY := h.regs _ (by decide)
  have fill : t.reg Reg.WEIR_FILL = s.reg Reg.WEIR_FILL := h.regs _ (by decide)
  unfold State.policy State.uses State.included
  rw [dev, cist, weir, policy, fill]

theorem State.PlansAs.tokensOff : t.tokensOff = s.tokensOff := by
  have cmd : t.cmd = s.cmd := h.same .cmd (by decide)
  rw [State.tokensOff, cmd, State.tokensOff]

theorem State.PlansAs.barred (st : Stream) : t.barred st = s.barred st := by
  have spill : t.spill = s.spill := h.same .spill (by decide)
  have whl : t.whl = s.whl := h.same .whl (by decide)
  rw [State.barred, spill, whl, State.barred]

theorem State.PlansAs.tNow : t.tNow = s.tNow := by
  have now : t.now = s.now := h.same .now (by decide)
  have whl : t.whl = s.whl := h.same .whl (by decide)
  have res : t.res = s.res := h.same .res (by decide)
  have rehearsed : t.reg Reg.REHEARSE_T_MED = s.reg Reg.REHEARSE_T_MED := h.regs _ (by decide)
  unfold State.tNow
  rw [h.barred, now, whl, res, rehearsed]

theorem State.PlansAs.factors (n : Nat) (temp : Int) : t.factors n temp = s.factors n temp := by
  have whl : t.whl = s.whl := h.same .whl (by decide)
  have res : t.res = s.res := h.same .res (by decide)
  have spokes : t.reg Reg.RESERVE_DATA_SPOKES = s.reg Reg.RESERVE_DATA_SPOKES := h.regs _ (by decide)
  have time : t.reg Reg.T_MEAS = s.reg Reg.T_MEAS := h.regs _ (by decide)
  have flash : t.reg Reg.T_MEAS_FLASH = s.reg Reg.T_MEAS_FLASH := h.regs _ (by decide)
  have luns : t.reg Reg.L_MEAS = s.reg Reg.L_MEAS := h.regs _ (by decide)
  unfold State.factors State.lNow
  rw [h.barred, whl, res, spokes, time, flash, luns]

theorem State.PlansAs.planByte (temp : Int) : t.planByte temp = s.planByte temp := by
  have measured : t.reg Reg.E_BYTE_MEAS = s.reg Reg.E_BYTE_MEAS := h.regs _ (by decide)
  have base : t.reg Reg.E_BYTE_BASE = s.reg Reg.E_BYTE_BASE := h.regs _ (by decide)
  have floor : t.reg Reg.E_BYTE_FLOOR = s.reg Reg.E_BYTE_FLOOR := h.regs _ (by decide)
  unfold State.planByte State.costPerGib
  rw [h.tNow, h.factors, measured, base, floor]

theorem State.PlansAs.planFixed (temp : Int) : t.planFixed temp = s.planFixed temp := by
  have run : t.reg Reg.P_RUN_CARD = s.reg Reg.P_RUN_CARD := h.regs _ (by decide)
  have ride : t.reg Reg.RIDE_THROUGH = s.reg Reg.RIDE_THROUGH := h.regs _ (by decide)
  have window : t.reg Reg.GPF_WINDOW = s.reg Reg.GPF_WINDOW := h.regs _ (by decide)
  have base : t.reg Reg.E_FIXED_BASE = s.reg Reg.E_FIXED_BASE := h.regs _ (by decide)
  have measured : t.reg Reg.E_FIXED_MEAS = s.reg Reg.E_FIXED_MEAS := h.regs _ (by decide)
  unfold State.planFixed State.fixedCost
  rw [h.tNow, h.factors, run, ride, window, base, measured]

theorem State.PlansAs.planEnergy (temp : Int) (first : Bool) : t.planEnergy temp first = s.planEnergy temp first := by
  unfold State.planEnergy
  simp only [h.policy, h.rawCeiling, h.tokensOff, h.planFixed, h.planByte]

theorem State.PlansAs.planCeiling (temp : Int) (e : Nat) : t.planCeiling temp e = s.planCeiling temp e := by
  rw [State.planCeiling, h.rawCeiling, h.tokensOff, h.planFixed, h.planByte, State.planCeiling]

theorem State.PlansAs.hysteresis (raw : Nat) : t.hysteresis raw = s.hysteresis raw := by
  have weir : t.weir = s.weir := h.same .weir (by decide)
  have ceiling : t.reg Reg.CEILING = s.reg Reg.CEILING := h.regs _ (by decide)
  have band : t.reg Reg.WEIR_RISE_HYST = s.reg Reg.WEIR_RISE_HYST := h.regs _ (by decide)
  have hold : t.reg Reg.WEIR_RISE_HOLD = s.reg Reg.WEIR_RISE_HOLD := h.regs _ (by decide)
  have step : t.reg Reg.WEIR_RISE_STEP = s.reg Reg.WEIR_RISE_STEP := h.regs _ (by decide)
  unfold State.hysteresis
  rw [weir, ceiling, band, hold, step]

end

end Sys2Proof.Machine
end

section
/-! PROOFS. A re-plan as a whole, and its commands (O16). -/

namespace Sys2Proof.Machine

/-! ### A re-plan (R106 to R130) -/

/-- The re-plan's ceiling is 0: a second disagreement in a row, mistrust that agreement has not yet ended, or no LUN. -/
def State.planOff (s : State) (dup : Option Nat) : Bool :=
  dup.isSome && decide (1 ≤ s.weir.disagreeRun)
      || s.weir.distrusted && decide ((if dup.isSome then 0 else s.weir.agreeRun + 1) < 2)
    || decide (lunsEligible s.res (s.barred .v) = 0)

/-- The ceiling in force and the rise count that a raw ceiling leads to (R119, R129). -/
def State.ruling (s : State) (first off : Bool) (raw : Nat) : Nat × Nat :=
  if off then (0, 0) else if first then (raw, 0) else s.hysteresis raw

/-- The lower of a raw ceiling and its duplicate, where they disagree. -/
def dupLower (raw : Nat) : Option Nat → Nat
  | some d => Nat.min raw (d / 2 * 2)
  | none => raw

/-- What a re-plan leaves. -/
structure State.Replanned (s : State) (temp : Int) (dup : Option Nat) (first periodic : Bool) (t : State) : Prop where
  raw : t.reg Reg.CEILING_RAW = dupLower (s.planCeiling temp (s.planEnergy temp first).1).1 dup % 2 ^ paramWidth Reg.CEILING_RAW
  ceiling : t.reg Reg.CEILING = (s.ruling first (s.planOff dup) (dupLower (s.planCeiling temp (s.planEnergy temp first).1).1 dup)).1
    % 2 ^ paramWidth Reg.CEILING
  limiter : s.planOff dup = true → t.reg Reg.CEILING_LIMITER = 4
  costs : s.Costed temp t
  planning : t.weir.state = .planning
  single : t.weir.single = (s.planEnergy temp first).2.1
  rise : t.weir.riseCount = (s.ruling first (s.planOff dup) (dupLower (s.planCeiling temp (s.planEnergy temp first).1).1 dup)).2
  due : t.weir.due = false
  dirty : t.weir.dirtyAtReplan = if periodic || first then s.basin.dirtyBytes else s.weir.dirtyAtReplan
  rill : t.rill = if periodic then { s.rill with taken := 0, takenN := 0, takenDirty := 0 } else s.rill
  same : s.SameBut t [.out, .regs, .freeCtr, .rec_, .fc, .port, .mir, .weir, .rill]

theorem State.PlansAs.planOff {s t : State} (h : s.PlansAs t) (dup : Option Nat) : t.planOff dup = s.planOff dup := by
  have res : t.res = s.res := h.same .res (by decide)
  have weir : t.weir = s.weir := h.same .weir (by decide)
  rw [State.planOff, res, weir, h.barred, State.planOff]

/-- A report of the Weir leaves every register below the collector's. -/
theorem State.warn_leaves (s : State) (p : Prop) [Decidable p] (v : Sev) :
    s.SameBut (if p then s.fault Src.WEIR v else s) reportParts
      ∧ ∀ id < Reg.FC_STATUS, (if p then s.fault Src.WEIR v else s).reg id = s.reg id := by
  split
  · exact ⟨(s.fault_same _ _ _ _ _).widen, fun id below => s.fault_reg_below _ _ _ _ _ below⟩
  · exact ⟨.refl _ _, fun _ _ => rfl⟩

/-- The ceilings and the limiter as they are set. -/
theorem State.setCeilings_reg (s : State) (raw c lim : Nat) :
    let t := ((s.setReg Reg.CEILING_RAW raw).setReg Reg.CEILING c).setReg Reg.CEILING_LIMITER lim
    t.reg Reg.CEILING_RAW = raw % 2 ^ paramWidth Reg.CEILING_RAW ∧ t.reg Reg.CEILING = c % 2 ^ paramWidth Reg.CEILING
      ∧ t.reg Reg.CEILING_LIMITER = lim % 2 ^ paramWidth Reg.CEILING_LIMITER
      ∧ ∀ id, id ∉ [Reg.CEILING_RAW, Reg.CEILING, Reg.CEILING_LIMITER] → t.reg id = s.reg id := by
  refine ⟨?_, ?_, State.reg_setReg_same _ _ _, fun id other => ?_⟩
  · rw [State.reg_setReg_ne _ _ _ _ (by decide), State.reg_setReg_ne _ _ _ _ (by decide), State.reg_setReg_same]
  · rw [State.reg_setReg_ne _ _ _ _ (by decide), State.reg_setReg_same]
  · simp only [List.mem_cons, List.not_mem_nil, or_false, not_or] at other
    obtain ⟨raw', ceiling, limiter⟩ := other
    rw [State.reg_setReg_ne _ _ _ _ limiter, State.reg_setReg_ne _ _ _ _ ceiling, State.reg_setReg_ne _ _ _ _ raw']

theorem State.Costed.of_regs {s t u : State} {temp : Int} (h : s.Costed temp t)
    (k : ∀ id ∈ [Reg.K_PROG, Reg.K_TEMP, Reg.K_POP, Reg.E_BYTE, Reg.E_FIXED], u.reg id = t.reg id) : s.Costed temp u :=
  ⟨(k _ (by decide)).trans h.prog, (k _ (by decide)).trans h.heat, (k _ (by decide)).trans h.pop,
    fun fits => (k _ (by decide)).trans (h.byte fits), fun fits => (k _ (by decide)).trans (h.fixed fits)⟩

theorem State.replan_replans (s : State) (temp : Int) (dup : Option Nat) (first periodic : Bool) :
    s.Replanned temp dup first periodic (s.replan temp dup first periodic) := by
  have only := s.costed_plansAs temp
  have costed := s.costed_costed temp
  rw [State.replan, ← State.costed_eq s temp]
  generalize s.costed temp = a at *
  split
  rename_i e0 single lost given
  extract_lets -underBinder ePol
  split
  rename_i raw0 lim bounded
  extract_lets -underBinder raw twice agree distrusted noLun b d
  split
  rename_i c rise ruled
  extract_lets -underBinder set filled shown published dirty rIn rated target catchUp demand learnOut noted lostNow
  have plan : s.planEnergy temp first = (e0, single, lost) := by
    rw [State.planEnergy, ← only.policy]
    simp only [← only.rawCeiling, ← only.tokensOff]
    exact given
  have rawAs : raw = dupLower (s.planCeiling temp (s.planEnergy temp first).1).1 dup := by
    rw [plan, State.planCeiling, ← only.tokensOff, ← only.rawCeiling]
    exact congrArg (fun p : Nat × Nat => dupLower p.1 dup) bounded.symm
  have off : (distrusted || noLun) = s.planOff dup := only.planOff dup
  obtain ⟨warned, regs⟩ := a.warn_leaves (dup.isSome = true) (if twice then .degraded else .corrected)
  obtain ⟨warned', regs'⟩ := b.warn_leaves ((noLun && decide (b.weir.lNow ≠ 0 ∨ first)) = true) .degraded
  have before : s.SameBut d reportParts := (only.same.trans warned).trans warned'
  have kept (id : Nat) (below : id < Reg.FC_STATUS) : d.reg id = a.reg id := (regs' id below).trans (regs id below)
  have hysteresis : d.hysteresis raw = s.hysteresis raw :=
    State.PlansAs.hysteresis ⟨before, fun id read => (kept id (planReads_lt read)).trans (only.regs id read)⟩ raw
  have ruling : s.ruling first (s.planOff dup) raw = (c, rise) := by
    rw [State.ruling, ← off, ← hysteresis]
    exact ruled
  obtain ⟨setRaw, setCeiling, setLimiter, setOther⟩ := d.setCeilings_reg raw c (if distrusted || noLun then 4 else lim)
  have width : paramWidth Reg.CEILING_LIMITER = 3 := by decide +kernel
  have toSet : d.SameBut set reportParts := ((d.setReg_same _ _).widen.next (State.setReg_same _ _ _)).next (State.setReg_same _ _ _)
  have toPublished : set.Tells published reportParts :=
    ((State.setReg_tells _ _ (by decide)).widen.next (State.setReg_tells _ _ (by decide))).next (State.publish_tells _ _ _ _)
  have toRated : published.Tells rated (.rill :: reportParts) :=
    .ite ((State.putReg_tells _ _ (by decide)).widen.next (.of_same (State.onRill_same _ _))) (.refl _ _)
  have toNoted : rated.Tells noted [.weir] := .of_same (rated.onWeir_same _)
  have toEnd : noted.Tells lostNow.rideThrough.replanLog reportParts :=
    (State.Tells.trans (.ite (noted.raise_tells _) (.refl _ _)) (State.rideThrough_tells _)).next (State.replanLog_tells _)
  have after : set.Tells lostNow.rideThrough.replanLog (.weir :: .rill :: reportParts) :=
    ((toPublished.widen.next toRated).next toNoted).next toEnd
  have untilPublished : s.SameBut published reportParts := (before.trans toSet).trans toPublished.same
  have untilRated : s.SameBut rated (.rill :: reportParts) := untilPublished.widen.next toRated.same
  have weir : rated.weir = s.weir := untilRated .weir (by decide)
  have noted' : lostNow.rideThrough.replanLog.weir = noted.weir := toEnd.same .weir (by decide)
  have dirtyAs : dirty = s.basin.dirtyBytes := congrArg Basin.dirtyBytes (untilPublished .basin (by decide))
  have rill : published.rill = s.rill := untilPublished .rill (by decide)
  rw [rawAs] at ruling
  refine ⟨by rw [after.figures _ (by decide), setRaw, rawAs], ?_, fun zero => ?_, costed.of_regs fun id listed => ?_, ?_, ?_, ?_, ?_, ?_, ?_, ?_⟩
  · rw [ruling]
    exact (after.figures _ (by decide)).trans setCeiling
  · rw [← off] at zero
    rw [after.figures _ (by decide), setLimiter, width, if_pos zero, Nat.mod_eq_of_lt (by decide)]
  · have costs : ∀ id ∈ [Reg.K_PROG, Reg.K_TEMP, Reg.K_POP, Reg.E_BYTE, Reg.E_FIXED],
        id ∈ planRegs ∧ id ∉ [Reg.CEILING_RAW, Reg.CEILING, Reg.CEILING_LIMITER] ∧ id < Reg.FC_STATUS := by decide
    obtain ⟨figure, other, below⟩ := costs id listed
    exact ((after.figures id figure).trans (setOther id other)).trans (kept id below)
  · rw [noted']
    rfl
  · rw [noted', plan]
    rfl
  · rw [noted', ruling]
    rfl
  · rw [noted']
    rfl
  · rw [noted', ← dirtyAs, ← weir]
    rfl
  · rw [show lostNow.rideThrough.replanLog.rill = rated.rill from toEnd.same .rill (by decide), ← rill]
    dsimp only [rated]
    split
    · rw [State.onRill_rill, State.putReg_rill]
    · rfl
  · exact (before.trans toSet).widen.next after.same

theorem State.SameBut.symm {s t : State} {l : List Part} (h : s.SameBut t l) : t.SameBut s l := fun p other => by
  have agrees := h p other
  cases p <;> exact Eq.symm agrees

/-! ### The measurement before the first re-plan (R116) -/

theorem State.measure_same (s : State) (readable : Bool) : s.SameBut (s.measure readable) (.whl :: reportParts) := by
  have set (a b c d e : Nat) (f : Wheels → Wheels) : s.SameBut ((((((s.setReg Reg.E_BYTE_MEAS a).setReg Reg.E_FIXED_MEAS b).setReg
      Reg.T_MEAS c).setReg Reg.T_MEAS_FLASH d).setReg Reg.L_MEAS e).onWhl f) (.whl :: reportParts) :=
    (((((s.setReg_same _ _).widen.next (State.setReg_same _ _ _)).next (State.setReg_same _ _ _)).next (State.setReg_same _ _ _)).next
      (State.setReg_same _ _ _)).next (State.onWhl_same _ _)
  rw [State.measure]
  refine .ite (.refl _ _) ?_
  split
  · exact .refl _ _
  · exact .ite (.refl _ _) (.ite (set _ _ _ _ _ _) (s.fault_same _ _ _ _ _).widen)

/-- What a command has sent out does not bear on the measurement. -/
theorem State.measure_begin (s : State) (readable : Bool) : (s.measure readable).PlansAs (s.begin.measure readable) := by
  have begun (u v : State) (h : v = u.begin) : u.PlansAs v := ⟨h ▸ u.begin_same.widen, fun _ _ => h ▸ rfl⟩
  rw [State.measure, State.measure, show s.begin.pointer = s.pointer from rfl, show s.begin.spill = s.spill from rfl,
    show s.begin.reg = s.reg from rfl]
  split
  · exact begun _ _ rfl
  · split
    · exact begun _ _ rfl
    · dsimp only
      split
      · exact begun _ _ rfl
      · split
        · exact begun _ _ rfl
        · have below (u : State) (id : Nat) (read : id ∈ planReads) : (u.fault Src.WEIR .log).reg id = u.reg id :=
            u.fault_reg_below _ _ _ _ _ (planReads_lt read)
          refine ⟨(State.SameBut.symm (s.fault_same _ _ _ _ _).widen).trans (s.begin_same.widen.next (s.begin.fault_same _ _ _ _ _)),
            fun id read => (below s.begin id read).trans (below s id read).symm⟩

/-! ### The commands (R118) -/

theorem told_false {α : Type} (x : α) : told false x = none := rfl

theorem State.planOff_false {s : State} (trusted : s.weir.distrusted = false) (luns : lunsEligible s.res (s.barred .v) ≠ 0) :
    s.planOff none = false := by
  simp [State.planOff, trusted, luns]

theorem State.planOff_true {s : State} (luns : lunsEligible s.res (s.barred .v) = 0) (dup : Option Nat) : s.planOff dup = true := by
  simp [State.planOff, luns]

/-- A ceiling as registers hold it. -/
theorem ceiling_mod {n : Nat} (h : n ≤ 524288) : n % 2 ^ paramWidth Reg.CEILING = n ∧ n % 2 ^ paramWidth Reg.CEILING_RAW = n := by
  have ceiling : paramWidth Reg.CEILING = 20 := by decide +kernel
  have raw : paramWidth Reg.CEILING_RAW = 20 := by decide +kernel
  rw [ceiling, raw]
  omega

theorem State.ruling_later (s : State) (raw : Nat) : s.ruling false false raw = s.hysteresis raw := by
  rw [State.ruling, if_neg Bool.false_ne_true, if_neg Bool.false_ne_true]

theorem State.ruling_first (s : State) (raw : Nat) : s.ruling true false raw = (raw, 0) := by
  rw [State.ruling, if_neg Bool.false_ne_true, if_pos rfl]

theorem State.hysteresis_lowers {s : State} {raw : Nat} (h : raw < s.reg Reg.CEILING) : s.hysteresis raw = (raw, 0) := by
  rw [State.hysteresis]
  exact if_pos h

theorem State.hysteresis_raises {s : State} {raw : Nat} (h : s.reg Reg.CEILING + s.reg Reg.WEIR_RISE_HYST < raw) :
    s.hysteresis raw = (if s.reg Reg.WEIR_RISE_HOLD ≤ s.weir.riseCount + 1
      then min raw (s.reg Reg.CEILING + s.reg Reg.WEIR_RISE_STEP) else s.reg Reg.CEILING, s.weir.riseCount + 1) := by
  rw [State.hysteresis]
  dsimp only
  rw [if_neg (by omega), if_pos h]

/-! ### What re-plans leave, on states alike to a re-plan -/

theorem State.PlansAs.ruling {s t : State} (h : s.PlansAs t) (first off : Bool) (raw : Nat) :
    t.ruling first off raw = s.ruling first off raw := by rw [State.ruling, h.hysteresis, State.ruling]

theorem State.PlansAs.costed {s t u : State} {temp : Int} (h : s.PlansAs t) (k : t.Costed temp u) : s.Costed temp u := by
  obtain ⟨prog, heat, pop, byte, fixed⟩ := k
  rw [h.tNow, h.factors] at prog heat pop
  rw [h.planByte] at byte
  rw [h.planFixed] at fixed
  exact ⟨prog, heat, pop, byte, fixed⟩

theorem State.PlansAs.replanned {s t u : State} {temp : Int} {dup : Option Nat} {first periodic : Bool} (h : s.PlansAs t)
    (k : t.Replanned temp dup first periodic u) : s.Replanned temp dup first periodic u := by
  obtain ⟨raw, ceiling, limiter, costs, planning, single, rise, due, dirty, rill, same⟩ := k
  rw [h.planEnergy, h.planCeiling] at raw
  rw [h.planEnergy, h.planCeiling, h.planOff, h.ruling] at ceiling rise
  rw [h.planOff] at limiter
  rw [h.planEnergy] at single
  rw [show t.basin = s.basin from h.same .basin (by decide), show t.weir = s.weir from h.same .weir (by decide)] at dirty
  rw [show t.rill = s.rill from h.same .rill (by decide)] at rill
  exact ⟨raw, ceiling, limiter, h.costed costs, planning, single, rise, due, dirty, rill, h.same.widen.trans same⟩

theorem State.begin_plansAs (s : State) : s.PlansAs s.begin := ⟨s.begin_same.widen, fun _ _ => rfl⟩

theorem State.SameBut.without {s t : State} {p : Part} {l : List Part} (h : s.SameBut t (p :: l)) (k : s.agree t p) : s.SameBut t l :=
  fun q other => if e : q = p then e ▸ k else h q fun listed => (List.mem_cons.mp listed).elim e other

theorem State.planCeiling_le (s : State) (temp : Int) (e : Nat) : (s.planCeiling temp e).1 ≤ 524288 := s.rawCeiling_le _ _ _

/-- A re-plan that is not periodic leaves the Rill. -/
theorem State.Replanned.keepsRill {s t : State} {temp : Int} {dup : Option Nat} {first : Bool} (h : s.Replanned temp dup first false t) :
    s.SameBut t (.weir :: reportParts) := by
  have all : s.SameBut t (.rill :: .weir :: reportParts) := h.same.widen
  exact all.without h.rill

section
variable {s t : State} {temp : Int} {first periodic single lost : Bool} {e0 : Nat}

/-- Trusted and with LUNs eligible a re-plan's ceiling and rise count are those of its raw ceiling. -/
theorem State.Replanned.trusted (h : s.Replanned temp none first periodic t) (trust : s.weir.distrusted = false)
    (luns : lunsEligible s.res (s.barred .v) ≠ 0) (energy : s.planEnergy temp first = (e0, single, lost)) :
    t.reg Reg.CEILING_RAW = (s.planCeiling temp e0).1
      ∧ t.reg Reg.CEILING = (s.ruling first false (s.planCeiling temp e0).1).1 % 2 ^ paramWidth Reg.CEILING
      ∧ t.weir.riseCount = (s.ruling first false (s.planCeiling temp e0).1).2 ∧ t.weir.single = single := by
  have raw := h.raw
  have ceiling := h.ceiling
  have rise := h.rise
  have solo := h.single
  rw [energy] at raw ceiling rise solo
  rw [State.planOff_false trust luns] at ceiling rise
  rw [dupLower, (ceiling_mod (s.planCeiling_le temp e0)).2] at raw
  exact ⟨raw, ceiling, rise, solo⟩

/-- A lower raw ceiling is taken at once (R119). -/
theorem State.Replanned.lowers (h : s.Replanned temp none false periodic t) (trust : s.weir.distrusted = false)
    (luns : lunsEligible s.res (s.barred .v) ≠ 0) (energy : s.planEnergy temp false = (e0, single, lost))
    (lower : (s.planCeiling temp e0).1 < s.reg Reg.CEILING) :
    t.reg Reg.CEILING = (s.planCeiling temp e0).1 ∧ t.reg Reg.CEILING_RAW = (s.planCeiling temp e0).1 ∧ t.weir.riseCount = 0 := by
  obtain ⟨raw, ceiling, rise, -⟩ := h.trusted trust luns energy
  rw [State.ruling_later, State.hysteresis_lowers lower] at ceiling rise
  dsimp only at ceiling
  rw [(ceiling_mod (s.planCeiling_le temp e0)).1] at ceiling
  exact ⟨ceiling, raw, rise⟩

/-- A raw ceiling beyond the hysteresis counts a rise, and raises the ceiling once enough stand in a row (R119). -/
theorem State.Replanned.raises (h : s.Replanned temp none false periodic t) (trust : s.weir.distrusted = false)
    (luns : lunsEligible s.res (s.barred .v) ≠ 0) (energy : s.planEnergy temp false = (e0, single, lost))
    (higher : s.reg Reg.CEILING + s.reg Reg.WEIR_RISE_HYST < (s.planCeiling temp e0).1) :
    t.reg Reg.CEILING = (if s.reg Reg.WEIR_RISE_HOLD ≤ s.weir.riseCount + 1
        then min (s.planCeiling temp e0).1 (s.reg Reg.CEILING + s.reg Reg.WEIR_RISE_STEP) else s.reg Reg.CEILING)
      ∧ t.weir.riseCount = s.weir.riseCount + 1 := by
  obtain ⟨-, ceiling, rise, -⟩ := h.trusted trust luns energy
  have bound := s.planCeiling_le temp e0
  rw [State.ruling_later, State.hysteresis_raises higher] at ceiling rise
  dsimp only at ceiling
  rw [(ceiling_mod (by split <;> omega)).1] at ceiling
  exact ⟨ceiling, rise⟩

end

theorem firstReplan_replans {temp : Int} {dup : Nat} {readable : Bool} {s : State} (bringup : s.dev = .bringup) (up : s.seq.coreUp = true)
    (dormant : s.weir.state = .dormant) : Answers (.firstReplan temp false dup readable) s fun t =>
      (s.measure readable).Replanned temp none true false t := by
  refine ⟨_, rfl, ?_⟩
  rw [if_pos ⟨bringup, up, dormant⟩, told_false]
  exact (s.measure_begin readable).replanned (State.replan_replans _ _ _ _ _)

/-- A periodic re-plan, and what the arbiter then does. -/
theorem periodicReplan_replans {temp : Int} {differs : Bool} {dup : Nat} {s : State} (planning : s.weir.state = .planning) :
    Answers (.periodicReplan temp differs dup) s fun t => ∃ u, s.Replanned temp (told differs dup) false true u
      ∧ u.Tells t arbiterParts := by
  refine ⟨_, rfl, ?_⟩
  rw [if_pos (show s.begin.weir.state = .planning from planning)]
  exact ⟨_, s.begin_plansAs.replanned (State.replan_replans _ _ _ _ _), State.arbiterReplan_tells _⟩

theorem triggeredReplan_replans {temp : Int} {dup : Nat} {s : State} (planning : s.weir.state = .planning) (due : s.replanDue = true) :
    Answers (.triggeredReplan temp false dup) s fun t => ∃ u, s.Replanned temp none false false u ∧ u.Tells t arbiterParts := by
  refine ⟨_, rfl, ?_⟩
  rw [if_pos ⟨show s.begin.weir.state = .planning from planning, show s.begin.replanDue = true from due⟩, told_false]
  exact ⟨_, s.begin_plansAs.replanned (State.replan_replans _ _ _ _ _), State.arbiterReplan_tells _⟩

theorem triggeredReplan_rests {temp : Int} {differs : Bool} {dup : Nat} {s : State} (calm : s.replanDue = false) :
    Answers (.triggeredReplan temp differs dup) s fun t => t = s.begin :=
  ⟨_, rfl, if_neg fun h => by simp [show s.begin.replanDue = false from calm] at h⟩

/-- With no LUN eligible the ceiling is 0, with limiter 4 (R106). -/
theorem periodicReplan_noLun {temp : Int} {differs : Bool} {dup : Nat} {s : State} (planning : s.weir.state = .planning)
    (luns : lunsEligible s.res (s.barred .v) = 0) : Answers (.periodicReplan temp differs dup) s fun t =>
      t.reg Reg.CEILING = 0 ∧ t.reg Reg.CEILING_LIMITER = 4 ∧ t.mem = s.mem ∧ t.basin = s.basin := by
  refine (periodicReplan_replans planning).imp fun t ⟨u, planned, arbited⟩ => ?_
  have off := State.planOff_true luns (told differs dup)
  have ceiling := planned.ceiling
  rw [off] at ceiling
  exact ⟨(arbited.figures _ (by decide)).trans (ceiling.trans (Nat.zero_mod _)), (arbited.figures _ (by decide)).trans (planned.limiter off),
    (arbited.same .mem (by decide)).trans (planned.same .mem (by decide)),
    (arbited.same .basin (by decide)).trans (planned.same .basin (by decide))⟩

section
variable {temp : Int} {dup e0 : Nat} {s : State} {single lost : Bool} (planning : s.weir.state = .planning)
  (trust : s.weir.distrusted = false) (luns : lunsEligible s.res (s.barred .v) ≠ 0)
  (energy : s.planEnergy temp false = (e0, single, lost))
include planning trust luns energy

theorem periodicReplan_lowers (lower : (s.planCeiling temp e0).1 < s.reg Reg.CEILING) : Answers (.periodicReplan temp false dup) s fun t =>
    t.reg Reg.CEILING = (s.planCeiling temp e0).1 ∧ t.reg Reg.CEILING_RAW = (s.planCeiling temp e0).1 ∧ t.weir.riseCount = 0
      ∧ t.rill = { s.rill with taken := 0, takenN := 0, takenDirty := 0 }
      ∧ s.SameBut t [.out, .regs, .freeCtr, .rec_, .fc, .port, .mir, .weir, .cmd, .nv, .rill] := by
  refine (periodicReplan_replans planning).imp fun t ⟨u, planned, arbited⟩ => ?_
  obtain ⟨ceiling, raw, rise⟩ := planned.lowers trust luns energy lower
  exact ⟨(arbited.figures _ (by decide)).trans ceiling, (arbited.figures _ (by decide)).trans raw,
    (congrArg Weir.riseCount (arbited.same .weir (by decide))).trans rise, (arbited.same .rill (by decide)).trans planned.rill,
    planned.same.widen.next arbited.same⟩

theorem periodicReplan_raises (higher : s.reg Reg.CEILING + s.reg Reg.WEIR_RISE_HYST < (s.planCeiling temp e0).1) :
    Answers (.periodicReplan temp false dup) s fun t =>
      t.reg Reg.CEILING = (if s.reg Reg.WEIR_RISE_HOLD ≤ s.weir.riseCount + 1
          then min (s.planCeiling temp e0).1 (s.reg Reg.CEILING + s.reg Reg.WEIR_RISE_STEP) else s.reg Reg.CEILING)
        ∧ t.weir.riseCount = s.weir.riseCount + 1 ∧ t.weir.dirtyAtReplan = s.basin.dirtyBytes
        ∧ s.SameBut t [.out, .regs, .freeCtr, .rec_, .fc, .port, .mir, .weir, .cmd, .nv, .rill] := by
  refine (periodicReplan_replans planning).imp fun t ⟨u, planned, arbited⟩ => ?_
  obtain ⟨ceiling, rise⟩ := planned.raises trust luns energy higher
  have weir : t.weir = u.weir := arbited.same .weir (by decide)
  rw [weir]
  exact ⟨(arbited.figures _ (by decide)).trans ceiling, rise, planned.dirty, planned.same.widen.next arbited.same⟩

theorem triggeredReplan_lowers (due : s.replanDue = true) (lower : (s.planCeiling temp e0).1 < s.reg Reg.CEILING) :
    Answers (.triggeredReplan temp false dup) s fun t =>
      t.reg Reg.CEILING = (s.planCeiling temp e0).1 ∧ t.reg Reg.CEILING_RAW = (s.planCeiling temp e0).1 ∧ t.weir.riseCount = 0
        ∧ t.weir.due = false ∧ s.SameBut t [.out, .regs, .freeCtr, .rec_, .fc, .port, .mir, .weir, .cmd, .nv] := by
  refine (triggeredReplan_replans planning due).imp fun t ⟨u, planned, arbited⟩ => ?_
  obtain ⟨ceiling, raw, rise⟩ := planned.lowers trust luns energy lower
  have weir : t.weir = u.weir := arbited.same .weir (by decide)
  rw [weir]
  exact ⟨(arbited.figures _ (by decide)).trans ceiling, (arbited.figures _ (by decide)).trans raw, rise, planned.due,
    planned.keepsRill.widen.next arbited.same⟩

theorem triggeredReplan_raises (due : s.replanDue = true)
    (higher : s.reg Reg.CEILING + s.reg Reg.WEIR_RISE_HYST < (s.planCeiling temp e0).1) :
    Answers (.triggeredReplan temp false dup) s fun t =>
      t.reg Reg.CEILING = (if s.reg Reg.WEIR_RISE_HOLD ≤ s.weir.riseCount + 1
          then min (s.planCeiling temp e0).1 (s.reg Reg.CEILING + s.reg Reg.WEIR_RISE_STEP) else s.reg Reg.CEILING)
        ∧ t.weir.riseCount = s.weir.riseCount + 1 ∧ t.weir.dirtyAtReplan = s.weir.dirtyAtReplan
        ∧ s.SameBut t [.out, .regs, .freeCtr, .rec_, .fc, .port, .mir, .weir, .cmd, .nv] := by
  refine (triggeredReplan_replans planning due).imp fun t ⟨u, planned, arbited⟩ => ?_
  obtain ⟨ceiling, rise⟩ := planned.raises trust luns energy higher
  have weir : t.weir = u.weir := arbited.same .weir (by decide)
  rw [weir]
  exact ⟨(arbited.figures _ (by decide)).trans ceiling, rise, planned.dirty,
    planned.keepsRill.widen.next arbited.same⟩

end

/-- Settles O16: a re-plan reads no register that it has published before its ceiling, and nothing after the ceiling, the arbiter
included, changes its figures. -/
theorem weir_replans : Obligations.Weir_replans := by
  unfold Obligations.Weir_replans
  refine ⟨?_, ?_, ?_, ?_, ?_, ?_, ?_⟩
  · rintro temp dup r s _ _ _ e0 single lost bringup up dormant trust rfl luns rfl rfl energy
    have measured := s.measure_same r
    have weir : (s.measure r).weir = s.weir := measured .weir (by decide)
    refine (firstReplan_replans bringup up dormant).imp fun t planned => ?_
    obtain ⟨raw, ceiling, -, solo⟩ := planned.trusted (by rw [weir, trust]) luns energy
    rw [State.ruling_first, (ceiling_mod (State.planCeiling_le _ _ _)).1] at ceiling
    exact ⟨planned.planning, ceiling, raw, planned.costs.prog, planned.costs.heat, planned.costs.pop, planned.costs.byte,
      planned.costs.fixed, solo, measured.widen.next planned.keepsRill⟩
  · rintro temp dup s _ _ e0 single lost _ planning trust luns rfl rfl energy rfl lower
    exact periodicReplan_lowers planning trust luns energy lower
  · rintro temp dup s _ _ e0 single lost _ planning trust luns rfl rfl energy rfl higher
    exact periodicReplan_raises planning trust luns energy higher
  · rintro temp dup s _ _ e0 single lost _ planning due trust luns rfl rfl energy rfl lower
    exact triggeredReplan_lowers planning trust luns energy due lower
  · rintro temp dup s _ _ e0 single lost _ planning due trust luns rfl rfl energy rfl higher
    exact triggeredReplan_raises planning trust luns energy due higher
  · exact fun temp differs dup s _ calm => triggeredReplan_rests calm
  · exact fun temp differs dup s planning luns => periodicReplan_noLun planning luns

end Sys2Proof.Machine
end

section
/-! PROOFS. A fault stays shown through what follows a command (O14). -/

namespace Sys2Proof.Machine

/-! ### Steps that keep the device state -/

theorem State.setDev_enters (s : State) (d : Dev) (c : Nat) : (s.setDev d c).dev = d := by
  unfold State.setDev
  split
  · assumption
  · dsimp only
    rw [State.raise_dev]
    split
    · rw [State.enterFault_dev, State.setMedia_dev]
    · rw [State.setMedia_dev]

/-- Steps of a fold that keep the device state. -/
theorem foldl_dev {α : Type} {f : State → α → State} (h : ∀ s a, (f s a).dev = s.dev) :
    ∀ (l : List α) (s : State), (l.foldl f s).dev = s.dev
  | [], _ => rfl
  | a :: l, s => (foldl_dev h l (f s a)).trans (h s a)

theorem State.flushCounters_dev (s : State) : s.flushCounters.dev = s.dev := by
  unfold State.flushCounters
  split
  · rfl
  · dsimp only
    rw [State.onSeq_dev]
    have kept (c : Prop) [Decidable c] (u : State) (d : NvData) : (if c then u else u.nvWrite d).dev = u.dev := by
      split
      · rfl
      · exact u.nvWrite_dev d
    refine foldl_dev (fun u i => ?_) _ s
    split
    · exact kept _ _ _
    · exact kept _ _ _

theorem State.seqEnd_dev (s : State) : s.seqEnd.dev = s.dev := by
  have started (k : SeqKind) (u : State) : (match k with | .powerUp | .restore => u.coreStart | _ => u).dev = u.dev := by
    cases k
    case powerUp | restore => exact u.coreStart_kept.1
    all_goals rfl
  unfold State.seqEnd
  dsimp only
  rw [State.setConv, State.onSeq_dev, State.flushCounters_dev]
  refine (started _ _).trans ?_
  split <;> simp

theorem State.nextStep_dev : ∀ (f : Nat) (s : State), (s.nextStep f).dev = s.dev
  | 0, _ => rfl
  | f + 1, s => by
    have dropped (u : State) (l : List Nat) : (u.dropEn l).dev = u.dev := u.dropEn_same l .dev (by decide)
    unfold State.nextStep
    split
    · exact s.seqEnd_dev
    · dsimp only
      split
      · rfl
      · split
        · split
          · exact (nextStep_dev f _).trans (dropped _ _)
          · exact dropped _ _
        · exact dropped _ _

theorem State.startSeq_dev (s : State) (k : SeqKind) (l : List (List Nat × Nat)) : (s.startSeq k l).dev = s.dev := State.nextStep_dev _ _

theorem State.powerDown_dev (s : State) : s.powerDown.dev = if s.dev = .fault then .fault else .aonOnly := by
  unfold State.powerDown
  rw [State.startSeq_dev]
  change (if s.dev = .fault then s else s.setDev .aonOnly).dev = _
  split
  · assumption
  · exact s.setDev_enters _ _

theorem State.powerUp_dev (s : State) : s.powerUp.dev = .bringup := (State.startSeq_dev _ _ _).trans (s.setDev_enters _ _)

/-! ### The start of a vault -/

theorem State.failNotice_dev (s : State) : s.failNotice.dev = s.dev := by
  unfold State.failNotice
  dsimp only
  refine (foldl_dev (fun u p => u.emit_dev _) _ _).trans ?_
  split <;> rfl

theorem State.actEnd_same (s : State) (n : Nat) : s.SameBut (s.actEnd n) [.cmd, .mir, .out] := by
  have set (u : State) (f : Activity → Activity) : u.SameBut (u.setAct n f) [.cmd, .mir, .out] := (u.onCmd_same _).sub (by decide)
  have released : s.SameBut (s.releaseGrant n) [.cmd, .mir, .out] :=
    .ite (.refl _ _) (.ite ((set _ _).trans ((State.dropGrant_same _ _ _).sub (by decide)))
      (.ite (set _ _) ((set _ _).trans ((State.sendTo_same _ _ _ _ _).sub (by decide)))))
  exact .ite (.refl _ _) (released.trans (set _ _))

theorem State.actEnd_shows (s : State) (n : Nat) : s.Shows (s.actEnd n) := .of_same (s.actEnd_same n) (by decide)

theorem State.actEndAll_dev (s : State) : s.actEndAll.dev = s.dev :=
  foldl_dev (fun u i => (u.actFail_tells (i + 1) St.INVALID_STATE []).same .dev (by decide)) _ s

theorem State.cutLearn_shows (s : State) (i : PortId) (r : Nat) : s.Shows (s.cutLearn i r) := by
  have cut (f : CPort → CPort) : s.Shows (s.onCPort i f) := .of_same (s.onCPort_same i f) (by decide)
  have told (u : State) : u.Shows ((u.setReg (Reg.LEARN_RESULT_A + portIx i) r).fault (cistSrc i) .log) :=
    (u.setReg_shows r (by cases i <;> decide)).trans (State.fault_shows _ _ _ _ _ (by cases i <;> decide))
  have ended (u : State) : u.Shows ((u.actEnd 1).onCmd fun c => { c with learnPort := none, learnAck := false }) :=
    (u.actEnd_shows 1).trans (.of_same (State.onCmd_same _ _) (by decide))
  exact .ite (.refl s) (((cut _).trans (.ite (.refl _) (told _))).trans (ended _))

theorem State.cutLearns_shows (s : State) (r : Nat) : s.Shows (s.cutLearns r) := (s.cutLearn_shows _ r).trans (State.cutLearn_shows _ _ r)

theorem State.voidUnissued_dev (s : State) (st : Stream) : (s.voidUnissued st).dev = s.dev := by
  have abandoned (u : State) (c : Capture) : (u.abandonCapture c).dev = u.dev := rfl
  have void (u : State) (n : Nat) : (u.voidWheel n).dev = u.dev := by
    unfold State.voidWheel
    split
    · rfl
    · split
      · rfl
      · exact foldl_dev abandoned _ _
  refine foldl_dev (fun u n => ?_) _ s
  split
  · split
    · rfl
    · exact void u n
  · rfl

theorem State.pointerRec_dev (s : State) (p : PointerRec) : (s.pointerRec p).dev = s.dev :=
  (State.setShutdown_noted _ _ _).dev.trans (s.nvDurable_dev _)

theorem State.vaultStart_dev (s : State) (c : Nat) : (s.vaultStart c).dev = .vaulting := by
  have dropped (u : State) (l : List Nat) : (u.dropEn l).dev = u.dev := u.dropEn_same l .dev (by decide)
  have kept (u : State) : u.protection.dev = u.dev := u.protection_same .dev (by decide)
  have noticed (u : State) : (if c = 3 then u else u.failNotice).dev = u.dev := by
    split
    · rfl
    · exact u.failNotice_dev
  have cut (u : State) : u.cistCommit.dev = u.dev := (u.cutLearns_shows 3).dev
  have latched (u : State) : u.weirLatch.dev = u.dev := rfl
  unfold State.vaultStart
  simp only [State.onSpill_dev, State.setConv, State.onSeq_dev, State.pointerRec_dev, State.setReg_dev, State.onSip_dev, dropped,
    State.onRill_dev, State.voidUnissued_dev, cut, State.actEndAll_dev, latched, State.onPort_dev, noticed, kept, State.setDev_enters]

/-! ### A state outside MAINTENANCE, or with a fault shown -/

/-- A state outside MAINTENANCE, or with a fault shown. -/
def State.Marked (s : State) : Prop := s.dev ≠ .maintenance ∨ s.reg Reg.FC_STATUS ≠ 0

theorem State.Shows.marked {s t : State} (h : s.Shows t) (m : s.Marked) : t.Marked := m.imp (fun d => by rwa [h.dev]) h.status

theorem State.Marked.of_dev {s : State} {d : Dev} (h : s.dev = d) (other : d ≠ .maintenance) : s.Marked :=
  .inl (h ▸ other)

theorem State.powerDown_marked (s : State) : s.powerDown.Marked := by
  left
  rw [State.powerDown_dev]
  split <;> decide

theorem State.commitErasing_marked (s : State) : (s.commitErasing 4).Marked := by
  refine .of_dev (d := .fault) ?_ (by decide)
  unfold State.commitErasing State.vaultEnd
  dsimp only
  rw [if_pos (.inl rfl), State.setConv, State.onSeq_dev, State.flushCounters_dev, State.onSeq_dev, State.setDev_enters]

theorem State.commit_marked (s : State) (m : s.Marked) : (s.commit 4).Marked := by
  unfold State.commit
  split
  · exact State.powerDown_marked _
  · split
    · exact s.commitErasing_marked
    · exact .of_dev (s.vaultStart_dev 4) (by decide)
  iterate 3 exact .of_dev (s.vaultStart_dev 4) (by decide)
  · exact State.powerDown_marked _
  all_goals exact m

theorem State.voidHold_shows (s : State) : s.Shows s.voidHold := by
  have off (c : Prop) [Decidable c] (k : Nat) (u : State) : u.Shows (if c then u.setOff k else u) :=
    .ite (.of_same (u.setOff_same k) (by decide)) (.refl u)
  have marked (c : Prop) [Decidable c] (u : State) (f : Spillway → Spillway) : u.Shows (if c then u.onSpill f else u) :=
    .ite (.of_same (u.onSpill_same f) (by decide)) (.refl u)
  unfold State.voidHold
  split
  · exact .refl s
  · extract_lets early s1 s2 s3 s4
    have idle : s.Shows s1 := .trans (.of_same (s.onSip_same _) (by decide)) (.of_same (State.onBasin_same _ _) (by decide))
    have result : s1.Shows s2 := s1.setReg_shows 6 (by decide)
    exact (((idle.trans result).trans (marked _ s2 _)).trans (off _ 0 s3)).trans (off _ 1 s4)

theorem State.fatalReaction_marked (s : State) (m : s.Marked) : s.fatalReaction.Marked := by
  have heard (f : Collector → Collector) : (s.onFc f).Marked := (State.Shows.of_same (s.onFc_same f) (by decide)).marked m
  unfold State.fatalReaction
  dsimp only
  split
  · exact m
  · split
    · exact (State.voidHold_shows _).marked (heard _)
    · exact .of_dev (State.setDev_enters _ .fault 0) (by decide)
    iterate 6 exact State.commit_marked _ (heard _)
    all_goals exact heard _

theorem State.portOut_shows (s : State) (i : PortId) (st : CistState) (z : Option ZeroCause) : s.Shows (s.portOut i st z) :=
  (s.cutLearns_shows 3).trans (.of_same (State.onCPort_same _ i _) (by decide))

theorem State.convJudge_marked (s : State) (m : s.Marked) : s.convJudge.Marked := by
  have set (f : Seq → Seq) : s.Shows (s.onSeq f) := .of_same (s.onSeq_same f) (by decide)
  have told (u : State) (v : Sev) : u.Shows (u.fault Src.HOLDUP_CTL v) := u.fault_shows _ _ _ _ (by decide)
  unfold State.convJudge
  extract_lets bad
  split
  · exact (set _).marked m
  · split
    · exact m
    · rename_i sv s1 s2 _ _
      have out : s1.Shows s2 := .foldl _ (fun u i => .ite (u.portOut_shows _ _ _) (.refl u)) _ s1
      split
      · exact State.powerDown_marked _
      · exact (((set _).trans (told _ _)).trans out).marked m

/-! ### The schedule of an online device keeps it online -/

theorem ite_dev {c : Prop} [Decidable c] {s t u : State} (h : t.dev = s.dev) (k : u.dev = s.dev) :
    (if c then t else u).dev = s.dev := by
  split <;> assumption

theorem State.actRequest_dev (s : State) (n : Nat) (o : Owed) : (s.actRequest n o).s.dev = s.dev := by
  have asked (u : State) : (u.askGrant n).2.dev = u.dev := (u.askGrant_tells n).same .dev (by decide)
  unfold State.actRequest
  split
  · rfl
  · split
    · exact s.addReg_dev _ _
    · dsimp only
      split
      · rfl
      · split
        all_goals
          rename_i answered
          exact (congrArg (fun r => r.2.dev) answered).symm.trans (asked _)

theorem State.settle_dev (s : State) (o : Owed) (st d : Nat) (l : List Nat) : (s.settle o st d l).dev = s.dev :=
  ((State.sendReply_tells _ _ _ _ _ _).same .dev (by decide)).trans ((State.mirror_tells _ _).same .dev (by decide))

theorem State.vendor_dev (s : State) (v : VSpec) (p : Pkt) {body : Owed → State → Done} (kept : ∀ o u, (body o u).s.dev = u.dev) :
    (s.vendor v p body).dev = s.dev := by
  have replied (u : State) (o : Owed) (st cs d : Nat) (l : List Nat) : (u.sendReply o st cs d l).dev = u.dev :=
    (u.sendReply_tells _ _ _ _ _).same .dev (by decide)
  have mirrored (u : State) (n : Nat) : (u.mirror n).dev = u.dev := (u.mirror_tells n).same .dev (by decide)
  have grouped (u : State) (l : List NvData) : (u.nvGroup l).dev = u.dev := (u.nvGroup_same l) .dev (by decide)
  unfold State.vendor
  extract_lets o0 d0 pers e o s1 d done grp
  have ran0 : d0.s.dev = s.dev := kept _ s
  refine ite_dev rfl (ite_dev rfl (ite_dev rfl (ite_dev rfl (ite_dev (replied _ _ _ _ _ _) (ite_dev (replied _ _ _ _ _ _)
    (ite_dev ?_ (ite_dev (replied _ _ _ _ _ _) ?_)))))))
  · exact ite_dev (replied _ _ _ _ _ _) (ite_dev (replied _ _ _ _ _ _) ((replied _ _ _ _ _ _).trans ran0))
  · split
    · exact replied _ _ _ _ _ _
    · have listed := (s.journalAdd_noted e).dev
      have noted : s1.dev = s.dev := ite_dev (ite_dev listed ((mirrored _ _).trans listed)) rfl
      have ran : d.s.dev = s.dev := by
        dsimp only [d]
        split
        · exact noted
        · split
          · exact noted
          · exact (kept _ _).trans noted
      refine ite_dev ran (ite_dev ((replied _ _ _ _ _ _).trans ran) (ite_dev ?_ ((State.settle_dev _ _ _ _ _).trans ran)))
      refine (replied _ _ _ _ _ _).trans ?_
      dsimp only [grp]
      split
      · exact ite_dev ran (ite_dev ((grouped _ _).trans ran) (ite_dev ran ((grouped _ _).trans ran)))
      · exact ran

theorem State.actSchedule_dev (s : State) (n : Nat) : (s.actSchedule n).dev = s.dev := by
  refine ite_dev (s.vendor_dev _ _ fun o u => ?_) rfl
  unfold State.maintStart
  dsimp only
  split
  · rfl
  · exact u.actRequest_dev n o

theorem State.joinParts_shows (s : State) : s.Shows s.joinParts := by
  unfold State.joinParts
  dsimp only
  exact .ite (.refl s) ((State.Shows.of_same (s.onRes_same _) (by decide)).trans (State.nvPut_shows _ _ _))

theorem State.schedule_marked (s : State) (m : s.Marked) : s.schedule.Marked := by
  have asked (u : State) (n : Nat) (b : Bool) : (u.askOnce n b).dev = u.dev := ite_dev (State.actSchedule_dev _ n) rfl
  have joined (u : State) : u.joinParts.dev = u.dev := u.joinParts_shows.dev
  have released (u : State) : (u.releaseSets 0).dev = u.dev := by
    unfold State.releaseSets
    split <;> rfl
  unfold State.schedule
  split
  · rename_i online
    refine .of_dev (d := .online) (Eq.trans ?_ online) (by decide)
    extract_lets s1 s2 s3 s4 g s5
    have joins : s1.dev = s.dev := ite_dev (joined s) rfl
    have frees : s2.dev = s.dev := ite_dev joins ((released s1).trans joins)
    have asks : s4.dev = s.dev := (asked _ _ _).trans ((asked _ _ _).trans frees)
    have reshapes : s5.dev = s.dev := ite_dev ((State.actSchedule_dev _ 3).trans asks) asks
    exact ite_dev frees (ite_dev ((State.actSchedule_dev _ 5).trans reshapes) reshapes)
  · split
    · exact m
    · exact m

/-! ### The close of the Rill's wheels and bands hides no fault -/

theorem State.onWhl_shows (s : State) (f : Wheels → Wheels) : s.Shows (s.onWhl f) := .of_same (s.onWhl_same f) (by decide)

theorem State.loseWheel_shows (s : State) (n : Nat) : s.Shows (s.loseWheel n) := by
  have told (u : State) (d : NvData) (segs : List Nat) : u.Shows
      (segs.foldl (fun s g => s.raise Ev.LOST_WHEEL 0 0 [g]) (((u.nvWrite d).count Reg.WHEELS_LOST 4).fault Src.WHEEL_PARITY .degraded)) :=
    (((u.nvPut_shows d _).trans (State.count_shows _ 4 (by decide))).trans (State.fault_shows _ _ _ _ _ (by decide))).trans
      (.foldl _ (fun u g => u.raise_shows _ _ _ _ _) _ _)
  exact (s.onWhl_shows _).trans (told _ _ _)

theorem State.judgeWheel_shows (s : State) (n : Nat) : s.Shows (s.judgeWheel n) := by
  have judged (f : Wheel → Wheel) : s.Shows { s with whl := s.whl.upd n f } := ⟨rfl, id⟩
  unfold State.judgeWheel
  split
  · exact .refl s
  · dsimp only
    exact .ite (.ite (s.loseWheel_shows n) (.ite ((judged _).trans (State.fault_shows _ _ _ _ _ (by decide))) (judged _))) (.refl s)

theorem State.journalStrip_shows (s : State) (a b : Bool) : s.Shows (s.journalStrip a b) := by
  have told (u : State) : u.Shows (u.fault Src.WHEEL_JOURNAL .degraded) := u.fault_shows _ _ _ _ (by decide)
  have put : s.Shows (s.journalPut none a b) := .of_same (s.journalPut_same none a b) (by decide)
  exact .ite (told s) (.ite put (put.trans (told _)))

theorem State.wheelDone_shows (s : State) (n : Nat) : s.Shows (s.wheelDone n) := by
  have waits (f : Rill → Rill) (g : Spillway → Spillway) (h : Siphon → Siphon) :
      s.Shows (((s.onRill f).onSpill g).onSip h) := ⟨rfl, id⟩
  unfold State.wheelDone
  extract_lets s1 s2 s3
  have due : s.Shows s3 := waits _ _ _
  exact .ite (due.trans (.of_same (s3.onRill_same _) (by decide)))
    (due.trans (.foldl _ (fun u c => .of_same (u.completeCapture_same c) (by decide)) _ _))

theorem State.closeWheel_shows (s : State) (n : Nat) : s.Shows (s.closeWheel n) := by
  unfold State.closeWheel
  split
  · exact .refl s
  · extract_lets s1 d s2
    have judged : s.Shows s1 := (s.onWhl_shows _).trans (State.judgeWheel_shows _ n)
    have journalled : s1.Shows s2 := .ite (.refl _) ((s1.onWhl_shows _).trans (State.journalStrip_shows _ _ _))
    exact .ite (.refl s) ((judged.trans journalled).trans (State.wheelDone_shows _ n))

theorem State.endBand_shows (s : State) (base : Nat) : s.Shows (s.endBand base) := by
  unfold State.endBand
  split
  · exact .ite ((s.onWhl_shows _).trans (State.nvPut_shows _ _ _)) (.refl s)
  · exact .refl s

theorem State.eraseBand_shows (s : State) (base : Nat) : s.Shows (s.eraseBand base) := by
  unfold State.eraseBand
  split
  · exact .refl s
  · extract_lets res mine whl s1
    have erased : s.Shows s1 := ⟨rfl, id⟩
    exact .ite (.refl s) ((erased.trans (.ite (.refl _) (s1.addReg_shows _ (by decide)))).trans
      (.of_same (State.eraseDone_same _ base) (by decide)))

theorem State.endStreams_shows (s : State) : s.Shows s.endStreams := by
  have closed (u : State) (n : Nat) : u.Shows ((u.fillWheel n).closeWheel n) :=
    .trans (.of_same (u.fillWheel_same n) (by decide)) (State.closeWheel_shows _ n)
  have dropped (u : State) (st : Stream) : u.Shows (u.dropPlans st) :=
    .foldl _ (fun u (b : Band) => (u.eraseBand_shows b.base).trans (State.onWhl_shows _ _)) _ _
  exact .foldl _ (fun u st => ((State.Shows.foldl _ closed _ u).trans (.foldl _ State.endBand_shows _ _)).trans (dropped _ st)) _ s

/-! ### The work of activities that begin (R436 to R438) -/

theorem State.rehearseStart_shows (s : State) : s.Shows s.rehearseStart := by
  have set (u : State) (f : Spillway → Spillway) : u.Shows (u.onSpill f) := .of_same (u.onSpill_same f) (by decide)
  unfold State.rehearseStart
  extract_lets s1
  refine .ite (.refl s) (.trans (t := s1) (set s _) ?_)
  split
  · exact .refl _
  · rename_i u taken
    have opened : s1.Shows u := by
      split at taken
      · exact (State.openSet_laid taken).shows
      · cases taken
    refine opened.trans ((set u _).trans (.foldl _ (fun v i => ?_) _ _))
    split
    · rename_i next
      exact (State.openWheel_laid next).shows
    · exact .refl v

theorem State.trueEnd_shows (s : State) : s.Shows s.trueEnd :=
  .ite (s.joinParts_shows.trans (State.actEnd_shows _ 2)) (.refl s)

theorem State.buildStart_shows (s : State) : s.Shows s.buildStart := by
  have staged (u : State) (v : Nat) : u.Shows (u.setReg Reg.RESHAPE_STATE v) := u.setReg_shows v (by decide)
  unfold State.buildStart
  extract_lets d s1
  refine .ite ((staged s 0).trans (State.actEnd_shows _ 3)) ((staged s 2).trans ?_)
  split
  · exact .ite (.refl _) ⟨rfl, id⟩
  · exact (s1.onWhl_shows _).trans (State.nvPut_shows _ _ _)

theorem State.reshapeStart_shows (s : State) : s.Shows s.reshapeStart := by
  have staged (u : State) (v w : Nat) : u.Shows ((u.setReg Reg.RESHAPE_BOUNDARY v).setReg Reg.RESHAPE_STATE w) :=
    (u.setReg_shows v (by decide)).trans (State.setReg_shows _ w (by decide))
  have aimed (u : State) (v w : Nat) : u.Shows ((u.setReg Reg.RESHAPE_FROM v).setReg Reg.POOL_DATA_SPOKES w) :=
    (u.setReg_shows v (by decide)).trans (State.setReg_shows _ w (by decide))
  unfold State.reshapeStart
  extract_lets from' goal s1 s2
  have begun : s.Shows s2 := s.endStreams_shows.trans ((aimed s1 _ _).trans (staged _ 0 1))
  exact .ite (staged s _ 1) (.ite (begun.trans ((s2.onWhl_shows _).trans (State.nvPut_shows _ _ _))) s.buildStart_shows)

theorem State.deepEnd_shows (s : State) : s.Shows s.deepEnd := .ite ((s.onWhl_shows _).trans (State.actEnd_shows _ 4)) (.refl s)

theorem State.activationStart_shows (s : State) : s.Shows s.activationStart := by
  have asked (u : State) (o : Out) : u.Shows (u.emit o) := .of_same (u.emit_same o) (by decide)
  have restarts (u : State) (f : Mgmt → Mgmt) : u.Shows (u.restartEnds.onMgmt f) := ⟨rfl, id⟩
  unfold State.activationStart
  split
  · exact s.actEnd_shows 6
  · extract_lets s1 s2
    have sent : s.Shows s1 := .ite (asked s _) (.refl s)
    have counted : s1.Shows s2 := (s1.nvPut_shows _ _).trans (State.addReg_shows _ 1 (by decide))
    exact (sent.trans counted).trans (restarts s2 _)

theorem State.startWork_shows (s : State) (n : Nat) : s.Shows (s.startWork n) := by
  have began (f : Activity → Activity) : s.Shows (s.setAct n f) := .of_same (s.onCmd_same _) (by decide)
  unfold State.startWork
  extract_lets s1
  refine (began _).trans (.ite ?_ (.ite s1.rehearseStart_shows (.ite s1.trueEnd_shows (.ite s1.reshapeStart_shows (.ite
    ((s1.onWhl_shows _).trans (State.deepEnd_shows _)) (.ite s1.activationStart_shows (.ite ?_ (.ite ?_ (.refl s1)))))))))
  · split
    · rename_i i _
      have told : s1.Shows ((s1.setReg (Reg.LEARN_RESULT_A + portIx i) 4).fault (cistSrc i) .log) :=
        (s1.setReg_shows 4 (by cases i <;> decide)).trans (State.fault_shows _ _ _ _ _ (by cases i <;> decide))
      have learns : s1.Shows (s1.learnStart i s1.cmd.learnAck) :=
        .trans (.of_same (s1.onCPort_same i _) (by decide)) (.of_same (State.onSeq_same _ _) (by decide))
      exact .ite learns ((told.trans (State.actEnd_shows _ 1)).trans (.of_same (State.onCmd_same _ _) (by decide)))
    · exact s1.actEnd_shows 1
  · exact .ite (s1.actEnd_shows 8) (s1.setReg_shows 1 (by decide))
  · split
    · exact s1.raise_shows _ _ _ _ _
    · exact s1.actEnd_shows 7

theorem State.startFresh_shows (s : State) : s.Shows s.startFresh :=
  .foldl _ (fun u i => .ite (u.startWork_shows (i + 1)) (.refl u)) _ s

/-! ### The rest of what follows a command -/

theorem State.onMgmt_shows (s : State) (f : Mgmt → Mgmt) : s.Shows (s.onMgmt f) := ⟨rfl, id⟩

theorem State.activationRefused_shows (s : State) : s.Shows s.activationRefused := by
  have ended (f : Mgmt → Mgmt) : s.Shows ((s.setReg Reg.FW_LAST_RESULT 5).onMgmt f) :=
    (s.setReg_shows 5 (by decide)).trans (State.onMgmt_shows _ f)
  unfold State.activationRefused
  split
  · exact .ite (.refl s) (.ite ((ended _).trans (.of_same (State.emit_same _ _) (by decide))) (ended _))
  · exact .refl s

theorem State.bistOver_shows (s : State) : s.Shows s.bistOver :=
  .ite ((s.setReg_shows 0 (by decide)).trans (State.onMgmt_shows _ _)) (.refl s)

theorem State.takeSeq_shows (s : State) : s.Shows s.takeSeq.2 :=
  (s.setReg_shows _ (by decide)).trans
    (.ite ((State.fault_shows _ _ _ _ _ (by decide)).trans (State.raise_shows _ _ _ _ _ _)) (.refl _))

theorem State.issueFold_shows {s t : State} {seg : Nat} (h : s.issueFold seg = some t) : s.Shows t := by
  unfold State.issueFold at h
  obtain ⟨⟨spans, u⟩, placed, rfl⟩ := Option.map_eq_some_iff.mp h
  have listed (v : State) (f : Rill → Rill) (g : Wheels → Wheels) (h : Siphon → Siphon) :
      v.Shows (((v.onRill f).onWhl g).onSip h) := ⟨rfl, id⟩
  exact ((State.place_laid placed).shows.trans u.takeSeq_shows).trans (listed _ _ _ _)

theorem State.lostFolds_shows (s : State) : s.Shows s.lostFolds := by
  refine .ite (.refl s) (.foldl _ (fun u g => .ite (.refl u) ?_) _ s)
  cases folds : u.issueFold g with
  | none => exact .refl u
  | some t => exact State.issueFold_shows folds

theorem State.devLoad_shows (s : State) (b : Bool) : s.Shows (s.devLoad b) := by
  have set (u : State) (v : Nat) : u.Shows (u.setReg Reg.DEVLOAD_LEVEL v) := u.setReg_shows v (by decide)
  have run (u : State) (f : Weir → Weir) : u.Shows (u.onWeir f) := .of_same (u.onWeir_same f) (by decide)
  exact .ite ((set s _).trans (run _ _)) (.ite (.ite (.refl s) (.ite (run s _) ((run s _).trans (set _ _)))) (run s _))

theorem State.compare_shows (s : State) : s.Shows s.compare := by
  have set (u : State) (f : Weir → Weir) : u.Shows (u.onWeir f) := .of_same (u.onWeir_same f) (by decide)
  have told (u : State) (n : Nat) : u.Shows ((u.devLoad false).raise n) := (u.devLoad_shows false).trans (State.raise_shows _ _ _ _ _ _)
  have peak (v : Nat) : s.Shows (s.putReg Reg.BREACH_PEAK v) := .of_reg (s.putReg_same _ v) (s.reg_putReg_ne _ _ _ (by decide)) (by decide)
  unfold State.compare
  extract_lets c d s1 s2
  have peaked : s.Shows s1 := .ite (peak _) (.refl s)
  have counted : s1.Shows (s2.addReg Reg.BREACH_COUNT 1) := (set s1 _).trans (s2.addReg_shows 1 (by decide))
  exact .ite (.refl s) (.ite (.ite peaked (peaked.trans (counted.trans (told _ _)))) (.ite ((set s _).trans (told _ _)) (.refl s)))

theorem State.zeroCeiling_shows (s : State) : s.Shows s.zeroCeiling := by
  have set (f : Weir → Weir) : s.Shows (s.onWeir f) := .of_same (s.onWeir_same f) (by decide)
  exact .ite (.refl s) (.ite (.ite (set _) (.refl s)) (.ite (.refl s) ((set _).trans (State.fault_shows _ _ _ _ _ (by decide)))))

theorem State.regrant_shows (s : State) : s.Shows s.regrant := by
  refine .ite (.refl s) (.foldl _ (fun u n => ?_) _ s)
  split
  · exact .refl u
  · exact .of_same (u.onCmd_same _) (by decide)

theorem State.overdraw_shows (s : State) : s.Shows s.overdraw :=
  .of_same ((State.suspendHolders_tells _ _ _ s).same.trans (State.suspendHolders_tells _ _ _ _).same) (by decide)

theorem State.protection_shows (s : State) : s.Shows s.protection := by
  have set (c : Nat) : s.Shows ((s.setReg Reg.PROTECTION_STATUS c).raise Ev.PROTECTION_CHANGE) :=
    (s.setReg_shows c (by decide)).trans (State.raise_shows _ _ _ _ _ _)
  unfold State.protection
  extract_lets c s1
  exact .ite (.refl s) ((set c).trans (.ite ((State.fault_shows _ _ _ _ _ (by decide)).trans (State.raise_shows _ _ _ _ _ _)) (.refl s1)))

theorem State.startWaiting_marked (s : State) (m : s.Marked) : s.startWaiting.Marked := by
  unfold State.startWaiting
  split
  · exact .of_dev s.powerUp_dev (by decide)
  · exact m

/-- What follows a command neither brings a device into MAINTENANCE nor hides the faults shown. -/
theorem State.fin_marked (s : State) (m : s.Marked) : s.fin.Marked := by
  have judged (u : State) : u.Shows u.activationRefused.bistOver.lostFolds.compare.zeroCeiling.rillGates.policySync :=
    (((((u.activationRefused_shows.trans (State.bistOver_shows _)).trans (State.lostFolds_shows _)).trans (State.compare_shows _)).trans
      (State.zeroCeiling_shows _)).trans (.of_same (State.rillGates_same _) (by decide))).trans
      (.of_same (State.policySync_same _) (by decide))
  have checked : (if s.seq.aonUp then s.convJudge else s).Marked := by
    split
    · exact s.convJudge_marked m
    · exact m
  have scheduled := State.schedule_marked _ (State.fatalReaction_marked _ checked)
  unfold State.fin
  extract_lets s1 s2
  have begun : s1.Marked := ((State.startFresh_shows _).trans (judged _)).marked scheduled
  have arbitrated : s1.Shows s2 := .ite (s1.overdraw_shows.trans (State.regrant_shows _)) (.refl s1)
  exact ((State.Shows.of_same (State.notePoison_same _) (by decide)).trans (State.protection_shows _)).marked
    (s2.startWaiting_marked (arbitrated.marked begun))

/-! ### More channels than the fault collector's sources (R85, R366) -/

/-- A module of 32 GiB in each of 64 channels. -/
def wideModules : List Dimm := (List.range 64).map fun ch =>
  { channel := ch, slot := 0, cap := 0, type := 0, ranks := 1, density := 0, serial := 0, rates := [] }

/-- A device in MAINTENANCE whose Basin serves them. -/
def wideBasin : State :=
  { dev := .maintenance, seq := { coreUp := true }, port := { volGiB := 1 }, basin := { state := .serving, found := wideModules } }

/-- `wideBasin` after the scrub of an uncorrectable line of channel 60. -/
def wideScrubbed : State := (wideBasin.begin.scrubFound (.badLine 15360)).scrubNext

theorem wideScrubbed_unmarked : wideScrubbed.fin.dev = .maintenance ∧ wideScrubbed.fin.reg Reg.FC_STATUS = 0 := by decide +kernel

end Sys2Proof.Machine

namespace Sys2Proof
open Machine

/-- Refutes O14: the statement binds no channel. The status word has 48 bits, so a report of channel 44 or above sets
none; in a device of 64 channels the scrub of an uncorrectable line of channel 60 leaves the word 0, and what follows a command
hides no fault that the state before it showed. -/
theorem not_basin_errors : ¬ Obligations.Basin_errors := by
  unfold Obligations.Basin_errors
  rintro ⟨-, -, -, scrub, -⟩
  obtain ⟨t, ran, -, -, -, shown⟩ := scrub 15360 wideBasin (by decide) (by decide) (by decide +kernel) (by decide +kernel)
  have marked : t.fin.Marked := t.fin_marked (.inr (ne_zero_of_bit (shown rfl)))
  rw [← show wideScrubbed.fin = t.fin from Host.Outcome.next.inj ran] at marked
  obtain ⟨maintenance, unshown⟩ := wideScrubbed_unmarked
  exact marked.elim (· maintenance) (· unshown)

end Sys2Proof
end

section
/-! PROOFS. A step with a command waiting, and a millisecond without one (O1). -/

namespace Sys2Proof.Machine

/-! ### What each part of a millisecond does (R121, R124, R214, R453) -/

/-- The clock advances, and nothing has gone out yet. -/
def State.clocked (s : State) : State := { s with now := s.now + 1, out := [] }

theorem State.tick_eq (s : State) : s.tick = s.clocked.countBreach.countHold.framesAcked.noteInflow := rfl

theorem State.clocked_same (s : State) : s.SameBut s.clocked [.now, .out] := by
  intro p; cases p <;> simp [State.agree, State.clocked]

theorem State.countBreach_same (s : State) : s.SameBut s.countBreach [.regs, .freeCtr] := .ite (s.addReg_same _ _) (.refl _ _)

theorem State.countHold_same (s : State) : s.SameBut s.countHold [.sip] := .ite (s.onSip_same _) (.refl _ _)

theorem State.framesAcked_same (s : State) : s.SameBut s.framesAcked [.mir] := s.onMir_same _

theorem State.noteInflow_same (s : State) : s.SameBut s.noteInflow [.weir] := .ite (s.onWeir_same _) (.refl _ _)

/-- A count that stays within its register's width. -/
theorem State.reg_addReg (s : State) (id n : Nat) (h : s.reg id + n < 2 ^ paramWidth id) : (s.addReg id n).reg id = s.reg id + n := by
  rw [State.addReg, if_pos h, s.reg_setReg _ _ h]

theorem State.countBreach_above {s : State} (planning : s.weir.state = .planning) (above : s.weir.above = true)
    (room : s.reg Reg.BREACH_TIME + 1 < 2 ^ 32) : s.countBreach.reg Reg.BREACH_TIME = s.reg Reg.BREACH_TIME + 1 := by
  have width : paramWidth Reg.BREACH_TIME = 32 := by decide +kernel
  rw [State.countBreach, if_pos (by simp [planning, above]), s.reg_addReg _ _ (by rwa [width])]

theorem State.countBreach_below {s : State} (below : s.weir.above = false) : s.countBreach = s :=
  if_neg (by simp [below])

theorem State.countBreach_reg_ne (s : State) {id : Nat} (other : id ≠ Reg.BREACH_TIME) : s.countBreach.reg id = s.reg id := by
  unfold State.countBreach
  split
  · exact s.reg_addReg_ne _ _ _ other
  · rfl

theorem State.countHold_second {s : State} (kickstand : s.dev = .kickstand) (holding : s.sip.hold.state = .holding)
    (second : s.now % 1000 = 0) : s.countHold.sip.hold.elapsed = s.sip.hold.elapsed + 1 := by
  rw [State.countHold, if_pos (by simp [kickstand, holding, second]), State.onSip_sip]

theorem State.countHold_elsewhere {s : State} (elsewhere : s.dev ≠ .kickstand) : s.countHold = s :=
  if_neg (by simp [elsewhere])

theorem State.noteInflow_planning {s : State} (planning : s.weir.state = .planning) (l : List (Nat × Nat)) :
    { s.noteInflow.weir with inflow := l } = { s.weir with inflow := l } := by
  rw [State.noteInflow, if_pos planning, State.onWeir_weir]

theorem State.noteInflow_rests {s : State} (rests : s.weir.state ≠ .planning) : s.noteInflow = s := if_neg rests

/-! ### A millisecond as a whole -/

/-- What a millisecond does once the breach is counted writes no register. -/
theorem State.countBreach_tick (s : State) : s.clocked.countBreach.SameBut s.tick [.sip, .mir, .weir] :=
  ((State.countHold_same _).widen.next (State.framesAcked_same _)).next (State.noteInflow_same _)

theorem State.tick_same (s : State) : s.SameBut s.tick [.now, .out, .regs, .freeCtr, .sip, .mir, .weir] :=
  (s.clocked_same.widen.next (State.countBreach_same _)).next s.countBreach_tick

theorem State.tick_reg (s : State) (id : Nat) : s.tick.reg id = s.clocked.countBreach.reg id :=
  State.reg_of_regs (s.countBreach_tick .regs (by decide)) id

theorem State.tick_sip (s : State) : s.tick.sip = s.clocked.countBreach.countHold.sip :=
  ((State.framesAcked_same _).widen.next (State.noteInflow_same _) : State.SameBut _ s.tick [.mir, .weir]) .sip (by decide)

/-- The state in which a millisecond counts the hold's seconds. -/
theorem State.countBreach_clocked (s : State) :
    s.SameBut s.clocked.countBreach [.now, .out, .regs, .freeCtr] ∧ s.clocked.countBreach.now = s.now + 1 :=
  ⟨s.clocked_same.widen.next (State.countBreach_same _), State.countBreach_same _ .now (by decide)⟩

theorem State.tick_mir (s : State) : s.tick.mir = { s.mir with unacked := [] } := by
  have kept : s.clocked.countBreach.countHold.mir = s.mir :=
    (s.countBreach_clocked.1.widen.next (State.countHold_same _) : s.SameBut _ [.now, .out, .regs, .freeCtr, .sip]) .mir (by decide)
  rw [← kept]
  exact State.noteInflow_same _ .mir (by decide)

/-- The state in which a millisecond notes the inflow has the Weir as it was. -/
theorem State.framesAcked_weir (s : State) : s.clocked.countBreach.countHold.framesAcked.weir = s.weir :=
  ((s.countBreach_clocked.1.widen.next (State.countHold_same _)).next (State.framesAcked_same _) :
    s.SameBut _ [.now, .out, .regs, .freeCtr, .sip, .mir]) .weir (by decide)

theorem State.tick_hold {s : State} (kickstand : s.dev = .kickstand) (holding : s.sip.hold.state = .holding)
    (second : (s.now + 1) % 1000 = 0) : s.tick.sip.hold.elapsed = s.sip.hold.elapsed + 1 := by
  obtain ⟨same, now⟩ := s.countBreach_clocked
  have dev : s.clocked.countBreach.dev = s.dev := same .dev (by decide)
  have sip : s.clocked.countBreach.sip = s.sip := same .sip (by decide)
  rw [s.tick_sip, State.countHold_second (dev.trans kickstand) (by rw [sip, holding]) (by rw [now, second]), sip]

theorem State.tick_sip_elsewhere {s : State} (elsewhere : s.dev ≠ .kickstand) : s.tick.sip = s.sip := by
  have same := s.countBreach_clocked.1
  have dev : s.clocked.countBreach.dev = s.dev := same .dev (by decide)
  rw [s.tick_sip, State.countHold_elsewhere (by rwa [dev])]
  exact same .sip (by decide)

theorem State.tick_weir {s : State} (rests : s.weir.state ≠ .planning) : s.tick.weir = s.weir := by
  rw [s.tick_eq, State.noteInflow_rests (by rwa [s.framesAcked_weir]), s.framesAcked_weir]

theorem State.tick_weir_planning {s : State} (planning : s.weir.state = .planning) :
    { s.tick.weir with inflow := s.weir.inflow } = s.weir := by
  rw [s.tick_eq, State.noteInflow_planning (by rwa [s.framesAcked_weir]), s.framesAcked_weir]

theorem step_idle {s : State} (idle : s.pending = []) : step s = .next s.tick := by
  rw [step, idle]

theorem step_front {s : State} {c : Instr} {l : List Instr} (front : s.pending = c :: l) : step s = exec c { s with pending := l } := by
  rw [step, front]

/-- Settles O1: each part of a millisecond writes a part of the state that no other writes. -/
theorem step_takes_the_front : Obligations.Step_takes_the_front := by
  unfold Obligations.Step_takes_the_front
  refine ⟨fun c l s front => step_front front, fun s idle => ⟨s.tick, step_idle idle, ?_, ?_, ?_, ?_, State.tick_hold,
    State.tick_sip_elsewhere, s.tick_mir, State.tick_weir, State.tick_weir_planning, s.tick_same, ?_⟩⟩
  · exact (s.countBreach_tick .now (by decide)).trans s.countBreach_clocked.2
  · exact (s.countBreach_tick .out (by decide)).trans (State.countBreach_same _ .out (by decide))
  · intro planning above room
    rw [s.tick_reg]
    exact State.countBreach_above (s := s.clocked) planning above room
  · intro below
    have uncounted : s.clocked.countBreach = s.clocked := State.countBreach_below (s := s.clocked) below
    have after := s.countBreach_tick
    rw [uncounted] at after
    exact ⟨after .regs (by decide), after .freeCtr (by decide)⟩
  · intro id other
    rw [s.tick_reg]
    exact s.clocked.countBreach_reg_ne (by simpa using other)

end Sys2Proof.Machine
end


section
/-! PROOFS. The Weir's watch: late re-plans, stale estimates and the DevLoad level (O17). -/

namespace Sys2Proof.Machine

/-! ### Late re-plans (Table 4-6) -/

/-- A late re-plan halves the ceiling and reports. -/
theorem replanTimeout_halves {s : State} (up : s.seq.coreUp = true) (live : s.weir.state ≠ .latched)
    (fits : s.reg Reg.CEILING < 2 ^ 20) : Answers .replanTimeout s fun t =>
      t.reg Reg.CEILING = s.reg Reg.CEILING / 4 * 2 ∧ t.reg Reg.CEILING_LIMITER = 4
        ∧ bit (t.reg Reg.FC_STATUS) Src.WEIR = true ∧ s.SameBut t reportParts := by
  have ceiling : paramWidth Reg.CEILING = 20 := by decide +kernel
  have limiter : paramWidth Reg.CEILING_LIMITER = 3 := by decide +kernel
  have room : s.reg Reg.CEILING / 4 * 2 < 2 ^ 20 := by omega
  refine ⟨_, rfl, ?_⟩
  rw [if_pos ⟨show s.begin.seq.coreUp = true from up, show s.begin.weir.state ≠ .latched from live⟩]
  extract_lets half halved
  have same : s.SameBut halved [.out, .regs] := (s.begin_same.widen.next (State.setReg_same _ _ _)).next (State.setReg_same _ _ _)
  have toEnd : halved.Tells ((halved.setReg Reg.TARGET_FILL (halved.targetFill half)).fault Src.WEIR .degraded) reportParts :=
    (halved.setReg_tells _ (by decide)).widen.next (State.fault_tells _ _ _)
  refine ⟨?_, ?_, State.fault_status _ _ _ _ _ (by decide) up, same.widen.next toEnd.same⟩
  · rw [toEnd.figures _ (by decide), State.reg_setReg_ne _ _ _ _ (by decide), State.reg_setReg _ _ _ (by rw [ceiling]; exact room)]
    rfl
  · rw [toEnd.figures _ (by decide), State.reg_setReg _ _ _ (by rw [limiter]; decide)]

/-! ### Stale estimates (R110) -/

/-- The Weir's note that a module's estimate is stale. -/
def Weir.stale (w : Weir) : PortId → Bool
  | .a => w.staleA
  | .b => w.staleB

/-- The Weir once a module's estimate is stale. -/
def Weir.noteStale (w : Weir) : PortId → Weir
  | .a => { w with staleA := true }
  | .b => { w with staleB := true }

theorem Weir.stale_noteStale (w : Weir) (i : PortId) : (w.noteStale i).stale i = true := by cases i <;> rfl

theorem Weir.stale_noteStale_ne (w : Weir) {i j : PortId} (h : j ≠ i) : (w.noteStale i).stale j = w.stale j := by
  cases i <;> cases j
  case a.b | b.a => rfl
  case a.a | b.b => exact absurd rfl h

theorem State.included_false_of_stale {s : State} {i : PortId} (h : s.weir.stale i = true) : s.included i = false := by
  cases i
  case a => simp [State.included, show s.weir.staleA = true from h]
  case b => simp [State.included, show s.weir.staleB = true from h]

/-- A module's standing is read from the ports, the device state and its own note. -/
theorem State.included_congr {s t : State} {i : PortId} (dev : t.dev = s.dev) (cist : t.cist = s.cist)
    (stale : t.weir.stale i = s.weir.stale i) : t.included i = s.included i := by
  unfold State.included
  rw [dev, cist]
  cases i
  case a => rw [show t.weir.staleA = s.weir.staleA from stale]
  case b => rw [show t.weir.staleB = s.weir.staleB from stale]

theorem estimateStale_notes {s : State} {i : PortId} (up : s.seq.coreUp = true) (live : s.weir.state ≠ .latched)
    (fresh : s.weir.stale i = false) (present : (s.cist.port i).state ≠ .absent) : Answers (.estimateStale i) s fun t =>
      t = (s.begin.onWeir (·.noteStale i)).fault Src.WEIR .log := by
  refine ⟨_, rfl, ?_⟩
  cases i
  case a => exact if_pos ⟨up, live, congrArg (! ·) fresh, present⟩
  case b => exact if_pos ⟨up, live, congrArg (! ·) fresh, present⟩

/-- A module whose estimate goes stale is excluded and reported, and no other module's standing changes. -/
theorem estimateStale_excludes {s : State} {i : PortId} (up : s.seq.coreUp = true) (live : s.weir.state ≠ .latched)
    (fresh : s.weir.stale i = false) (present : (s.cist.port i).state ≠ .absent) : Answers (.estimateStale i) s fun t =>
      t.included i = false ∧ (∀ j, j ≠ i → t.included j = s.included j) ∧ bit (t.reg Reg.FC_STATUS) Src.WEIR = true
        ∧ s.SameBut t (.weir :: reportParts) := by
  refine (estimateStale_notes up live fresh present).imp fun t told => ?_
  subst told
  have noted : s.SameBut (s.begin.onWeir (·.noteStale i)) [.out, .weir] := s.begin_same.widen.next (State.onWeir_same _ _)
  have same : s.SameBut ((s.begin.onWeir (·.noteStale i)).fault Src.WEIR .log) (.weir :: reportParts) :=
    noted.widen.next (State.fault_same _ _ _ _ _ _)
  have weir : ((s.begin.onWeir (·.noteStale i)).fault Src.WEIR .log).weir = s.weir.noteStale i :=
    State.fault_same _ _ _ _ _ _ .weir (by decide)
  refine ⟨State.included_false_of_stale (weir ▸ s.weir.stale_noteStale i), fun j other => ?_,
    State.fault_status _ _ _ _ _ (by decide) up, same⟩
  exact State.included_congr (same .dev (by decide)) (same .cist (by decide)) (weir ▸ s.weir.stale_noteStale_ne other)

/-! ### The row of Table 4-4 that applies (R122) -/

/-- Above the ceiling the row is that of level 3. -/
theorem State.devLoadRow_above {s : State} (above : s.reg Reg.CEILING * MiB < s.basin.dirtyBytes) : s.devLoadRow = 3 :=
  if_pos (by simp [above])

/-- The dirty set lies below the ceiling, the target fill and the moderate fraction, and does not grow. -/
structure State.Light (s : State) : Prop where
  within : s.basin.dirtyBytes ≤ s.reg Reg.CEILING * MiB
  moderate : 100 * s.basin.dirtyBytes < s.reg Reg.DEVLOAD_MOD_FRAC * (s.reg Reg.CEILING * MiB)
  filling : s.basin.dirtyBytes < s.reg Reg.TARGET_FILL * MiB
  still : s.weir.growth ≤ 0

/-- There the row is that of level 0. -/
theorem State.Light.row {s : State} (h : s.Light) : s.devLoadRow = 0 := by
  obtain ⟨within, moderate, filling, still⟩ := h
  have steady : ¬ 0 < s.weir.growth := by omega
  unfold State.devLoadRow
  dsimp only
  rw [if_neg (by simpa [steady] using within), if_neg (by simpa [steady] using moderate), if_neg (by omega)]

/-! ### The level that an evaluation sets (R122) -/

theorem paramWidth_devLoad : paramWidth Reg.DEVLOAD_LEVEL = 2 := by decide +kernel

/-- A higher row is taken at once. -/
theorem State.devLoad_rises {s : State} {n : Nat} (row : s.devLoadRow = n) (higher : s.reg Reg.DEVLOAD_LEVEL ≤ n) (fits : n ≤ 3)
    (periodic : Bool) : (s.devLoad periodic).reg Reg.DEVLOAD_LEVEL = n := by
  unfold State.devLoad
  dsimp only
  rw [row]
  split
  · exact s.reg_setReg _ _ (by rw [paramWidth_devLoad]; omega)
  · rw [if_neg (by omega)]
    show s.reg Reg.DEVLOAD_LEVEL = n
    omega

/-- A lower row takes the level down by one step, once the evaluation before has found a lower level too. -/
theorem State.devLoad_falls {s : State} (lower : s.devLoadRow < s.reg Reg.DEVLOAD_LEVEL) (fits : s.reg Reg.DEVLOAD_LEVEL ≤ 3) :
    (s.devLoad true).reg Reg.DEVLOAD_LEVEL =
      if s.weir.lowerRun = 0 then s.reg Reg.DEVLOAD_LEVEL else s.reg Reg.DEVLOAD_LEVEL - 1 := by
  unfold State.devLoad
  dsimp only
  rw [if_neg (by omega), if_pos lower, if_neg (by decide)]
  split
  · rfl
  · exact State.reg_setReg _ _ _ (by rw [paramWidth_devLoad]; omega)

/-- A step that leaves the Weir but for its count of lower rows. -/
def State.Levels (s t : State) : Prop := ∃ n, t.weir = { s.weir with lowerRun := n }

theorem State.Levels.ite {c : Prop} [Decidable c] {s t u : State} (h : s.Levels t) (k : s.Levels u) :
    s.Levels (if c then t else u) := by split <;> assumption

theorem State.Levels.setReg {s t : State} (h : s.Levels t) (id v : Nat) : s.Levels (t.setReg id v) := h

theorem State.Levels.onWeir {s t : State} (h : s.Levels t) (n : Nat) : s.Levels (t.onWeir fun w => { w with lowerRun := n }) := by
  obtain ⟨m, weir⟩ := h
  exact ⟨n, by rw [State.onWeir_weir, weir]⟩

theorem State.Levels.refl (s : State) : s.Levels s := ⟨s.weir.lowerRun, rfl⟩

theorem State.devLoad_levels (s : State) (periodic : Bool) : s.Levels (s.devLoad periodic) := by
  have self := State.Levels.refl s
  have noted := self.onWeir
  unfold State.devLoad
  exact .ite ((self.setReg _ _).onWeir 0) (.ite (.ite self (.ite (noted _) ((noted _).setReg _ _))) (noted 0))

theorem State.devLoad_dirtyAtEval (s : State) (periodic : Bool) : (s.devLoad periodic).weir.dirtyAtEval = s.weir.dirtyAtEval := by
  obtain ⟨n, weir⟩ := s.devLoad_levels periodic
  rw [weir]

/-! ### The 1 ms evaluation (R122) -/

/-- The growth of the last millisecond is noted and DIRTY_RATE published, before the level is set. -/
def State.grown (s : State) : State :=
  (s.begin.onWeir fun w => { w with
    growth := (s.basin.dirtyBytes : Int) - s.weir.dirtyAtEval, dirtyAtEval := s.basin.dirtyBytes }).setReg
    Reg.DIRTY_RATE (twos 32 (((s.basin.dirtyBytes : Int) - s.weir.dirtyAtEval).tdiv 1000))

theorem State.grown_reg (s : State) {id : Nat} (other : id ≠ Reg.DIRTY_RATE) : s.grown.reg id = s.reg id :=
  State.reg_setReg_ne _ _ _ _ other

theorem State.grown_same (s : State) : s.SameBut s.grown [.out, .regs, .weir] :=
  (s.begin_same.widen.next (State.onWeir_same _ _)).next (State.setReg_same _ _ _)

theorem State.grown_weir (s : State) : s.grown.weir = { s.weir with
    growth := (s.basin.dirtyBytes : Int) - s.weir.dirtyAtEval, dirtyAtEval := s.basin.dirtyBytes } := rfl

theorem devloadEvaluation_grown {s : State} (planning : s.weir.state = .planning) :
    Answers .devloadEvaluation s fun t => t = s.grown.devLoad true :=
  ⟨_, rfl, if_pos (show s.begin.weir.state = .planning from planning)⟩

theorem State.grown_devLoad_same (s : State) : s.SameBut (s.grown.devLoad true) [.out, .regs, .weir] :=
  s.grown_same.next (State.devLoad_same _ _)

theorem State.grown_light {s : State} (filling : s.basin.dirtyBytes < s.reg Reg.TARGET_FILL * MiB)
    (within : s.basin.dirtyBytes ≤ s.reg Reg.CEILING * MiB)
    (moderate : 100 * s.basin.dirtyBytes < s.reg Reg.DEVLOAD_MOD_FRAC * (s.reg Reg.CEILING * MiB))
    (still : s.basin.dirtyBytes ≤ s.weir.dirtyAtEval) : s.grown.Light := by
  have basin : s.grown.basin = s.basin := s.grown_same .basin (by decide)
  refine ⟨?_, ?_, ?_, ?_⟩
  · rwa [basin, s.grown_reg (by decide)]
  · rwa [basin, s.grown_reg (by decide), s.grown_reg (by decide)]
  · rwa [basin, s.grown_reg (by decide)]
  · rw [s.grown_weir]
    dsimp only
    omega

/-- Settles O17: an evaluation notes the growth before it reads the row, and no other figure that the row is read from changes. -/
theorem weir_watch : Obligations.Weir_watch := by
  unfold Obligations.Weir_watch
  refine ⟨fun s up live fits => ?_, fun s up live fresh present => ?_, fun s up live fresh present => ?_,
    fun s planning above low => ?_, fun s planning filling within moderate still light => ?_,
    fun s planning filling within moderate still heavier low => ?_⟩
  · exact (replanTimeout_halves up live fits).imp fun t ⟨ceiling, limiter, reported, same⟩ =>
      ⟨ceiling, limiter, reported, same .weir (by decide), same⟩
  · exact (estimateStale_excludes (i := .a) up live fresh present).imp fun t ⟨out, other, reported, same⟩ =>
      ⟨out, other .b (by decide), reported, same.widen⟩
  · exact (estimateStale_excludes (i := .b) up live fresh present).imp fun t ⟨out, other, reported, same⟩ =>
      ⟨out, other .a (by decide), reported, same.widen⟩
  all_goals
    have level : s.grown.reg Reg.DEVLOAD_LEVEL = s.reg Reg.DEVLOAD_LEVEL := s.grown_reg (by decide)
    refine (devloadEvaluation_grown planning).imp fun t evaluated => ?_
    subst evaluated
  · have row : s.grown.devLoadRow = 3 := State.devLoadRow_above (by rwa [s.grown_reg (by decide)])
    exact ⟨State.devLoad_rises row (by omega) (by decide) _, s.grown.devLoad_dirtyAtEval _, s.grown_devLoad_same⟩
  · have row := (State.grown_light filling within moderate still).row
    exact ⟨State.devLoad_rises row (by omega) (by decide) _, s.grown_devLoad_same⟩
  · have row := (State.grown_light filling within moderate still).row
    refine ⟨?_, s.grown_devLoad_same⟩
    rw [State.devLoad_falls (by omega) (by omega), level]
    rfl

end Sys2Proof.Machine
end

section
/-! PROOFS. What a vault's manifest measures (O18). -/

namespace Sys2Proof.Machine

/-! ### The bounds of a measurement (R116) -/

/-- Drained bytes, cost per byte and fixed cost lie within their bounds. -/
def State.accepts (s : State) (m : Manifest) : Prop :=
  let bytes := m.unitsDrained * 4096
  let de : Int := (m.eStart : Int) - m.eEnd
  let fixed : Int := (m.eCommit : Int) - m.eClose - de
  let eb : Int := s.reg Reg.E_BYTE_BASE
  let fb : Int := s.reg Reg.E_FIXED_BASE
  8 * GiB ≤ bytes ∧ eb * bytes ≤ 2 * (de * GiB) ∧ de * GiB ≤ 2 * eb * bytes ∧ fb ≤ 2 * fixed ∧ fixed ≤ 2 * fb

/-- The bounds on natural numbers, where neither cost is negative. -/
theorem State.accepts_iff {s : State} {m : Manifest} {de fixed : Nat} (start : m.eStart = m.eEnd + de)
    (commit : m.eCommit = m.eClose + de + fixed) : s.accepts m ↔
      8 * GiB ≤ m.unitsDrained * 4096 ∧ s.reg Reg.E_BYTE_BASE * (m.unitsDrained * 4096) ≤ 2 * (de * GiB)
        ∧ de * GiB ≤ 2 * s.reg Reg.E_BYTE_BASE * (m.unitsDrained * 4096)
        ∧ s.reg Reg.E_FIXED_BASE ≤ 2 * fixed ∧ fixed ≤ 2 * s.reg Reg.E_FIXED_BASE := by
  have drained : (m.eStart : Int) - m.eEnd = de := by omega
  have rest : (m.eCommit : Int) - m.eClose - de = fixed := by omega
  unfold State.accepts
  dsimp only
  rw [drained, rest]
  norm_cast

/-- A measurement taken. -/
def State.measured (s : State) (m : Manifest) : State :=
  (((((s.setReg Reg.E_BYTE_MEAS (ceilDiv (((m.eStart : Int) - m.eEnd).toNat * GiB) (m.unitsDrained * 4096))).setReg Reg.E_FIXED_MEAS
    ((m.eCommit : Int) - m.eClose - ((m.eStart : Int) - m.eEnd)).toNat).setReg Reg.T_MEAS m.tMed).setReg Reg.T_MEAS_FLASH
    (twos 8 m.tFlash)).setReg Reg.L_MEAS m.lElig).onWhl fun w => { w with flipOldD := none }

/-! ### The manifest that the pointer record names -/

/-- The manifest that the pointer record names. -/
def State.named (s : State) : Option Manifest := s.spill.manifests.find? fun m => m.seq == s.pointer.manifestSeq

theorem State.named_eq {s : State} {m : Manifest} {l r : List Manifest} (list : s.spill.manifests = l ++ m :: r)
    (seq : m.seq = s.pointer.manifestSeq) (others : ∀ x ∈ l, x.seq ≠ s.pointer.manifestSeq) : s.named = some m := by
  rw [State.named, List.find?_eq_some_iff_append]
  exact ⟨by simpa using seq, l, r, list, fun x mem => by simpa using others x mem⟩

/-- A named manifest whose costs lie outside the bounds is passed over or rejected. -/
theorem State.measure_rejects {s : State} {m : Manifest} (named : s.named = some m) (outside : ¬ s.accepts m) (readable : Bool) :
    s.measure readable = s ∨ s.measure readable = s.fault Src.WEIR .log := by
  unfold State.measure
  dsimp only
  rw [← State.named, named]
  split
  · exact .inl rfl
  · dsimp only
    split
    · exact .inl rfl
    · exact .inr (if_neg outside)

theorem State.measure_accepts {s : State} {m : Manifest} (named : s.named = some m) (closed : s.pointer.closed = true)
    (copied : s.pointer.copies ≠ 0) (vaulted : s.pointer.shutdown = .vaultedComplete ∨ s.pointer.shutdown = .vaultedShort)
    (measured : m.measValid = true) (valid : m.valid = true) (inside : s.accepts m) : s.measure true = s.measured m := by
  unfold State.measure
  dsimp only
  rw [← State.named, named, if_neg (by rcases vaulted with h | h <;> simp [closed, copied, h])]
  dsimp only
  rw [if_neg (by simp [measured, valid])]
  exact if_pos inside

/-- What a manifest that is not accepted leaves. -/
theorem State.measure_keeps {s : State} {m : Manifest} (named : s.named = some m) (outside : ¬ s.accepts m) (readable : Bool) :
    (s.measure readable).reg Reg.E_BYTE_MEAS = s.reg Reg.E_BYTE_MEAS
      ∧ (s.measure readable).reg Reg.E_FIXED_MEAS = s.reg Reg.E_FIXED_MEAS ∧ (s.measure readable).whl = s.whl := by
  rcases State.measure_rejects named outside readable with same | told
  · rw [same]
    exact ⟨rfl, rfl, rfl⟩
  · rw [told]
    exact ⟨s.fault_reg_below _ _ _ _ _ (by decide), s.fault_reg_below _ _ _ _ _ (by decide), s.fault_same _ _ _ _ _ .whl (by decide)⟩

theorem State.measure_unread (s : State) : s.measure false = s := rfl

/-! ### The registers of a measurement taken -/

theorem twos_lt (w : Nat) (z : Int) : twos w z < 2 ^ w := by
  have bound := Int.emod_lt_of_pos z (show (0 : Int) < 2 ^ w by positivity)
  have nonneg := Int.emod_nonneg z (show (2 : Int) ^ w ≠ 0 by positivity)
  unfold twos
  zify
  omega

theorem State.measured_same (s : State) (m : Manifest) : s.SameBut (s.measured m) [.regs, .whl] :=
  (((((s.setReg_same _ _).widen.next (State.setReg_same _ _ _)).next (State.setReg_same _ _ _)).next (State.setReg_same _ _ _)).next
    (State.setReg_same _ _ _)).next (State.onWhl_same _ _)

/-- Each register of a measurement holds its figure where its width has room. -/
theorem State.measured_reg (s : State) {m : Manifest} {de fixed : Nat} (start : m.eStart = m.eEnd + de)
    (commit : m.eCommit = m.eClose + de + fixed) (fixedFits : fixed < 2 ^ paramWidth Reg.E_FIXED_MEAS)
    (byteFits : ceilDiv (de * GiB) (m.unitsDrained * 4096) < 2 ^ paramWidth Reg.E_BYTE_MEAS)
    (lunsFit : m.lElig < 2 ^ paramWidth Reg.L_MEAS) (timeFits : m.tMed < 2 ^ paramWidth Reg.T_MEAS) :
    (s.measured m).reg Reg.E_BYTE_MEAS = ceilDiv (de * GiB) (m.unitsDrained * 4096)
      ∧ (s.measured m).reg Reg.E_FIXED_MEAS = fixed ∧ (s.measured m).reg Reg.T_MEAS = m.tMed
      ∧ (s.measured m).reg Reg.T_MEAS_FLASH = twos 8 m.tFlash ∧ (s.measured m).reg Reg.L_MEAS = m.lElig := by
  have flash : paramWidth Reg.T_MEAS_FLASH = 8 := by decide +kernel
  have drained : ((m.eStart : Int) - m.eEnd).toNat = de := by omega
  have rest : ((m.eCommit : Int) - m.eClose - ((m.eStart : Int) - m.eEnd)).toNat = fixed := by omega
  have noted (u : State) (f : Wheels → Wheels) (id : Nat) : (u.onWhl f).reg id = u.reg id := rfl
  unfold State.measured
  rw [drained, rest]
  simp only [noted]
  refine ⟨?_, ?_, ?_, ?_, State.reg_setReg _ _ _ lunsFit⟩
  · rw [State.reg_setReg_ne _ _ _ _ (by decide), State.reg_setReg_ne _ _ _ _ (by decide), State.reg_setReg_ne _ _ _ _ (by decide),
      State.reg_setReg_ne _ _ _ _ (by decide), State.reg_setReg _ _ _ byteFits]
  · rw [State.reg_setReg_ne _ _ _ _ (by decide), State.reg_setReg_ne _ _ _ _ (by decide), State.reg_setReg_ne _ _ _ _ (by decide),
      State.reg_setReg _ _ _ fixedFits]
  · rw [State.reg_setReg_ne _ _ _ _ (by decide), State.reg_setReg_ne _ _ _ _ (by decide), State.reg_setReg _ _ _ timeFits]
  · rw [State.reg_setReg_ne _ _ _ _ (by decide), State.reg_setReg _ _ _ (by rw [flash]; exact twos_lt _ _)]

/-- Settles O18: a measurement is taken exactly within the bounds, and a rejection is a report, which leaves the costs. -/
theorem weir_measures : Obligations.Weir_measures := by
  unfold Obligations.Weir_measures
  refine ⟨?_, ?_, ?_, State.measure_unread⟩
  · intro s m l r de fixed closed copied vaulted list seq others measured valid start commit drained byteLow byteHigh fixedLow
      fixedHigh fixedFits byteFits lunsFit timeFits
    have inside := (State.accepts_iff start commit).mpr ⟨drained, byteLow, byteHigh, fixedLow, fixedHigh⟩
    rw [State.measure_accepts (State.named_eq list seq others) closed copied vaulted measured valid inside]
    obtain ⟨byte, rest, time, flash, luns⟩ := s.measured_reg start commit fixedFits byteFits lunsFit timeFits
    exact ⟨byte, rest, time, flash, luns, s.measured_same m⟩
  · intro s m l r _ list seq others little
    exact State.measure_keeps (State.named_eq list seq others) (fun ⟨drained, _⟩ => absurd drained (by omega)) true
  · intro s m l r de fixed _ list seq others start commit outside
    refine State.measure_keeps (State.named_eq list seq others) (fun accepted => ?_) true
    obtain ⟨-, byteLow, byteHigh, fixedLow, fixedHigh⟩ := (State.accepts_iff start commit).mp accepted
    omega

end Sys2Proof.Machine
end

section
/-! PROOFS. Steps after which no capture waits for a wheel that none waited for (O27). -/

namespace Sys2Proof.Machine

/-! ### Captures and the wheels they wait for (R137, R147) -/

/-- No capture in flight waits for a wheel. -/
def Rill.Unawaited (x : Rill) (n : Nat) : Prop := ∀ c ∈ x.captures, n ∉ c.waits

/-- A step that keeps the device state, and has no capture wait for a wheel that none waited for. -/
structure State.Frees (n : Nat) (s t : State) : Prop where
  dev : t.dev = s.dev
  free : s.rill.Unawaited n → t.rill.Unawaited n

theorem State.Frees.refl (n : Nat) (s : State) : s.Frees n s := ⟨rfl, id⟩

theorem State.Frees.trans {n : Nat} {s t u : State} (h : s.Frees n t) (k : t.Frees n u) : s.Frees n u :=
  ⟨k.dev.trans h.dev, fun free => k.free (h.free free)⟩

theorem State.Frees.ite {n : Nat} {c : Prop} [Decidable c] {s t u : State} (h : s.Frees n t) (k : s.Frees n u) :
    s.Frees n (if c then t else u) := by
  split <;> assumption

theorem State.Frees.foldl {n : Nat} {α : Type} (f : State → α → State) (h : ∀ (s : State) (a : α), s.Frees n (f s a)) :
    ∀ (as : List α) (s : State), s.Frees n (as.foldl f s)
  | [], s => .refl n s
  | a :: as, s => (h s a).trans (foldl f h as (f s a))

/-- A step that leaves the Rill. -/
theorem State.Frees.of_same {n : Nat} {s t : State} {l : List Part} (h : s.SameBut t l)
    (k : Part.dev ∉ l ∧ Part.rill ∉ l := by decide) : s.Frees n t :=
  ⟨h .dev k.1, fun free => by rwa [show t.rill = s.rill from h .rill k.2]⟩

/-- A step after which each capture waits for no more than one before it. -/
theorem State.Frees.of_waits {n : Nat} {s t : State} {l : List Part} (h : s.SameBut t l)
    (waits : ∀ c ∈ t.rill.captures, ∃ d ∈ s.rill.captures, c.waits ⊆ d.waits) (k : Part.dev ∉ l := by decide) : s.Frees n t :=
  ⟨h .dev k, fun free c mem awaited => by
    obtain ⟨d, here, sub⟩ := waits c mem
    exact free d here (sub awaited)⟩

/-! ### The close of the Rill's wheels -/

theorem State.wheelDone_waits {s : State} {n : Nat} {c : Capture} (h : c ∈ (s.wheelDone n).rill.captures) :
    ∃ d ∈ s.rill.captures, c.waits ⊆ d.waits := by
  have off (mem : c ∈ (s.unwait n).rill.captures) : ∃ d ∈ s.rill.captures, c.waits ⊆ d.waits := by
    obtain ⟨d, here, rfl⟩ := List.mem_map.mp mem
    exact ⟨d, here, List.filter_subset_self _⟩
  rw [State.wheelDone_eq] at h
  split at h
  · exact off h
  · exact off (completions_captures _ _ h).1

theorem State.closeWheel_frees (n : Nat) (s : State) (m : Nat) : s.Frees n (s.closeWheel m) := by
  have kept (u : State) (f : Wheels → Wheels) : u.Frees n (u.onWhl f) := .of_same (u.onWhl_same f)
  unfold State.closeWheel
  split
  · exact .refl n s
  · extract_lets s1 d s2
    have judged : s.Frees n s1 := (kept s _).trans (.of_same (State.judgeWheel_same _ m))
    have journalled : s1.Frees n s2 := .ite (.refl n _) ((kept s1 _).trans (.of_same (State.journalStrip_same _ _ _)))
    exact .ite (.refl n s) ((judged.trans journalled).trans (.of_waits (s2.wheelDone_same m) fun _ => State.wheelDone_waits))

theorem State.endBand_frees (n : Nat) (s : State) (base : Nat) : s.Frees n (s.endBand base) := by
  unfold State.endBand
  split
  · exact .ite (.trans (.of_same (s.onWhl_same _)) (.of_same (State.nvWrite_same _ _))) (.refl n s)
  · exact .refl n s

/-- The units of erased wheels are gone, and nothing else of the Rill's. -/
theorem Rill.dropWheels_runs : ∀ (l : List (Nat × Wheel)) (x : Rill),
    ∃ runs, l.foldl (fun x p => x.dropWheel p.1 (decide (p.2.state = .void))) x = { x with runs := runs }
  | [], x => ⟨x.runs, rfl⟩
  | p :: l, x => dropWheels_runs l (x.dropWheel p.1 (decide (p.2.state = .void)))

theorem State.eraseDone_rill (s : State) (base : Nat) : ∃ runs, (s.eraseDone base).rill = { s.rill with runs := runs } := by
  unfold State.eraseDone
  split
  · exact ⟨_, rfl⟩
  · split
    · exact ⟨_, rfl⟩
    · exact Rill.dropWheels_runs _ s.rill

theorem State.eraseBand_rill (s : State) (base : Nat) : ∃ runs, (s.eraseBand base).rill = { s.rill with runs := runs } := by
  unfold State.eraseBand
  split
  · exact ⟨_, rfl⟩
  · extract_lets res mine whl s1
    have issued : (if mine = [] then s1 else s1.addReg Reg.REFRESH_COUNT mine.length).rill = s.rill := by
      split
      · rfl
      · exact (s1.addReg_same _ _) .rill (by decide)
    split
    · exact ⟨_, rfl⟩
    · obtain ⟨runs, erased⟩ := State.eraseDone_rill (if mine = [] then s1 else s1.addReg Reg.REFRESH_COUNT mine.length) base
      exact ⟨runs, by rw [erased, issued]⟩

theorem State.eraseBand_frees (n : Nat) (s : State) (base : Nat) : s.Frees n (s.eraseBand base) :=
  .of_waits (s.eraseBand_same base) fun c mem => ⟨c, by
    obtain ⟨runs, rill⟩ := s.eraseBand_rill base
    rwa [rill] at mem, List.Subset.refl _⟩

theorem State.endStreams_frees (n : Nat) (s : State) : s.Frees n s.endStreams := by
  have closed (u : State) (m : Nat) : u.Frees n ((u.fillWheel m).closeWheel m) :=
    .trans (.of_same (u.fillWheel_same m)) (State.closeWheel_frees n _ m)
  have dropped (u : State) (st : Stream) : u.Frees n (u.dropPlans st) :=
    .foldl _ (fun u (b : Band) => (u.eraseBand_frees n b.base).trans (.of_same (State.onWhl_same _ _))) _ _
  exact .foldl _ (fun u st =>
    ((State.Frees.foldl _ closed _ u).trans (.foldl _ (State.endBand_frees n) _ _)).trans (dropped _ st)) _ s

/-! ### The work of activities that begin (R436 to R438) -/

theorem State.rehearseStart_frees (n : Nat) (s : State) : s.Frees n s.rehearseStart := by
  have set (u : State) (f : Spillway → Spillway) : u.Frees n (u.onSpill f) := .of_same (u.onSpill_same f)
  unfold State.rehearseStart
  extract_lets s1
  refine .ite (.refl n s) (.trans (t := s1) (set s _) ?_)
  split
  · exact .refl n _
  · rename_i u taken
    have opened : s1.Frees n u := by
      split at taken
      · exact .of_same (State.openSet_laid taken).same
      · cases taken
    refine opened.trans ((set u _).trans (.foldl _ (fun v i => ?_) _ _))
    split
    · rename_i next
      exact .of_same (State.openWheel_laid next).same
    · exact .refl n v

theorem State.joinParts_frees (n : Nat) (s : State) : s.Frees n s.joinParts := by
  unfold State.joinParts
  dsimp only
  exact .ite (.refl n s) (.trans (.of_same (s.onRes_same _)) (.of_same (State.nvWrite_same _ _)))

theorem State.actEnd_frees (n : Nat) (s : State) (a : Nat) : s.Frees n (s.actEnd a) := .of_same (s.actEnd_same a)

theorem State.setReg_frees (n : Nat) (s : State) (id v : Nat) : s.Frees n (s.setReg id v) := .of_same (s.setReg_same id v)

theorem State.buildStart_frees (n : Nat) (s : State) : s.Frees n s.buildStart := by
  unfold State.buildStart
  extract_lets d s1
  refine .ite ((s.setReg_frees n _ 0).trans (State.actEnd_frees n _ 3)) ((s.setReg_frees n Reg.RESHAPE_STATE 2).trans (t := s1) ?_)
  split
  · exact .ite (.refl n _) (.trans (.of_same (s1.onRes_same _)) (.of_same (State.onWhl_same _ _)))
  · exact .trans (.of_same (s1.onWhl_same _)) (.of_same (State.nvWrite_same _ _))

theorem State.reshapeStart_frees (n : Nat) (s : State) : s.Frees n s.reshapeStart := by
  have set (u : State) (id v : Nat) : u.Frees n (u.setReg id v) := u.setReg_frees n id v
  unfold State.reshapeStart
  extract_lets from' goal s1 s2
  have begun : s.Frees n s2 :=
    ((((s.endStreams_frees n).trans (set s1 _ _)).trans (set _ _ _)).trans (set _ _ _)).trans (set _ _ _)
  exact .ite ((set s _ _).trans (set _ _ _))
    (.ite (begun.trans (.trans (.of_same (s2.onWhl_same _)) (.of_same (State.nvDurable_same _ _)))) (s.buildStart_frees n))

theorem State.onMgmt_same (s : State) (f : Mgmt → Mgmt) : s.SameBut (s.onMgmt f) [.mgmt] := by
  intro p; cases p <;> simp [State.agree]

theorem State.restartEnds_same (s : State) : s.SameBut s.restartEnds [.cmd, .mgmt] :=
  (s.onCmd_same _).widen.next (State.onMgmt_same _ _)

theorem State.activationStart_same (s : State) :
    s.SameBut s.activationStart [.mgmt, .cmd, .regs, .freeCtr, .rec_, .fc, .port, .mir, .out, .nv] := by
  unfold State.activationStart
  split
  · exact (s.actEnd_same 6).widen
  · extract_lets s1 s2
    have sent : s.SameBut s1 [.out] := .ite (s.emit_same _) (.refl _ _)
    exact ((sent.widen.next (s1.nvDurable_same _)).next (State.addReg_same _ _ _)).next s2.restartEnds_same |>.next (State.onMgmt_same _ _)

theorem State.startWork_frees (n : Nat) (s : State) (a : Nat) : s.Frees n (s.startWork a) := by
  unfold State.startWork
  extract_lets s1
  refine .trans (t := s1) (.of_same (s.onCmd_same _)) (.ite ?_ (.ite (s1.rehearseStart_frees n) (.ite ?_ (.ite
    (s1.reshapeStart_frees n) (.ite ?_ (.ite (.of_same s1.activationStart_same) (.ite ?_ (.ite ?_ (.refl n s1)))))))))
  · split
    · rename_i i _
      have told : s1.Frees n ((s1.setReg (Reg.LEARN_RESULT_A + portIx i) 4).fault (cistSrc i) .log) :=
        (s1.setReg_frees n _ 4).trans (.of_same (State.fault_same _ _ _ _ _ _))
      have learns : s1.Frees n (s1.learnStart i s1.cmd.learnAck) :=
        .trans (.of_same (s1.onCPort_same i _)) (.of_same (State.onSeq_same _ _))
      exact .ite learns ((told.trans (State.actEnd_frees n _ 1)).trans (.of_same (State.onCmd_same _ _)))
    · exact s1.actEnd_frees n 1
  · exact .ite ((s1.joinParts_frees n).trans (State.actEnd_frees n _ 2)) (.refl n s1)
  · exact .trans (.of_same (s1.onWhl_same _)) (.ite (.trans (.of_same (State.onWhl_same _ _)) (State.actEnd_frees n _ 4)) (.refl n _))
  · exact .ite (s1.actEnd_frees n 8) (s1.setReg_frees n _ 1)
  · split
    · exact .of_same (s1.raise_same _ _ _ _ _)
    · exact s1.actEnd_frees n 7

theorem State.startFresh_frees (n : Nat) (s : State) : s.Frees n s.startFresh :=
  .foldl _ (fun u i => .ite (u.startWork_frees n (i + 1)) (.refl n u)) _ s

/-! ### What follows a command in FAULT -/

theorem State.cutLearn_frees (n : Nat) (s : State) (i : PortId) (r : Nat) : s.Frees n (s.cutLearn i r) := by
  unfold State.cutLearn
  extract_lets p judged s1 s2
  have told : s1.Frees n s2 := .ite (.refl n s1) ((s1.setReg_frees n _ r).trans (.of_same (State.fault_same _ _ _ _ _ _)))
  exact .ite (.refl n s) (.trans (t := s1) (.of_same (s.onCPort_same i _))
    (told.trans ((s2.actEnd_frees n 1).trans (.of_same (State.onCmd_same _ _)))))

theorem State.portOut_frees (n : Nat) (s : State) (i : PortId) (st : CistState) (z : Option ZeroCause) : s.Frees n (s.portOut i st z) :=
  ((s.cutLearn_frees n .a 3).trans (State.cutLearn_frees n _ .b 3)).trans (.of_same (State.onCPort_same _ i _))

theorem State.convJudge_frees {s : State} (n : Nat) (fault : s.dev = .fault) : s.Frees n s.convJudge := by
  have set (f : Seq → Seq) : s.Frees n (s.onSeq f) := .of_same (s.onSeq_same f)
  unfold State.convJudge
  extract_lets bad sv s1 s2
  have out : s.Frees n s2 := ((set _).trans (.of_same (State.fault_same _ _ _ _ _ _))).trans
    (.foldl _ (fun u i => .ite (u.portOut_frees n _ _ _) (.refl n u)) _ s1)
  rw [if_neg (c := s2.dev = .kickstand ∧ _) fun h => by simp [out.dev, fault] at h]
  exact .ite (set _) (.ite (.refl n s) out)

theorem State.fatalReaction_frees {s : State} (n : Nat) (fault : s.dev = .fault) : s.Frees n s.fatalReaction := by
  unfold State.fatalReaction
  dsimp only
  rw [State.onFc_dev, fault]
  exact .ite (.refl n s) (.of_same (s.onFc_same _))

theorem State.schedule_frees {s : State} (n : Nat) (fault : s.dev = .fault) : s.Frees n s.schedule := by
  unfold State.schedule
  rw [if_neg (by simp [fault])]
  exact .ite (.refl n s) (.trans (.of_same (s.onCmd_same _)) (.of_same (State.onWhl_same _ _)))

theorem State.lostFolds_of_fault {s : State} (fault : s.dev = .fault) : s.lostFolds = s := by
  unfold State.lostFolds
  split
  · rfl
  · exact List.foldl_fixed' (f := fun (s : State) g => if (s.sip.folds.any fun f => f.1 == g) || !s.foldable g then s
      else (s.issueFold g).getD s) (fun g => if_pos (by simp [State.foldable, fault])) _

theorem State.compare_frees (n : Nat) (s : State) : s.Frees n s.compare := by
  have set (u : State) (f : Weir → Weir) : u.Frees n (u.onWeir f) := .of_same (u.onWeir_same f)
  have told (u : State) (k : Nat) : u.Frees n ((u.devLoad false).raise k) :=
    .trans (.of_same (u.devLoad_same false)) (.of_same (State.raise_same _ _ _ _ _ _))
  unfold State.compare
  extract_lets c d s1 s2
  have peaked : s.Frees n s1 := .ite (.of_same (s.putReg_same _ _)) (.refl n s)
  have counted : s1.Frees n (s2.addReg Reg.BREACH_COUNT 1) := (set s1 _).trans (.of_same (s2.addReg_same _ _))
  exact .ite (.refl n s) (.ite (.ite peaked (peaked.trans (counted.trans (told _ _)))) (.ite ((set s _).trans (told _ _)) (.refl n s)))

theorem State.zeroCeiling_frees (n : Nat) (s : State) : s.Frees n s.zeroCeiling := by
  have set (f : Weir → Weir) : s.Frees n (s.onWeir f) := .of_same (s.onWeir_same f)
  exact .ite (.refl n s) (.ite (.ite (set _) (.refl n s)) (.ite (.refl n s) ((set _).trans (.of_same (State.fault_same _ _ _ _ _ _)))))

theorem State.rillGates_captures (s : State) : s.rillGates.rill.captures = s.rill.captures := by
  unfold State.rillGates
  dsimp only
  split <;> rfl

theorem State.rillGates_frees (n : Nat) (s : State) : s.Frees n s.rillGates :=
  .of_waits s.rillGates_same fun c mem => ⟨c, by rwa [State.rillGates_captures] at mem, List.Subset.refl _⟩

/-- What follows a command that ends in FAULT has no capture wait for a wheel that none waited for. -/
theorem State.fin_unawaited {s : State} {n : Nat} (before : s.dev = .fault) (after : s.fin.dev = .fault)
    (free : s.rill.Unawaited n) : s.fin.rill.Unawaited n := by
  have judged : s.Frees n (if s.seq.aonUp then s.convJudge else s) := .ite (State.convJudge_frees n before) (.refl n s)
  have reacts := judged.trans (State.fatalReaction_frees n (judged.dev.trans before))
  have scheduled := reacts.trans (State.schedule_frees n (reacts.dev.trans before))
  have begun := ((scheduled.trans (State.startFresh_frees n _)).trans (.of_same (State.activationRefused_same _))).trans
    (.of_same (State.bistOver_same _))
  have folded := State.lostFolds_of_fault (begun.dev.trans before)
  unfold State.fin at after ⊢
  rw [folded] at after ⊢
  extract_lets s1 s2
  change s2.startWaiting.notePoison.protection.dev = .fault at after
  have arbitrated : s.Frees n s1 := (((begun.trans (State.compare_frees n _)).trans (State.zeroCeiling_frees n _)).trans
    (State.rillGates_frees n _)).trans (.of_same (State.policySync_same _))
  have offline : s2 = s1 := if_neg (by simp [arbitrated.dev, before])
  have ends (u : State) : u.Frees n u.notePoison.protection := .trans (.of_same u.notePoison_same) (.of_same (State.protection_same _))
  have waits : s2.startWaiting = s2 := by
    rw [(ends _).dev] at after
    unfold State.startWaiting at after ⊢
    split at after
    · rw [State.powerUp_dev] at after
      cases after
    · rw [if_neg ‹_›]
  rw [waits, offline]
  exact (arbitrated.trans (ends s1)).free free

/-! ### A wheel table with a number twice (R148, R190, R262) -/

/-- A stream V wheel with its third erasure. -/
def worn : Wheel := { (openAt 9 .v true).2 with erasures := [0, 1, 2] }

/-- A device in FAULT with the vault's wheels open, whose wheel table holds number 0 a second time, for `worn`; one
block is enough to retire a LUN, and a capture waits for wheel 0. -/
def twice : State :=
  { vlt 0 .draining .drain with
    dev := .fault
    whl := { wl.whl with table := [openAt 9 .v true, openAt 0 .l false, (0, worn)] }
    rill := { wl.rill with captures := [{ seg := 32768, seq := 9, kind := .large, pages := 0, waits := [0] }] }
    regs := [(Reg.LUN_RETIRE_FRAC, 0)] }

/-- `twice` after the failed program of column 2 of wheel 0. -/
def twiceFailed : State := match exec (.stripProgramFailed 0 2) twice with
  | .next s => s
  | _ => twice

theorem exec_twice : exec (.stripProgramFailed 0 2) twice = .next twiceFailed := rfl

theorem twiceFailed_waits : twiceFailed.dev = .fault ∧ ¬ twiceFailed.rill.captures.all fun c => !c.waits.contains 0 := by decide +kernel

end Sys2Proof.Machine

namespace Sys2Proof
open Machine

/-- Refutes O27: the statement asks no wheel table without a number twice. The failed block retires its LUN, which puts the
third erasure on a stream V wheel of the same number as the open wheel; writing that one again voids the number without
abandoning the captures, and the void of the open wheel then finds no open wheel. -/
theorem not_reservoir_upkeep : ¬ Obligations.Reservoir_upkeep := by
  unfold Obligations.Reservoir_upkeep
  rintro ⟨-, -, failed, -⟩
  obtain ⟨t, ran, -, -, -, free, -, -, -, -, dev⟩ := failed 0 2 twice (openAt 0 .l false).2 (bandAt 0 .l false 1536).2 0
    { port := 32, lun := 0, block := 600 } (by decide +kernel) (by decide +kernel) (by decide +kernel) (by decide) (by decide)
    (by decide +kernel) (by decide +kernel) (by decide +kernel)
  obtain ⟨fault, waits⟩ := twiceFailed_waits
  rw [show twiceFailed = t.fin from Host.Outcome.next.inj (exec_twice.symm.trans ran)] at fault waits
  have unawaited : t.fin.rill.Unawaited 0 := State.fin_unawaited dev fault free
  exact waits (List.all_eq_true.mpr fun c mem => by simpa using unawaited c mem)

end Sys2Proof
end

section
/-! PROOFS. What the Rill's upkeep keeps of the registers and of the NV Store (O20, O21). -/

namespace Sys2Proof.Machine

/-! ### The NV Store's state and its pointer records (R397, R399, R407) -/

/-- A layer after updates: it serves as before, and its pointer records on device A stand. -/
structure NvStore.Goes (v w : NvStore) : Prop where
  state : w.state = v.state
  downA : w.downA = v.downA
  pointers : ∀ r ∈ v.a, (∃ p, r.data = .pointer p) → r ∈ w.a

theorem NvStore.Goes.refl (v : NvStore) : v.Goes v := ⟨rfl, rfl, fun _ mem _ => mem⟩

theorem NvStore.Goes.trans {v w x : NvStore} (h : v.Goes w) (k : w.Goes x) : v.Goes x :=
  ⟨k.state.trans h.state, k.downA.trans h.downA, fun r mem pointer => k.pointers r (h.pointers r mem pointer) pointer⟩

theorem NvStore.make_goes (v : NvStore) (d : NvData) (g : Option Nat) (last : Bool) : v.Goes (v.make d g last).2 := by
  have taken : v.Goes (v.room d) := by
    unfold NvStore.room
    repeat' split
    all_goals exact ⟨rfl, rfl, fun _ mem _ => mem⟩
  exact ⟨taken.state, taken.downA, taken.pointers⟩

theorem NvStore.start_goes (v : NvStore) (d : NvData) : v.Goes (v.start d) := by
  obtain ⟨state, downA, pointers⟩ := v.make_goes d none false
  exact ⟨state, downA, pointers⟩

theorem NvStore.durable_goes (v : NvStore) (d : NvData) (g : Option Nat) (last : Bool) : v.Goes (v.durable d g last) := by
  obtain ⟨state, downA, pointers⟩ := v.make_goes d g last
  unfold NvStore.durable
  dsimp only
  repeat' split
  · exact ⟨state, downA, pointers⟩
  all_goals exact ⟨state, downA, fun r mem pointer => List.mem_append_left _ (pointers r mem pointer)⟩

/-! ### A step of the upkeep -/

/-- Registers of the Rill's numbers and of the pointer record. -/
def rillRegs : List Nat := [Reg.WRITE_SEQ, Reg.CKPT_SEQ, Reg.FORMAT_EPOCH, Reg.MANIFEST_SEQ]

theorem rillRegs_low : ∀ id ∈ rillRegs, id < Reg.FC_STATUS := by decide

theorem rillRegs_quiet {id : Nat} (listed : id ∈ rillRegs) : eventReg id = false := eventReg_below (rillRegs_low id listed)

/-- A step that keeps the registers of `rillRegs`, and the NV Store's state and pointer records. -/
structure State.Tends (s t : State) : Prop where
  regs : ∀ id ∈ rillRegs, t.reg id = s.reg id
  nv : s.nv.Goes t.nv

theorem State.Tends.refl (s : State) : s.Tends s := ⟨fun _ _ => rfl, .refl _⟩

theorem State.Tends.trans {s t u : State} (h : s.Tends t) (k : t.Tends u) : s.Tends u :=
  ⟨fun id low => (k.regs id low).trans (h.regs id low), h.nv.trans k.nv⟩

theorem State.Tends.ite {c : Prop} [Decidable c] {s t u : State} (h : s.Tends t) (k : s.Tends u) :
    s.Tends (if c then t else u) := by
  split <;> assumption

theorem State.Tends.foldl {α : Type} (f : State → α → State) (h : ∀ (s : State) (a : α), s.Tends (f s a)) :
    ∀ (as : List α) (s : State), s.Tends (as.foldl f s)
  | [], s => .refl s
  | a :: as, s => (h s a).trans (foldl f h as (f s a))

/-- A step that changes neither. -/
theorem State.Tends.of_same {s t : State} {l : List Part} (h : s.SameBut t l)
    (k : Part.regs ∉ l ∧ Part.nv ∉ l := by decide) : s.Tends t :=
  ⟨fun id _ => State.reg_of_regs (h .regs k.1) id, by rw [show t.nv = s.nv from h .nv k.2]; exact .refl _⟩

theorem State.Tends.of_regs {s t : State} {l : List Part} (h : s.SameBut t l) (regs : ∀ id ∈ rillRegs, t.reg id = s.reg id)
    (k : Part.nv ∉ l := by decide) : s.Tends t :=
  ⟨regs, by rw [show t.nv = s.nv from h .nv k]; exact .refl _⟩

theorem State.setReg_tends (s : State) {id : Nat} (v : Nat) (other : id ∉ rillRegs) : s.Tends (s.setReg id v) :=
  .of_regs (s.setReg_same id v) fun _ low => s.reg_setReg_ne _ _ _ fun e => other (e ▸ low)

theorem State.addReg_tends (s : State) {id : Nat} (n : Nat) (other : id ∉ rillRegs) : s.Tends (s.addReg id n) :=
  .of_regs (s.addReg_same id n) fun _ low => s.reg_addReg_ne _ _ _ fun e => other (e ▸ low)

theorem State.fault_tends (s : State) (n : Nat) (v : Sev) (c : Nat) (j : Bool) (w : List Nat) : s.Tends (s.fault n v c j w) :=
  .of_regs (s.fault_same n v c j w) fun id low => s.fault_reg_below n v c j w (rillRegs_low id low)

theorem State.raise_tends (s : State) (n a b : Nat) (w : List Nat) (z : Bool) : s.Tends (s.raise n a b w z) :=
  .of_regs (s.raise_same n a b w z) fun id low => s.raise_reg n a b w z id (rillRegs_quiet low)

theorem State.nvHold_tends (s : State) (d : NvData) : s.Tends (s.nvHold d) :=
  ⟨fun id _ => State.reg_of_regs (s.nvHold_regs d) id, ⟨rfl, rfl, fun _ mem _ => mem⟩⟩

theorem State.setNv_tends {s : State} {v : NvStore} (h : s.nv.Goes v) : s.Tends { s with nv := v } := ⟨fun _ _ => rfl, h⟩

theorem State.nvPut_tends (s : State) (d : NvData) {g : NvStore → NvData → NvStore} (go : s.nv.Goes (g s.nv d)) :
    s.Tends (s.nvPut d g) := by
  unfold State.nvPut
  refine .ite (.refl s) (.ite ?_ (.ite ((s.nvHold_tends d).trans (State.fault_tends _ _ _ _ _ _)) (State.setNv_tends go)))
  split
  · exact State.setNv_tends (s.nv.durable_goes _ _ _)
  · exact s.nvHold_tends d

theorem State.nvWrite_tends (s : State) (d : NvData) : s.Tends (s.nvWrite d) := s.nvPut_tends d (s.nv.start_goes d)

theorem State.nvDurable_tends (s : State) (d : NvData) : s.Tends (s.nvDurable d) := s.nvPut_tends d (s.nv.durable_goes d _ _)

theorem setCounter_pointers {l : List NvRec} {r : NvRec} (i : Nat) (d : NvData) (n : Nat) (mem : r ∈ l) (pointer : ∃ p, r.data = .pointer p) :
    r ∈ setCounter l i d n := by
  obtain ⟨p, data⟩ := pointer
  exact List.mem_map.mpr ⟨r, mem, by rw [data]⟩

theorem State.count_tends (s : State) {id : Nat} (i : Nat) (other : id ∉ rillRegs) : s.Tends (s.count id i) := by
  refine (s.addReg_tends 1 other).trans (t := s.addReg id 1) (u := (s.addReg id 1).bumpCounter i) ?_
  generalize s.addReg id 1 = u
  unfold State.bumpCounter
  extract_lets blank held
  split
  · exact u.nvWrite_tends _
  · refine .ite (.ite (.refl u) (.ite (u.nvHold_tends _) ?_)) (u.nvWrite_tends _)
    exact State.setNv_tends ⟨rfl, rfl, fun r mem pointer => setCounter_pointers _ _ _ mem pointer⟩

end Sys2Proof.Machine
end

section
/-! PROOFS. Placing, closing and erasing by the Rill's upkeep (O20, O21). -/

namespace Sys2Proof.Machine

/-! ### Placing units (R143, R144, R272, R274) -/

/-- An update of the wheels' table and the blocks. -/
theorem State.setWheels_tends (s : State) (w : Wheels) (r : Reservoir) : s.Tends { s with whl := w, res := r } :=
  ⟨fun _ _ => rfl, .refl _⟩

theorem State.layBand_tends {s t : State} {st : Stream} {rg : Region} {slc : Bool} {lane n set : Nat}
    (h : s.layBand st rg slc lane n set = some t) : s.Tends t := by
  unfold State.layBand at h
  obtain ⟨base, -, h⟩ := Option.bind_eq_some_iff.mp h
  obtain ⟨sp, -, rfl⟩ := Option.map_eq_some_iff.mp h
  exact s.setWheels_tends _ _

theorem State.ensurePlan_tends (st : Stream) (n : Nat) : ∀ s : State, s.Tends (s.ensurePlan st n) := by
  induction n with
  | zero => exact .refl
  | succ n ih =>
    intro s
    have noted (u : State) (b : Option Band) : u.Tends (match b with
        | some b => u.nvWrite (.band (b.record 1))
        | none => u) := by
      cases b
      · exact .refl u
      · exact u.nvWrite_tends _
    unfold State.ensurePlan
    dsimp only
    refine .ite (.refl s) ?_
    split
    · exact .refl s
    · rename_i u laid
      exact (State.layBand_tends laid).trans (((u.setWheels_tends _ u.res).trans (noted _ _)).trans (ih _))

/-- What a fold of steps that may fail leaves, when none fails. -/
theorem foldl_bind_tends {α : Type} {f : State → α → Option State} (k : ∀ s a t, f s a = some t → s.Tends t) :
    ∀ (as : List α) (o : Option State) (t : State), as.foldl (fun o a => o.bind fun s => f s a) o = some t →
      ∃ s, o = some s ∧ s.Tends t
  | [], _, t, h => ⟨t, h, .refl t⟩
  | a :: as, o, t, h => by
    obtain ⟨u, step, tends⟩ := foldl_bind_tends k as (o.bind fun s => f s a) t h
    obtain ⟨s, start, taken⟩ := Option.bind_eq_some_iff.mp step
    exact ⟨s, start, (k s a u taken).trans tends⟩

theorem State.openSet_tends {s t : State} (h : s.openSet = some t) : s.Tends t := by
  unfold State.openSet at h
  split at h
  · cases h
  · obtain ⟨u, start, tends⟩ := foldl_bind_tends (fun _ _ _ laid => State.layBand_tends laid) _ _ _ h
    cases start
    exact (s.setWheels_tends _ s.res).trans tends

theorem State.takeBand_tends {s t : State} {st : Stream} {lane : Nat} (h : s.takeBand st lane = some t) : s.Tends t := by
  unfold State.takeBand at h
  obtain ⟨u, planned, h⟩ := Option.bind_eq_some_iff.mp h
  obtain ⟨b, -, rfl⟩ := Option.map_eq_some_iff.mp h
  have before : s.Tends u := by
    split at planned
    · split at planned
      · exact State.openSet_tends planned
      · cases planned; exact .refl s
    · cases planned; exact s.ensurePlan_tends st 32
  exact before.trans (u.setWheels_tends _ u.res)

theorem State.ready_tends {c : Prop} [Decidable c] {s t : State} {st : Stream} {lane : Nat}
    (h : (if c then some s else s.takeBand st lane) = some t) : s.Tends t := by
  split at h
  · cases h; exact .refl s
  · exact State.takeBand_tends h

theorem State.substV_tends (s : State) (b : Band) : s.Tends (s.substV b).1 := by
  have folded (f : State × Band → Nat → State × Band) (step : ∀ (p : State × Band) (c : Nat), p.1.Tends (f p c).1) :
      ∀ (l : List Nat) (p : State × Band), p.1.Tends (l.foldl f p).1 := fun l => by
    induction l with
    | nil => exact fun p => .refl p.1
    | cons c l ih => exact fun p => (step p c).trans (ih _)
  unfold State.substV
  refine folded _ (fun p c => ?_) _ (s, b)
  obtain ⟨u, b⟩ := p
  dsimp only
  repeat' split
  · exact (u.setWheels_tends _ _).trans (State.nvWrite_tends _ _)
  all_goals exact .refl _

theorem State.openWheel_tends {s t : State} {st : Stream} {n : Nat} (h : s.openWheel st = some (n, t)) : s.Tends t := by
  unfold State.openWheel at h
  dsimp only at h
  split at h
  · cases h
  · obtain ⟨u, ready, h⟩ := Option.bind_eq_some_iff.mp h
    have before := State.ready_tends ready
    split at h
    · cases h
    · rename_i b _
      have substituted : u.Tends (if st = .v then u.substV b else (u, b)).1 := by
        split
        · exact u.substV_tends b
        · exact .refl u
      cases h
      exact (before.trans substituted).trans (State.setWheels_tends _ _ _)

theorem State.placeFuel_tends {st : Stream} (f : Nat) : ∀ {s t : State} {n : Nat} {acc l : List (Nat × Nat × Nat)},
    s.placeFuel st f n acc = some (l, t) → s.Tends t := by
  induction f with
  | zero =>
    intro s t n acc l h
    cases n with
    | zero => cases h; exact .refl s
    | succ n => cases h
  | succ f ih =>
    intro s t n acc l h
    cases n with
    | zero => cases h; exact .refl s
    | succ n =>
      rw [State.placeFuel] at h
      case x_3 => exact Nat.succ_ne_zero n
      split at h
      · exact (s.setWheels_tends _ s.res).trans (ih h)
      · split at h
        · rename_i opened
          exact (State.openWheel_tends opened).trans (ih h)
        · cases h

theorem State.place_tends {s t : State} {st : Stream} {n : Nat} {l : List (Nat × Nat × Nat)} (h : s.place st n = some (l, t)) :
    s.Tends t := by
  unfold State.place at h
  obtain ⟨⟨k, u⟩, placed, e⟩ := Option.map_eq_some_iff.mp h
  have tends := State.placeFuel_tends _ placed
  dsimp only at e
  split at e
  · cases e; exact tends.trans ((u.fault_tends _ _ _ _ _).trans (State.raise_tends _ _ _ _ _ _))
  · cases e; exact tends

/-! ### Wheels that close, blocks that are erased (R147, R262, R280, R296) -/

theorem State.onWhl_tends (s : State) (f : Wheels → Wheels) : s.Tends (s.onWhl f) := .of_same (s.onWhl_same f)

theorem State.judgeWheel_tends (s : State) (n : Nat) : s.Tends (s.judgeWheel n) := by
  have judged (f : Wheel → Wheel) : s.Tends { s with whl := s.whl.upd n f } := s.setWheels_tends _ s.res
  have lost : s.Tends (s.loseWheel n) :=
    (((s.onWhl_tends _).trans (State.nvWrite_tends _ _)).trans (State.count_tends _ _ (by decide))).trans
      ((State.fault_tends _ _ _ _ _ _).trans (.foldl _ (fun u g => u.raise_tends _ _ _ _ _) _ _))
  unfold State.judgeWheel
  split
  · exact .refl s
  · dsimp only
    exact .ite (.ite lost (.ite ((judged _).trans (State.fault_tends _ _ _ _ _ _)) (judged _))) (.refl s)

theorem State.journalStrip_tends (s : State) (a b : Bool) : s.Tends (s.journalStrip a b) := by
  have told (u : State) : u.Tends (u.fault Src.WHEEL_JOURNAL .degraded) := u.fault_tends _ _ _ _ _
  have put : s.Tends (s.journalPut none a b) := .of_same (s.journalPut_same none a b)
  exact .ite (told s) (.ite put (put.trans (told _)))

theorem State.unwait_same (s : State) (n : Nat) : s.SameBut (s.unwait n) [.rill, .spill, .sip] :=
  ((s.onRill_same _).widen.next (State.onSpill_same _ _)).next (State.onSip_same _ _)

theorem State.completeFree_same (s : State) : s.SameBut s.completeFree [.rill, .basin, .weir] :=
  .foldl _ (fun s c => s.completeCapture_same c) _ _

theorem State.eraseBand_tends (s : State) (base : Nat) : s.Tends (s.eraseBand base) := by
  unfold State.eraseBand
  split
  · exact .refl s
  · extract_lets res mine whl s1
    have erased : s.Tends s1 := s.setWheels_tends _ _
    exact .ite (.refl s) ((erased.trans (.ite (.refl _) (s1.addReg_tends _ (by decide)))).trans
      (.of_same (State.eraseDone_same _ base)))

end Sys2Proof.Machine
end

section
/-! PROOFS. A step of the Rill's upkeep (O20, O21). -/

namespace Sys2Proof.Machine

/-! ### What completions leave of the Rill and of the Basin (R137, R94) -/

/-- A Rill after completions: its lists of relocations, checkpoints and held wheels, and its state, stand. -/
structure Rill.Stands (x y : Rill) : Prop where
  state : y.state = x.state
  relocs : y.relocs = x.relocs
  ckpts : y.ckpts = x.ckpts
  reformat : y.reformat = x.reformat
  reloading : y.reloading = x.reloading
  heldClosed : y.heldClosed = x.heldClosed

theorem Rill.Stands.refl (x : Rill) : x.Stands x := ⟨rfl, rfl, rfl, rfl, rfl, rfl⟩

theorem Rill.Stands.trans {x y z : Rill} (h : x.Stands y) (k : y.Stands z) : x.Stands z :=
  ⟨k.state.trans h.state, k.relocs.trans h.relocs, k.ckpts.trans h.ckpts, k.reformat.trans h.reformat,
    k.reloading.trans h.reloading, k.heldClosed.trans h.heldClosed⟩

theorem Rill.mapRun_stands (x : Rill) (u : Run) (large : Bool) (slots : List (Nat × Nat × Nat)) (only : BitVec 512) :
    x.Stands (x.mapRun u large slots only) := by
  unfold Rill.mapRun
  split
  · split
    · exact ⟨rfl, rfl, rfl, rfl, rfl, rfl⟩
    · exact .refl x
  · exact ⟨rfl, rfl, rfl, rfl, rfl, rfl⟩

theorem State.completeCapture_stands (s : State) (c : Capture) : s.rill.Stands (s.completeCapture c).rill := by
  unfold State.completeCapture
  extract_lets s1
  split
  · exact ⟨rfl, rfl, rfl, rfl, rfl, rfl⟩
  · rename_i u _
    obtain ⟨state, relocs, ckpts, reformat, reloading, heldClosed⟩ :=
      s1.rill.mapRun_stands u (decide (c.kind = .large)) c.slots c.pages
    exact ⟨state, relocs, ckpts, reformat, reloading, heldClosed⟩

theorem State.completions_stand : ∀ (l : List Capture) (s : State),
    s.rill.Stands (l.foldl (fun s c => s.completeCapture c) s).rill
  | [], s => .refl s.rill
  | c :: l, s => (s.completeCapture_stands c).trans (completions_stand l _)

theorem Basin.fineK_of {b c : Basin} (h : c.found = b.found ∧ c.spare = b.spare) : c.fineK = b.fineK := by
  have slots (n : Nat) : c.inSlot n = b.inSlot n := congrArg (List.filter _) h.1
  have top : c.topSet = b.topSet := by rw [Basin.topSet, Basin.topSet, slots]
  have bytes (n : Nat) : c.moduleBytes n = b.moduleBytes n := by
    unfold Basin.moduleBytes
    rw [slots, top, h.2]
  simp only [Basin.fineK, Basin.reserve, Basin.installed, Basin.channels, slots, bytes]

theorem Basin.takeIn_found (b : Basin) (q : Nat) : (b.takeIn q).found = b.found ∧ (b.takeIn q).spare = b.spare := by
  unfold Basin.takeIn
  split
  · exact ⟨rfl, rfl⟩
  · rename_i seg rest _
    obtain ⟨-, -, kept⟩ := b.flushSeg_dst q seg
    dsimp only
    split
    · exact kept
    · exact kept

theorem Basin.complete_fineK (b : Basin) (q seg : Nat) (c : BitVec 512) : (b.complete q seg c).fineK = b.fineK := by
  have finished (e : DstEntry) : (b.finish q seg e).found = b.found ∧ (b.finish q seg e).spare = b.spare := by
    unfold Basin.finish Basin.release
    split
    · exact Basin.takeIn_found _ q
    · exact ⟨rfl, rfl⟩
  refine Basin.fineK_of ?_
  unfold Basin.complete
  split
  · exact ⟨rfl, rfl⟩
  · split
    · exact finished _
    · exact ⟨rfl, rfl⟩

theorem State.completeCapture_fineK (s : State) (c : Capture) : (s.completeCapture c).basin.fineK = s.basin.fineK := by
  unfold State.completeCapture
  extract_lets s1
  split
  · rfl
  · exact s1.basin.complete_fineK _ _ _

theorem State.completions_fineK : ∀ (l : List Capture) (s : State),
    (l.foldl (fun s c => s.completeCapture c) s).basin.fineK = s.basin.fineK
  | [], _ => rfl
  | c :: l, s => (completions_fineK l _).trans (s.completeCapture_fineK c)

/-! ### Relocations in flight (R139, R151, R153, R154) -/

/-- The relocations of one list stand in another, the wheels they wait for left aside. -/
def RelocsKept (l m : List Reloc) : Prop :=
  ∀ q ∈ l, ∃ q' ∈ m, q'.kind = q.kind ∧ q'.seg = q.seg ∧ q'.copy = q.copy ∧ q'.src = q.src

theorem RelocsKept.refl (l : List Reloc) : RelocsKept l l := fun q mem => ⟨q, mem, rfl, rfl, rfl, rfl⟩

theorem RelocsKept.trans {l m n : List Reloc} (h : RelocsKept l m) (k : RelocsKept m n) : RelocsKept l n := fun q mem => by
  obtain ⟨q', mem', kind, seg, copy, src⟩ := h q mem
  obtain ⟨r, here, kind', seg', copy', src'⟩ := k q' mem'
  exact ⟨r, here, kind'.trans kind, seg'.trans seg, copy'.trans copy, src'.trans src⟩

theorem RelocsKept.append (l m : List Reloc) : RelocsKept l (l ++ m) := fun q mem =>
  ⟨q, List.mem_append_left _ mem, rfl, rfl, rfl, rfl⟩

theorem RelocsKept.unwait (l : List Reloc) (n : Nat) :
    RelocsKept l (l.map fun c => { c with waits := c.waits.filter (· ≠ n) }) := fun _ mem =>
  ⟨_, List.mem_map_of_mem mem, rfl, rfl, rfl, rfl⟩

/-- A step after which nothing is mapped and the Basin and the Weir stand, where no capture was in flight. -/
structure State.Idle (s t : State) : Prop where
  captures : t.rill.captures = []
  large : t.rill.large = s.rill.large
  fine : t.rill.fine = s.rill.fine
  basin : t.basin = s.basin
  weir : t.weir = s.weir

/-- A step of the upkeep: what it may change, what of the registers, the NV Store, the Rill and the Basin stands. -/
structure State.Works (s t : State) : Prop where
  same : s.SameBut t closeParts
  tends : s.Tends t
  fineK : t.basin.fineK = s.basin.fineK
  state : t.rill.state = s.rill.state
  ckpts : t.rill.ckpts = s.rill.ckpts
  reformat : t.rill.reformat = s.rill.reformat
  relocs : RelocsKept s.rill.relocs t.rill.relocs
  idle : s.rill.captures = [] → s.Idle t

theorem State.Works.refl (s : State) : s.Works s :=
  ⟨.refl _ _, .refl _, rfl, rfl, rfl, rfl, .refl _, fun none => ⟨none, rfl, rfl, rfl, rfl⟩⟩

theorem State.Works.trans {s t u : State} (h : s.Works t) (k : t.Works u) : s.Works u where
  same := h.same.trans k.same
  tends := h.tends.trans k.tends
  fineK := k.fineK.trans h.fineK
  state := k.state.trans h.state
  ckpts := k.ckpts.trans h.ckpts
  reformat := k.reformat.trans h.reformat
  relocs := h.relocs.trans k.relocs
  idle none := by
    obtain ⟨captures, large, fine, basin, weir⟩ := h.idle none
    obtain ⟨captures', large', fine', basin', weir'⟩ := k.idle captures
    exact ⟨captures', large'.trans large, fine'.trans fine, basin'.trans basin, weir'.trans weir⟩

theorem State.Works.ite {c : Prop} [Decidable c] {s t u : State} (h : s.Works t) (k : s.Works u) :
    s.Works (if c then t else u) := by
  split <;> assumption

theorem State.Works.foldl {α : Type} (f : State → α → State) (h : ∀ (s : State) (a : α), s.Works (f s a)) :
    ∀ (as : List α) (s : State), s.Works (as.foldl f s)
  | [], s => .refl s
  | a :: as, s => (h s a).trans (foldl f h as (f s a))

/-- A step that leaves the Rill, the Basin and the Weir. -/
theorem State.Works.of_same {s t : State} {l : List Part} (h : s.SameBut t l) (tends : s.Tends t)
    (k : Part.rill ∉ l ∧ Part.basin ∉ l ∧ Part.weir ∉ l := by decide) (sub : l ⊆ closeParts := by decide) : s.Works t := by
  have rill : t.rill = s.rill := h .rill k.1
  have basin : t.basin = s.basin := h .basin k.2.1
  refine ⟨h.sub sub, tends, by rw [basin], by rw [rill], by rw [rill], by rw [rill], by rw [rill]; exact .refl _, fun none => ?_⟩
  exact ⟨by rw [rill, none], by rw [rill], by rw [rill], basin, h .weir k.2.2⟩

theorem State.onWhl_works (s : State) (f : Wheels → Wheels) : s.Works (s.onWhl f) := .of_same (s.onWhl_same f) (s.onWhl_tends f)

theorem State.unwait_works (s : State) (n : Nat) : s.Works (s.unwait n) where
  same := (s.unwait_same n).widen
  tends := .of_same (s.unwait_same n)
  fineK := rfl
  state := rfl
  ckpts := rfl
  reformat := rfl
  relocs := .unwait _ n
  idle none := ⟨congrArg (List.map _) none, rfl, rfl, rfl, rfl⟩

theorem State.completeFree_works (s : State) : s.Works s.completeFree := by
  obtain ⟨state, relocs, ckpts, reformat, -, -⟩ := State.completions_stand (s.rill.captures.filter fun c => c.waits.isEmpty) s
  refine ⟨s.completeFree_same.widen, .of_same s.completeFree_same, State.completions_fineK _ s, state, ckpts, reformat,
    by rw [show s.completeFree.rill.relocs = _ from relocs]; exact .refl _, fun none => ?_⟩
  have rests : s.completeFree = s := by rw [State.completeFree, none]; rfl
  rw [rests]
  exact ⟨none, rfl, rfl, rfl, rfl⟩

theorem State.wheelDone_works (s : State) (n : Nat) : s.Works (s.wheelDone n) := by
  have held (u : State) (l : List Nat) : u.Works (u.onRill fun x => { x with heldClosed := l }) :=
    ⟨(u.onRill_same _).widen, .of_same (u.onRill_same _), rfl, rfl, rfl, rfl, .refl _, fun none => ⟨none, rfl, rfl, rfl, rfl⟩⟩
  rw [State.wheelDone_eq]
  exact .ite ((s.unwait_works n).trans (held _ _)) ((s.unwait_works n).trans (State.completeFree_works _))

theorem State.closeWheel_works (s : State) (n : Nat) : s.Works (s.closeWheel n) := by
  unfold State.closeWheel
  split
  · exact .refl s
  · extract_lets s1 d s2
    have judged : s.Works s1 :=
      (s.onWhl_works _).trans (.of_same (State.judgeWheel_same _ n) (State.judgeWheel_tends _ n))
    have journalled : s1.Works s2 :=
      .ite (.refl _) ((s1.onWhl_works _).trans (.of_same (State.journalStrip_same _ _ _) (State.journalStrip_tends _ _ _)))
    exact .ite (.refl s) ((judged.trans journalled).trans (s2.wheelDone_works n))

theorem State.place_works {s t : State} {st : Stream} {n : Nat} {l : List (Nat × Nat × Nat)} (h : s.place st n = some (l, t)) :
    s.Works t := .of_same (State.place_laid h).same (State.place_tends h)

theorem State.placeWait_works {st : Stream} (f : Nat) : ∀ {s t : State} {n : Nat} {acc l : List (Nat × Nat × Nat)},
    State.placeWait st f n s acc = some (l, t) → s.Works t := by
  induction f with
  | zero =>
    intro s t n acc l h
    cases n with
    | zero => cases h; exact .refl s
    | succ n => cases h
  | succ f ih =>
    intro s t n acc l h
    cases n with
    | zero => cases h; exact .refl s
    | succ n =>
      rw [State.placeWait] at h
      case x_4 => exact Nat.succ_ne_zero n
      obtain ⟨⟨k, u⟩, placed, h⟩ := Option.bind_eq_some_iff.mp h
      refine .trans ?_ ((State.place_works placed).trans (ih h))
      exact .ite (.foldl _ (fun v i => .ite (v.closeWheel_works i) (.refl v)) _ s) (.refl s)

/-! ### Erases of spent bands (R154, R255, R262) -/

/-- An erase takes runs alone of the Rill. -/
theorem State.Works.of_erase {s t : State} (h : s.SameBut t [.res, .whl, .regs, .freeCtr, .rill]) (tends : s.Tends t)
    (rill : ∃ runs, t.rill = { s.rill with runs := runs }) : s.Works t := by
  obtain ⟨runs, rill⟩ := rill
  have basin : t.basin = s.basin := h .basin (by decide)
  refine ⟨h.widen, tends, by rw [basin], by rw [rill], by rw [rill], by rw [rill], by rw [rill]; exact .refl _, fun none => ?_⟩
  exact ⟨by rw [rill]; exact none, by rw [rill], by rw [rill], basin, h .weir (by decide)⟩

end Sys2Proof.Machine
end

section
/-! PROOFS. Relocations and checkpoints (O20). -/

namespace Sys2Proof.Machine

/-! ### Erases (R154, R255, R262) -/

/-- What erases of bands leave: runs alone of the Rill. -/
structure State.Erases (s t : State) : Prop where
  same : s.SameBut t [.res, .whl, .regs, .freeCtr, .rill]
  tends : s.Tends t
  rill : ∃ runs, t.rill = { s.rill with runs := runs }
  regs : ∀ id, id ≠ Reg.REFRESH_COUNT → t.reg id = s.reg id

theorem State.Erases.refl (s : State) : s.Erases s := ⟨.refl _ _, .refl _, ⟨_, rfl⟩, fun _ _ => rfl⟩

theorem State.Erases.trans {s t u : State} (h : s.Erases t) (k : t.Erases u) : s.Erases u := by
  obtain ⟨runs, rill⟩ := h.rill
  obtain ⟨runs', rill'⟩ := k.rill
  exact ⟨h.same.trans k.same, h.tends.trans k.tends, ⟨runs', by rw [rill', rill]⟩,
    fun id other => (k.regs id other).trans (h.regs id other)⟩

theorem State.Erases.ite {c : Prop} [Decidable c] {s t u : State} (h : s.Erases t) (k : s.Erases u) :
    s.Erases (if c then t else u) := by
  split <;> assumption

theorem State.Erases.foldl {α : Type} (f : State → α → State) (h : ∀ (s : State) (a : α), s.Erases (f s a)) :
    ∀ (as : List α) (s : State), s.Erases (as.foldl f s)
  | [], s => .refl s
  | a :: as, s => (h s a).trans (foldl f h as (f s a))

theorem State.eraseBand_reg (s : State) (base : Nat) {id : Nat} (other : id ≠ Reg.REFRESH_COUNT) :
    (s.eraseBand base).reg id = s.reg id := by
  unfold State.eraseBand
  split
  · rfl
  · extract_lets res mine whl s1
    split
    · rfl
    · rw [State.reg_of_regs (State.eraseDone_same _ base .regs (by decide))]
      split
      · rfl
      · exact s1.reg_addReg_ne _ _ _ other

theorem State.eraseBand_erases (s : State) (base : Nat) : s.Erases (s.eraseBand base) :=
  ⟨s.eraseBand_same base, s.eraseBand_tends base, s.eraseBand_rill base, fun _ => s.eraseBand_reg base⟩

theorem State.Erases.works {s t : State} (h : s.Erases t) : s.Works t := .of_erase h.same h.tends h.rill

theorem State.eraseSpent_erases (s : State) : s.Erases s.eraseSpent := by
  refine .foldl _ (fun u base => ?_) _ s
  split
  · exact .ite (.refl u) (.ite (u.eraseBand_erases base) (.refl u))
  · exact .refl u

theorem State.eraseDead_erases (s : State) : s.Erases s.eraseDead := by
  refine .foldl _ (fun u base => ?_) _ s
  split
  · exact .ite (.refl u) (u.eraseBand_erases base)
  · exact .refl u

/-! ### Relocations that begin (R139, R151, R154) -/

/-- The copy that a relocation makes of a run, placed in `spans`. -/
def Run.copied (u : Run) (kind : RelocKind) (pgs : BitVec 512) (src : List (Nat × Loc)) (spans : List (Nat × Nat × Nat)) : Run :=
  { u with spans := spans, pages := pgs, reloc := true, src := src, merged := decide (kind = .merge) }

/-- A relocation that has begun, its copy placed in `spans` by `r`. -/
structure State.Relocates (kind : RelocKind) (u : Run) (pgs : BitVec 512) (src : List (Nat × Loc))
    (spans : List (Nat × Nat × Nat)) (r t : State) : Prop where
  relocs : t.rill.relocs = r.rill.relocs
    ++ [{ kind := kind, seg := u.seg, copy := u.copied kind pgs src spans, src := src, waits := r.openOf spans }]
  runs : t.rill.runs = r.rill.runs ++ [u.copied kind pgs src spans]
  works : r.Works t

theorem State.relocate_relocates {s t : State} {kind : RelocKind} {u : Run} {pgs : BitVec 512} {src : List (Nat × Loc)}
    (h : s.relocate kind u pgs src = some t) : ∃ spans r, State.placeWait .g (pages pgs) (pages pgs) s [] = some (spans, r)
      ∧ State.Relocates kind u pgs src spans r t := by
  unfold State.relocate at h
  obtain ⟨⟨spans, r⟩, placed, rfl⟩ := Option.map_eq_some_iff.mp h
  refine ⟨spans, r, placed, rfl, rfl, ?_⟩
  refine .trans ?_ (State.onWhl_works _ _)
  exact ⟨(r.onRill_same _).widen, .of_same (r.onRill_same _), rfl, rfl, rfl, rfl, .append _ _, fun none => ⟨none, rfl, rfl, rfl, rfl⟩⟩

theorem State.relocate_works {s t : State} {kind : RelocKind} {u : Run} {pgs : BitVec 512} {src : List (Nat × Loc)}
    (h : s.relocate kind u pgs src = some t) : s.Works t := by
  obtain ⟨spans, r, placed, relocates⟩ := State.relocate_relocates h
  exact (State.placeWait_works _ placed).trans relocates.works

theorem State.mergeSeg_works {s t : State} {seg : Nat} (h : s.mergeSeg seg = some t) : s.Works t := State.relocate_works h

/-- What a fold of steps that may fail leaves, when none fails. -/
theorem foldl_bind_works {α : Type} {f : State → α → Option State} (k : ∀ s a t, f s a = some t → s.Works t) :
    ∀ (as : List α) (o : Option State) (t : State), as.foldl (fun o a => o.bind fun s => f s a) o = some t →
      ∃ s, o = some s ∧ s.Works t
  | [], _, t, h => ⟨t, h, .refl t⟩
  | a :: as, o, t, h => by
    obtain ⟨u, step, works⟩ := foldl_bind_works k as (o.bind fun s => f s a) t h
    obtain ⟨s, start, taken⟩ := Option.bind_eq_some_iff.mp step
    exact ⟨s, start, (k s a u taken).trans works⟩

theorem foldl_some_works {α : Type} {f : State → α → Option State} (k : ∀ s a t, f s a = some t → s.Works t)
    (as : List α) (s t : State) (h : as.foldl (fun o a => o.bind fun s => f s a) (some s) = some t) : s.Works t := by
  obtain ⟨u, start, works⟩ := foldl_bind_works k as _ t h
  cases start
  exact works

theorem State.relocateWheel_works {s t : State} {kind : RelocKind} {n : Nat} (h : s.relocateWheel kind n = some t) : s.Works t := by
  unfold State.relocateWheel at h
  refine foldl_some_works (fun u seg v moved => ?_) _ _ _ h
  dsimp only at moved
  have fine (o : Option State) (v : State) (l : List Run) (g : Run → List (Nat × Run × Loc))
      (h : l.foldl (fun o r => o.bind fun s => s.relocate kind { r with kind := .fine } (pageMap ((g r).map (·.1)))
        ((g r).map fun c => (c.1, c.2.2))) o = some v) : ∃ u, o = some u ∧ u.Works v :=
    foldl_bind_works (fun _ _ _ moved => State.relocate_works moved) l o v h
  split at moved
  · obtain ⟨w, begun, works⟩ := fine _ _ _ _ moved
    cases begun
    exact works
  · obtain ⟨w, before, moved⟩ := Option.bind_eq_some_iff.mp moved
    obtain ⟨x, begun, works⟩ := fine _ _ _ _ before
    cases begun
    refine works.trans ?_
    split at moved
    · exact State.relocate_works moved
    · cases moved; exact .refl _

/-- Gates of the upkeep apart, a Rill as it is. -/
theorem State.rillGates_rill (s : State) : ∃ m g c, s.rillGates.rill = { s.rill with merging := m, migrating := g, collecting := c } := by
  unfold State.rillGates
  split
  · exact ⟨_, _, _, rfl⟩
  · exact ⟨_, _, _, rfl⟩

theorem State.rillGates_works (s : State) : s.Works s.rillGates := by
  obtain ⟨m, g, c, rill⟩ := s.rillGates_rill
  have basin : s.rillGates.basin = s.basin := s.rillGates_same .basin (by decide)
  refine ⟨s.rillGates_same.widen, .of_same s.rillGates_same, by rw [basin], by rw [rill], by rw [rill], by rw [rill],
    by rw [rill]; exact .refl _, fun none => ?_⟩
  exact ⟨by rw [rill]; exact none, by rw [rill], by rw [rill], basin, s.rillGates_same .weir (by decide)⟩

end Sys2Proof.Machine
end

section
/-! PROOFS. The commands of relocation (O20). -/

namespace Sys2Proof.Machine

theorem relocation_works {c : Instr} {s : State} (h : c = .fineMapMerge ∨ c = .migration ∨ c = .garbageCollection) :
    Answers c s s.begin.Works := by
  have gates := s.begin.rillGates_works
  have moved (u : State) (kind : RelocKind) (o : Option Nat) : u.Works (match o with
      | some n => (u.relocateWheel kind n).getD u
      | none => u).eraseSpent := by
    refine .trans ?_ (State.eraseSpent_erases _).works
    cases o with
    | none => exact .refl u
    | some n =>
      dsimp only
      cases h : u.relocateWheel kind n with
      | none => exact .refl u
      | some t => exact State.relocateWheel_works h
  obtain rfl | rfl | rfl := h
  · refine ⟨_, rfl, gates.trans (.ite ?_ (.refl _))⟩
    split
    · rename_i g _
      cases h : s.begin.rillGates.mergeSeg g with
      | none => exact .refl _
      | some t => exact State.mergeSeg_works h
    · exact .refl _
  · exact ⟨_, rfl, gates.trans (.ite (moved _ _ _) (.refl _))⟩
  · exact ⟨_, rfl, gates.trans (.ite (moved _ _ _) (.refl _))⟩

theorem fineMapMerge_merges {s u r : State} {g : Nat} {spans : List (Nat × Nat × Nat)} (gates : u = s.begin.rillGates)
    (relocates : u.relocates = true) (merging : u.rill.merging = true) (next : u.nextMerge = some g)
    (placed : State.placeWait .g 512 512 u [] = some (spans, r)) :
    Answers .fineMapMerge s fun t => ∃ q, t.rill.relocs = r.rill.relocs ++ [q] ∧ q.kind = .merge ∧ q.seg = g
      ∧ q.copy.seg = g ∧ q.copy.kind = .large ∧ q.copy.pages = BitVec.allOnes 512 ∧ q.copy.reloc = true
      ∧ q.copy ∈ t.rill.runs ∧ q.waits = r.openOf spans := by
  subst gates
  refine ⟨_, rfl, ?_⟩
  rw [if_pos (by rw [relocates, merging]; rfl), next]
  dsimp only
  unfold State.mergeSeg State.relocate
  dsimp only
  rw [pages_allOnes, placed]
  exact ⟨_, rfl, rfl, rfl, rfl, rfl, rfl, rfl, List.mem_append_right _ (List.mem_singleton_self _), rfl⟩

/-! ### A relocation ends (R153) -/

theorem State.keepSlots_same (s : State) (seg : Nat) : s.SameBut (s.keepSlots seg) [.rill, .spill] :=
  (s.onSpill_same _).widen.next (State.onRill_same _ _)

/-- The maps of a Rill after a segment is mapped by one large entry, its fine entries gone. -/
structure Rill.MergedAt (x : Rill) (seg : Nat) (l : Loc) (y : Rill) : Prop where
  large : y.large = mput seg { loc := l } x.large
  fine : y.fine = x.fine.filter fun p => p.1 / 512 != seg

theorem Rill.mapRun_mergedAt {x : Rill} {u : Run} {l : Loc} (loc : u.locOf 0 = some l) (slots : List (Nat × Nat × Nat))
    (only : BitVec 512) : x.MergedAt u.seg l (x.mapRun u true slots only) := by
  rw [Rill.mapRun, if_pos rfl, loc]
  exact ⟨rfl, rfl⟩

theorem Rill.MergedAt.largeOf {x y : Rill} {seg : Nat} {l : Loc} (h : x.MergedAt seg l y) (g : Nat) :
    y.largeOf g = if seg = g then some { loc := l } else x.largeOf g := by
  unfold Rill.largeOf
  rw [h.large, find?_mput]
  split <;> rfl

theorem Rill.MergedAt.fineCount {x y : Rill} {seg : Nat} {l : Loc} (h : x.MergedAt seg l y) : y.fineCount seg = 0 := by
  simp [Rill.fineCount, h.fine]

theorem Rill.MergedAt.fineOf {x y : Rill} {seg pi : Nat} {l : Loc} (h : x.MergedAt seg l y) (other : pi / 512 ≠ seg) :
    y.fineOf pi = x.fineOf pi := by
  unfold Rill.fineOf
  rw [h.fine, List.find?_filter]
  refine congrArg (Option.map _) (congrArg (fun f => x.fine.find? f) (funext fun p => ?_))
  by_cases here : p.1 = pi
  · simp [here, other]
  · simp [here]

/-- A merge off the list of relocations. -/
def State.unlisted (s : State) (q : Reloc) : State := s.onRill fun x => { x with relocs := x.relocs.filter fun r =>
  !(r.copy.seq == q.copy.seq && r.seg == q.seg && r.copy.spans == q.copy.spans) }

theorem State.unlisted_relocs (s : State) (q : Reloc) : q ∉ (s.unlisted q).rill.relocs := fun mem => by
  have kept := (List.mem_filter.mp mem).2
  simp at kept

/-- The sources of a relocation are all mapped still, and nothing else of its segment is. -/
def State.sourced (s : State) (q : Reloc) : Prop := s.rill.relocOk q = true ∧ (s.rill.mappedOf q.seg).length = q.src.length

/-- The end of a merge: off the list, and mapped if its sources are all mapped still. -/
structure State.Finishes (s : State) (q : Reloc) (l : Loc) (t : State) : Prop where
  unlisted : q ∉ t.rill.relocs
  merged : s.sourced q → s.rill.MergedAt q.copy.seg l t.rill
  left : ¬ s.sourced q → t.rill.large = s.rill.large ∧ t.rill.fine = s.rill.fine
  same : s.SameBut t [.rill, .spill]

theorem State.finishReloc_finishes {s : State} {q : Reloc} {l : Loc} (merge : q.kind = .merge) (loc : q.copy.locOf 0 = some l) :
    s.Finishes q l (s.finishReloc q) := by
  have off : s.SameBut (s.unlisted q) [.rill, .spill] := (s.onRill_same _).widen
  unfold State.finishReloc
  rw [merge]
  dsimp only
  change s.Finishes q l (if (s.unlisted q).rill.relocOk q && decide (((s.unlisted q).rill.mappedOf q.seg).length = q.src.length)
    then ((s.unlisted q).keepSlots q.seg).onRill fun x => x.mapRun q.copy true [] 0 else s.unlisted q)
  have judged : ((s.unlisted q).rill.relocOk q && decide (((s.unlisted q).rill.mappedOf q.seg).length = q.src.length)) = true
      ↔ s.sourced q := by
    rw [Bool.and_eq_true_iff, decide_eq_true_iff]
    exact Iff.rfl
  split
  · rename_i still
    have slots : (s.unlisted q).SameBut ((s.unlisted q).keepSlots q.seg) [.rill, .spill] := State.keepSlots_same _ _
    obtain ⟨large, fine⟩ := Rill.mapRun_mergedAt (x := ((s.unlisted q).keepSlots q.seg).rill) loc [] 0
    have relocs := (Rill.mapRun_stands ((s.unlisted q).keepSlots q.seg).rill q.copy true [] 0).relocs
    refine ⟨?_, fun _ => ⟨large, fine⟩, fun moved => absurd (judged.mp still) moved, (off.trans slots).next (State.onRill_same _ _)⟩
    change q ∉ (Rill.mapRun _ _ _ _ _).relocs
    rw [relocs]
    exact s.unlisted_relocs q
  · rename_i moved
    exact ⟨s.unlisted_relocs q, fun sourced => absurd (judged.mpr sourced) moved, fun _ => ⟨rfl, rfl⟩, off⟩

theorem relocationComplete_merges {s : State} {q : Reloc} {l : Loc} (up : s.rill.state ≠ .down) (loaded : s.rill.state ≠ .loading)
    (live : s.rill.reloading = false) (next : s.rill.relocs.find? (fun x => x.waits.isEmpty) = some q) (merge : q.kind = .merge)
    (seg : q.copy.seg = q.seg) (loc : q.copy.locOf 0 = some l) : Answers .relocationComplete s fun t =>
      q ∉ t.rill.relocs
        ∧ (s.rill.relocOk q = true → (s.rill.mappedOf q.seg).length = q.src.length →
            t.rill.largeOf q.seg = some { loc := l } ∧ t.rill.fineCount q.seg = 0
              ∧ (∀ g, g ≠ q.seg → t.rill.largeOf g = s.rill.largeOf g)
              ∧ ∀ pi, pi / 512 ≠ q.seg → t.rill.fineOf pi = s.rill.fineOf pi)
        ∧ (s.rill.relocOk q = false → t.rill.large = s.rill.large ∧ t.rill.fine = s.rill.fine)
        ∧ s.SameBut t [.out, .regs, .freeCtr, .rill, .whl, .res, .spill] := by
  refine ⟨_, rfl, ?_⟩
  rw [if_neg (by simp [up, loaded, live]), show s.begin.rill.relocs.find? _ = _ from next]
  dsimp only
  obtain ⟨unlisted, merged, left, finished⟩ := State.finishReloc_finishes (s := s.begin) merge loc
  rw [seg] at merged
  obtain ⟨same, -, ⟨runs, rill⟩, -⟩ := (s.begin.finishReloc q).eraseSpent_erases
  generalize s.begin.finishReloc q = u at *
  have large : u.eraseSpent.rill.large = u.rill.large := by rw [rill]
  have fine : u.eraseSpent.rill.fine = u.rill.fine := by rw [rill]
  refine ⟨by rw [rill]; exact unlisted, fun ok still => ?_, fun moved => ?_, (s.begin_same.widen.next finished).next same⟩
  · obtain ⟨large', fine'⟩ := merged ⟨ok, still⟩
    have merged : s.rill.MergedAt q.seg l u.eraseSpent.rill := ⟨large.trans large', fine.trans fine'⟩
    exact ⟨(merged.largeOf _).trans (if_pos rfl), merged.fineCount, fun g other => (merged.largeOf g).trans (if_neg other.symm),
      fun pi other => merged.fineOf other⟩
  · obtain ⟨large', fine'⟩ := left fun sourced => by simp [State.sourced, moved] at sourced
    exact ⟨large.trans large', fine.trans fine'⟩

theorem relocationComplete_waits {s : State} (up : s.rill.state ≠ .down) (loaded : s.rill.state ≠ .loading)
    (live : s.rill.reloading = false) (waits : ∀ q ∈ s.rill.relocs, q.waits ≠ []) :
    Answers .relocationComplete s fun t => s.SameBut t [.out] := by
  have none : s.begin.rill.relocs.find? (fun q => q.waits.isEmpty) = .none :=
    List.find?_eq_none.mpr fun q mem => by simpa using waits q mem
  refine ⟨_, rfl, ?_⟩
  rw [if_neg (by simp [up, loaded, live]), none]
  exact s.begin_same

end Sys2Proof.Machine
end

section
/-! PROOFS. Checkpoints (O20, O21). -/

namespace Sys2Proof.Machine

/-! ### A checkpoint is written (R155, R156) -/

/-- The newest of a list of checkpoints. -/
def Ckpt.Newest (c : Ckpt) (l : List Ckpt) : Prop := c ∈ l ∧ ∀ d ∈ l, d.seq ≤ c.seq

/-- A checkpoint `c` written: it stands as the newest, CKPT_SEQ is its number and nothing is left to write. -/
structure State.Ckpted (s : State) (c : Ckpt) (t : State) : Prop where
  same : s.SameBut t closeParts
  newest : (∀ d ∈ s.rill.ckpts, d.seq ≤ c.seq) → c.Newest t.rill.ckpts
  seq : t.reg Reg.CKPT_SEQ = c.seq % 2 ^ 48
  regs : ∀ id ∈ rillRegs, id ≠ Reg.CKPT_SEQ → t.reg id = s.reg id
  nv : s.nv.Goes t.nv
  mapped : t.rill.mapped = 0
  state : t.rill.state = s.rill.state
  reformat : t.rill.reformat = s.rill.reformat
  idle : s.rill.captures = [] → s.Idle t

/-- The list of checkpoints with `c` added, none mapped since, and CKPT_SEQ its number. -/
def State.addCkpt (s : State) (c : Ckpt) : State :=
  (s.setReg Reg.CKPT_SEQ c.seq).onRill fun x => { x with ckpts := x.ckpts ++ [c], mapped := 0 }

theorem State.addCkpt_ckpted (s : State) (c : Ckpt) : s.Ckpted c (s.addCkpt c) where
  same := (s.setReg_same _ _).widen.next (State.onRill_same _ _)
  newest old := ⟨List.mem_append_right _ (List.mem_singleton_self c), fun d mem => (List.mem_append.mp mem).elim (old d)
    fun last => (congrArg Ckpt.seq (List.mem_singleton.mp last)).le⟩
  seq := by
    have width : paramWidth Reg.CKPT_SEQ = 48 := by decide +kernel
    rw [← width]
    exact s.reg_setReg_same _ _
  regs _ _ other := s.reg_setReg_ne _ _ _ other
  nv := .refl _
  mapped := rfl
  state := rfl
  reformat := rfl
  idle none := ⟨none, rfl, rfl, rfl, rfl⟩

/-- A step after a checkpoint that takes runs and old checkpoints alone from the Rill. -/
theorem State.Ckpted.next {s t u : State} {c : Ckpt} {l : List Part} (h : s.Ckpted c t) (same : t.SameBut u l) (tends : t.Tends u)
    (rill : ∃ runs ckpts, u.rill = { t.rill with runs := runs, ckpts := ckpts }) (newest : c.Newest t.rill.ckpts → c.Newest u.rill.ckpts)
    (k : Part.basin ∉ l ∧ Part.weir ∉ l := by decide) (sub : l ⊆ closeParts := by decide) : s.Ckpted c u := by
  obtain ⟨runs, ckpts, rill⟩ := rill
  refine ⟨h.same.next same sub, fun old => newest (h.newest old), (tends.regs _ (by decide)).trans h.seq,
    fun id low other => (tends.regs id low).trans (h.regs id low other), h.nv.trans tends.nv, by rw [rill]; exact h.mapped,
    by rw [rill]; exact h.state, by rw [rill]; exact h.reformat, fun none => ?_⟩
  obtain ⟨captures, large, fine, basin, weir⟩ := h.idle none
  exact ⟨by rw [rill]; exact captures, by rw [rill]; exact large, by rw [rill]; exact fine, (same .basin k.1).trans basin,
    (same .weir k.2).trans weir⟩

/-- A step after a checkpoint that leaves the Rill. -/
theorem State.Ckpted.of_same {s t u : State} {c : Ckpt} {l : List Part} (h : s.Ckpted c t) (same : t.SameBut u l) (tends : t.Tends u)
    (k : Part.rill ∉ l ∧ Part.basin ∉ l ∧ Part.weir ∉ l := by decide) (sub : l ⊆ closeParts := by decide) : s.Ckpted c u := by
  have rill : u.rill = t.rill := same .rill k.1
  exact h.next same tends ⟨_, _, rill⟩ (by rw [rill]; exact id) k.2 sub

theorem State.Ckpted.erases {s t u : State} {c : Ckpt} (h : s.Ckpted c t) (erases : t.Erases u) : s.Ckpted c u := by
  obtain ⟨same, tends, ⟨runs, rill⟩, -⟩ := erases
  exact h.next same tends ⟨_, _, rill⟩ (by rw [rill]; exact id)

theorem getD_le_of_forall {l : List Nat} {n : Nat} (h : ∀ x ∈ l, x ≤ n) (i : Nat) : l.getD i 0 ≤ n := by
  rw [List.getD_eq_getElem?_getD]
  cases at' : l[i]? with
  | none => exact Nat.zero_le n
  | some x => exact h x (List.mem_of_getElem? at')

theorem State.Ckpted.trimCkpts {s t : State} {c : Ckpt} (h : s.Ckpted c t) : s.Ckpted c t.trimCkpts := by
  unfold State.trimCkpts
  extract_lets full keep u live
  have kept : c.Newest t.rill.ckpts → c.Newest u.rill.ckpts := fun ⟨mem, newest⟩ => by
    have low : keep ≤ c.seq := getD_le_of_forall (fun x here => by
      obtain ⟨d, there, rfl⟩ := List.mem_map.mp (List.mem_reverse.mp here)
      exact newest d (List.mem_filter.mp there).1) 1
    exact ⟨List.mem_filter.mpr ⟨mem, decide_eq_true low⟩, fun d here => newest d (List.mem_filter.mp here).1⟩
  have trimmed : s.Ckpted c u := h.next (t.onRill_same _) (.of_same (t.onRill_same _)) ⟨_, _, rfl⟩ kept
  refine trimmed.erases (.foldl _ (fun v base => ?_) _ u)
  split
  · exact .ite (v.eraseBand_erases base) (.refl v)
  · exact .refl v

theorem State.trimJournal_same (s : State) : s.SameBut s.trimJournal [.res, .spill, .whl] := by
  unfold State.trimJournal
  split
  · exact ((s.onRes_same _).widen.next (State.onSpill_same _ _)).next (State.onWhl_same _ _)
  · exact .refl _ _

/-- The open wheels of stream C filled and closed. -/
def State.closeC (s : State) : State := (s.whl.openWheels .c).foldl (fun s n => (s.fillWheel n).closeWheel n) s

theorem State.closeC_works (s : State) : s.Works s.closeC :=
  .foldl _ (fun u n => (u.onWhl_works _).trans (State.closeWheel_works _ n)) _ s

theorem State.checkpoint_ckpted {s r : State} {spans : List (Nat × Nat × Nat)} (full : Bool)
    (placed : State.placeWait .c s.ckptUnits s.ckptUnits s [] = some (spans, r)) :
    r.closeC.Ckpted (r.ckptOf full spans) (s.checkpoint full) := by
  unfold State.checkpoint
  rw [placed]
  dsimp only
  have sized : r.closeC.Ckpted (r.ckptOf full spans) (r.closeC.addCkpt (r.ckptOf full spans)).setLandSize :=
    (r.closeC.addCkpt_ckpted _).of_same (State.setReg_same _ _ _) (State.setReg_tends _ _ (by decide))
  split
  · have named (d : NvData) : r.closeC.Ckpted (r.ckptOf full spans)
        (((r.closeC.addCkpt (r.ckptOf full spans)).setLandSize.nvWrite d).trimCkpts).trimJournal :=
      (sized.of_same (State.nvWrite_same _ d) (State.nvWrite_tends _ d)).trimCkpts.of_same (State.trimJournal_same _)
        (.of_same (State.trimJournal_same _))
    exact named _
  · exact sized

theorem State.checkpoint_none {s : State} (full : Bool) (unplaced : State.placeWait .c s.ckptUnits s.ckptUnits s [] = none) :
    s.checkpoint full = s := by
  rw [State.checkpoint, unplaced]

theorem checkpointWrite_writes {p : Bool} {s r : State} {spans : List (Nat × Nat × Nat)} (running : s.rill.state = .running)
    (live : s.rill.reloading = false) (whole : s.rill.reformat = none)
    (due : p = true ∨ s.reg Reg.CKPT_BYTES * MiB ≤ s.rill.mapped)
    (placed : State.placeWait .c s.ckptUnits s.ckptUnits s.begin [] = some (spans, r))
    (old : ∀ c ∈ s.rill.ckpts, c.seq ≤ s.reg Reg.CKPT_SEQ) (fits : s.reg Reg.CKPT_SEQ + 1 < 2 ^ 48) :
    Answers (.checkpointWrite false p) s fun t =>
      t.reg Reg.CKPT_SEQ = s.reg Reg.CKPT_SEQ + 1 ∧ t.reg Reg.WRITE_SEQ = s.reg Reg.WRITE_SEQ
        ∧ (∃ c ∈ t.rill.ckpts, c.seq = s.reg Reg.CKPT_SEQ + 1 ∧ c.full = s.fullDue ∧ c.writeSeq = s.reg Reg.WRITE_SEQ
            ∧ c.epoch = s.reg Reg.FORMAT_EPOCH ∧ c.k = s.basin.fineK ∧ c.large = r.rill.large ∧ c.fine = r.rill.fine)
        ∧ t.rill.mapped = 0 ∧ t.mem = s.mem ∧ t.dev = s.dev := by
  refine ⟨_, rfl, ?_⟩
  rw [if_pos ⟨.inl running, by simp [live], whole, due⟩, if_neg Bool.false_ne_true]
  have before : s.begin.Works r := State.placeWait_works _ placed
  have closes := before.trans r.closeC_works
  have written := State.checkpoint_ckpted (s := s.begin) s.begin.fullDue placed
  have reg (id : Nat) (low : id ∈ rillRegs) : r.reg id = s.reg id := before.tends.regs id low
  have number : (r.ckptOf s.begin.fullDue spans).seq = s.reg Reg.CKPT_SEQ + 1 := congrArg (· + 1) (reg _ (by decide))
  have epoch : (r.ckptOf s.begin.fullDue spans).epoch = s.reg Reg.FORMAT_EPOCH := by
    rw [← reg _ (by decide), State.ckptOf, show r.rill.reformat = none from before.reformat.trans whole]
    rfl
  have same := closes.same.trans written.same
  refine ⟨?_, ?_, ⟨_, (written.newest fun d mem => ?_).1, number, rfl, reg _ (by decide), epoch, before.fineK, rfl, rfl⟩, written.mapped,
    same .mem (by decide), same .dev (by decide)⟩
  · rw [written.seq, number, Nat.mod_eq_of_lt fits]
  · exact (written.regs _ (by decide) (by decide)).trans (closes.tends.regs _ (by decide))
  · rw [closes.ckpts] at mem
    rw [number]
    exact Nat.le_succ_of_le (old d mem)

theorem checkpointWrite_rests {p : Bool} {s : State} (early : (p = false ∧ s.rill.mapped < s.reg Reg.CKPT_BYTES * MiB)
      ∨ State.placeWait .c s.ckptUnits s.ckptUnits s.begin [] = none) :
    Answers (.checkpointWrite false p) s fun t => t = s.begin := by
  refine ⟨_, rfl, ?_⟩
  rw [if_neg Bool.false_ne_true]
  split
  · rename_i due
    obtain ⟨-, -, -, due⟩ := due
    obtain ⟨notPeriod, few⟩ | unplaced := early
    · exact absurd (due.resolve_left (by simp [notPeriod])) (Nat.not_le.mpr few)
    · exact s.begin.checkpoint_none _ unplaced
  · rfl

end Sys2Proof.Machine
end

section
/-! PROOFS. The loading of the maps (O20). -/

namespace Sys2Proof.Machine

/-! ### A reload (R159) -/

theorem mapReload_starts {badC : List Nat} {badU : List (Nat × Nat)} {s : State} (up : s.rill.state ≠ .down)
    (loaded : s.rill.state ≠ .loading) (live : s.rill.reloading = false) (core : s.seq.coreUp = true) :
    Answers (.mapReload false badC badU) s fun t =>
      t.rill = { s.rill with reloading := true } ∧ bit (t.reg Reg.FC_STATUS) Src.MAP_ENGINE = true
        ∧ s.SameBut t [.out, .regs, .freeCtr, .rec_, .fc, .port, .mir, .rill] := by
  refine ⟨_, rfl, ?_⟩
  rw [if_neg (by simp [up, loaded]), if_neg Bool.false_ne_true, if_neg (by simp [live])]
  exact ⟨State.fault_rill _ _ _ _ _ _, State.fault_status _ _ _ _ _ (by decide) core,
    (s.begin_same.widen.next (State.onRill_same _ _)).next (State.fault_same _ _ _ _ _ _)⟩

theorem State.loadMaps_same (s : State) (badC : List Nat) (badU : List (Nat × Nat)) :
    s.SameBut (s.loadMaps badC badU) [.out, .regs, .freeCtr, .rec_, .fc, .port, .mir, .rill] := by
  have told (u : State) (v : Sev) (n : Nat) : u.SameBut ((u.fault Src.MAP_ENGINE v).raise n) [.out, .regs, .freeCtr, .rec_, .fc, .port, .mir] :=
    (u.fault_same _ _ _ _ _).widen.next (State.raise_same _ _ _ _ _ _)
  unfold State.loadMaps
  extract_lets found fulls deltas newest pick s1 chain last x y s2
  have picked : s.SameBut s1 [.out, .regs, .freeCtr, .rec_, .fc, .port, .mir] := by
    dsimp only [s1]
    clear_value pick
    cases pick with
    | none => exact told s _ _
    | some f => exact .ite (.refl _ _) (told s _ _)
  have marked : s1.SameBut s2 [.out, .regs, .freeCtr, .rec_, .fc, .port, .mir] :=
    .foldl _ (fun u _ => (u.fault_same _ _ _ _ _).widen) _ s1
  exact (picked.trans marked).widen.next (State.onRill_same _ _)

theorem State.completeFree_stands (s : State) : s.rill.Stands s.completeFree.rill := State.completions_stand _ s

theorem State.completeFree_waits {s : State} {c : Capture} (mem : c ∈ s.completeFree.rill.captures) : c.waits ≠ [] := fun free => by
  obtain ⟨left, pending⟩ := completions_captures _ _ mem
  exact pending (List.mem_filter.mpr ⟨left, by rw [free]; rfl⟩)

theorem mapReload_ends {badC : List Nat} {badU : List (Nat × Nat)} {s : State} (up : s.rill.state ≠ .down)
    (loaded : s.rill.state ≠ .loading) (reloading : s.rill.reloading = true) : Answers (.mapReload true badC badU) s fun t =>
      t.rill.reloading = false ∧ t.rill.heldClosed = [] ∧ (∀ c ∈ t.rill.captures, c.waits ≠ []) ∧ t.mem = s.mem
        ∧ t.dev = s.dev := by
  refine ⟨_, rfl, ?_⟩
  rw [if_neg (by simp [up, loaded]), if_pos rfl, if_pos (show s.begin.rill.reloading = true from reloading)]
  have loads := s.begin_same.widen.trans (s.begin.loadMaps_same badC badU)
  generalize s.begin.loadMaps badC badU = u at loads
  have stands := (u.onRill fun x => { x with reloading := false, heldClosed := [] }).completeFree_stands
  have same : s.SameBut u.releaseHeld [.out, .regs, .freeCtr, .rec_, .fc, .port, .mir, .rill, .basin, .weir] :=
    (loads.widen.next (u.onRill_same _)).next (State.completeFree_same _)
  exact ⟨stands.reloading, stands.heldClosed, fun c => State.completeFree_waits, same .mem (by decide), same .dev (by decide)⟩

/-! ### The first load (R157, R158) -/

/-- With one full checkpoint of the epoch and no unit to replay its maps are loaded, and nothing is reported. -/
theorem State.loadMaps_full {badC : List Nat} {s : State} {f : Ckpt} (ckpts : s.rill.ckpts = [f]) (full : f.full = true)
    (epoch : f.epoch = s.reg Reg.FORMAT_EPOCH) (good : f.seq ∉ badC) (runs : s.rill.runs = []) :
    s.loadMaps badC [] = s.onRill fun x => { x with large := f.large, fine := f.fine } := by
  unfold State.loadMaps
  simp [ckpts, full, epoch, good, runs, validChain, State.onRill]

theorem State.loadMaps_none {badC : List Nat} {s : State} (ckpts : s.rill.ckpts = []) (runs : s.rill.runs = []) :
    s.loadMaps badC [] = ((s.fault Src.MAP_ENGINE .degraded).raise Ev.MAP_SCAN).onRill fun x => { x with large := [], fine := [] } := by
  unfold State.loadMaps
  simp [ckpts, runs, State.onRill]

/-- The Rill as a load leaves it: running, with the maps loaded. -/
def Rill.started (x : Rill) : Rill := { x with state := .running, captures := [], relocs := [], mapped := 0 }

/-- The numbers with which a load resumes, and LAND_SIZE. -/
def State.resume (s : State) (top : Nat) : State := ((s.setReg Reg.WRITE_SEQ s.resumeSeq).setReg Reg.CKPT_SEQ top).setLandSize

theorem State.resume_same (s : State) (top : Nat) : s.SameBut (s.resume top) [.regs] :=
  ((s.setReg_same _ _).trans (State.setReg_same _ _ _)).trans (State.setReg_same _ _ _)

theorem State.resume_reg (s : State) (top : Nat) {id : Nat} (other : id ∉ [Reg.WRITE_SEQ, Reg.CKPT_SEQ, Reg.LAND_SIZE]) :
    (s.resume top).reg id = s.reg id := by
  simp only [List.mem_cons, List.not_mem_nil, or_false, not_or] at other
  obtain ⟨write, ckpt, land⟩ := other
  exact (State.reg_setReg_ne _ _ _ _ land).trans ((State.reg_setReg_ne _ _ _ _ ckpt).trans (s.reg_setReg_ne _ _ _ write))

theorem State.resume_writeSeq {s : State} {top : Nat} (fits : s.resumeSeq < 2 ^ 48) :
    (s.resume top).reg Reg.WRITE_SEQ = s.resumeSeq := by
  have width : paramWidth Reg.WRITE_SEQ = 48 := by decide +kernel
  refine (State.reg_setReg_ne _ _ _ _ (by decide)).trans ((State.reg_setReg_ne _ _ _ _ (by decide)).trans ?_)
  exact s.reg_setReg _ _ (by rwa [width])

theorem State.resume_ckptSeq {s : State} {top : Nat} (fits : top < 2 ^ 48) : (s.resume top).reg Reg.CKPT_SEQ = top := by
  have width : paramWidth Reg.CKPT_SEQ = 48 := by decide +kernel
  refine (State.reg_setReg_ne _ _ _ _ (by decide)).trans ?_
  exact State.reg_setReg _ _ _ (by rwa [width])

/-- What follows the numbers in a load: the report of a WRITE_SEQ that runs low, and the erases after a start that was not clean. -/
def State.endLoad (s : State) : State :=
  let s := (if 0xFFFF00000000 ≤ s.reg Reg.WRITE_SEQ then s.seqLow else s).onRill Rill.started
  if s.reg Reg.SHUTDOWN_RECORD = Shut.clean.code then s else s.eraseDead

theorem exec_mapLoad {s : State} (badC : List Nat) (badU : List (Nat × Nat)) (loading : s.rill.state = .loading)
    (serving : s.whl.state = .serving) (running : s.res.state = .running) :
    exec (.mapLoad badC badU) s
      = .next ((s.begin.loadMaps badC badU).resume (maxOf (s.rill.ckpts.map (·.seq)))).endLoad.fin :=
  congrArg after (if_pos ⟨loading, serving, running⟩)

theorem State.endLoad_quiet {s : State} (below : s.reg Reg.WRITE_SEQ < 0xFFFF00000000)
    (clean : s.reg Reg.SHUTDOWN_RECORD = Shut.clean.code) : s.endLoad = s.onRill Rill.started := by
  unfold State.endLoad
  rw [if_neg (Nat.not_le.mpr below)]
  exact if_pos clean

theorem mapLoad_loads {badC : List Nat} {s : State} {f : Ckpt} (loading : s.rill.state = .loading) (serving : s.whl.state = .serving)
    (running : s.res.state = .running) (ckpts : s.rill.ckpts = [f]) (full : f.full = true) (epoch : f.epoch = s.reg Reg.FORMAT_EPOCH)
    (good : f.seq ∉ badC) (runs : s.rill.runs = []) (manifests : s.spill.manifests = [])
    (clean : s.reg Reg.SHUTDOWN_RECORD = Shut.clean.code) (number : f.seq < 2 ^ 48) (below : f.writeSeq + 1 < 0xFFFF00000000) :
    Answers (.mapLoad badC []) s fun t =>
      t.rill.state = .running ∧ t.rill.large = f.large ∧ t.rill.fine = f.fine ∧ t.rill.ckpts = [f]
        ∧ t.rill.captures = [] ∧ t.rill.relocs = [] ∧ t.rill.mapped = 0 ∧ t.reg Reg.CKPT_SEQ = f.seq
        ∧ t.reg Reg.WRITE_SEQ = f.writeSeq + 1 ∧ s.SameBut t [.out, .regs, .freeCtr, .rill] := by
  refine ⟨_, exec_mapLoad badC [] loading serving running, ?_⟩
  have top : maxOf (s.rill.ckpts.map (·.seq)) = f.seq := by simp [ckpts, maxOf]
  rw [State.loadMaps_full (s := s.begin) ckpts full epoch good runs, top]
  have loads : s.SameBut (s.begin.onRill fun x => { x with large := f.large, fine := f.fine }) [.out, .rill] :=
    s.begin_same.widen.next (State.onRill_same _ _)
  have seen : (s.begin.onRill fun x => { x with large := f.large, fine := f.fine }).resumeSeq = f.writeSeq + 1 := by
    simp [State.resumeSeq, ckpts, epoch, runs, manifests, maxOf, Nat.add_comm]
  generalize loaded : s.begin.onRill (fun x => { x with large := f.large, fine := f.fine }) = u at loads seen
  have rill : u.rill = { s.rill with large := f.large, fine := f.fine } := by rw [← loaded]; rfl
  have seq : (u.resume f.seq).reg Reg.WRITE_SEQ = f.writeSeq + 1 := (State.resume_writeSeq (by omega)).trans seen
  have shut : (u.resume f.seq).reg Reg.SHUTDOWN_RECORD = Shut.clean.code :=
    (u.resume_reg f.seq (by decide)).trans ((State.reg_of_regs (loads .regs (by decide)) _).trans clean)
  have kept : (u.resume f.seq).rill = u.rill := u.resume_same f.seq .rill (by decide)
  rw [State.endLoad_quiet (by rw [seq]; exact below) shut]
  have started : ((u.resume f.seq).onRill Rill.started).rill = { s.rill with large := f.large, fine := f.fine }.started := by
    rw [State.onRill_rill, kept, rill]
  have resumed : (u.resume f.seq).reg Reg.CKPT_SEQ = f.seq := State.resume_ckptSeq number
  dsimp only
  rw [started]
  exact ⟨rfl, rfl, rfl, ckpts, rfl, rfl, rfl, resumed, seq,
    (loads.widen.next (u.resume_same f.seq)).next (State.onRill_same _ _)⟩

/-! ### The events shown stay shown (R379) -/

theorem bit_setBit_of_bit {x n m : Nat} (h : bit x m = true) : bit (setBit x n) m = true := by
  simp only [bit, setBit, Nat.testBit_or] at h ⊢
  rw [h, Bool.true_or]

/-- An event hides none of those shown. -/
theorem State.raise_shown (s : State) {n m : Nat} (a b : Nat) (w : List Nat) (z : Bool) (lt : m < 288)
    (shown : evBit s Reg.EV_STATUS m = true) : evBit (s.raise n a b w z) Reg.EV_STATUS m = true := by
  by_cases assigned : eventAssigned n = true
  · by_cases up : s.seq.coreUp = true
    · have below : Reg.EV_STATUS + m / 48 < Reg.REC_SEQ := by simp only [Reg.EV_STATUS, Reg.REC_SEQ]; omega
      have lost : Reg.EV_STATUS + m / 48 ≠ Reg.REC_LOST := by simp only [Reg.EV_STATUS, Reg.REC_LOST]; omega
      have word : (s.raise n a b w z).reg (Reg.EV_STATUS + m / 48)
          = (s.setReg (Reg.EV_STATUS + n / 48) (setBit (s.reg (Reg.EV_STATUS + n / 48)) (n % 48))).reg (Reg.EV_STATUS + m / 48) := by
        unfold State.raise
        simp only [assigned, up, Bool.not_true, Bool.false_eq_true, if_false]
        rw [State.snapshots_reg_ne _ _ _ below]
        repeat' split
        all_goals simp [State.record_reg_ne _ _ _ _ below.ne lost]
      rw [evBit, word]
      by_cases here : m / 48 = n / 48
      · rw [← here, State.reg_setReg_same, evStatus_width lt, bit_mod (Nat.mod_lt _ (by decide))]
        exact bit_setBit_of_bit shown
      · rw [State.reg_setReg_ne _ _ _ _ (by omega)]
        exact shown
    · have rests : (s.raise n a b w z).reg (Reg.EV_STATUS + m / 48) = s.reg (Reg.EV_STATUS + m / 48) := by
        unfold State.raise
        rw [if_neg (by simp [assigned])]
        dsimp only
        rw [if_pos (by simp [up])]
        split
        · exact State.alert_reg _ _ _ _
        · rfl
      rw [evBit, rests]
      exact shown
  · rw [show s.raise n a b w z = s from if_pos (by simpa using assigned)]
    exact shown

/-- What a report writes before its event: no register of EV_STATUS. -/
theorem State.faultParts_reg {n id : Nat} (src : n < 48) (low : Reg.EV_STATUS ≤ id) (high : id < Reg.REC_SEQ) :
    (∀ (s : State) (v : Nat), (s.faultShow n v).reg id = s.reg id) ∧ (∀ (s : State) (j : Bool), (s.faultCount n j).reg id = s.reg id)
      ∧ (∀ (s : State) (v c : Nat) (j f l : Bool), (s.faultRecord n v c j f l).2.reg id = s.reg id)
      ∧ (∀ (s : State) (w : Nat) (l r f : Bool), (s.faultLatch w l r f).reg id = s.reg id)
      ∧ ∀ (s : State) (a : Option Nat), (s.enterFault a).reg id = s.reg id := by
  simp only [Reg.EV_STATUS] at low
  have status : id ≠ Reg.FC_STATUS := by simp only [Reg.FC_STATUS]; omega
  have severity : id ≠ Reg.FC_SEV + n / 16 := by simp only [Reg.FC_SEV]; omega
  have counter : id ≠ Reg.FC_COUNT + n := by simp only [Reg.FC_COUNT]; omega
  have left : id ≠ Reg.FI_REMAINING := by simp only [Reg.FI_REMAINING]; omega
  have first : id ≠ Reg.FC_FIRST := by simp only [Reg.FC_FIRST]; omega
  have full : id ≠ Reg.FC_OVERFLOW := by simp only [Reg.FC_OVERFLOW]; omega
  have fatal : id ≠ Reg.FC_LAST_FATAL := by simp only [Reg.FC_LAST_FATAL]; omega
  have stopped : id ≠ Reg.FC_IN_FAULT := by simp only [Reg.FC_IN_FAULT]; omega
  have lost : id ≠ Reg.REC_LOST := by simp only [Reg.REC_SEQ, Reg.REC_LOST] at high ⊢; omega
  refine ⟨fun s v => ?_, fun s j => ?_, fun s v c j f l => ?_, fun s w l r f => ?_, fun s a => ?_⟩
  · have set : (s.fcSet n v).reg id = s.reg id := by
      unfold State.fcSet
      dsimp only
      split
      · exact (State.reg_setReg_ne _ _ _ _ severity).trans (State.reg_setReg_ne _ _ _ _ status)
      · exact State.reg_setReg_ne _ _ _ _ status
    unfold State.faultShow
    split
    · exact set
    · split <;> rfl
  · unfold State.faultCount
    split
    · exact (State.reg_setReg_ne _ _ _ _ left).trans (s.reg_addReg_ne _ _ _ counter)
    · exact s.reg_addReg_ne _ _ _ counter
  · unfold State.faultRecord
    dsimp only
    repeat' split
    · exact s.record_reg_ne _ _ _ high.ne lost
    all_goals rfl
  · unfold State.faultLatch
    repeat' split
    all_goals simp [State.reg_setReg_ne _ _ _ _ first, State.reg_setReg_ne _ _ _ _ full, State.reg_setReg_ne _ _ _ _ fatal]
  · simp [State.enterFault, State.reg_setReg_ne _ _ _ _ stopped]

/-- A report ends with its event, or without one, in a state with EV_STATUS as before. -/
theorem State.fault_ends (s : State) {n id : Nat} (v : Sev) (c : Nat) (j : Bool) (w : List Nat) (src : n < 48)
    (low : Reg.EV_STATUS ≤ id) (high : id < Reg.REC_SEQ) :
    ∃ u : State, u.reg id = s.reg id ∧ (s.fault n v c j w = u ∨ ∃ a b, s.fault n v c j w = u.raise n a b w) := by
  obtain ⟨shows, counts, records, latches, enters⟩ := State.faultParts_reg src low high
  have ends (P : Prop) (_ : Decidable P) (u : State) (a b : Nat) (kept : u.reg id = s.reg id) : ∃ v : State,
      v.reg id = s.reg id ∧ ((if P then u.raise n a b w else u) = v ∨ ∃ c d, (if P then u.raise n a b w else u) = v.raise n c d w) := by
    split
    · exact ⟨u, kept, .inr ⟨a, b, rfl⟩⟩
    · exact ⟨u, kept, .inl rfl⟩
  unfold State.fault
  dsimp only
  refine ends _ _ _ _ _ ?_
  repeat' split
  all_goals simp [shows, counts, records, latches, enters]

/-- A report hides no event shown. -/
theorem State.fault_shown (s : State) {n m : Nat} (v : Sev) (c : Nat) (j : Bool) (w : List Nat) (src : n < 48) (lt : m < 288)
    (shown : evBit s Reg.EV_STATUS m = true) : evBit (s.fault n v c j w) Reg.EV_STATUS m = true := by
  obtain ⟨u, kept, ends⟩ := s.fault_ends (id := Reg.EV_STATUS + m / 48) v c j w src (Nat.le_add_right _ _)
    (by simp only [Reg.EV_STATUS, Reg.REC_SEQ]; omega)
  have before : evBit u Reg.EV_STATUS m = true := by
    rw [evBit, kept]
    exact shown
  obtain same | ⟨a, b, raised⟩ := ends
  · rwa [same]
  · rw [raised]
    exact u.raise_shown a b w _ lt before

theorem evBit_of_reg {s t : State} {m : Nat} (h : t.reg (Reg.EV_STATUS + m / 48) = s.reg (Reg.EV_STATUS + m / 48))
    (shown : evBit s Reg.EV_STATUS m = true) : evBit t Reg.EV_STATUS m = true := by
  rw [evBit, h]
  exact shown

/-- What the end of a load leaves: the Rill running with the maps loaded, and the events shown. -/
structure State.LoadEnds (s t : State) : Prop where
  same : s.SameBut t [.out, .regs, .freeCtr, .rec_, .fc, .port, .mir, .rill, .whl, .res]
  rill : ∃ runs, t.rill = { s.rill.started with runs := runs }
  shown : ∀ m < 288, evBit s Reg.EV_STATUS m = true → evBit t Reg.EV_STATUS m = true

theorem State.seqLow_same (s : State) : s.SameBut s.seqLow [.out, .regs, .freeCtr, .rec_, .fc, .port, .mir] :=
  (s.fault_same _ _ _ _ _).widen.next (State.raise_same _ _ _ _ _ _)

theorem State.seqLow_shown (s : State) {m : Nat} (lt : m < 288) (shown : evBit s Reg.EV_STATUS m = true) :
    evBit s.seqLow Reg.EV_STATUS m = true :=
  State.raise_shown _ _ _ _ _ lt (s.fault_shown _ _ _ _ (by decide) lt shown)

theorem State.endLoad_ends (s : State) : s.LoadEnds s.endLoad := by
  unfold State.endLoad
  extract_lets t
  have low : s.LoadEnds t := by
    dsimp only [t]
    split
    · have rill : s.seqLow.rill = s.rill := s.seqLow_same .rill (by decide)
      exact ⟨s.seqLow_same.widen.next (State.onRill_same _ _), ⟨s.rill.runs, by rw [State.onRill_rill, rill]; rfl⟩,
        fun m lt shown => evBit_of_reg (State.reg_of_regs (State.onRill_regs _ _) _) (s.seqLow_shown lt shown)⟩
    · exact ⟨(s.onRill_same _).widen, ⟨_, rfl⟩, fun _ _ => id⟩
  split
  · exact low
  · obtain ⟨same, -, ⟨runs, rill⟩, regs⟩ := t.eraseDead_erases
    obtain ⟨before, ⟨runs', rill'⟩, shown⟩ := low
    refine ⟨before.next same, ⟨runs, by rw [rill, rill']⟩, fun m lt is => ?_⟩
    exact evBit_of_reg (regs _ (by simp only [Reg.EV_STATUS, Reg.REFRESH_COUNT]; omega)) (shown m lt is)

theorem mapLoad_scans {badC : List Nat} {s : State} (loading : s.rill.state = .loading) (serving : s.whl.state = .serving)
    (running : s.res.state = .running) (ckpts : s.rill.ckpts = []) (runs : s.rill.runs = []) (core : s.seq.coreUp = true) :
    Answers (.mapLoad badC []) s fun t =>
      t.rill.state = .running ∧ t.rill.large = [] ∧ t.rill.fine = [] ∧ evBit t Reg.EV_STATUS Ev.MAP_SCAN = true
        ∧ t.mem = s.mem ∧ t.dev = s.dev := by
  refine ⟨_, exec_mapLoad badC [] loading serving running, ?_⟩
  rw [State.loadMaps_none (s := s.begin) ckpts runs]
  have told : evBit ((s.begin.fault Src.MAP_ENGINE .degraded).raise Ev.MAP_SCAN) Reg.EV_STATUS Ev.MAP_SCAN = true :=
    State.raise_status _ _ _ _ _ (by decide) (by rw [State.fault_seq]; exact core)
  have reports : s.SameBut ((s.begin.fault Src.MAP_ENGINE .degraded).raise Ev.MAP_SCAN) [.out, .regs, .freeCtr, .rec_, .fc, .port, .mir] :=
    (s.begin_same.widen.next (State.fault_same _ _ _ _ _ _)).next (State.raise_same _ _ _ _ _ _)
  generalize (s.begin.fault Src.MAP_ENGINE .degraded).raise Ev.MAP_SCAN = u at told reports
  generalize maxOf _ = top
  have resumes := (u.onRill fun x => { x with large := [], fine := [] }).resume_same top
  have shows : evBit ((u.onRill fun x => { x with large := [], fine := [] }).resume top) Reg.EV_STATUS Ev.MAP_SCAN = true :=
    evBit_of_reg (State.resume_reg _ _ (by decide)) told
  have rill : ((u.onRill fun x => { x with large := [], fine := [] }).resume top).rill = { u.rill with large := [], fine := [] } :=
    resumes .rill (by decide)
  have before : s.SameBut ((u.onRill fun x => { x with large := [], fine := [] }).resume top)
      [.out, .regs, .freeCtr, .rec_, .fc, .port, .mir, .rill] := (reports.widen.next (State.onRill_same _ _)).next resumes
  generalize (u.onRill fun x => { x with large := [], fine := [] }).resume top = v at shows rill before
  obtain ⟨same, ⟨runs', ends⟩, shown⟩ := v.endLoad_ends
  have after := before.widen.trans same
  dsimp only
  rw [ends, rill]
  exact ⟨rfl, rfl, rfl, shown _ (by decide) shows, after .mem (by decide), after .dev (by decide)⟩

/-! ### The statement -/

theorem relocation_keeps {c : Instr} {s : State} (h : c = .fineMapMerge ∨ c = .migration ∨ c = .garbageCollection) :
    Answers c s fun t =>
      (s.rill.captures = [] → t.rill.large = s.rill.large ∧ t.rill.fine = s.rill.fine ∧ t.rill.captures = []
          ∧ t.basin = s.basin ∧ t.weir = s.weir)
        ∧ (∀ q ∈ s.rill.relocs, ∃ q' ∈ t.rill.relocs, q'.kind = q.kind ∧ q'.seg = q.seg ∧ q'.copy = q.copy ∧ q'.src = q.src)
        ∧ s.SameBut t [.out, .regs, .freeCtr, .rec_, .fc, .port, .mir, .nv, .rill, .whl, .res, .basin, .weir, .spill, .sip] :=
  (relocation_works h).imp fun t works => ⟨fun none => by
    obtain ⟨captures, large, fine, basin, weir⟩ := works.idle none
    exact ⟨large, fine, captures, basin, weir⟩, works.relocs, s.begin_same.widen.next works.same⟩

/-- Settles O20: placing and closing map nothing where no capture is in flight and leave every relocation listed; the end of a
merge, a checkpoint and a load are each followed through what is erased and reported after them. -/
theorem rill_relocations : Obligations.Rill_relocations := by
  unfold Obligations.Rill_relocations
  exact ⟨fun c s => relocation_keeps,
    fun s u g spans r gates relocates merging next placed => fineMapMerge_merges gates relocates merging next placed,
    fun s q l up loaded live next merge seg loc => relocationComplete_merges up loaded live next merge seg loc,
    fun s up loaded live waits => relocationComplete_waits up loaded live waits,
    fun p s spans r running live whole due placed old fits => checkpointWrite_writes running live whole due placed old fits,
    fun p s _ _ _ early => checkpointWrite_rests early,
    fun badC badU s up loaded live core => mapReload_starts up loaded live core,
    fun badC badU s up loaded reloading => mapReload_ends up loaded reloading,
    fun badC s f loading serving running ckpts full epoch good runs manifests clean number below =>
      mapLoad_loads loading serving running ckpts full epoch good runs manifests clean number below,
    fun badC s loading serving running ckpts runs core => mapLoad_scans loading serving running ckpts runs core⟩

end Sys2Proof.Machine
end

section
/-! PROOFS. Journalled commands, and what replies leave of the Rill's registers (O21). -/

namespace Sys2Proof.Machine

/-! ### The end of a command (R424, R430, R432) -/

theorem rillRegs_bounds : ∀ id ∈ rillRegs, Reg.GLOBAL_COUNTER + 11 ≤ id ∧ id < Reg.TRANSPORT_COUNT := by decide

theorem State.countStatus_tends (s : State) (tr st : Nat) : s.Tends (s.countStatus tr st) := by
  have counted (u : State) {i : Nat} (low : i < 11) : u.Tends (u.addReg (Reg.GLOBAL_COUNTER + i) 1) :=
    u.addReg_tends 1 fun mem => by have := (rillRegs_bounds _ mem).1; omega
  have carried (u : State) (i : Nat) : u.Tends (u.addReg (Reg.TRANSPORT_COUNT + i) 1) :=
    u.addReg_tends 1 fun mem => by have := (rillRegs_bounds _ mem).2; omega
  unfold State.countStatus
  split
  · exact (counted s (i := 0) (by decide)).trans (carried _ _)
  · split
    · rename_i refused
      rw [Nat.add_sub_assoc (by omega), add_assoc]
      exact (counted s (by omega)).trans (carried _ _)
    · exact .refl s

theorem State.sendReply_tends (s : State) (o : Owed) (st cs d : Nat) (l : List Nat) : s.Tends (s.sendReply o st cs d l) := by
  have counted : s.Tends (s.countStatus o.origin.transport st) := s.countStatus_tends _ _
  have emitted (u : State) (x : Out) : u.Tends (u.emit x) := .of_same (u.emit_same x)
  unfold State.sendReply
  dsimp only
  exact .ite counted (.ite ((counted.trans (emitted _ _)).trans (.of_same (State.sendReplyMsg_same _ _ _ _ _)))
    (counted.trans (emitted _ _)))

theorem State.mirror_tends (s : State) (n : Nat) : s.Tends (s.mirror n) := by
  unfold State.mirror
  split
  · exact .ite (s.nvDurable_tends _) (.refl s)
  · exact .refl s

theorem State.journalDone_tends (s : State) (a b c : Nat) : s.Tends (s.journalDone a b c) := .of_same (s.onCmd_same _)

theorem State.settle_tends (s : State) (o : Owed) (st d : Nat) (l : List Nat) : s.Tends (s.settle o st d l) := by
  have paid (f : Cmd → Cmd) : s.Tends (s.onCmd f) := .of_same (s.onCmd_same f)
  exact (((paid _).trans (State.journalDone_tends _ _ _ _)).trans (State.mirror_tends _ _)).trans (State.sendReply_tends _ _ _ _ _ _)

/-- What a command's end writes. -/
def settleParts : List Part := [.out, .regs, .freeCtr, .rec_, .fc, .port, .mir, .nv, .cmd]

theorem State.settle_same (s : State) (o : Owed) (st d : Nat) (l : List Nat) : s.SameBut (s.settle o st d l) settleParts :=
  ((((s.onCmd_same _).widen.next (State.onCmd_same _ _)).trans (State.mirror_noted _ _).same.widen).next
    (State.sendReply_same _ _ _ _ _ _))

/-- The reply to a command whose entry is the newest goes out as it is owed. -/
theorem State.settle_replies {s : State} {o : Owed} (st d : Nat) (l : List Nat) (newest : ∀ q ∈ s.cmd.owed, q.cseq < o.cseq)
    (keep : o.discard = false) (tr : o.origin.transport < 5) :
    .reply o.origin o.opcode o.tag st o.cseq d l ∈ (s.settle o st d l).out := by
  have none : (s.cmd.owed.find? fun q => q.cseq == o.cseq) = none :=
    List.find?_eq_none.mpr fun q mem => by simpa using (newest q mem).ne
  unfold State.settle
  dsimp only
  rw [none, Option.getD_none]
  exact State.sendReply_mem _ _ _ _ _ _ keep tr

/-! ### Journalled commands (R424, R430, R432) -/

/-- A journalled command's entry is added, and mirrored where it is marked P. -/
structure State.Taken (s t : State) : Prop where
  noted : s.Noted t
  tends : s.Tends t
  cseq : t.cmd.cseq = s.cmd.cseq + 1
  owed : t.cmd.owed = s.cmd.owed

theorem State.mirror_cmd (s : State) (n : Nat) : (s.mirror n).cmd = s.cmd := by
  unfold State.mirror
  split
  · split
    · exact s.nvDurable_same _ .cmd (by decide)
    · rfl
  · rfl

theorem State.journalled_taken (s : State) {e : JEntry} (next : e.cseq = s.cmd.cseq + 1) :
    s.Taken ((s.journalAdd e).mirror e.cseq) where
  noted := (s.journalAdd_noted e).trans (State.mirror_noted _ _)
  tends := (State.Tends.of_same (s.onCmd_same _)).trans (State.mirror_tends _ _)
  cseq := by
    rw [State.mirror_cmd, State.journalAdd, State.onCmd_cmd]
    exact next
  owed := by rw [State.mirror_cmd, State.journalAdd, State.onCmd_cmd]

/-- A command's end: its reply is owed, or it is settled. -/
def Done.ends (d : Done) (o : Owed) : State :=
  if d.later then d.s.onCmd fun x => { x with owed := x.owed ++ [o] } else d.s.settle o d.status d.detail d.slots

/-- A journalled command that firmware accepts runs its body with its entry taken, and ends. -/
theorem State.vendor_of_journal {v : VSpec} {p : Pkt} {s : State} (h : Accepted v p s) (hs : v.status = false)
    (hj : v.journal = true) (hg : v.inGroup = false) (body : Owed → State → Done) :
    ∃ u, s.Taken u ∧ s.vendor v p body
      = (body (pktOwed p v.op (s.cmd.cseq + 1)) u).ends (pktOwed p v.op (s.cmd.cseq + 1)) := by
  have mail := h.mail
  obtain ⟨hr, hf, ⟨hshort, hcar, hmod, hlen⟩, -, htr, hfree, hfresh, -, hok, hfields, hquiet⟩ := h
  have len : ¬ 4088 < p.length := by omega
  have free : (s.cmd.owed.any fun q => decide (q.origin = (pktOwed p v.op 0).origin) && q.opcode != 0xC313) = false := by
    refine List.any_eq_false.mpr fun q mem => ?_
    have other := hfree.resolve_left (by simp [hs]) q mem
    simp [other]
  have quiet : (v.persist s p && decide (s.nv.state = .quiet)) = false := by
    cases marked : v.persist s p
    · rfl
    · simp [hquiet marked]
  refine ⟨_, s.journalled_taken (e := s.entryOf p v.op (v.persist s p)) rfl, ?_⟩
  have cseq : (s.entryOf p v.op (v.persist s p)).cseq = s.cmd.cseq + 1 := rfl
  unfold State.vendor Done.ends
  simp only [hr, hf, hshort, hcar, hmod, hfresh, hok, hfields, hj, hs, hg, free, htr, mail, quiet, len, cseq,
    bne_self_eq_false, Bool.not_true, Bool.not_false, Bool.and_false, Bool.true_and, Bool.or_false, if_true, if_false,
    List.contains_iff_mem.mpr, Bool.false_eq_true, decide_false]

end Sys2Proof.Machine
end

section
/-! PROOFS. REFORMAT and the endurance figures (O21). -/

namespace Sys2Proof.Machine

/-! ### REFORMAT (R142) -/

theorem State.view_oldWheels (s : State) :
    s.view Reg.FORMAT_OLD_WHEELS = oldWheels s.whl s.rill (s.reg Reg.FORMAT_EPOCH) % 2 ^ paramWidth Reg.FORMAT_OLD_WHEELS := rfl

theorem HostPort.committed_of_bare {h k : HostPort} (e : k.bare = h.bare) : k.committed = h.committed :=
  (congrArg HostPort.committed e :)

/-- The state in which a command's body runs shows the body what the state before the command does. -/
theorem State.Taken.oldWheels {s t : State} (h : s.Taken t) : t.view Reg.FORMAT_OLD_WHEELS = s.view Reg.FORMAT_OLD_WHEELS := by
  have whl : t.whl = s.whl := h.noted.same .whl (by decide)
  have rill : t.rill = s.rill := h.noted.same .rill (by decide)
  rw [State.view_oldWheels, State.view_oldWheels, h.tends.regs _ (by decide), whl, rill]

theorem State.Taken.committed {s t : State} (h : s.Taken t) : t.port.committed = s.port.committed :=
  HostPort.committed_of_bare h.noted.bare

/-- The Rill begins the flush that a command asked for. -/
def State.flushBegins (s : State) (k : FlushFor) (o : Owed) : State :=
  (s.onRill fun x => { x with state := .flushing }).onSeq fun x => { x with flush := some (k, some o) }

theorem State.flushBegins_same (s : State) (k : FlushFor) (o : Owed) : s.SameBut (s.flushBegins k o) [.rill, .seq] :=
  (s.onRill_same _).widen.next (State.onSeq_same _ _)

/-- REFORMAT's own effect. -/
def reformatBody (o : Owed) (s : State) : Done :=
  if s.port.committed ∨ s.view Reg.FORMAT_OLD_WHEELS ≠ 0 ∨ s.rill.state ≠ .running ∨ s.seq.flush.isSome then
    { s := s, status := St.INVALID_STATE }
  else { s := s.flushBegins .reformat o, later := true }

theorem runReformat_runs {p : Pkt} {s : State} (accepted : Accepted specReformat p s) : ∃ u, s.Taken u
    ∧ runReformat p s = (reformatBody (pktOwed p 0xC230 (s.cmd.cseq + 1)) u).ends (pktOwed p 0xC230 (s.cmd.cseq + 1)) :=
  State.vendor_of_journal accepted rfl rfl rfl reformatBody

/-- A REFORMAT that its conditions admit begins the flush and owes its reply. -/
theorem runReformat_starts {p : Pkt} {s : State} (accepted : Accepted specReformat p s) (free : s.port.committed = false)
    (old : s.view Reg.FORMAT_OLD_WHEELS = 0) (running : s.rill.state = .running) (idle : s.seq.flush = none) :
    ∃ u, s.Taken u ∧ runReformat p s = (u.flushBegins .reformat (pktOwed p 0xC230 (s.cmd.cseq + 1))).onCmd fun x =>
      { x with owed := x.owed ++ [pktOwed p 0xC230 (s.cmd.cseq + 1)] } := by
  obtain ⟨u, taken, run⟩ := runReformat_runs accepted
  have rill : u.rill = s.rill := taken.noted.same .rill (by decide)
  have seq : u.seq = s.seq := taken.noted.same .seq (by decide)
  have admitted : ¬(u.port.committed = true ∨ u.view Reg.FORMAT_OLD_WHEELS ≠ 0 ∨ u.rill.state ≠ .running
      ∨ u.seq.flush.isSome = true) := by
    simp [taken.committed, taken.oldWheels, free, old, rill, running, seq, idle]
  rw [reformatBody, if_neg admitted] at run
  exact ⟨u, taken, run⟩

/-- A REFORMAT with a decoder committed settles as INVALID_STATE. -/
theorem runReformat_refuses {p : Pkt} {s : State} (accepted : Accepted specReformat p s) (committed : s.port.committed = true) :
    ∃ u, s.Taken u ∧ runReformat p s = u.settle (pktOwed p 0xC230 (s.cmd.cseq + 1)) St.INVALID_STATE 0 [] := by
  obtain ⟨u, taken, run⟩ := runReformat_runs accepted
  rw [reformatBody, if_pos (Or.inl (taken.committed.trans committed))] at run
  exact ⟨u, taken, run⟩

theorem reformat_starts {p : Pkt} {s : State} (accepted : Accepted specReformat p s) (free : s.port.committed = false)
    (old : s.view Reg.FORMAT_OLD_WHEELS = 0) (running : s.rill.state = .running) (idle : s.seq.flush = none) :
    Answers (.reformat p) s fun t =>
      t.rill = { s.rill with state := .flushing } ∧ t.cmd.cseq = s.cmd.cseq + 1
        ∧ t.seq.flush = some (.reformat, some (pktOwed p 0xC230 (s.cmd.cseq + 1)))
        ∧ t.cmd.owed = s.cmd.owed ++ [pktOwed p 0xC230 (s.cmd.cseq + 1)]
        ∧ s.SameBut t [.out, .regs, .freeCtr, .rec_, .fc, .port, .mir, .nv, .cmd, .rill, .seq] := by
  obtain ⟨u, ⟨noted, -, cseq, owed⟩, run⟩ := runReformat_starts (accepted.begin rfl rfl) free old running idle
  have rill : u.rill = s.rill := noted.same .rill (by decide)
  refine ⟨_, congrArg after run, congrArg (fun x : Rill => { x with state := .flushing }) rill, cseq, rfl, ?_, ?_⟩
  · exact congrArg (· ++ [pktOwed p 0xC230 (s.cmd.cseq + 1)]) owed
  · exact ((s.begin_same.widen.next noted.same).next (State.flushBegins_same _ _ _)).next (State.onCmd_same _ _)

theorem reformat_refused {p : Pkt} {s : State} (accepted : Accepted specReformat p s) (committed : s.port.committed = true) :
    Runs .reformat specReformat p s St.INVALID_STATE [] fun t => s.SameBut t settleParts := by
  obtain ⟨u, ⟨noted, -, -, owed⟩, run⟩ := runReformat_refuses (accepted.begin rfl rfl) committed
  have carried : p.transport < 5 := by
    have listed := accepted.transport
    simp only [specReformat, List.mem_cons, List.not_mem_nil, or_false] at listed
    omega
  have newest : ∀ q ∈ u.cmd.owed, q.cseq < s.cmd.cseq + 1 := fun q mem =>
    Nat.lt_succ_of_le (accepted.older.1 q (owed ▸ mem))
  exact ⟨_, congrArg after run, ⟨_, _, State.settle_replies (o := pktOwed p 0xC230 (s.cmd.cseq + 1)) _ _ _ newest rfl carried⟩,
    (s.begin_same.widen.next noted.same).next (u.settle_same _ _ _ _)⟩

/-! ### The endurance figures (R154, R162, R163) -/

/-- A step that writes what reports write, and keeps ENDUR_LIFE_USED. -/
structure State.KeepsUsed (s t : State) : Prop where
  same : s.SameBut t reportParts
  used : t.reg Reg.ENDUR_LIFE_USED = s.reg Reg.ENDUR_LIFE_USED

theorem State.KeepsUsed.trans {s t u : State} (h : s.KeepsUsed t) (k : t.KeepsUsed u) : s.KeepsUsed u :=
  ⟨h.same.trans k.same, k.used.trans h.used⟩

theorem State.KeepsUsed.ite {c : Prop} [Decidable c] {s t u : State} (h : s.KeepsUsed t) (k : s.KeepsUsed u) :
    s.KeepsUsed (if c then t else u) := by
  split <;> assumption

theorem State.KeepsUsed.refl (s : State) : s.KeepsUsed s := ⟨.refl _ _, rfl⟩

theorem State.setReg_keepsUsed (s : State) {id : Nat} (v : Nat) (other : Reg.ENDUR_LIFE_USED ≠ id) : s.KeepsUsed (s.setReg id v) :=
  ⟨(s.setReg_same id v).widen, s.reg_setReg_ne _ _ _ other⟩

theorem State.putReg_keepsUsed (s : State) {id : Nat} (v : Nat) (other : Reg.ENDUR_LIFE_USED ≠ id) : s.KeepsUsed (s.putReg id v) :=
  ⟨(s.putReg_same id v).widen, s.reg_putReg_ne _ _ _ other⟩

theorem State.fault_keepsUsed (s : State) (n : Nat) (v : Sev) : s.KeepsUsed (s.fault n v) :=
  ⟨(s.fault_same _ _ _ _ _).widen, s.fault_reg_below _ _ _ _ _ (by decide)⟩

theorem State.raise_keepsUsed (s : State) (n : Nat) : s.KeepsUsed (s.raise n) :=
  ⟨(s.raise_same _ _ _ _ _).widen, s.raise_reg _ _ _ _ _ _ (by decide)⟩

theorem State.begin_peAvg (s : State) : s.begin.view Reg.ENDUR_PE_AVG = s.view Reg.ENDUR_PE_AVG := by
  have view (u : State) : u.view Reg.ENDUR_PE_AVG = (16 * u.res.peAvg).floor.toNat % 2 ^ paramWidth Reg.ENDUR_PE_AVG := rfl
  rw [view, view]
  rfl

theorem State.begin_peBudget (s : State) : s.begin.view Reg.ENDUR_PE_BUDGET = s.view Reg.ENDUR_PE_BUDGET := by
  have view (u : State) : u.view Reg.ENDUR_PE_BUDGET = (16 * u.peBudget).floor.toNat % 2 ^ paramWidth Reg.ENDUR_PE_BUDGET := rfl
  rw [view, view]
  rfl

theorem enduranceDaily_tells {s : State} (up : s.rill.state ≠ .down) (loaded : s.rill.state ≠ .loading) :
    Answers .enduranceDaily s fun t =>
      t.reg Reg.ENDUR_LIFE_USED
          = Nat.min 255 (ceilDiv (100 * s.view Reg.ENDUR_PE_AVG) (Nat.max 1 (s.view Reg.ENDUR_PE_BUDGET)))
        ∧ t.rill.peHistory = (s.view Reg.ENDUR_PE_AVG :: s.rill.peHistory).take 31 ∧ t.rill.gcNative = 0 ∧ t.rill.gcHost = 0
        ∧ t.rill.large = s.rill.large ∧ t.rill.fine = s.rill.fine
        ∧ s.SameBut t [.out, .regs, .freeCtr, .rec_, .fc, .port, .mir, .rill] := by
  refine ⟨_, congrArg after (if_neg (not_or.mpr ⟨up, loaded⟩)), ?_⟩
  extract_lets avg budget day hist rate proj total target w s1 s2 s3 days nat hst s4 s5 s6
  have before : s.SameBut s2 reportParts := by
    have projected : s.begin.KeepsUsed s1 := .ite (State.putReg_keepsUsed _ _ (by decide)) (State.putReg_keepsUsed _ _ (by decide))
    exact (s.begin_same.widen.trans projected.same).next (s1.setReg_same _ _)
  have figures : s2.KeepsUsed s4 := (s2.setReg_keepsUsed _ (by decide)).trans (.ite (.refl _) (s3.putReg_keepsUsed _ (by decide)))
  have reports : s5.KeepsUsed s6 := .ite ((s5.fault_keepsUsed _ _).trans (State.raise_keepsUsed _ _)) (.refl s5)
  have warned : s6.KeepsUsed (if budget ≤ avg then s6.fault Src.RILL .degraded else s6) := .ite (s6.fault_keepsUsed _ _) (.refl s6)
  have after := reports.trans warned
  have low : Nat.min 255 (ceilDiv (100 * avg) (Nat.max 1 budget)) < 2 ^ paramWidth Reg.ENDUR_LIFE_USED :=
    Nat.lt_of_le_of_lt (Nat.min_le_left _ _) (by decide +kernel)
  have used : s5.reg Reg.ENDUR_LIFE_USED = Nat.min 255 (ceilDiv (100 * avg) (Nat.max 1 budget)) :=
    figures.used.trans (s1.reg_setReg _ _ low)
  have rill : s4.rill = s.rill := (before.trans figures.same) .rill (by decide)
  have ends := after.same .rill (by decide)
  dsimp only
  rw [ends, State.onRill_rill, rill, ← s.begin_peAvg, ← s.begin_peBudget]
  exact ⟨after.used.trans used, rfl, rfl, rfl, rfl, rfl,
    ((before.widen.next figures.same).next (s4.onRill_same _)).next after.same⟩

end Sys2Proof.Machine
end

section
/-! PROOFS. The clean seal (O21). -/

namespace Sys2Proof.Machine

/-! ### Pointer records on device A (R197, R399, R402) -/

/-- A pointer record stands on device A. -/
def NvStore.Holds (v : NvStore) (p : PointerRec) : Prop := ∃ r ∈ v.a, r.data = .pointer p

theorem NvStore.Holds.goes {v w : NvStore} {p : PointerRec} (h : v.Holds p) (goes : v.Goes w) : w.Holds p := by
  obtain ⟨r, mem, data⟩ := h
  exact ⟨r, goes.pointers r mem ⟨p, data⟩, data⟩

theorem NvStore.durable_holds {v : NvStore} (up : v.downA = false) (p : PointerRec) (g : Option Nat) (last : Bool) :
    (v.durable (.pointer p) g last).Holds p := by
  have made : (v.make (.pointer p) g last).2.downA = false := (v.make_goes _ g last).downA.trans up
  unfold NvStore.durable
  dsimp only
  rw [if_neg (by simp [made])]
  split
  all_goals exact ⟨_, List.mem_append_right _ (List.mem_singleton_self _), rfl⟩

theorem NvStore.durableGroup_holds {v : NvStore} (up : v.downA = false) {p : PointerRec} {ds : List NvData} (mem : .pointer p ∈ ds) :
    (v.durableGroup ds).Holds p := by
  have all (first : Nat) (f : NvData × Nat → Bool) : ∀ (l : List (NvData × Nat)) (v : NvStore), v.downA = false →
      v.Goes (l.foldl (fun v q => v.durable q.1 (some first) (f q)) v)
        ∧ ∀ i, (.pointer p, i) ∈ l → (l.foldl (fun v q => v.durable q.1 (some first) (f q)) v).Holds p := by
    intro l
    induction l with
    | nil => exact fun v _ => ⟨.refl v, fun _ here => absurd here List.not_mem_nil⟩
    | cons q l ih =>
      intro v up
      have step := v.durable_goes q.1 (some first) (f q)
      obtain ⟨goes, holds⟩ := ih _ (step.downA.trans up)
      refine ⟨step.trans goes, fun i here => ?_⟩
      obtain rfl | later := List.mem_cons.mp here
      · exact (NvStore.durable_holds up p _ _).goes goes
      · exact holds i later
  obtain ⟨i, low, here⟩ := List.mem_iff_getElem.mp mem
  exact (all _ _ _ v up).2 i (List.mk_mem_zipIdx_iff_getElem?.mpr (List.getElem?_eq_some_iff.mpr ⟨low, here⟩))

theorem State.nvDurable_holds {s : State} (running : s.nv.state = .running) (up : s.nv.downA = false) (p : PointerRec) :
    (s.nvDurable (.pointer p)).nv.Holds p := by
  unfold State.nvDurable State.nvPut
  rw [if_neg (by simp [running]), if_neg (by simp [running]), if_neg (by simp [NvStore.refuses, NvData.inVault, NvData.type])]
  exact NvStore.durable_holds up p _ _

theorem State.nvGroup_holds {s : State} (running : s.nv.state = .running) (up : s.nv.downA = false) {p : PointerRec}
    {ds : List NvData} (mem : .pointer p ∈ ds) : (s.nvGroup ds).nv.Holds p := by
  unfold State.nvGroup
  rw [running]
  exact NvStore.durableGroup_holds up mem

theorem State.record_tends (s : State) (t : RecType) (e : Nat) (l : List Nat) : s.Tends (s.record t e l).2 :=
  .of_regs (s.record_same t e l) fun id low => s.record_reg t e l id (rillRegs_quiet low)

theorem State.setShutdown_tends (s : State) (v : Shut) (m : Nat) : s.Tends (s.setShutdown v m) := by
  unfold State.setShutdown
  dsimp only
  have shown (e : Nat) (l : List Nat) : s.Tends ((s.record .shutdown e l).2.setReg Reg.SHUTDOWN_RECORD v.code) :=
    (s.record_tends _ e l).trans (State.setReg_tends _ _ (by decide))
  exact .ite (shown _ _) ((shown _ _).trans (State.raise_tends _ _ _ _ _ _))

/-! ### The clean seal (R348, R352) -/

/-- What the clean seal of a state may change. -/
def sealParts : List Part := [.cmd, .seq] ++ closeParts

/-- The clean pointer record of a state. -/
def State.cleanPtr (s : State) : PointerRec := { manifestSeq := s.reg Reg.MANIFEST_SEQ, closed := true, shutdown := .clean }

/-- The Rill stopped, the block table copied and the port sealed. -/
def State.stopSealed (s : State) : State :=
  ((s.onRill fun x => { x with state := .stopped }).onRes fun r => { r with snapshot := r.blocks }).onPort fun h =>
    { h with sealed := true }

theorem State.stopSealed_same (s : State) : s.SameBut s.stopSealed [.rill, .res, .port] :=
  ((s.onRill_same _).widen.next (State.onRes_same _ _)).next (State.onPort_same _ _)

/-- The clean seal once its checkpoint is written. -/
def State.sealOff (s : State) : State :=
  ((s.stopSealed.pointerRec s.cleanPtr).setReg Reg.SERVICE_OPEN 0).onSeq fun x => { x with flush := none }

theorem State.cleanSeal_eq (s : State) : s.cleanSeal = (s.checkpoint true).sealOff := rfl

theorem State.pointerRec_noted (s : State) (p : PointerRec) : s.Noted (s.pointerRec p) :=
  (s.nvDurable_noted _).trans (State.setShutdown_noted _ _ _)

theorem State.pointerRec_tends (s : State) (p : PointerRec) : s.Tends (s.pointerRec p) :=
  (s.nvDurable_tends _).trans (State.setShutdown_tends _ _ _)

theorem State.pointerRec_holds {s : State} (running : s.nv.state = .running) (up : s.nv.downA = false) (p : PointerRec) :
    (s.pointerRec p).nv.Holds p :=
  (State.nvDurable_holds running up p).goes (State.setShutdown_tends _ _ _).nv

theorem State.sealOff_same (s : State) : s.SameBut s.sealOff sealParts :=
  ((s.stopSealed_same.widen.next (State.pointerRec_noted _ _).same).next (State.setReg_same _ _ _)).next (State.onSeq_same _ _)

theorem State.sealOff_flush (s : State) : s.sealOff.seq.flush = none := by
  rw [State.sealOff, State.onSeq_seq]

theorem State.sealOff_ckpts (s : State) : s.sealOff.rill.ckpts = s.rill.ckpts := by
  have rill : (s.stopSealed.pointerRec s.cleanPtr).rill = s.stopSealed.rill := (State.pointerRec_noted _ _).same .rill (by decide)
  rw [State.sealOff, State.onSeq_rill, State.setReg_rill, rill]
  rfl

theorem State.sealOff_holds {s : State} (running : s.nv.state = .running) (up : s.nv.downA = false) : s.sealOff.nv.Holds s.cleanPtr := by
  have nv : s.stopSealed.nv = s.nv := s.stopSealed_same .nv (by decide)
  rw [State.sealOff, State.onSeq_nv, State.setReg_nv]
  exact State.pointerRec_holds (by rwa [nv]) (by rwa [nv]) _

theorem State.sealOff_epoch (s : State) : s.sealOff.reg Reg.FORMAT_EPOCH = s.reg Reg.FORMAT_EPOCH := by
  rw [State.sealOff, State.onSeq_reg, State.reg_setReg_ne _ _ _ _ (by decide), (State.pointerRec_tends _ _).regs _ (by decide)]
  exact State.reg_of_regs (s.stopSealed_same .regs (by decide)) _

/-- A sealed state: no flush left, a full checkpoint with the next CKPT_SEQ and the maps, a clean pointer record. -/
structure State.CleanSealed (s t : State) : Prop where
  same : s.SameBut t sealParts
  flush : t.seq.flush = none
  ckpt : ∃ c ∈ t.rill.ckpts, c.full = true ∧ c.seq = s.reg Reg.CKPT_SEQ + 1 ∧ c.large = s.rill.large ∧ c.fine = s.rill.fine
  pointer : t.nv.Holds s.cleanPtr
  epoch : t.reg Reg.FORMAT_EPOCH = s.reg Reg.FORMAT_EPOCH

theorem State.cleanSeal_seals {s r : State} {spans : List (Nat × Nat × Nat)} (captures : s.rill.captures = [])
    (running : s.nv.state = .running) (up : s.nv.downA = false)
    (placed : State.placeWait .c s.ckptUnits s.ckptUnits s [] = some (spans, r))
    (old : ∀ c ∈ s.rill.ckpts, c.seq ≤ s.reg Reg.CKPT_SEQ) : s.CleanSealed s.cleanSeal := by
  have before : s.Works r := State.placeWait_works _ placed
  have closes := before.trans r.closeC_works
  have written := State.checkpoint_ckpted true placed
  have idle := before.idle captures
  have number : (r.ckptOf true spans).seq = s.reg Reg.CKPT_SEQ + 1 := congrArg (· + 1) (before.tends.regs _ (by decide))
  have listed : r.ckptOf true spans ∈ (s.checkpoint true).rill.ckpts := by
    refine (written.newest fun d mem => ?_).1
    rw [closes.ckpts] at mem
    rw [number]
    exact Nat.le_succ_of_le (old d mem)
  have manifest : (s.checkpoint true).cleanPtr = s.cleanPtr := by
    unfold State.cleanPtr
    rw [written.regs _ (by decide) (by decide), closes.tends.regs _ (by decide)]
  have goes := closes.tends.nv.trans written.nv
  have epoch : (s.checkpoint true).reg Reg.FORMAT_EPOCH = s.reg Reg.FORMAT_EPOCH :=
    (written.regs _ (by decide) (by decide)).trans (closes.tends.regs _ (by decide))
  have same : s.SameBut (s.checkpoint true) sealParts := (closes.same.trans written.same).widen
  rw [State.cleanSeal_eq]
  generalize s.checkpoint true = t at listed manifest goes epoch same
  refine ⟨same.trans t.sealOff_same, t.sealOff_flush, ⟨_, ?_, rfl, number, idle.large, idle.fine⟩, ?_, t.sealOff_epoch.trans epoch⟩
  · rwa [State.sealOff_ckpts]
  · rw [← manifest]
    exact State.sealOff_holds (goes.state.trans running) (goes.downA.trans up)

end Sys2Proof.Machine
end

section
/-! PROOFS. What follows the clean seal (O21). -/

namespace Sys2Proof.Machine

/-! ### The device state entered (R6, Table 2-8) -/

theorem State.setDev_tends (s : State) (d : Dev) (c : Nat) (other : d ≠ .fault) : s.Tends (s.setDev d c) := by
  unfold State.setDev
  dsimp only
  rw [if_neg other]
  have recorded := s.record_tends .state 0x1FF [s.dev.code + at' d.code 4 + at' c 8]
  have entered (u : State) : u.Tends { u with dev := d } := ⟨fun _ _ => rfl, .refl _⟩
  have shown (u : State) (h : HostPort) : u.Tends (u.setMedia h) := .of_same (u.setMedia_same h)
  exact .ite (.refl s) (((recorded.trans (entered _)).trans (shown _ _)).trans (State.raise_tends _ _ _ _ _ _))

theorem HostPort.media_of_bare {h k : HostPort} (e : k.bare = h.bare) : k.media = h.media ∧ k.memActive = h.memActive :=
  ⟨(congrArg HostPort.media e :), (congrArg HostPort.memActive e :)⟩

/-- In MAINTENANCE the port serves no memory. -/
theorem State.setDev_maintenance {s : State} (elsewhere : s.dev ≠ .maintenance) :
    (s.setDev .maintenance).port.media = .disabled ∧ (s.setDev .maintenance).port.memActive = false := by
  refine HostPort.media_of_bare (h := { s.port with media := .disabled, memActive := false }) ?_
  unfold State.setDev
  rw [if_neg elsewhere]
  dsimp only
  rw [State.raise_bare, if_neg (by decide), State.setMedia_bare]
  have port (l : List Nat) : (s.record .state 0x1FF l).2.port = s.port := s.record_port _ _ _
  dsimp only
  rw [port]
  rfl

/-! ### The end of a flush up to its device state -/

/-- A step that keeps the seal: the pointer records, the checkpoints, the sequencer, memory and the device state. -/
structure State.Winds (s t : State) : Prop where
  tends : s.Tends t
  ckpts : t.rill.ckpts = s.rill.ckpts
  seq : t.seq = s.seq
  mem : t.mem = s.mem
  dev : t.dev = s.dev

theorem State.Winds.refl (s : State) : s.Winds s := ⟨.refl s, rfl, rfl, rfl, rfl⟩

theorem State.Winds.trans {s t u : State} (h : s.Winds t) (k : t.Winds u) : s.Winds u :=
  ⟨h.tends.trans k.tends, k.ckpts.trans h.ckpts, k.seq.trans h.seq, k.mem.trans h.mem, k.dev.trans h.dev⟩

theorem State.Winds.ite {c : Prop} [Decidable c] {s t u : State} (h : s.Winds t) (k : s.Winds u) :
    s.Winds (if c then t else u) := by
  split <;> assumption

theorem State.Winds.foldl {α : Type} (f : State → α → State) (h : ∀ (s : State) (a : α), s.Winds (f s a)) :
    ∀ (as : List α) (s : State), s.Winds (as.foldl f s)
  | [], s => .refl s
  | a :: as, s => (h s a).trans (foldl f h as (f s a))

theorem State.Winds.of_same {s t : State} {l : List Part} (h : s.SameBut t l) (tends : s.Tends t)
    (k : Part.rill ∉ l ∧ Part.seq ∉ l ∧ Part.mem ∉ l ∧ Part.dev ∉ l := by decide) : s.Winds t := by
  obtain ⟨rill, seq, mem, dev⟩ := k
  exact ⟨tends, congrArg Rill.ckpts (h .rill rill), h .seq seq, h .mem mem, h .dev dev⟩

theorem State.Winds.of_erases {s t : State} (h : s.Erases t) : s.Winds t := by
  obtain ⟨same, tends, ⟨runs, rill⟩, -⟩ := h
  exact ⟨tends, by rw [rill], same .seq (by decide), same .mem (by decide), same .dev (by decide)⟩

theorem State.settle_winds (s : State) (o : Owed) (st d : Nat) (l : List Nat) : s.Winds (s.settle o st d l) :=
  .of_same (s.settle_same o st d l) (s.settle_tends o st d l)

theorem State.actEnd_winds (s : State) (n : Nat) : s.Winds (s.actEnd n) := .of_same (s.actEnd_same n) (.of_same (s.actEnd_same n))

theorem State.actFail_winds (s : State) (n st : Nat) (l : List Nat) : s.Winds (s.actFail n st l) := by
  unfold State.actFail
  dsimp only
  split
  · exact (s.actEnd_winds n).trans (.ite (.refl _) (State.settle_winds _ _ _ _ _))
  · exact s.actEnd_winds n

theorem State.cutLearn_winds (s : State) (i : PortId) (r : Nat) : s.Winds (s.cutLearn i r) := by
  have cut (f : CPort → CPort) : s.Winds (s.onCPort i f) := .of_same (s.onCPort_same i f) (.of_same (s.onCPort_same i f))
  have told (u : State) : u.Winds ((u.setReg (Reg.LEARN_RESULT_A + portIx i) r).fault (cistSrc i) .log) :=
    (Winds.of_same (u.setReg_same _ r) (u.setReg_tends r (by cases i <;> decide))).trans
      (.of_same (State.fault_same _ _ _ _ _ _) (State.fault_tends _ _ _ _ _ _))
  have ended (u : State) (f : Cmd → Cmd) : u.Winds ((u.actEnd 1).onCmd f) :=
    (u.actEnd_winds 1).trans (.of_same (State.onCmd_same _ f) (.of_same (State.onCmd_same _ f)))
  exact .ite (.refl s) (((cut _).trans (.ite (.refl _) (told _))).trans (ended _ _))

theorem State.onSpill_winds (s : State) (f : Spillway → Spillway) : s.Winds (s.onSpill f) :=
  .of_same (s.onSpill_same f) (.of_same (s.onSpill_same f))

theorem State.rehearseOut_winds (s : State) : s.Winds s.rehearseOut := by
  unfold State.rehearseOut
  split
  · exact .refl s
  · have taken (f : Wheels → Wheels) : s.Winds (s.onWhl f) := .of_same (s.onWhl_same f) (s.onWhl_tends f)
    exact ((taken _).trans (.of_erases (.foldl _ (fun u b => u.eraseBand_erases b) _ _))).trans (State.onSpill_winds _ _)

/-- The state in which MAINTENANCE is entered, once the activities, the learns and the rehearsal are over. -/
def State.leavesOnline (s : State) : State :=
  ((s.actEndAll.cutLearns 3).rehearseOut.onSpill fun x =>
    { x with state := if x.state = .rehearsing then .armed else x.state }).onSip fun x => { x with state := .idle }

theorem State.leavesOnline_winds (s : State) : s.Winds s.leavesOnline := by
  have ended : s.Winds s.actEndAll := .foldl _ (fun u i => u.actFail_winds (i + 1) _ _) _ s
  have idle (u : State) (f : Siphon → Siphon) : u.Winds (u.onSip f) := .of_same (u.onSip_same f) (.of_same (u.onSip_same f))
  exact ((((ended.trans (State.cutLearn_winds _ _ _)).trans (State.cutLearn_winds _ _ _)).trans (State.rehearseOut_winds _)).trans
    (State.onSpill_winds _ _)).trans (idle _ _)

theorem State.enterMaintenance_eq (s : State) : s.enterMaintenance = s.leavesOnline.setDev .maintenance := rfl

/-- What the entry to MAINTENANCE leaves of a state that was online. -/
structure State.Maintained (s t : State) : Prop where
  tends : s.Tends t
  ckpts : t.rill.ckpts = s.rill.ckpts
  seq : t.seq = s.seq
  mem : t.mem = s.mem
  dev : t.dev = .maintenance
  media : t.port.media = .disabled
  inactive : t.port.memActive = false

theorem State.enterMaintenance_maintained {s : State} (online : s.dev = .online) : s.Maintained s.enterMaintenance := by
  obtain ⟨tends, ckpts, seq, mem, dev⟩ := s.leavesOnline_winds
  have entered := s.enterMaintenance_dev
  rw [State.enterMaintenance_eq] at *
  generalize s.leavesOnline = u at *
  have same := u.setDev_same .maintenance 0
  obtain ⟨media, inactive⟩ := State.setDev_maintenance (s := u) (by rw [dev, online]; decide)
  exact ⟨tends.trans (u.setDev_tends _ _ (by decide)), (congrArg Rill.ckpts (same .rill (by decide))).trans ckpts,
    (same .seq (by decide)).trans seq, (same .mem (by decide)).trans mem, entered, media, inactive⟩

end Sys2Proof.Machine
end

section
/-! PROOFS. POWER_DOWN leaves the seal (O21). -/

namespace Sys2Proof.Machine

/-! ### POWER_DOWN (R346, R387) -/

/-- A step of POWER_DOWN's sequence: the core domain, the Rill and the pointer records stay as they are. -/
structure State.Falls (s t : State) : Prop where
  core : t.seq.coreUp = s.seq.coreUp
  flush : t.seq.flush = s.seq.flush
  rill : t.rill = s.rill
  nv : s.nv.Goes t.nv

theorem State.Falls.refl (s : State) : s.Falls s := ⟨rfl, rfl, rfl, .refl _⟩

theorem State.Falls.trans {s t u : State} (h : s.Falls t) (k : t.Falls u) : s.Falls u :=
  ⟨k.core.trans h.core, k.flush.trans h.flush, k.rill.trans h.rill, h.nv.trans k.nv⟩

theorem State.Falls.ite {c : Prop} [Decidable c] {s t u : State} (h : s.Falls t) (k : s.Falls u) :
    s.Falls (if c then t else u) := by
  split <;> assumption

theorem State.Falls.foldl {α : Type} (f : State → α → State) (h : ∀ (s : State) (a : α), s.Falls (f s a)) :
    ∀ (as : List α) (s : State), s.Falls (as.foldl f s)
  | [], s => .refl s
  | a :: as, s => (h s a).trans (foldl f h as (f s a))

theorem State.onSeq_falls (s : State) {f : Seq → Seq} (core : ∀ x, (f x).coreUp = x.coreUp) (flush : ∀ x, (f x).flush = x.flush) :
    s.Falls (s.onSeq f) :=
  ⟨core s.seq, flush s.seq, rfl, .refl _⟩

theorem State.nvWrite_falls (s : State) (d : NvData) : s.Falls (s.nvWrite d) := by
  have seq : (s.nvWrite d).seq = s.seq := s.nvWrite_same d .seq (by decide)
  have rill : (s.nvWrite d).rill = s.rill := s.nvWrite_same d .rill (by decide)
  exact ⟨by rw [seq], by rw [seq], rill, (s.nvWrite_tends d).nv⟩

theorem State.flushCounters_falls (s : State) : s.Falls s.flushCounters := by
  unfold State.flushCounters
  split
  · exact .refl s
  · refine (Falls.foldl _ (fun u i => ?_) _ s).trans (State.onSeq_falls _ (fun _ => rfl) fun _ => rfl)
    dsimp only
    split
    all_goals exact .ite (.refl u) (u.nvWrite_falls _)

theorem State.setConv_falls (s : State) : s.Falls s.setConv := s.onSeq_falls (fun _ => rfl) fun _ => rfl

theorem State.seqEnd_falls {s : State} (down : s.seq.active = .powerDown) : s.Falls s.seqEnd := by
  unfold State.seqEnd
  rw [down]
  dsimp only
  refine (Falls.trans ?_ (State.flushCounters_falls _)).trans (State.setConv_falls _)
  refine (State.onSeq_falls _ ?_ ?_).trans (State.onSeq_falls _ ?_ ?_)
  all_goals exact fun _ => rfl

/-- Slots dropped leave the sequence under way. -/
theorem State.dropEn_falls (s : State) (l : List Nat) : s.Falls (s.dropEn l) ∧ (s.dropEn l).seq.active = s.seq.active := by
  unfold State.dropEn State.stopSlots
  dsimp only
  split
  all_goals exact ⟨⟨rfl, rfl, rfl, .refl _⟩, rfl⟩

theorem State.nextStep_falls : ∀ (f : Nat) {s : State}, s.seq.active = .powerDown → s.Falls (s.nextStep f)
  | 0, s, _ => .refl s
  | f + 1, s, down => by
    unfold State.nextStep
    split
    · exact State.seqEnd_falls down
    · rename_i slots delay rest _
      dsimp only
      rw [if_neg (by simp [down])]
      have advances : s.Falls (s.onSeq fun x => { x with todo := rest, stepNo := x.stepNo + 1 }) :=
        s.onSeq_falls (fun _ => rfl) fun _ => rfl
      obtain ⟨drops, active⟩ := (s.onSeq fun x => { x with todo := rest, stepNo := x.stepNo + 1 }).dropEn_falls slots
      have dropped := advances.trans drops
      split
      · split
        · exact dropped.trans (nextStep_falls f (active.trans down))
        · exact dropped.trans (State.onSeq_falls _ (fun _ => rfl) fun _ => rfl)
      · exact dropped.trans (State.onSeq_falls _ (fun _ => rfl) fun _ => rfl)

theorem State.startSeq_falls (s : State) (l : List (List Nat × Nat)) : s.Falls (s.startSeq .powerDown l) := by
  unfold State.startSeq
  refine Falls.trans ?_ (State.nextStep_falls 32 (State.onSeq_seq _ _ ▸ rfl))
  exact s.onSeq_falls (fun _ => rfl) fun _ => rfl

/-- What POWER_DOWN leaves of a state that is not in FAULT. -/
structure State.PoweredDown (s t : State) : Prop where
  dev : t.dev = .aonOnly
  core : t.seq.coreUp = false
  flush : t.seq.flush = none
  ckpts : t.rill.ckpts = s.rill.ckpts
  pointers : ∀ p, s.nv.Holds p → t.nv.Holds p

theorem State.powerDown_poweredDown {s : State} (sound : s.dev ≠ .fault) : s.PoweredDown s.powerDown := by
  have dev : s.powerDown.dev = .aonOnly := by rw [State.powerDown_dev, if_neg sound]
  unfold State.powerDown at *
  rw [if_neg sound] at *
  have rill : (s.setDev .aonOnly).rill = s.rill := s.setDev_same _ _ .rill (by decide)
  have nv : (s.setDev .aonOnly).nv = s.nv := s.setDev_same _ _ .nv (by decide)
  generalize s.setDev .aonOnly = u at *
  have falls := (u.flushRecords.coreOff false).startSeq_falls u.downSteps
  exact {
    dev := dev
    core := falls.core
    flush := falls.flush
    ckpts := by rw [falls.rill, ← rill]; rfl
    pointers := fun p held => by
      have kept : (u.flushRecords.coreOff false).nv.Holds p := by
        rw [← nv] at held
        exact held
      exact kept.goes falls.nv }

end Sys2Proof.Machine
end

section
/-! PROOFS. FLUSH_REPORT (O21). -/

namespace Sys2Proof.Machine

/-- Nothing is dirty and every wheel has closed (R160). -/
def State.FlushDone (s : State) : Prop :=
  s.rill.state = .flushing ∧ s.basin.dirtyBytes = 0 ∧ s.rill.captures = [] ∧ s.whl.lost = []
    ∧ [Stream.l, .f, .g, .c].all (fun st => (s.whl.openWheels st).isEmpty)

theorem Wheels.allClosed_iff (x : Wheels) :
    [Stream.l, .f, .g, .c].all (fun st => (x.openWheels st).isEmpty) ↔ ∀ st, st ≠ .v → x.openWheels st = [] := by
  refine ⟨fun closed st other => ?_, fun closed => ?_⟩
  · have listed : st ∈ [Stream.l, .f, .g, .c] := by cases st <;> simp_all
    exact List.isEmpty_iff.mp (List.all_eq_true.mp closed st listed)
  · refine List.all_eq_true.mpr fun st listed => List.isEmpty_iff.mpr (closed st ?_)
    rintro rfl
    simp at listed

/-- The reply owed to the command that asked for the flush. -/
def State.settleOwed (s : State) : Option Owed → State
  | some o => s.settle o St.SUCCESS 0 []
  | none => s

/-- The end of a flush once its seal is made, by what asked for it (R142, R348, R352). -/
def State.flushEnds (s : State) (o : Option Owed) : FlushFor → State
  | .shutdown => (s.settleOwed o).powerDown
  | .reformat => (s.enterMaintenance.setReg Reg.WRITE_SEQ 0).onRill fun x => { x with
      state := .running, reformat := some (((s.enterMaintenance.setReg Reg.WRITE_SEQ 0).reg Reg.FORMAT_EPOCH + 1) % 256)
      reformatCseq := (o.map (·.cseq)).getD 0 }
  | .bist => ((((s.settleOwed o).enterMaintenance.setReg Reg.BIST_STATE 3).onMgmt fun m => { m with bistOff := true }).onBasin fun b =>
      { b with state := .held })

theorem exec_flushReport {s : State} {k : FlushFor} {o : Option Owed} (flush : s.seq.flush = some (k, o)) (done : s.FlushDone) :
    exec .flushReport s = .next (s.begin.cleanSeal.flushEnds o k).fin := by
  refine congrArg after ?_
  rw [show s.begin.seq.flush = some (k, o) from flush]
  refine (if_pos done).trans ?_
  generalize s.begin.cleanSeal = u
  cases k
  all_goals cases o <;> rfl

theorem exec_flushReport_rests {s : State} (undone : ¬s.FlushDone) : exec .flushReport s = .next s.begin.fin := by
  refine congrArg after ?_
  split
  · exact if_neg undone
  · rfl

theorem flushReport_rests {s : State} (h : s.rill.state ≠ .flushing ∨ s.basin.dirtyBytes ≠ 0 ∨ s.rill.captures ≠ []
    ∨ s.whl.lost ≠ [] ∨ (∃ st, st ≠ Stream.v ∧ s.whl.openWheels st ≠ [])) : Answers .flushReport s fun t => s.SameBut t [.out] := by
  refine ⟨s.begin, exec_flushReport_rests fun ⟨flushing, clean, captures, lost, closed⟩ => ?_, s.begin_same⟩
  obtain state | dirty | captured | wheels | ⟨st, other, opened⟩ := h
  · exact state flushing
  · exact dirty clean
  · exact captured captures
  · exact wheels lost
  · exact opened (s.whl.allClosed_iff.mp closed st other)

theorem State.settleOwed_winds (s : State) (o : Option Owed) : s.Winds (s.settleOwed o) := by
  cases o
  · exact .refl s
  · exact s.settle_winds _ _ _ _

/-- The facts that a completed flush leaves, by what asked for it. -/
structure State.Flushed (s t : State) (k : FlushFor) : Prop where
  flush : t.seq.flush = none
  ckpt : ∃ c ∈ t.rill.ckpts, c.full = true ∧ c.seq = s.reg Reg.CKPT_SEQ + 1 ∧ c.large = s.rill.large ∧ c.fine = s.rill.fine
  pointer : t.nv.Holds s.cleanPtr
  shutdown : k = .shutdown → t.dev = .aonOnly ∧ t.seq.coreUp = false
  maintenance : k ≠ .shutdown → t.dev = .maintenance ∧ t.port.memActive = false ∧ t.port.media = .disabled ∧ t.mem = s.mem
  reformat : k = .reformat → t.reg Reg.WRITE_SEQ = 0 ∧ t.rill.state = .running
    ∧ t.rill.reformat = some ((s.reg Reg.FORMAT_EPOCH + 1) % 256)
  bist : k = .bist → t.reg Reg.BIST_STATE = 3 ∧ t.mgmt.bistOff = true ∧ t.basin.state = .held

theorem State.CleanSealed.shutsDown {s u : State} (h : s.CleanSealed u) (online : s.dev = .online) (o : Option Owed) :
    s.Flushed (u.flushEnds o .shutdown) .shutdown := by
  have winds := u.settleOwed_winds o
  have dev : (u.settleOwed o).dev = .online := winds.dev.trans ((h.same .dev (by decide)).trans online)
  obtain ⟨off, core, flush, ckpts, pointers⟩ := State.powerDown_poweredDown (s := u.settleOwed o) (by rw [dev]; decide)
  exact {
    flush := flush
    ckpt := by rw [State.flushEnds, ckpts, winds.ckpts]; exact h.ckpt
    pointer := pointers _ (h.pointer.goes winds.tends.nv)
    shutdown := fun _ => ⟨off, core⟩
    maintenance := fun other => absurd rfl other
    reformat := nofun
    bist := nofun }

theorem State.CleanSealed.reformats {s u : State} (h : s.CleanSealed u) (online : s.dev = .online) (o : Option Owed) :
    s.Flushed (u.flushEnds o .reformat) .reformat := by
  obtain ⟨tends, ckpts, seq, mem, dev, media, inactive⟩ :=
    State.enterMaintenance_maintained (s := u) ((h.same .dev (by decide)).trans online)
  rw [State.flushEnds]
  generalize u.enterMaintenance = v at *
  have epoch : (v.setReg Reg.WRITE_SEQ 0).reg Reg.FORMAT_EPOCH = s.reg Reg.FORMAT_EPOCH :=
    (State.reg_setReg_ne _ _ _ _ (by decide)).trans ((tends.regs _ (by decide)).trans h.epoch)
  exact {
    flush := (congrArg Seq.flush seq).trans h.flush
    ckpt := by rw [State.onRill_rill, State.setReg_rill, ckpts]; exact h.ckpt
    pointer := h.pointer.goes tends.nv
    shutdown := nofun
    maintenance := fun _ => ⟨dev, inactive, media, mem.trans (h.same .mem (by decide))⟩
    reformat := fun _ => ⟨(State.reg_setReg_same _ _ _).trans (Nat.zero_mod _), rfl, by rw [State.onRill_rill, epoch]⟩
    bist := nofun }

theorem State.CleanSealed.heldForTest {s u : State} (h : s.CleanSealed u) (online : s.dev = .online) (o : Option Owed) :
    s.Flushed (u.flushEnds o .bist) .bist := by
  have winds := u.settleOwed_winds o
  obtain ⟨tends, ckpts, seq, mem, dev, media, inactive⟩ :=
    State.enterMaintenance_maintained (s := u.settleOwed o) (winds.dev.trans ((h.same .dev (by decide)).trans online))
  rw [State.flushEnds]
  generalize (u.settleOwed o).enterMaintenance = v at *
  have shown : (v.setReg Reg.BIST_STATE 3).reg Reg.BIST_STATE = 3 := State.reg_setReg _ _ _ (by decide +kernel)
  exact {
    flush := (congrArg Seq.flush (seq.trans winds.seq)).trans h.flush
    ckpt := by rw [State.onBasin_rill, State.onMgmt_rill, State.setReg_rill, ckpts, winds.ckpts]; exact h.ckpt
    pointer := h.pointer.goes (winds.tends.nv.trans tends.nv)
    shutdown := nofun
    maintenance := fun _ => ⟨dev, inactive, media, (mem.trans winds.mem).trans (h.same .mem (by decide))⟩
    reformat := nofun
    bist := fun _ => ⟨shown, rfl, rfl⟩ }

theorem flushReport_flushes {s r : State} {k : FlushFor} {o : Option Owed} {spans : List (Nat × Nat × Nat)}
    (flush : s.seq.flush = some (k, o)) (done : s.FlushDone) (running : s.nv.state = .running) (up : s.nv.downA = false)
    (placed : State.placeWait .c s.ckptUnits s.ckptUnits s.begin [] = some (spans, r))
    (old : ∀ c ∈ s.rill.ckpts, c.seq ≤ s.reg Reg.CKPT_SEQ) (online : s.dev = .online) :
    Answers .flushReport s fun t => s.Flushed t k := by
  refine ⟨_, exec_flushReport flush done, ?_⟩
  obtain ⟨-, -, captures, -⟩ := done
  have sealed_ : s.begin.CleanSealed s.begin.cleanSeal := State.cleanSeal_seals (s := s.begin) captures running up placed old
  have ends : s.begin.Flushed (s.begin.cleanSeal.flushEnds o k) k := by
    cases k
    · exact sealed_.shutsDown online o
    · exact sealed_.reformats online o
    · exact sealed_.heldForTest online o
  exact ⟨ends.flush, ends.ckpt, ends.pointer, ends.shutdown, ends.maintenance, ends.reformat, ends.bist⟩

end Sys2Proof.Machine
end

section
/-! PROOFS. The rewrite of an image and the restart under its epoch (O21). -/

namespace Sys2Proof.Machine

/-! ### The restart of the core domain (R346) -/

theorem State.mergeAon_tends (s : State) : s.Tends s.mergeAon := by
  have shown (u : State) (n v : Nat) : u.Tends (u.fcSet n v) :=
    .of_regs (u.fcSet_same n v) fun id low => u.fcSet_reg_below n v (rillRegs_low id low)
  unfold State.mergeAon
  dsimp only
  exact (State.Tends.of_same (s.onFc_same _)).trans
    (.foldl _ (fun u n => .ite ((shown u _ _).trans (State.raise_tends _ _ _ _ _ _)) (shown u _ _)) _ _)

/-- What a restart of the core domain leaves. -/
structure State.Restarted (s t : State) : Prop where
  dev : t.dev = .bringup
  loading : t.rill.state = .loading
  reformat : t.rill.reformat = none
  epoch : t.reg Reg.FORMAT_EPOCH = s.reg Reg.FORMAT_EPOCH
  pointers : ∀ p, s.nv.Holds p → t.nv.Holds p

theorem State.coreOff_epoch (s : State) (hold : Bool) : (s.coreOff hold).reg Reg.FORMAT_EPOCH = s.reg Reg.FORMAT_EPOCH := by
  refine (mget_filter _ keepReg s.regs Reg.FORMAT_EPOCH).trans (if_pos ?_)
  decide +kernel

/-- The core domain starts in a state `u` with the registers and the records of `s`. -/
theorem State.mergeAon_starts {s u : State} (loading : u.rill.state = .loading) (kept : u.rill.reformat = none) (regs : u.regs = s.regs)
    (records : u.nv.a = s.nv.a) : u.mergeAon.rill.state = .loading ∧ u.mergeAon.rill.reformat = none
      ∧ u.mergeAon.reg Reg.FORMAT_EPOCH = s.reg Reg.FORMAT_EPOCH ∧ ∀ p, s.nv.Holds p → u.mergeAon.nv.Holds p := by
  have rill : u.mergeAon.rill = u.rill := u.mergeAon_noted.same .rill (by decide)
  have tends := u.mergeAon_tends
  rw [rill]
  refine ⟨loading, kept, (tends.regs _ (by decide)).trans (State.reg_of_regs regs _), fun p held => ?_⟩
  exact NvStore.Holds.goes (v := u.nv) (by unfold NvStore.Holds; rwa [records]) tends.nv

theorem State.coreStart_starts (s : State) (kept : s.rill.reformat = none) :
    s.coreStart.rill.state = .loading ∧ s.coreStart.rill.reformat = none
      ∧ s.coreStart.reg Reg.FORMAT_EPOCH = s.reg Reg.FORMAT_EPOCH ∧ ∀ p, s.nv.Holds p → s.coreStart.nv.Holds p := by
  unfold State.coreStart
  dsimp only
  exact State.mergeAon_starts rfl kept rfl rfl

theorem State.coreRestart_restarts (s : State) : s.Restarted s.coreRestart := by
  unfold State.coreRestart
  dsimp only
  have off : (s.flushRecords.coreOff false).rill.reformat = none := rfl
  have epoch : (s.flushRecords.coreOff false).reg Reg.FORMAT_EPOCH = s.reg Reg.FORMAT_EPOCH := State.coreOff_epoch _ _
  have pointers (p : PointerRec) (held : s.nv.Holds p) : (s.flushRecords.coreOff false).nv.Holds p := held
  generalize s.flushRecords.coreOff false = u at off epoch pointers
  have rill : (u.setDev .bringup).rill = u.rill := u.setDev_same _ _ .rill (by decide)
  have entered := u.setDev_tends .bringup 0 (by decide)
  have dev : (u.setDev .bringup).dev = .bringup := u.setDev_enters _ _
  generalize u.setDev .bringup = v at rill entered dev
  obtain ⟨loading, reformat, kept, held⟩ := v.coreStart_starts (by rw [rill, off])
  have stays := v.coreStart_kept.1
  generalize v.coreStart = w at loading reformat kept held stays
  exact ⟨stays.trans dev, loading, reformat, kept.trans ((entered.regs _ (by decide)).trans epoch),
    fun p here => held p ((pointers p here).goes entered.nv)⟩

/-! ### The rewrite of an all-zero image (R142) -/

theorem exec_reformatRewriteComplete_rests {s : State} (h : s.rill.reformat = none ∨ s.dev ≠ .maintenance) :
    exec .reformatRewriteComplete s = .next s.begin.fin := by
  refine congrArg after ?_
  split
  · rfl
  · rename_i e under
    exact if_pos (h.resolve_left (by rw [show s.rill.reformat = some e from under]; nofun))

/-- A segment that reads zero and carries no poison stays unmapped. -/
theorem State.rewriteSeg_zero {s : State} (mem : s.mem = []) (poison : s.port.poison = []) (repair : s.basin.repair = []) (e seg : Nat) :
    s.rewriteSeg e seg = some s := by
  unfold State.rewriteSeg
  exact if_pos (by simp [State.cellsOf, State.poisonIn, mem, poison, repair])

theorem State.rewriteSegs_zero {s : State} (mem : s.mem = []) (poison : s.port.poison = []) (repair : s.basin.repair = []) (e : Nat)
    (segs : List Nat) : segs.foldl (fun o g => o.bind fun s => s.rewriteSeg e g) (some s) = some s := by
  induction segs with
  | nil => rfl
  | cons g segs ih =>
    rw [List.foldl_cons, Option.bind_some, State.rewriteSeg_zero mem poison repair]
    exact ih

/-- The open wheels of stream G filled and closed. -/
def State.closeG (s : State) : State := (s.whl.openWheels .g).foldl (fun s n => (s.fillWheel n).closeWheel n) s

theorem State.closeG_works (s : State) : s.Works s.closeG :=
  .foldl _ (fun u n => (u.onWhl_works _).trans (State.closeWheel_works _ n)) _ s

/-- The records with which the new epoch is in force. -/
def State.epochGroup (s : State) (e : Nat) : List NvData :=
  [.ckptLoc (s.reg Reg.CKPT_SEQ) 0 e, .restore { s.restoreRec with poisonFloor := 0 }, .pointer s.cleanPtr]

/-- The new epoch put in force. -/
def State.switchEpoch (s : State) (e : Nat) : State :=
  (((s.nvGroup (s.epochGroup e)).setReg Reg.FORMAT_EPOCH e).setReg Reg.POISON_FLOOR 0).onRill fun x => { x with reformat := none }

/-- The reply owed to the REFORMAT. -/
def State.payReformat (s : State) : State := s.settleOwed (s.cmd.owed.find? fun o => o.cseq == s.rill.reformatCseq)

theorem exec_reformatRewriteComplete {s : State} {e : Nat} (under : s.rill.reformat = some e) (maintenance : s.dev = .maintenance)
    (mem : s.mem = []) (poison : s.port.poison = []) (repair : s.basin.repair = []) :
    exec .reformatRewriteComplete s = .next ((((s.begin.onRill fun x => { x with large := [], fine := [] }).closeG.checkpoint
      true).switchEpoch e).payReformat.coreRestart).fin := by
  change execReformatRewriteComplete s = _
  unfold execReformatRewriteComplete
  extract_lets s0 first segs start
  rw [show s0.rill.reformat = some e from under]
  dsimp -zeta only
  rw [if_neg (show ¬s0.dev ≠ .maintenance from not_not.mpr maintenance)]
  rw [State.rewriteSegs_zero (s := start) mem poison repair]
  dsimp only
  change after _ = after ((start.closeG.checkpoint true).switchEpoch e).payReformat.coreRestart
  unfold State.closeG
  generalize State.checkpoint _ true = u
  unfold State.payReformat State.switchEpoch State.epochGroup State.cleanPtr
  generalize (State.setReg _ Reg.POISON_FLOOR 0).onRill _ = v
  unfold State.settleOwed
  cases v.cmd.owed.find? fun o => o.cseq == v.rill.reformatCseq
  all_goals rfl

/-- A checkpoint, placed or not, keeps the Rill's other numbers and the pointer records. -/
theorem State.checkpoint_keeps (s : State) (full : Bool) :
    (∀ id ∈ rillRegs, id ≠ Reg.CKPT_SEQ → (s.checkpoint full).reg id = s.reg id) ∧ s.nv.Goes (s.checkpoint full).nv := by
  cases placed : State.placeWait .c s.ckptUnits s.ckptUnits s [] with
  | none =>
    rw [State.checkpoint_none full placed]
    exact ⟨fun _ _ _ => rfl, .refl _⟩
  | some p =>
    obtain ⟨spans, r⟩ := p
    have closes := Works.trans (State.placeWait_works _ placed) r.closeC_works
    have written := State.checkpoint_ckpted full placed
    exact ⟨fun id low other => (written.regs id low other).trans (closes.tends.regs id low), closes.tends.nv.trans written.nv⟩

theorem State.switchEpoch_switches {s : State} {e : Nat} (low : e < 256) (running : s.nv.state = .running) (up : s.nv.downA = false) :
    (s.switchEpoch e).reg Reg.FORMAT_EPOCH = e ∧ (s.switchEpoch e).nv.Holds s.cleanPtr := by
  have held : (s.nvGroup (s.epochGroup e)).nv.Holds s.cleanPtr := State.nvGroup_holds running up (by simp [State.epochGroup])
  unfold State.switchEpoch
  generalize s.nvGroup (s.epochGroup e) = u at held
  have width : e < 2 ^ paramWidth Reg.FORMAT_EPOCH := Nat.lt_of_lt_of_le low (by decide +kernel)
  have epoch : ((u.setReg Reg.FORMAT_EPOCH e).setReg Reg.POISON_FLOOR 0).reg Reg.FORMAT_EPOCH = e :=
    (State.reg_setReg_ne _ _ _ _ (by decide)).trans (u.reg_setReg _ _ width)
  exact ⟨epoch, held⟩

theorem reformatRewriteComplete_switches {s : State} {e : Nat} (under : s.rill.reformat = some e) (low : e < 256)
    (maintenance : s.dev = .maintenance) (mem : s.mem = []) (poison : s.port.poison = []) (repair : s.basin.repair = [])
    (up : s.nv.downA = false) (running : s.nv.state = .running) :
    Answers .reformatRewriteComplete s fun t =>
      t.reg Reg.FORMAT_EPOCH = e ∧ t.dev = .bringup ∧ t.rill.state = .loading ∧ t.rill.reformat = none ∧ t.nv.Holds s.cleanPtr := by
  refine ⟨_, exec_reformatRewriteComplete under maintenance mem poison repair, ?_⟩
  have emptied : s.Tends (s.begin.onRill fun x => { x with large := [], fine := [] }) :=
    .of_same (s.begin_same.widen.next (State.onRill_same _ _) : s.SameBut _ [.out, .rill])
  generalize s.begin.onRill (fun x => { x with large := [], fine := [] }) = u at emptied
  have closed := emptied.trans u.closeG_works.tends
  obtain ⟨regs, goes⟩ := u.closeG.checkpoint_keeps true
  have manifest : (u.closeG.checkpoint true).cleanPtr = s.cleanPtr := by
    unfold State.cleanPtr
    rw [regs _ (by decide) (by decide), closed.regs _ (by decide)]
  have stands := closed.nv.trans goes
  generalize u.closeG.checkpoint true = v at manifest stands
  obtain ⟨epoch, held⟩ := State.switchEpoch_switches low (stands.state.trans running) (stands.downA.trans up)
  rw [manifest] at held
  generalize v.switchEpoch e = w at epoch held
  have paid : w.Winds w.payReformat := w.settleOwed_winds _
  obtain ⟨dev, loading, reformat, kept, pointers⟩ := w.payReformat.coreRestart_restarts
  exact ⟨kept.trans ((paid.tends.regs _ (by decide)).trans epoch), dev, loading, reformat, pointers _ (held.goes paid.tends.nv)⟩

/-! ### The statement -/

/-- Settles O21: the seal of a flush is followed through what its asker does next, a REFORMAT through the packet's acceptance,
and the rewrite through the restart of the core domain, which keeps the epoch and the pointer records. -/
theorem rill_shutdowns : Obligations.Rill_shutdowns := by
  unfold Obligations.Rill_shutdowns
  refine ⟨fun s => flushReport_rests, ?_, fun p s accepted free old running idle => reformat_starts accepted free old running idle,
    fun p s accepted committed => reformat_refused accepted committed,
    fun s h => ⟨s.begin, exec_reformatRewriteComplete_rests h, s.begin_same⟩,
    fun s e under low maintenance mem poison repair up running =>
      reformatRewriteComplete_switches under low maintenance mem poison repair up running,
    fun s up loaded => enduranceDaily_tells up loaded⟩
  intro s k o spans r flush flushing clean captures lost closed running up placed old _ online
  have done : s.FlushDone := ⟨flushing, clean, captures, lost, s.whl.allClosed_iff.mpr closed⟩
  refine (flushReport_flushes flush done running up placed old online).imp fun t flushed => ?_
  exact ⟨flushed.flush, flushed.ckpt, flushed.pointer, flushed.shutdown, flushed.maintenance, flushed.reformat, flushed.bist⟩

end Sys2Proof.Machine
end
